-- ==== Sys2Proof/Word.lean ====
section
/-! DEFINITION. The word types of the Detar 9840 (R8, R10 to R13): bytes, 32-bit words, Etch words. -/

namespace Sys2Proof

/-- R8: a byte is 8 bits. -/
abbrev Byte := BitVec 8

/-- R8, R11: a word without qualifier, and every register, is 32 bits. -/
abbrev Word := BitVec 32

/-- R8: the 64 data bits of an Etch word. -/
abbrev Word64 := BitVec 64

end Sys2Proof
end

