-- ==== Sys2Proof/Syntax.lean ====
section
/-! DEFINITION. The commands of the block: one constructor per row of the opcode table, with what arrives from outside as its
operands. A command of the host carries its own bytes to the Command Window in COMMAND; the row of its opcode is the instant
at which its owner executes it, and has no operands but what the outside decides then. -/

namespace Sys2Proof

/-- The levels that the port samples on CW_IO[3:0] at one rising edge of CW_SCK; bit n is CW_IOn (R201 to R204). -/
abbrev CwClock := BitVec 4

/-- A Plate request's action (R286, R292): a whole-word read, a write of contiguous bytes of one Plate word, or the next
Plate word of the client's own buffer (R389). Among the waiting requests of client 17 also stand the Plate word that the REG_READ or
REG_WRITE in execution asks for next (R278), and the one that the copy of fence `num` asks for next (R470). -/
inductive ReqBody where
  | read (addr : Nat)
  | write (addr : Nat) (data : List Byte)
  | drain
  | window
  | copy (num : Nat)
  deriving DecidableEq, Repr

/-- A pixel's components as they arrive: red, green and blue, or luma and one chroma for YCbCr 4:2:2. -/
structure Pix where
  r : Nat
  g : Nat
  b : Nat
  deriving DecidableEq, Repr

/-- The component widths of a line's pixels (Table 10-2); an LVDS port takes its width from CTRL.BITS. -/
inductive PixFmt where
  | rgb565
  | rgb666
  | rgb888
  | rgb101010
  | ycc422
  deriving DecidableEq, Repr

/-- R425: what one link of an LVDS port carries in a pixel clock with DE asserted: per component six bits on pairs 0 to 2, two on
pair 3 (8 and 10 bits), two on pair 4 (10 bits). -/
structure LvdsClk where
  base : Pix
  p3 : Pix
  p4 : Pix
  deriving DecidableEq, Repr

/-- An active line as it arrives: the pixel packets of a DSI line (R423), or the clocks of an LVDS port's links, with the number of
pixel clocks by which link 1's DE follows link 0's (R426). -/
inductive LineIn where
  | dsi (f : PixFmt) (packets : List (List Pix))
  | lvds (link0 link1 : List LvdsClk) (skew : Int)
  deriving DecidableEq, Repr

/-- What the pins of an input carry at a tick: the D-PHY clock lane is in HS, or the LVDS receiver is locked; the pixel clock of an
LVDS port in kHz (Table 2-4, Table 10-4). -/
structure InSignal where
  on : Bool
  khz : Nat
  deriving DecidableEq, Repr

/-- R421: what the header's ECC said. -/
inductive HdrEcc where
  | clean
  | corrected
  | uncorrectable
  deriving DecidableEq, Repr

/-- What a requester asks of a port of a Tile RAM (R316): byte offsets into the RAM. -/
inductive PortOp where
  | read (off n : Nat)
  | write (off : Nat) (data : List Byte)
  deriving DecidableEq, Repr

/-- What the self-tests and samples of the bring-up find: the Plate test's duration in µs, at most the 14 ms of step 3 of Table 2-1
(R326), PLATE_REPAIR0 to PLATE_REPAIR3, per RAM of TILE_BIST its repair codes (Table 7-8),
and the die temperature in 0.125 °C (R326 to R328, Table 2-1). -/
structure BootFinds where
  duration : Fin 14001
  plateRepair : List Word
  tileRepair : List Word
  temp : Int
  deriving DecidableEq, Repr

inductive Instr where
  /-- R53: Rising edge of PORST_N latches PROF[2:0] and starts Burin's stand-alone bring-up sequence of Table 2-1
  from step 1. -/
  | powerOnReset (prof : Fin 8) (b : BootFinds)
  /-- R55: A PORST_N low level of at least 10 µs resets the device and abandons any sequence in progress; shorter
  pulses are filtered. -/
  | porstNLowPulse (long : Bool) (cut : Option Bool)
  /-- R69: Head A starts its first counted frame once every named chain is UNFURLED or ABSENT and at least one is
  UNFURLED. -/
  | firstCountedFrame (h : Fin 4)
  /-- R858: A falling edge of PWR_FAIL_N longer than 50 ns parks the device: Etch and fuse writes stop after the
  current word or pulse, and no command starts. -/
  | pwrFailNFall
  /-- R861: Once PWR_FAIL_N has stayed high for 10 ms with the rails held, the device leaves parking, Etch writes
  resume and queued commands start. -/
  | unpark
  /-- R927: The 1 kHz system tick advances its count, recomputes the sense averages and steps analogue trims, and
  runs events that are tied to no head while head A produces no frames. -/
  | systemTick (rx : List InSignal)
  /-- R535: The blink clock starts an on-phase or off-phase at tick counts that are multiples of its period, for all
  blinking slots together. -/
  | blinkPhaseChange
  /-- R613: Every 10 ms the level in force of each head moves towards its FIXED or AMBIENT target by at most 16. -/
  | backlightLevelCompute
  /-- R614: Every 1 ms a head with REG set raises or lowers DUTY by 1 according to the measured backlight current. -/
  | blCurrentRegulation
  /-- R796: Every 100 ms the target tap of each trimmed entry is recomputed from the selected source, interpolating
  the stored sets at Td. -/
  | calTargetRecompute
  /-- R149: The debounced SVC_N level changes after 20 consecutive stable 1 ms samples, and SVC_HELD starts or
  returns to 0. -/
  | svcDebounceChange (samples : List Bool)
  /-- R151: When SVC_HELD reaches 2 s, a 60 s P1 window opens, and P2 begins if the seal is OPEN. -/
  | p1WindowOpen
  /-- R151: The P1 window closes 60 s after it opened. -/
  | p1WindowClose
  /-- R157: The AO domain samples SEAL_IN twice per 1 ms SEAL_OUT pulse and judges the pulse good or bad. -/
  | sealPulseSample (first second : Bool)
  /-- R158: After 3 consecutive bad pulses the seal becomes OPEN, or after 64 good pulses CLOSED; this counts
  openings, queues a log event and starts or ends P2. -/
  | sealStateChange
  /-- R365: The Etch owner appends a pending presence event to the service-log ring within 10 ms, unless Etch writes
  are suspended. -/
  | logAppend
  /-- R524: A TT pin's debounced state changes once its sampled level has stood for DEB, which can make a telltale
  change and a wake event. -/
  | ttDebouncedChange (n : Fin 16) (high : Bool) (stood : Nat)
  /-- R905: A sampled rise or fall of a GPIO with its edge enable set sets GPIO_EVENT and raises the GPIO cause. -/
  | gpioEdge (pins : BitVec 8)
  /-- R192: VPP_OK becomes 1 after VPP_FUSE has been in range for 1 ms, and becomes 0 when it leaves the range. -/
  | vppOkChange (ok : Bool)
  /-- R200: Within 1 ms of the lapse of P2 or the rise of DBG_EN_N, the open debug port locks again. -/
  | debugRelock (enRose : Bool)
  /-- R216: A COMMAND transaction is judged at its closing CW_CS_N edge and is queued or discarded with TOO_LONG,
  FRAMING, CMDQ_FULL or CRC. -/
  | command (t : List CwClock)
  /-- R219: A REPLY transaction delivers the oldest reply (NEXT), the last removed one (REPEAT) or the empty marker,
  and removes a fully clocked NEXT reply. -/
  | reply (t : List CwClock)
  /-- R222: A STATUS transaction delivers the snapshot latched at the CW_CS_N fall and CW_IRQ_STATUS, changing
  nothing. -/
  | status (t : List CwClock)
  /-- R224: A PUSH transaction is judged and its data accepted into the push buffer, or it is discarded with
  FRAMING, PUSH_CREDIT, PUSH_REGION or CRC. -/
  | push (t : List CwClock)
  /-- R208: A transaction of exactly 8 clocks with CW_IO0 high sets WIDTH to single and cancels any pending width
  change. -/
  | widthReset (t : List CwClock)
  /-- R213: A transaction whose first byte is not a known kind byte is ignored, and LAST_ERR is set to BAD_KIND. -/
  | badKind (t : List CwClock)
  /-- R214: A transaction that ends before its kind byte, REPLY_CTL or its exact length is complete is discarded as
  FRAMING. -/
  | framing (t : List CwClock)
  /-- R216: A queued CRC-failed entry executes by posting a CRC_ERROR reply with its TAG and no other effect. -/
  | crcError
  /-- R247: A command whose opcode is not in the catalogue replies UNKNOWN_OPCODE. -/
  | unknownOpcode
  /-- R263: NOP replies OK with no payload. -/
  | nop
  /-- R264: GET_INFO replies with CAPS0, CAPS1, DEVICE_ID, versions, the state word and BOOT_STATUS, all latched at
  its start. -/
  | getInfo
  /-- R265: GET_DETAIL replies with identity, power, temperature, uptime, chain or head details according to its
  selector. -/
  | getDetail
  /-- R266: SOFT_RESET returns the device to its commit-instant state, except for what it keeps, and replies within
  5 ms. -/
  | softReset
  /-- R271: REG_READ returns up to 1,024 words from one register window, subject to alignment, window and phase
  rules. -/
  | regRead
  /-- R273: REG_WRITE writes ascending words into a register window whose registers have no row of their own,
  judging LOCK fields word by word. -/
  | regWrite
  /-- R207: A host REG_WRITE of CW_MODE.WIDTH stores a pending width, which takes effect at the end of the REPLY
  that delivers its reply. -/
  | cwModeWrite
  /-- R16: Writing 1 to a W1C field clears that flag unless hardware sets it in the same cycle. -/
  | w1cClear (hw : List Word)
  /-- R16: Writing 1 to PWR_SUPPLY_CLR.MIN_RESET sets MIN_MV to 0xFFFF so that the next conversion sets it. -/
  | minReset
  /-- R434: A write to an input's CTRL register while EN is 1 restarts the input in SEARCH and tears the frame in
  capture. -/
  | inCtrlWrite
  /-- R374: A REG_WRITE into the Etch window waits for any update or append, then writes its Etch words in ascending
  order. -/
  | etchWindowWrite
  /-- R106: LOAD_BEGIN checks the image header, powers the load domains and enters LOADING, or restarts a download. -/
  | loadBegin (repair : List Word)
  /-- R108: LOAD_SEGMENT writes an in-order chunk to its target RAM through the digest engine and advances the
  expected position. -/
  | loadSegment (fetch : Option (Fin 1048576))
  /-- R123: START_EARLY enters EARLY, after which Burin releases Scribe within 20 µs. -/
  | startEarly
  /-- R123: Burin sets SCRIBE_RUN and Scribe fetches its first instruction at ENTRY_POINT, after START_EARLY or at
  PASS. -/
  | scribeRelease
  /-- R119: PRESENT_TAG compares the 32-byte tag with the digest in constant time, giving PASS or FAIL. -/
  | presentTag
  /-- R113: BOOT_STATUS replies with BOOT_STATUS, BOOT_PROGRESS, BOOT_GATE and BOOT_RUNTIME_VERSION. -/
  | bootStatus
  /-- R145: If no PRESENT_TAG arrives within 2 s of the last segment, the download ends in FAIL with TAG_TIMEOUT. -/
  | tagTimeout
  /-- R126: After START_EARLY, 2 s without an accepted chunk before the last segment ends the download in FAIL with
  LOAD_STALLED. -/
  | loadStalled
  /-- R127: A Scribe or Stylus fault before the commit instant ends the download in FAIL with SCRIBE_FAULT. -/
  | scribeFault
  /-- R339: A Scribe instruction fetch from the Etch window halts Scribe and sets FETCH_FAULT. -/
  | etchFetchFault
  /-- R125: Scribe releases Stylus through its private control register, and STYLUS_RUN is set. -/
  | stylusRelease
  /-- R129: Before the commit instant, a Scribe write to a gated group enters the commit queue, or stalls Scribe
  when the queue is full. -/
  | scribeGatedWrite (a : Nat) (w : Word)
  /-- R122: A Scribe DMA or port B write aimed at the Code RAM bank that holds Scribe's fetch address is refused
  with BANK_EXECUTING. `portA`: what the core that owns port A asks of it in the same cycles (R321). -/
  | scribeDmaWrite (target : Fin 8) (off : Nat) (d : List Byte) (fetch : Option (Fin 1048576)) (portA : Option PortOp)
  /-- R140: At head A's first frame boundary after PASS, Burin sets KEYLOCK, the commit queue is applied and the
  Command Window passes to the runtime. -/
  | commitInstant (repair : List Word)
  /-- R353: Within 1 s of the commit instant, the runtime writes the retired marker into the losing slot of every
  DOUBLE record. -/
  | loserRetirement
  /-- R181: ENROL BEGIN checks the header and opens an enrolment session that holds the digest engine. -/
  | enrolBegin
  /-- R183: ENROL DATA hashes an in-order chunk of the image without writing any RAM. -/
  | enrolData
  /-- R184: ENROL END replies with the HMAC device tag of the enrolled image and ends the session. -/
  | enrolEnd
  /-- R185: ENROL ABORT ends the enrolment session and releases the digest engine. -/
  | enrolAbort
  /-- R185: An enrolment session ends after 2 s without an accepted ENROL command. -/
  | enrolSessionTimeout
  /-- R175: PRESENCE_STATUS replies with PRES_STATUS. -/
  | presenceStatus
  /-- R175: SEAL_STATUS replies with SEAL_STATE and FUSE_STATUS. -/
  | sealStatus
  /-- R191: FUSE_PROGRAM burns and verifies the bits of one customer fuse field under P2 and replies with
  FUSE_STATUS. -/
  | fuseProgram (v : List Bool) (vpp pwr : Option Nat)
  /-- R197: DEBUG_UNLOCK sets KEYLOCK and then opens the debug port. -/
  | debugUnlock (enLow : Bool)
  /-- R825: POWER_STATE switches between RUN and IDLE at once, or replies ACCEPTED and starts a SLEEP, DEEP or OFF
  entry. -/
  | powerState
  /-- R830: A SLEEP, DEEP or OFF entry completes its ordered steps, and any latched wake is then replayed. -/
  | powerEntryComplete
  /-- R834: An enabled wake source fires; it starts the exit from SLEEP or DEEP, or is latched for replay during an
  entry. -/
  | wakeEvent (k : Fin 8) (pin : Fin 16)
  /-- R832: The TIMER wake source fires TIMER seconds after entry completed. -/
  | wakeTimerExpiry
  /-- R838: WAKE_N low for 100 µs in OFF generates an internal power-on reset. -/
  | wakeNColdBoot (prof : Fin 8) (b : BootFinds)
  /-- R835: The exit steps end in RUN, WAKE_CAUSE becomes valid, the WAKE cause is raised, and heads restart. -/
  | wakeComplete
  /-- R845: DOMAIN_CTRL switches a host-switchable power domain on or off, or replies DEFERRED or STATE_REFUSED. -/
  | domainCtrl
  /-- R842: A domain completes its regulator, clock, memory and logic wake steps and becomes ON. -/
  | domainPowerUpDone (n : Fin 25) (repair : Word)
  /-- R844: After 100 µs of DRAINING, transfers still running are cut and the domain enters SHUTTING. -/
  | drainTimeout (n : Fin 25) (lost : Nat)
  /-- R843: A shutting domain isolates, retains or loses its memories and switches off. -/
  | domainOff (n : Fin 25)
  /-- R832: WAKE_CONFIG sets the wake enables, TT_MASK and the wake timer for the next entry. -/
  | wakeConfig
  /-- R853: SUPPLY_CONFIG sets the CRANK, LOW, HIGH and DUMP thresholds after checking their ranges and spacing. -/
  | supplyConfig
  /-- R815: The sense ADC converts the next enabled channel, flagging OVR or SETTLING and feeding supply monitoring
  on channel 0. -/
  | adcConversion (code : Fin 4096)
  /-- R854: Crank ride-through ends after 50 ms of conversions at or above CRANK + HYST, restoring the backlight and
  resuming Etch writes. -/
  | crankEnd
  /-- R299: The coarse Plate sensor is sampled every 100 µs; a reading above 80 °C sets REFRESH_HI and can move the
  DEEP band to a faster band. -/
  | plateTsenseSample (t : Int)
  /-- R299: REFRESH_HI returns to 0 after the samples have stayed at or below 75 °C for 1 ms. -/
  | refreshHiRelease
  /-- R300: In DEEP, after 1 ms of samples at least 5 °C below the band's bound, the self-refresh band moves to a
  slower band. -/
  | deepBandSlower
  /-- R300: In DEEP, each burst interval refreshes one row in all 64 banks. -/
  | selfRefreshBurst
  /-- R380: At the first Plate cycle of every 8 µs period, the PBA resets each client's credit and counts delayed
  clients. -/
  | periodStart
  /-- R385: The PBA judges a client's Plate request: it admits it against credit, refuses it (class D) or makes it
  wait (class E). -/
  | plateRequest (c : Fin 20) (r : ReqBody)
  /-- R387: A waiting class E request is admitted when a later period's credit covers it. -/
  | waitingRequestAdmitted (c : Fin 20)
  /-- R290: The crossbar grants an admitted request a slot by fixed priority; the read or write runs with ECC
  correction and may trigger a scrub write. -/
  | plateAccess (word mask : Nat)
  /-- R332: An Etch word write attempt completes its verify, so it is retried, ends in a write failure, or lets the
  next word start. -/
  | etchWordWrite (log ok : Bool)
  /-- R371: An ETCH_WRITE_RECORD staging that receives no part for 2 s is discarded. -/
  | etchStagingTimeout
  /-- R375: ETCH_READ returns raw stored Etch words, counting ECC events. -/
  | etchRead (word mask : Nat)
  /-- R370: ETCH_WRITE_RECORD stages one part of a record and, on the last part, starts the two-slot record update. -/
  | etchWriteRecord
  /-- R377: ETCH_LIST evaluates and returns the slot state of each pair in a region, or the LOG head. -/
  | etchList
  /-- R444: At an input frame start (Vsync Start or VS), capture chooses the oldest unread buffer, or drops the
  frame. -/
  | inputFrameStart (i : Fin 4) (vc1 : Bool)
  /-- R389: An input line enters the elastic buffer, or is discarded whole and tears its frame. -/
  | inputLine (i : Fin 4) (vc1 : Bool) (l : LineIn)
  /-- R445: An input frame ends: an untorn frame makes its buffer eligible and FRONT, and the input may become
  LOCKED or return to SEARCH. -/
  | inputFrameEnd (i : Fin 4) (vc1 : Bool)
  /-- R421: A DSI packet is received and its header ECC and checksum are checked, or it is ignored as unsupported. -/
  | dsiPacket (p : Fin 2) (lanes : List (List Byte)) (hdr : HdrEcc) (crcOk : Bool)
  /-- R455: DCS write_memory_start writes pixels from the window's first pixel. -/
  | writeMemoryStart (p : Fin 2) (px : List Pix)
  /-- R455: DCS write_memory_continue writes pixels from the pixel after the last one written. -/
  | writeMemoryContinue (p : Fin 2) (px : List Pix)
  /-- R454: DCS set_column_address sets the columns of the command-mode write window. -/
  | setColumnAddress (p : Fin 2) (first last : Fin 65536)
  /-- R454: DCS set_page_address sets the rows of the command-mode write window. -/
  | setPageAddress (p : Fin 2) (first last : Fin 65536)
  /-- R458: DCS set_tear_on sets TE_EN. -/
  | setTearOn (p : Fin 2)
  /-- R458: DCS set_tear_off clears TE_EN. -/
  | setTearOff (p : Fin 2)
  /-- R432: DCS enter_sleep_mode clears SLEEP_OUT and puts a command-mode input in SLEEP. -/
  | enterSleepMode (p : Fin 2)
  /-- R432: DCS exit_sleep_mode sets SLEEP_OUT and returns the input to LOCKED. -/
  | exitSleepMode (p : Fin 2)
  /-- R457: DCS get_power_mode returns the power-mode byte after the bus turnaround. -/
  | getPowerMode (p : Fin 2)
  /-- R457: DCS get_pixel_format returns the code of CMD_FMT. -/
  | getPixelFormat (p : Fin 2)
  /-- R457: DCS get_signal_mode returns 0x00. -/
  | getSignalMode (p : Fin 2)
  /-- R422: After a bus turnaround that follows no supported read, the port returns the bus at once without a
  packet. -/
  | busTurnaround (p : Fin 2)
  /-- R432: ULPS entry on a DSI port puts the input in SLEEP and tears the frame in capture. -/
  | ulpsEntry (p : Fin 2)
  /-- R432: ULPS exit returns a sleeping DSI input to SEARCH or LOCKED. -/
  | ulpsExit (p : Fin 2)
  /-- R432: After LOST_MS without the input's signal, the input enters LOST and tears its frame. -/
  | inputLost (i : Fin 4)
  /-- R432: An LVDS receiver regains lock and the input leaves LOST for SEARCH. -/
  | lvdsLock (i : Fin 2) (khz : Nat)
  /-- R452: A DSI VC1 line enters the direct-route line buffer, or is discarded when the buffer is full. -/
  | vc1Line (p : Fin 2) (f : PixFmt) (packets : List (List Pix))
  /-- R462: REGION_OPEN allocates a handle and staging area for a rectangle of a surface, superseding an identical
  region if asked. -/
  | regionOpen
  /-- R465: REGION_CLOSE closes a fully pushed region so that a fence can cover it. -/
  | regionClose
  /-- R474: REGION_CANCEL frees an OPEN or CLOSED region's handle and staging, dropping its data. -/
  | regionCancel
  /-- R467: FENCE takes a number, covers every eligible CLOSED region, and holds the command queue until it signals. -/
  | fence
  /-- R468: After earlier catch-up copies end, a fence copies its covered regions from staging into each surface's
  back buffer. -/
  | fenceCommitCopy
  /-- R469: At the flip instant the fence sets FRONT of every covered surface, signals its reply and frees the
  handles. -/
  | fenceFlip
  /-- R468: Once the reading heads have started a frame after the flip, the fence copies its regions into the new
  back buffer and frees the staging. -/
  | fenceCatchupCopy
  /-- R489: At a head's frame start, composition fields, surfaces, icons, timetable, temperature and refresh mode
  are latched and the frame begins. -/
  | frameStart (h : Fin 4)
  /-- R400: A head begins a line period of kind DISPLAY, TOUCH, BLANK, CAL or idle, sending its line packet and
  control blocks. -/
  | linePeriod (h : Fin 4) (wrong : List Nat) (upsets : List (Fin 32 × Fin 2 × Nat × Word))
  /-- R27: A head's last active line leaves the link packer, and frame-boundary events take effect. -/
  | frameBoundary (h : Fin 4)
  /-- R412: A telltale change or R607 event during idle lines ends them at the next line boundary and starts line 0
  of an urgent frame. -/
  | urgentFrameStart (h : Fin 4)
  /-- R608: In HOLD, HOLD_MAX seconds after the frame start, the hold ends at the next line boundary and the CAL
  line then runs. -/
  | holdMaxExpiry (h : Fin 4)
  /-- R505: A pending LUT or coefficient stage is copied live between its head's frame boundary and next frame
  start. -/
  | stageApply (h : Fin 4)
  /-- R602: The runtime loads a head's Hatch or overdrive set from the TABLES region into Table RAM. -/
  | tableLoad (h : Fin 4) (k : Fin 6)
  /-- R401: HEAD_CONFIG writes a head's control, timetable, history, SELF and backlight words. -/
  | headConfig
  /-- R569: PANEL_PROFILE applies a PROFILES, ROM or inline entry to a head, stopping and restarting it and binding
  its chains. -/
  | panelProfile
  /-- R604: REFRESH_MODE requests NORMAL, LOW_RATE, SELF or HOLD for a head from its next frame start. -/
  | refreshMode
  /-- R489: LAYER_CONFIG writes a layer's configuration words, effective from its head's next frame start. -/
  | layerConfig
  /-- R489: LAYER_ENABLE sets or clears the enable bits of the masked layers. -/
  | layerEnable
  /-- R500: LUT_LOAD writes packed entries of one component into a table's stage. -/
  | lutLoad
  /-- R498: SCALER_COEFF writes scaler coefficient phases into a layer's stage. -/
  | scalerCoeff
  /-- R514: TONEMAP_CONFIG writes a head's composition and tone-map words. -/
  | tonemapConfig
  /-- R516: WRITEBACK enables or disables the write-back engine on a head's output. -/
  | writeback
  /-- R544: TELLTALE_CONFIG writes or disables an icon slot of a head's bunting plane. -/
  | telltaleConfig
  /-- R548: ICON_LOAD writes an icon's other image and, with HOLD 0, checks it and makes it live. -/
  | iconLoad
  /-- R545: TELLTALE_FORCE sets the forced bits of the masked slots. -/
  | telltaleForce
  /-- R690: CHAIN_CONFIG writes a chain's configuration words, effective at its next attempt. -/
  | chainConfig
  /-- R663: CHAIN_TRAIN takes each named chain to DARK and starts training attempt 1 without back-off. -/
  | chainTrain
  /-- R655: STATION_READ sends a REG block to one station and waits for its REG_REPLY. -/
  | stationRead
  /-- R656: STATION_WRITE sends a REG block and its data to one station, one chain or every chain. -/
  | stationWrite
  /-- R655: No REG_REPLY within 2 ms of the REG block ends a unicast station access with TIMEOUT. -/
  | stationTimeout (c : Fin 8) (command : Bool)
  /-- R724: CHAIN_FURL sends FURL blocks to take the named chains to UNFURLED, SLACK or FURLED. -/
  | chainFurl
  /-- R724: A FURL countdown ends and the chain enters SLACK or FURLED. -/
  | furlComplete (c : Fin 8)
  /-- R727: 60 µs after an unfurl starts, the chain counts as UNFURLED. -/
  | unfurlComplete (c : Fin 8) (tReturn : Fin 256)
  /-- R658: 32 consecutive valid return characters move a BEACON chain to LOCK, or start attempt 1 from a beacon
  window. -/
  | returnActivity (c : Fin 8)
  /-- R651: A return training set arrives; its READY from station 0 advances the chain's training state. -/
  | trainingSet (c : Fin 8) (lead s0 s1 : Byte) (allDone : Bool)
  /-- R670: An ENUM_ACK arrives; one with END sets the station count and assigns column spans. -/
  | enumAck (c : Fin 8) (pkt : List Byte) (caps2 : Word) (minDrive : Fin 65536)
  /-- R674: A RATE block's countdown ends and the chain switches rate, precoding and return rate. -/
  | rateSwitch (c : Fin 8)
  /-- R678: An EQ_REQ from position 0 moves one tap of the host transmit equaliser by one step. -/
  | eqReq (c : Fin 8) (pkt : List Byte)
  /-- R659: A state of BEACON to EQ exceeding 10 ms fails the attempt with STATE_TIMEOUT. -/
  | trainingStateTimeout (c : Fin 8)
  /-- R660: An attempt not UNFURLED within 200 ms fails with SEQUENCE_LIMIT. -/
  | sequenceLimit (c : Fin 8)
  /-- R660: 2 ms without a valid return character during training fails the attempt. -/
  | trainingReturnSilent (c : Fin 8)
  /-- R661: A back-off after a failed attempt ends, starting the next attempt or making the chain ABSENT. -/
  | backoffExpiry (c : Fin 8)
  /-- R662: An ABSENT chain opens a 10 ms beacon window once per beacon interval. -/
  | beaconWindowOpen (c : Fin 8)
  /-- R662: A beacon window without return activity ends and the lanes return to electrical idle. -/
  | beaconWindowClose (c : Fin 8)
  /-- R684: 2 ms without a valid return character on a running chain sends it to DARK as a failed attempt. -/
  | returnLost (c : Fin 8)
  /-- R650: A station STATUS packet arrives; its error counts accumulate and a new END marks the chain PARTIAL. -/
  | statusPacket (c : Fin 8) (pkt : List Byte)
  /-- R655: A station's REG_REPLY completes the pending STATION_READ or STATION_WRITE. -/
  | regReply (c : Fin 8) (pkt : List Byte)
  /-- R704: EYE_SCAN START begins a host-side or station-side eye scan run on a chain. -/
  | eyeScanStart
  /-- R706: EYE_SCAN RESULT returns the scan header and records from the diagnostics area. -/
  | eyeScanResult
  /-- R285: EYE_SCAN ABORT ends the chain's diagnostic run as ABORTED. -/
  | eyeScanAbort
  /-- R703: A host eye-scan point completes its dwell and its record is written. -/
  | eyePointDone (c : Fin 8) (errors : Nat)
  /-- R709: A station EYE packet arrives and its records are written to the diagnostics area. -/
  | eyePacket (c : Fin 8) (pkt : List Byte)
  /-- R711: A station-side scan whose EYE packets stop for 2 s ends LOST. -/
  | eyePacketTimeout (c : Fin 8)
  /-- R712: LOOPBACK START begins a near-end or far-end loopback run on a chain. -/
  | loopbackStart
  /-- R720: LOOPBACK RESULT returns the run state, errors, bits checked and sync losses. -/
  | loopbackResult
  /-- R285: LOOPBACK ABORT ends the chain's diagnostic run as ABORTED. -/
  | loopbackAbort
  /-- R719: Each 1 ms interval of a loopback logs its error count when errors occurred. -/
  | loopbackLogInterval (c : Fin 8) (rx : List (BitVec 64)) (err : Word)
  /-- R718: The bit target is sent, the station counts are read back, and the run ends DONE. -/
  | loopbackTargetReached (c : Fin 8) (rx : List (BitVec 64)) (err hi lo sync : Word)
  /-- R399: COUNTERS returns a counter group and optionally subtracts the values read. -/
  | counters
  /-- R392: BUDGET_SET changes a client's allotment under admission control, from the next period. -/
  | budgetSet
  /-- R398: BUDGET_READ returns a client's allotment, counters and flags. -/
  | budgetRead
  /-- R752: TOUCH_CONFIG writes a head's touch configuration and enables or disables its engine. -/
  | touchConfig
  /-- R784: TOUCH_READ returns every running engine's report, frees ended IDs and clears the TOUCH cause. -/
  | touchRead
  /-- R780: TOUCH_REBASE rebaselines a head's engine, or with FACTORY captures and writes the factory baseline. -/
  | touchRebase
  /-- R748: A TAFE SCAN packet arrives and is collected into Stylus RAM toward a scan set. -/
  | scanPacket (c : Fin 8) (pkt : List Byte)
  /-- R758: A scan set not complete 500 µs after TOUCH_CLOSE is discarded and counted. -/
  | scanSetTimeout (h : Fin 4)
  /-- R759: Processing of a complete scan set ends: contacts, baselines and timers update and the report is posted. -/
  | scanSetProcessed (h : Fin 4)
  /-- R802: CAL_RUN starts a measurement run over the scoped trim groups. -/
  | calRun
  /-- R806: A calibration run completes its last part, replaces the run set and raises the CAL cause. -/
  | calRunDone (found : List (Int × Int))
  /-- R811: CAL_READ returns the applied, target, run, default and stored taps of a range of entries. -/
  | calRead
  /-- R809: CAL_STORE writes the full-scope run set as a CAL record under P1. -/
  | calStore
  /-- R808: CAL_SELECT chooses the STORED, RUN, ROM or FROZEN target source. -/
  | calSelect
  /-- R612: A head's BL_PWM output starts a new PWM period at BL_PWM_FREQ, and a newly computed duty takes effect
  from that period. -/
  | pwmPeriodStart (h : Fin 4)
  deriving DecidableEq, Repr

end Sys2Proof
end

