-- ==== Sys2Proof/Config.lean ====
section
/-! DEFINITION. What one device fixes and the manual leaves open: free values without a body.
Nothing in Lean can evaluate them, so no statement can rest on a value of theirs. -/

namespace Sys2Proof

/-- A free value: the manual leaves it open and the machine goes on with one. `n` is the draw count held in
`State.free`, which every draw advances, so each draw is a fresh value (log entry 1). -/
opaque Config.freeValue : Nat → Nat

/-- R19, R264: the 64-bit DEVICE_ID of this die; the manual gives no value (log entry 2). -/
opaque Config.deviceId : BitVec 64

/-- R176: the 256 bits of the device key DK, programmed at test; no path reads them (log entry 2). -/
opaque Config.deviceKey : BitVec 256

/-- R322, R325: the bytes a Tile RAM holds after its domain was switched off and on again: `gen` is the draw count at
the loss, then the byte offset (log entry 7). -/
opaque Config.lostByte : Nat → Nat → Byte

/-- R328: what the failed columns of a Tile RAM bank with a fault beyond repair make of a byte, as a mask: RAM of TILE_BIST, byte
offset, draw count (log entry 105). -/
opaque Config.failedColumn : Nat → Nat → Nat → Byte

/-- R328: the same of a Plate word in a bank with a fault beyond repair, over its 266 stored bits: Plate word, draw count
(log entry 105). -/
opaque Config.failedRow : Nat → Nat → Nat

/-- R501: where this device's PQ decoder lies within the permitted ±1 of the exact value, by code (log entry 19). -/
opaque Config.pqError : Nat → Nat

/-- R512: where this device's tone mapper lies within the permitted ±2, by latched values and pixel (log entry 19). -/
opaque Config.toneError : List Nat → Nat

/-- R578: where this device's Hatch lies within the permitted ±1, by value, column and row (log entry 19). -/
opaque Config.hatchError : Nat → Nat → Nat → Nat

/-- R528: pixel word `i` of ROM icon `k`; the manual shows no image (log entry 21). -/
opaque Config.romIconWord : Nat → Nat → BitVec 32

/-- R551: the CRC-16 of a slot's check pixels: how many, the colour at panel width, the width. The manual does not say how
components become bytes (log entry 22). -/
opaque Config.checkCrc : Nat → Nat → Nat → Nat

/-- Table 17-5: SCALED of an NTC channel whose formula has no value, with B = 0 or R25 = 0 (log entry 23). -/
opaque Config.ntcOpen : Nat → Nat → Nat → Nat

/-- R426: a component of pixel `k` on link 1 when the links' DE lie more than 3 pixel clocks apart, by draw; the manual gives no
result (log entry 96). -/
opaque Config.skewed : Nat → Nat → Nat

/-- R632: how many block pairs the host sends between two sending steps of a chain, by chain and step: the time between them is not shown
(log entry 111). -/
opaque Config.fillPairs : Nat → Nat → Nat

end Sys2Proof
end

