-- ==== Sys2Proof/Machine/State.lean ====
section
/-! DEFINITION. The state of the Detar 9840: every register field, queue, buffer, memory, counter and mode the manual
gives the part, and the queue of waiting commands. Register-visible fields live only in `regs`. -/

namespace Sys2Proof.Machine

/-- A field of a register: address, lowest bit, width (R10, R11). -/
structure Field where
  addr : Nat
  lo : Nat
  width : Nat
  deriving DecidableEq, Repr

/-- Why the machine stops with a fault. No rule of the manual stops the part, and no meaning of this model faults. -/
inductive Fault where
  /-- Raised by nobody: the manual describes no condition that stops the block (safe). -/
  | none
  deriving DecidableEq, Repr

/-- Why a command has no meaning. -/
inductive Refusal where
  /-- Answered only by an arm of `exec` that has no meaning yet (safe). -/
  | notModelled (mnemonic : String)
  deriving DecidableEq, Repr

/-! ### The Command Window (chapter 05) -/

/-- One command-queue entry (R216, R231). -/
structure CmdEntry where
  opcode : Byte
  tag : Byte
  params : List Word
  /-- R216 rule 4: the packet's CRC matched. -/
  crcOk : Bool
  /-- R227: how many pushes had been accepted when the command was queued. -/
  atPush : Nat
  deriving DecidableEq, Repr

/-- One reply-queue entry (Table 5-3). -/
structure Reply where
  tag : Byte
  status : Byte
  payload : List Word
  /-- R207: the width change that takes effect when this reply is first delivered. -/
  width : Option Nat
  deriving DecidableEq, Repr

/-- An accepted push on its way to the Plate (R224). -/
structure PushItem where
  /-- Its number among the accepted pushes (R227). -/
  serial : Nat
  region : Nat
  /-- The Plate offset of its next byte in the region's staging area (R464). -/
  addr : Nat
  data : List Byte
  deriving DecidableEq, Repr

/-- Bytes of one Plate word waiting in a client's buffer. -/
structure BufWord where
  addr : Nat
  data : List Byte
  deriving DecidableEq, Repr

/-- R278, R397: a REG_READ or REG_WRITE of the Plate window in execution: its Plate words still to come (no data for a read), the bytes
read so far, the parameters' offset and words, and how many periods have started since its next word was ready. -/
structure PlateRun where
  write : Bool
  off : Nat
  words : Nat
  todo : List BufWord
  got : List Byte
  age : Nat
  deriving DecidableEq, Repr

/-- R336: a read of the Etch store behind a command: `words` 32-bit words from an Etch address, or the records of a region. -/
inductive EtchQuery where
  | words (a n : Nat)
  | list (region : Nat)
  deriving DecidableEq, Repr

/-- What a command that has left the queue and not yet replied is waiting for (R232, R281). -/
inductive Waiting where
  /-- R281: FENCE until fence `n` signals. -/
  | fence (n : Nat)
  /-- Table 6-6: DOMAIN_CTRL on, until domain `n` is ON. -/
  | domainOn (n : Nat)
  /-- Table 6-6: DOMAIN_CTRL off, until domain `n` is off. -/
  | domainOff (n : Nat)
  /-- R655, R656: a unicast station access on chain `c`, station `k`; `count` words are read, 0 for a write. -/
  | station (c k count : Nat)
  /-- R370, R809: the update of a record type, whose reply carries the sequence number. -/
  | record (type : Nat)
  /-- R374: a REG_WRITE into the Etch window. -/
  | etchWindow
  /-- R731: CHAIN_FURL of the masked chains. -/
  | furl (mask : Nat)
  /-- R278: a REG_READ or REG_WRITE of the Plate window. -/
  | plate (r : PlateRun)
  /-- R336: a read of a bank of the Etch store in which a word is being written. -/
  | etchRead (q : EtchQuery)
  deriving DecidableEq, Repr

structure Running where
  cmd : CmdEntry
  wait : Waiting
  deriving DecidableEq, Repr

structure CwState where
  cmdQ : List CmdEntry
  running : Option Running
  replyQ : List Reply
  lastRemoved : Option Reply
  lastErr : Nat
  seq : Nat
  pushBuf : List PushItem
  /-- Pushes accepted so far (R227). -/
  pushCount : Nat
  /-- R205, Table 5-1: the output phase of the latest transaction: its bytes, its first clock, its clocks, and whether it was in quad
  width. -/
  out : List Byte
  outAt : Nat
  outClocks : Nat
  outQuad : Bool
  deriving DecidableEq, Repr

def CwState.reset : CwState :=
  { cmdQ := [], running := none, replyQ := [], lastRemoved := none, lastErr := 0, seq := 0, pushBuf := [], pushCount := 0, out := [],
    outAt := 0, outClocks := 0, outQuad := false }

/-! ### Download and enrolment (chapters 03 and 04) -/

/-- An enrolment session (R181, R183): header, message so far, next expected position, tick of the last accepted
command. -/
structure Enrol where
  hdr : List Byte
  msg : List Byte
  seg : Nat
  off : Nat
  last : Nat
  deriving DecidableEq, Repr

structure BootState where
  /-- The last accepted header (R106). -/
  hdr : List Byte
  /-- The message the digest engine has hashed (R116, R117). -/
  msg : List Byte
  /-- R129, R130: the commit queue, oldest first. -/
  commitQ : List (Nat × Word)
  /-- R130: the write that found the queue full and stalls Scribe. -/
  stalled : Option (Nat × Word)
  /-- R123: Scribe's release is due. -/
  releaseDue : Bool
  /-- R120, R123: Scribe's fetch address, as an offset in Code RAM. -/
  fetch : Nat
  /-- Tick of START_EARLY or of the last accepted chunk (R126). -/
  lastChunk : Nat
  /-- Tick of the chunk that loaded the last segment (R145). -/
  lastSeg : Nat
  enrol : Option Enrol
  /-- R122: the latest Scribe DMA or port B write was refused with BANK_EXECUTING. -/
  dmaRefused : Bool
  /-- R29, R30: the instants so far at which an event tied to no head takes effect: head A's frame boundaries, counted or not, and
  the system ticks while head A produces no frames. -/
  edges : Nat
  /-- R140: how many of these instants had come at PASS. -/
  passAt : Nat
  /-- R80: the selected input has stopped being active since the last frame start. -/
  saStopped : Bool
  /-- R85: per capture buffer of stand-alone mode the input it was filled from and the widths of red, green and blue. -/
  saBuf : Vector (Nat × Nat × Nat × Nat) 2
  /-- The buffer of surface 63 that head A goes on scanning out from the commit instant, until writes say otherwise (R448). -/
  hold : Option Nat
  /-- R340: Scribe has halted after the commit instant. -/
  halted : Bool
  deriving DecidableEq, Repr

def BootState.reset : BootState :=
  { hdr := [], msg := [], commitQ := [], stalled := none, releaseDue := false, fetch := 0, lastChunk := 0, lastSeg := 0, enrol := none,
    dmaRefused := false, edges := 0, passAt := 0, saStopped := false, saBuf := Vector.replicate 2 (0, 8, 8, 8), hold := none,
    halted := false }

/-! ### Presence, seal, fuses (chapter 04) -/

/-- A pending service-log event (Table 4-1), without the fields the Etch owner adds when it appends. -/
structure PresEvent where
  event : Nat
  p2 : Bool
  session : Nat
  timeMs : Nat
  dieTemp : Nat
  phase : Nat
  detail : Nat
  deriving DecidableEq, Repr

structure PresState where
  /-- R150: SVC_HELD in ms. -/
  heldMs : Nat
  /-- R151: the window for this hold has opened. -/
  reached : Bool
  /-- R151: ms left in the P1 window. -/
  p1Ms : Nat
  /-- R158: consecutive bad and good pulses. -/
  bad : Nat
  good : Nat
  /-- R165: events awaiting their log entries, oldest first, at most 15. -/
  events : List PresEvent
  /-- R200: the debug port must lock again. -/
  relockDue : Bool
  deriving DecidableEq, Repr

def PresState.reset : PresState := ⟨0, false, 0, 0, 0, [], false⟩

/-- The fuse array (R176 to R178): customer fields and whether DK is programmed. Not volatile. -/
structure Fuses where
  enrolLock : Bool
  rollback : Nat
  debugLock : Bool
  dkPresent : Bool
  deriving DecidableEq, Repr

def Fuses.blank : Fuses := ⟨false, 0, false, true⟩

/-! ### Regions (chapter 10) -/

/-- A region handle (R460 to R474): state of Table 10-7, surface, rectangle, staging address, data length, next
expected offset, open order and the fence that covers it. -/
structure Region where
  st : Nat
  surf : Nat
  x : Nat
  y : Nat
  w : Nat
  h : Nat
  addr : Nat
  len : Nat
  next : Nat
  order : Nat
  fence : Nat
  deriving DecidableEq, Repr

def Region.free : Region := ⟨0, 0, 0, 0, 0, 0, 0, 0, 0, 0, 0⟩

/-! ### The Plate, the PBA and the Tile RAMs (chapters 07 and 09) -/

structure PlateState where
  /-- The 32 MiB of R286, by Plate offset. -/
  mem : List Host.Cell
  /-- R304, R305: stored bits that differ from the bits written, as a mask per Plate word: 256 data bits, then the 10 check bits. -/
  flips : List (Nat × Nat)
  /-- R315: the Plate words that hold nothing defined since a DEEP, each with the draw count then (log entry 70). -/
  gone : List (Nat × Nat)
  /-- R298: the next row slot of the sweep, 0 to 16,383. -/
  refreshPtr : Nat
  /-- R298: the row slots that refresh still has to use in the present period. -/
  refreshLeft : Nat
  /-- R298, R300, R301: rows of powered banks refreshed so far. -/
  refreshed : Nat
  /-- R300: the next row of the self-refresh, 0 to 255. -/
  burstRow : Nat
  /-- R299, R300: the coarse sensor samples of the last 1 ms, newest first, at most 10. -/
  samples : List Int
  /-- The reads that the latest Plate cycle delivered: client, offset, data (R288, R305). -/
  delivered : List (Nat × Nat × List Byte)
  deriving DecidableEq, Repr

def PlateState.reset : PlateState := ⟨[], [], [], 0, 0, 0, 0, [], []⟩

/-- R292: a partial write between its two slots: its client, its Plate word, and the merged word that its second slot writes. -/
structure Merge where
  client : Nat
  addr : Nat
  data : List Byte
  deriving DecidableEq, Repr

structure PbaState where
  /-- R380: credit left in the period, by client code. -/
  credit : Vector Nat 21
  /-- R387: waiting class E requests, oldest first. -/
  waiting : Vector (List ReqBody) 21
  /-- R385: admitted requests presented to the crossbar, oldest first. -/
  presented : Vector (List ReqBody) 21
  /-- R388: refused Plate words not yet consumed by their client (client, Plate offset of the word). -/
  refused : List (Nat × Nat)
  /-- Plate words delivered to a scan-out, history or layer client (2 to 14) and not yet used by it (client, Plate offset). -/
  fetched : List (Nat × Nat)
  /-- R292: partial writes between their slots. -/
  merging : List Merge
  deriving DecidableEq, Repr

def PbaState.reset : PbaState :=
  ⟨Vector.replicate 21 0, Vector.replicate 21 [], Vector.replicate 21 [], [], [], []⟩

/-- R316: the contents of the Tile RAMs, by byte offset. -/
structure TileState where
  code : List Host.Cell
  data : List Host.Cell
  stylus : List Host.Cell
  lut : List Host.Cell
  coeff : List Host.Cell
  table : List Host.Cell
  /-- Which loss of contents an unlisted Coefficient RAM byte reads from; 0: none since the self-test (R322, R325). -/
  coeffGen : Nat
  /-- The same for Table RAM banks 2 and 3. -/
  tableGen : Nat
  /-- R327: the domains whose Tile RAM self-test has run since power-on reset. -/
  tested : List Nat
  deriving DecidableEq, Repr

def TileState.reset : TileState := ⟨[], [], [], [], [], [], 0, 0, []⟩

/-! ### The Etch store (chapter 08) -/

/-- What a sequence of Etch word writes is for. -/
inductive JobKind where
  /-- R354: a record update; the record type, the new SEQUENCE and the slot it goes to. -/
  | record (type seq slot : Nat)
  /-- R374: the words of a REG_WRITE into the Etch window. -/
  | window
  /-- R365: an append into log cell `cell`, which was valid before or not. -/
  | log (cell : Nat) (wasValid : Bool)
  /-- R353: the retired marker of the losing slot of a record found DOUBLE. -/
  | retire (type : Nat)
  deriving DecidableEq, Repr

/-- A word still to be written: Etch address, value, step of R354 (0 outside record updates). -/
structure EtchWrite where
  addr : Nat
  val : Nat
  step : Nat
  deriving DecidableEq, Repr

/-- A job of the write engine. A record update that has not begun holds its payload: its slot and SEQUENCE are chosen
when it begins (R356). -/
structure EtchJob where
  kind : JobKind
  words : List EtchWrite
  /-- Type, FLAGS and payload of an update that has not begun. -/
  todo : Option (Nat × Nat × List Byte)
  deriving DecidableEq, Repr

/-- R368 to R371: the open staging of ETCH_WRITE_RECORD. -/
structure Staging where
  type : Nat
  flags : Nat
  total : Nat
  data : List Byte
  last : Nat
  deriving DecidableEq, Repr

/-- R332, R333: the one word write in progress whose latest attempt failed its verify: whether it is the log append's, its address, and
its failed attempts. -/
structure WordTry where
  log : Bool
  addr : Nat
  failed : Nat
  deriving DecidableEq, Repr

structure EtchState where
  /-- The 4 MiB of R329, by Etch address. Not volatile. -/
  mem : List Host.Cell
  /-- R330, R334: stored bits that differ from the bits written, as a mask per Etch word: 64 data bits, then 8 check bits. -/
  flips : List (Nat × Nat)
  /-- R356: updates, window writes and retirements, oldest first. -/
  jobs : List EtchJob
  /-- R365: the log append in progress. -/
  log : Option EtchJob
  /-- R332: the word write between two of its attempts. -/
  attempt : Option WordTry
  staging : Option Staging
  /-- R352: the runtime's choices: record type and winning slot (2 for none). -/
  chosen : List (Nat × Nat)
  /-- R351: the record types whose ETCH_MISSING bit is owed. -/
  missing : List Nat
  /-- R353: retirement of the losers is due. -/
  retireDue : Bool
  deriving DecidableEq, Repr

def EtchState.reset : EtchState :=
  { mem := [], flips := [], jobs := [], log := none, attempt := none, staging := none, chosen := [], missing := [], retireDue := false }

/-! ### Byte buffers on their way to the Plate (R389) -/

/-- R443: rows below a short frame that are still to be written black: their surface and buffer, the Plate offset of the first, the
pitch, how many, and the bytes of one, padded to whole Plate words (R933). -/
structure BlackRows where
  surf : Nat
  buf : Nat
  addr : Nat
  pitch : Nat
  rows : Nat
  row : List Byte
  deriving DecidableEq, Repr

/-! ### Inputs, surfaces and fences (chapter 10) -/

/-- A video stream of an input (VC0, LVDS, or VC1 in capture mode): the frame in progress. -/
structure VidIn where
  inFrame : Bool
  /-- Lines so far and the pixel count of the first. -/
  lines : Nat
  width : Nat
  /-- R446: a line was discarded or differed. -/
  torn : Bool
  /-- R421: the line in progress lost a packet. -/
  broken : Bool
  /-- R430: a line's pixel count differed from the first line's. -/
  odd : Bool
  /-- R444: surface and buffer being captured into. -/
  cap : Option (Nat × Nat)
  /-- R429: geometry of the last complete frame. -/
  prev : Option (Nat × Nat)
  /-- R423: the pixel packets of the line in progress, and their format. -/
  packets : List (List Pix)
  fmt : PixFmt
  deriving DecidableEq, Repr

def VidIn.idle : VidIn :=
  { inFrame := false, lines := 0, width := 0, torn := false, broken := false, odd := false, cap := none, prev := none, packets := [],
    fmt := .rgb888 }

structure InputState where
  vc0 : VidIn
  vc1 : VidIn
  /-- R454: the DCS write window, none for the whole surface: first column, last column, first row, last row. -/
  cols : Option (Nat × Nat)
  rows : Option (Nat × Nat)
  /-- R455: index of the next pixel within the window. -/
  pos : Nat
  /-- R450, R451: lines of the direct route: the number of their VC1 frame, their line number, their pixels. -/
  direct : List (Nat × Nat × List Pix)
  /-- R451: VC1 frames started so far and the next line of the one in progress; one has started since the layer's head last started a
  frame; the VC1 frame that feeds the head's present frame. -/
  directCount : Nat
  directNext : Nat
  directNew : Bool
  directOn : Option Nat
  /-- Table 2-4: the latest line came as YCbCr. -/
  ycc : Bool
  /-- R442, R454: the surfaces whose USE this input holds. -/
  targets : List Nat
  /-- R422, R457: what the port sent after the latest bus turnaround. -/
  out : List Byte
  /-- Table 2-4, Table 10-4: the port has its signal (DSI: the clock lane is in HS; LVDS: the receiver is locked), the pixel clock
  of an LVDS port in kHz, and for how many ticks the signal has been gone. -/
  signal : Bool
  khz : Nat
  gone : Nat
  /-- Table 10-4: ticks since the last Vsync Start of virtual channel 0. -/
  quiet : Nat
  deriving DecidableEq, Repr

def InputState.idle : InputState :=
  { vc0 := VidIn.idle, vc1 := VidIn.idle, cols := none, rows := none, pos := 0, direct := [], directCount := 0, directNext := 0,
    directNew := false, directOn := none, ycc := false, targets := [], out := [], signal := false, khz := 0, gone := 0, quiet := 0 }

/-- The input starts afresh; what its pins carry stays. -/
def InputState.fresh (x : InputState) : InputState := { InputState.idle with signal := x.signal, khz := x.khz }

/-- R444, R445, R875: per buffer of a surface: completion stamp (0 never), eligibility, stamp of its frame's start. -/
structure SurfBufs where
  stamp : Vector Nat 3
  elig : Vector Bool 3
  began : Vector Nat 3
  deriving DecidableEq, Repr

def SurfBufs.reset : SurfBufs := ⟨Vector.replicate 3 0, Vector.replicate 3 false, Vector.replicate 3 0⟩

/-- R463, R468: one Plate request of a region copy: a staging word read, the first of its row or a later one; or `n` bytes written, from
byte `skip` of the row's staging words. -/
inductive CopyOp where
  | read (a : Nat) (first : Bool)
  | write (a skip n : Nat)
  deriving DecidableEq, Repr

/-- R467, R468: a fence that has started: its number, its covered regions in open order, its step (0 before the commit
copy, 1 before the flip, 2 before the catch-up copy), its reply's CANCELLED. `heads` holds heads with their frame counts: before
the flip those whose present boundary came before step 2 ended, after it those that must still start a frame. -/
structure FenceRun where
  num : Nat
  regs : List Region
  step : Nat
  heads : List (Nat × Nat)
  cancelled : Bool
  /-- R29, R30: `BootState.edges` when step 2 ended. -/
  edge : Nat
  /-- R470: the requests that the copy in progress has still to make, and the staging bytes of its row read so far; none where no copy
  has begun. -/
  copy : Option (List CopyOp)
  line : List Byte
  deriving DecidableEq, Repr

/-! ### Heads (chapters 11 to 13) -/

/-- R437: a surface: buffer bases, width, height, format code, buffer count, pitch in bytes. -/
structure SurfDesc where
  bases : List Nat
  width : Nat
  height : Nat
  fmt : Nat
  nbuf : Nat
  pitch : Nat
  deriving DecidableEq, Repr

def SurfDesc.none : SurfDesc := ⟨[], 0, 0, 0, 0, 0⟩

/-- R489: a layer as latched at its head's frame start: its number, its 8 words, its surface, its buffer, whether it is
shown, and the DSI port that feeds it directly (R488). -/
structure LatchedLayer where
  layer : Nat
  words : List Word
  surf : SurfDesc
  buf : Nat
  shown : Bool
  direct : Option Nat
  deriving DecidableEq, Repr

/-- R489, R511: a head's composition fields as latched at its frame start. -/
structure CompLatch where
  postEn : Bool
  bg : Nat
  tmEn : Bool
  maxIn : Nat
  /-- P in cd/m² and kf in 1/256. -/
  peak : Nat
  knee : Nat
  deriving DecidableEq, Repr

def CompLatch.reset : CompLatch := ⟨false, 0, false, 1, 1, 0⟩

/-- R504: a stage: coefficients of a scaler or entries of a look-up table, its bank, its bytes, pending or not. -/
structure Stage where
  coeff : Bool
  bank : Nat
  data : List Byte
  pending : Bool
  deriving DecidableEq, Repr

/-- R516, R519: the frame that the write-back engine writes: its head, its surface and buffer, the descriptor and SINGLE as its frame
start found them. -/
structure WbFrame where
  head : Nat
  surf : Nat
  buf : Nat
  desc : SurfDesc
  single : Bool
  deriving DecidableEq, Repr

/-- R515 to R520: the write-back engine beyond its registers: the frame being written, its INCOMPLETE mark; a start or stop that waits
for its frame edge. -/
structure WriteBack where
  frame : Option WbFrame
  incomplete : Bool
  /-- R516: the engine stops at this head's frame boundary. -/
  stopping : Option Nat
  /-- R516: the enable that waits for the stop: head, surface, SINGLE. -/
  deferred : Option (Nat × Nat × Bool)
  /-- R515: the last surface and SINGLE set. -/
  last : Nat × Bool
  deriving DecidableEq, Repr

def WriteBack.reset : WriteBack := ⟨none, false, none, none, (0, false)⟩

/-- R536: an icon slot as latched at its head's frame start, and what the present frame made of it. -/
structure LatchedSlot where
  slot : Nat
  icon : Nat
  /-- Which of the icon's two images is latched; none for a ROM icon. -/
  buf : Option Nat
  image : List Word
  x : Nat
  y : Nat
  colour : Nat
  /-- R536: the shown state, once sampled. -/
  shown : Option Bool
  /-- R550: fault kinds found so far. -/
  kinds : List Nat
  /-- R551: check pixels so far. -/
  count : Nat
  deriving DecidableEq, Repr

/-- R529, R530: an icon of the icon store: two images, which one is live, whether the other has been copied since the last
apply, and the runtime's copy in Data RAM. An image that is empty holds no words. -/
structure Icon where
  imgs : Vector (List Word) 2
  live : Nat
  copied : Bool
  kept : List Word
  deriving DecidableEq, Repr

def Icon.empty : Icon := ⟨Vector.replicate 2 [], 0, false, []⟩

/-- R400 to R412, R575, R597, R603 to R610: the frame of a head. -/
structure FrameState where
  /-- From a frame start to the end of the frame's CAL line. -/
  on : Bool
  /-- A frame has been sent since power-on reset (R573, R597). -/
  sent : Bool
  /-- The next line period's index; DISPLAY lines begun. -/
  next : Nat
  shown : Nat
  /-- R400, R403: groups and slot length in force; the register's groups and slot length at the last frame boundary. -/
  tt : Nat × Nat
  ttSeen : Nat × Nat
  /-- R606, R608: idle lines planned, none for a hold; begun. -/
  planned : Option Nat
  idle : Nat
  /-- R608: HOLD_MAX has ended the hold. -/
  holdOver : Bool
  /-- R409: where the previous TOUCH slot began; lines left in the present slot; its index. -/
  slotAt : Nat
  slotLeft : Nat
  slotIndex : Nat
  /-- The tick of the frame start. -/
  at_ : Nat
  /-- R935: FRAME_START goes into line 0. -/
  early : Bool
  /-- Table 14-3: frame count. The line periods of the latest complete frame. -/
  count : Nat
  last : Nat
  /-- R575: line periods held with parity 0 and with parity 1. -/
  ledger : Nat × Nat
  /-- R604, R605: a REFRESH_MODE has been recorded; LR_RATE in force. -/
  modeNew : Bool
  rate : Nat
  /-- R609: SELF has taken effect. -/
  selfOn : Bool
  /-- R28: HEAD_x_CTRL and HEAD_x_HIST0 and HIST1.BASE as latched. -/
  ctrl : Word
  hist : Nat × Nat
  deriving DecidableEq, Repr

def FrameState.reset : FrameState :=
  { on := false, sent := false, next := 0, shown := 0, tt := (0, 1), ttSeen := (0, 1), planned := some 0, idle := 0, holdOver := false,
    slotAt := 0, slotLeft := 0, slotIndex := 0, at_ := 0, early := false, count := 0, last := 0, ledger := (0, 0), modeNew := false,
    rate := 0, selfOn := false, ctrl := 0, hist := (0, 0) }

/-- R581 to R603: overdrive and the loaded tables of a head. -/
structure OdState where
  /-- R583: the plane holds history; an event since the last judgement; its base at the last judgement. -/
  valid : Vector Bool 2
  lost : Vector Bool 2
  base : Vector Nat 2
  /-- R590 to R592: the single plane, or the plane written last; frames in cold mode. -/
  plane : Nat
  cold : Nat
  /-- OD_EN as last judged. -/
  was : Bool
  /-- R594, R595: Plate words whose history writes were refused, in the present frame and the two before; a 65th refusal. -/
  words : Vector (List Nat) 3
  skip : Vector Bool 3
  /-- R601: the set in each overdrive buffer; the Hatch table is loaded; loads that are due (set number, 5 for Hatch). -/
  bufs : Vector (Option Nat) 3
  hatch : Bool
  due : List Nat
  /-- R587, R603: the sets in force and w. -/
  sets : Option (Nat × Nat)
  w : Nat
  deriving DecidableEq, Repr

def OdState.reset : OdState :=
  { valid := Vector.replicate 2 false, lost := Vector.replicate 2 false, base := Vector.replicate 2 0, plane := 0, cold := 0,
    was := false, words := Vector.replicate 3 [], skip := Vector.replicate 3 false, bufs := Vector.replicate 3 none,
    hatch := false, due := [], sets := none, w := 0 }

structure HeadState where
  layers : List LatchedLayer
  comp : CompLatch
  slots : List LatchedSlot
  /-- R554: slots that failed their check and the checks passed since. -/
  failing : List (Nat × Nat)
  /-- R35: surface and buffer that the present frame scans out, and the surface's descriptor as latched (R28). -/
  scan : Option (Nat × Nat)
  scanDesc : SurfDesc
  /-- From the head's frame boundary to its next frame start (R27, R458). -/
  blank : Bool
  /-- R412, R607, R936: a request to end idle lines, or to have none in this frame. -/
  event : Bool
  /-- R875: the stamp of the event since which a head in SELF composes. -/
  selfEvent : Option Nat
  fr : FrameState
  od : OdState
  /-- R569: the entry to be applied once the head is stopped. -/
  entry : Option (List Word)
  /-- R613: the head's own level, before the limit of R856. -/
  level : Nat
  /-- R612: the level last written to the BL station; the duty of the present PWM period. -/
  blSent : Option Nat
  pwm : Nat
  deriving DecidableEq, Repr

def HeadState.idle : HeadState :=
  { layers := [], comp := CompLatch.reset, slots := [], failing := [], scan := none, scanDesc := SurfDesc.none, blank := false, event := false,
    selfEvent := none, fr := FrameState.reset, od := OdState.reset, entry := none, level := 0,
    blSent := none, pwm := 0 }

/-! ### Touch (chapter 16) -/

/-- R761 to R778: a node of a head's grid: baseline, last clean delta, last raw value, PROVISIONAL with the raw value at the
end of STARTING, complete sets still to come before R774 takes the raw value (0: none), the engine time since which its
delta has been at or below −THR, absorbed and not yet released. -/
structure TouchNode where
  base : Int
  last : Int
  raw : Int
  prov : Bool
  start : Int
  up : Nat
  neg : Option Nat
  held : Bool
  deriving DecidableEq, Repr

/-- R778: an instant of a contact: position, STRENGTH, engine time. -/
structure Anchor where
  x : Nat
  y : Nat
  strength : Nat
  at_ : Nat
  deriving DecidableEq, Repr

/-- A contact of the report, present or ended (R764 to R768, R785). Positions in 1/16 pixel; `born` is the tick of its
beginning, `dur` its DURATION in ms. -/
structure Contact where
  id : Nat
  x : Nat
  y : Nat
  strength : Nat
  area : Nat
  born : Nat
  dur : Nat
  down : Bool
  glove : Bool
  covered : Bool
  prov : Bool
  absorbed : Bool
  /-- R766: complete sets without its candidate. -/
  missed : Nat
  blob : List Nat
  anchors : List Anchor
  deriving DecidableEq, Repr

/-- A scan set: the slot it belongs to (frame count, index), the configuration words in force, the TAFEs that have sent LAST,
and the values of nodes: node, value, clean. -/
structure ScanSet where
  frame : Nat
  slot : Nat
  cfg : List Word
  done : List Nat
  vals : List (Nat × Int × Bool)
  deriving DecidableEq, Repr

/-- Table 16-5: the sticky flags. -/
structure TouchFlags where
  overflow : Bool
  lost : Bool
  rebased : Bool
  factDone : Bool
  factFail : Bool
  cut : Bool
  deriving DecidableEq, Repr

def TouchFlags.none : TouchFlags := ⟨false, false, false, false, false, false⟩

structure TouchState where
  nodes : List TouchNode
  /-- R758: the set being collected; the complete sets to be processed. -/
  set : Option ScanSet
  ready : List ScanSet
  /-- Sums of raw values, and the sets in them: STARTING, a host rebase or a factory capture. -/
  sums : List Int
  count : Nat
  /-- R780, R781: 0 none, 2 a host rebase, 16 a factory capture. -/
  rebase : Nat
  /-- R781: the record's update is queued behind this many earlier updates of its type. -/
  writing : Option Nat
  /-- R781: how a factory capture ended, for the first report after. -/
  news : Option Bool
  /-- R777: the rebaseline takes place with the next complete set. -/
  due : Bool
  /-- R775: engine time since which the PROVISIONAL nodes have stayed near their start values. -/
  still : Nat
  contacts : List Contact
  ended : List Contact
  /-- R765: unmatched candidates of the set before, in glove mode. -/
  cands : List (Nat × Nat)
  flags : TouchFlags
  /-- R750: the drive time that the TAFEs hold, in 10 ns. -/
  drive : Nat
  /-- R778, R784: the tick of the latest report. -/
  at_ : Nat
  /-- Table 16-5: sequence, STALE, COVERED_AT_START, WATER, WATER_NODES, OVR_NODES, T as of the latest report. -/
  seq : Nat
  stale : Bool
  covered : Bool
  water : Bool
  waterNodes : Nat
  ovrNodes : Nat
  temp : Int
  deriving DecidableEq, Repr

def TouchState.reset : TouchState :=
  { nodes := [], set := none, ready := [], sums := [], count := 0, rebase := 0, writing := none, news := none, due := false, still := 0,
    contacts := [], ended := [], cands := [], flags := TouchFlags.none, drive := 0, at_ := 0, seq := 0, stale := false, covered := false,
    water := false, waterNodes := 0, ovrNodes := 0, temp := 0 }

/-! ### Calibration and sensing (chapter 17) -/

/-- Table 17-1: a trim group: first entry, entries, lowest tap, highest tap, ROM default. -/
structure TrimGroup where
  base : Nat
  count : Nat
  lo : Int
  hi : Int
  rom : Int
  deriving DecidableEq, Repr

def trimGroups : List TrimGroup := [
  ⟨0, 16, 0, 63, 39⟩, ⟨16, 16, 0, 31, 16⟩, ⟨32, 16, 0, 63, 32⟩, ⟨48, 8, 0, 31, 16⟩, ⟨56, 8, -32, 31, 0⟩,
  ⟨64, 8, 0, 15, 6⟩, ⟨72, 8, -32, 31, 0⟩, ⟨80, 10, 0, 31, 16⟩, ⟨90, 10, -32, 31, 0⟩, ⟨100, 24, 0, 31, 16⟩,
  ⟨124, 24, -32, 31, 0⟩, ⟨148, 16, -32, 31, 0⟩, ⟨164, 1, 0, 63, 32⟩]

/-- The group number of entry `e`, and the group. -/
def trimGroup (e : Nat) : Nat × TrimGroup :=
  (trimGroups.mapIdx (fun i g => (i, g))).foldl (fun best g => if g.2.base ≤ e then g else best) (0, ⟨0, 16, 0, 63, 39⟩)

def romTap (e : Nat) : Int := (trimGroup e).2.rom

/-- R806: a run set: its scope, temperature, and per entry tap, measured value, CLAMPED. -/
structure CalRun where
  scope : Nat
  temp : Int
  taps : List Int
  vals : List Int
  clamped : List Bool
  deriving DecidableEq, Repr

structure CalState where
  applied : Vector Int 165
  target : Vector Int 165
  run : Option CalRun
  /-- R804: the scope being measured. -/
  measuring : Option Nat
  /-- R808: the source whose targets are in force. -/
  source : Nat
  /-- R782: ticks during which a run measured. -/
  busyMs : Nat
  deriving DecidableEq, Repr

def CalState.reset : CalState :=
  ⟨Vector.ofFn (fun e => romTap e.val), Vector.ofFn (fun e => romTap e.val), none, none, 0, 0⟩

/-- R814 to R817: the next channel, SETTLING conversions to come, and per channel the sum and count of clean conversions:
since the last tick, and for each of the last 1,000 ms, newest first. -/
structure SenseState where
  next : Nat
  settling : Nat
  acc : Vector (Nat × Nat) 16
  hist : Vector (List (Nat × Nat)) 16
  deriving DecidableEq, Repr

def SenseState.reset : SenseState := ⟨0, 0, Vector.replicate 16 (0, 0), Vector.replicate 16 []⟩

/-! ### Chains (chapters 14 and 15) -/

/-- R630, R638: a forward block: control or data, and its 8 payload bytes. -/
structure Block where
  ctl : Bool
  data : List Byte
  deriving DecidableEq, Repr

/-- Table 14-5: what COUNT found of a station: class, maker's words, columns driven. -/
structure Station where
  cls : Nat
  id : Word
  caps : Word
  caps2 : Word
  /-- R755: TAFE_CAPS [15:0] of a TAFE, its minimum drive time in 10 ns. -/
  minDrive : Nat
  deriving DecidableEq, Repr

/-- R691 to R720: a diagnostic run beyond DIAG_STATUS. -/
structure DiagRun where
  loop : Bool
  /-- An eye scan of a station's receiver, or loopback kind 2; and the station's position. -/
  station : Bool
  pos : Nat
  /-- EYE_SCAN's selector; LOOPBACK's kind. -/
  sel : Nat
  /-- R701, R702: dwell exponent, steps, points. -/
  e : Nat
  sp : Nat
  sv : Nat
  n : Nat
  /-- R703: records not yet written as a Plate word. -/
  recs : List Word
  /-- R741: a trim of the scanned receiver moved in the dwell of the present point. -/
  moved : Bool
  /-- R711: EYE_CTRL has not been answered; the tick of the start or of the last packet. -/
  asked : Bool
  last : Nat
  /-- R714: pattern and bit target. -/
  pattern : Nat
  target : Nat
  /-- R715: pattern blocks sent in the chain stream; R716: the last bits of the host checker's generator. -/
  blocks : Nat
  check : Option (List Bool)
  /-- R720: errors, checked bits, sync losses; R719: the interval's index. -/
  errors : Nat
  bits : Nat
  sync : Nat
  interval : Nat
  deriving DecidableEq, Repr

/-- R626, R627, R633, R634: the transmitter of a forward lane: its last 31 scrambled bits, oldest first; its last precoded index; whether
its running disparity is positive. -/
structure LaneTx where
  scr : List Bool
  prev : Nat
  rd : Bool
  deriving DecidableEq, Repr

/-- R634: as loaded at entry to BEACON and at a rate switch. -/
def LaneTx.load : LaneTx := ⟨List.replicate 31 true, 0, false⟩

structure ChainState where
  /-- R690: CFG0, CFG1 and CFG4 as latched at the last attempt. -/
  cfg0 : Word
  cfg1 : Word
  cfg4 : Word
  /-- Present forward rate code and return rate code. -/
  rate : Nat
  ret : Nat
  /-- R674, R675: the RATE block whose countdown runs: rate, precoding on, return rate. -/
  step : Option (Nat × Bool × Nat)
  /-- The stations that answered COUNT, by position. -/
  stations : List Station
  /-- R677: the host transmitter's taps; R678: EQ round; R679: DONE of position 0. -/
  pre : Nat
  post : Nat
  round : Nat
  eqDone : Bool
  /-- R659, R660: ticks of the state timer's and of the attempt's start. -/
  stateAt : Nat
  attemptAt : Nat
  /-- R661: a back-off: its start and its length in ms; the attempt that follows it, 0 for ABSENT. -/
  backoff : Option (Nat × Nat)
  next : Nat
  /-- R662: a beacon window is open; the tick of the last window's start. -/
  window : Bool
  windowAt : Nat
  /-- R690: the beacon interval in ms from that start to the next. -/
  beacon : Nat
  /-- R685: the chain carries its share of its head's picture. -/
  joined : Bool
  /-- R724: a FURL countdown runs towards this lane code; R727: an unfurl runs; R610: the head furled or furls the chain. -/
  furling : Option Nat
  unfurling : Bool
  byHead : Bool
  /-- R411: the chain was unfurled for the next TOUCH slot of the idle lines. -/
  forSlot : Bool
  /-- R731 to R734: the lane code still to be reached. -/
  goal : Option Nat
  /-- R934: REG blocks that wait for the chain to be UNFURLED. -/
  access : List Block
  /-- The blocks that the latest sending step put into the chain stream; ALIGN and what fills the time between two steps are added by
  State.laneBlocks and State.send. -/
  sent : List Block
  /-- R631 to R634: sending steps so far; the transmitters of F0 and F1 before the blocks of the latest one. -/
  steps : Nat
  tx0 : LaneTx
  tx1 : LaneTx
  diag : Option DiagRun
  deriving DecidableEq, Repr

def ChainState.reset : ChainState :=
  { cfg0 := 0, cfg1 := 0, cfg4 := 0, rate := 0, ret := 0, step := none, stations := [], pre := 0, post := 8, round := 0,
    eqDone := false, stateAt := 0, attemptAt := 0, backoff := none, next := 1, window := false, windowAt := 0, beacon := 500,
    joined := false, furling := none, unfurling := false, byHead := false, forSlot := false, goal := none, access := [], sent := [],
    steps := 0, tx0 := LaneTx.load, tx1 := LaneTx.load, diag := none }

/-! ### Power (chapter 18) -/

/-- R825 to R862 beyond the PWR registers. -/
structure PowerState where
  /-- R825: the target of the entry in progress; its step: 0 heads and Etch, 1 furling or PD08, 2 domains, 3 over. -/
  target : Option Nat
  step : Nat
  /-- R836: the heads that were not STOPPED at entry. -/
  heads : List Nat
  /-- R832: EN, TT_MASK and TIMER as of the entry. -/
  cfg : Option (Nat × Nat × Nat)
  /-- R832: the tick at which the entry completed. -/
  slept : Nat
  /-- R834, R862: a wake waits for the entry, or for parking, to end; R835: the exit steps run. -/
  latched : Bool
  waking : Bool
  /-- Table 18-3: PD24 was on at entry. -/
  digest : Bool
  /-- R847: WAKING domains whose DOMAIN_CTRL off, or entry, waits. -/
  offAfter : List Nat
  /-- R851: the supply state that the latest conversions point to, and how many of them. -/
  cand : Nat × Nat
  /-- R854: the tick since which every conversion has been at or above CRANK + HYST. -/
  clear : Option Nat
  /-- R859: the Etch word attempt that was in progress at parking may still complete; the update that parking cut is the
  first of the queue. -/
  wordLeft : Bool
  cut : Bool
  deriving DecidableEq, Repr

def PowerState.reset : PowerState :=
  { target := none, step := 0, heads := [], cfg := none, slept := 0, latched := false, waking := false, digest := false, offAfter := [],
    cand := (0, 0), clear := none, wordLeft := false, cut := false }

structure State where
  /-- The commands waiting for the block, first in, first out. -/
  pending : List Instr
  /-- Draws of the free value so far (the model's own field). -/
  free : Nat
  /-- OFF, or PORST_N low: nothing but a cold boot acts (R833, R237). -/
  off : Bool
  /-- PORST_N has been low for 10 µs and has not risen (R894). -/
  porst : Bool
  /-- R927: the count of the 1 kHz system tick. -/
  ticks : Nat
  /-- Registers that differ from their Reset column, by address. -/
  regs : List (Nat × Word)
  /-- R266: the registers at the commit instant, once the queue had been applied. -/
  commitRegs : List (Nat × Word)
  cw : CwState
  boot : BootState
  pres : PresState
  fuses : Fuses
  regions : Vector Region 32
  plate : PlateState
  pba : PbaState
  tile : TileState
  etch : EtchState
  /-- R389: the 64 KiB elastic buffer of input capture. -/
  elastic : List BufWord
  /-- R443: black rows on their way into the elastic buffer, oldest first. -/
  black : List BlackRows
  /-- R389: the 32 KiB line buffer of write-back. -/
  wbBuf : List BufWord
  /-- R584: history words on their way to the Plate, with their head. -/
  histBuf : List (Nat × BufWord)
  inputs : Vector InputState 4
  surfs : Vector SurfBufs 64
  /-- R444, R875: the last stamp given to a completion, a frame start or an event. -/
  stampCount : Nat
  fences : List FenceRun
  /-- R467: the number of the previous fence. -/
  fenceCount : Nat
  /-- R472: a region was cancelled since the previous fence started. -/
  cancelled : Bool
  /-- R462, R468: regions opened so far. -/
  openCount : Nat
  heads : Vector HeadState 4
  cal : CalState
  sense : SenseState
  icons : Vector Icon 32
  /-- R524: the debounced levels of TT[15:0], bit n for TTn. -/
  ttLevel : Nat
  stages : List Stage
  wb : WriteBack
  /-- R490: the head each layer was last latched on, until it has left it. -/
  layerHead : Vector (Option Nat) 8
  chains : Vector ChainState 8
  touch : Vector TouchState 4
  pwr : PowerState
  deriving DecidableEq, Repr

def State.reset : State :=
  { pending := [], free := 0, off := false, porst := false, ticks := 0, regs := [], commitRegs := [], cw := CwState.reset,
    boot := BootState.reset, pres := PresState.reset, fuses := Fuses.blank,
    regions := Vector.replicate 32 Region.free, plate := PlateState.reset, pba := PbaState.reset,
    tile := TileState.reset, etch := EtchState.reset, elastic := [], black := [], wbBuf := [], histBuf := [],
    inputs := Vector.replicate 4 InputState.idle, surfs := Vector.replicate 64 SurfBufs.reset, stampCount := 0,
    fences := [], fenceCount := 0, cancelled := false, openCount := 0, heads := Vector.replicate 4 HeadState.idle,
    cal := CalState.reset, sense := SenseState.reset,
    icons := Vector.replicate 32 Icon.empty, ttLevel := 0, stages := [], wb := WriteBack.reset, layerHead := Vector.replicate 8 none,
    chains := Vector.replicate 8 ChainState.reset, touch := Vector.replicate 4 TouchState.reset,
    pwr := PowerState.reset }

end Sys2Proof.Machine
end

