-- ==== Sys2Proof/Machine/Regs.lean ====
section
/-! DEFINITION. The register space: every field table of the manual (R11, R14 to R16) as named fields, and each
register's reset value and access masks. Transcribed from the field tables of chapters 01 to 18 and 20. -/

namespace Sys2Proof.Machine

namespace F

def CAPS0_PLATE_MIB : Field := ⟨0x10, 24, 8⟩
def CAPS0_SCALED_LAYERS : Field := ⟨0x10, 20, 3⟩
def CAPS0_LAYERS : Field := ⟨0x10, 16, 4⟩
def CAPS0_MAX_STATIONS : Field := ⟨0x10, 8, 8⟩
def CAPS0_CHAINS : Field := ⟨0x10, 4, 4⟩
def CAPS0_HEADS : Field := ⟨0x10, 0, 3⟩
def CAPS1_PART : Field := ⟨0x14, 16, 16⟩
def CAPS1_STEP : Field := ⟨0x14, 8, 8⟩
def CAPS1_FINE : Field := ⟨0x14, 7, 1⟩
def CAPS1_WRITEBACK : Field := ⟨0x14, 6, 1⟩
def CAPS1_TONEMAP : Field := ⟨0x14, 5, 1⟩
def CAPS1_TOUCH : Field := ⟨0x14, 4, 1⟩
def CAPS1_LVDS_PORTS : Field := ⟨0x14, 2, 2⟩
def CAPS1_DSI_PORTS : Field := ⟨0x14, 0, 2⟩
def BOOT_SA_STATUS_SA_ACTIVE : Field := ⟨0x20010, 31, 1⟩
def BOOT_SA_STATUS_PROF_STRAP : Field := ⟨0x20010, 28, 3⟩
def BOOT_SA_STATUS_PROF_SOURCE : Field := ⟨0x20010, 26, 2⟩
def BOOT_SA_STATUS_ROM_PROFILE : Field := ⟨0x20010, 24, 2⟩
def BOOT_SA_STATUS_INPUT : Field := ⟨0x20010, 22, 2⟩
def BOOT_SA_STATUS_FIRST_FRAME : Field := ⟨0x20010, 21, 1⟩
def BOOT_SA_STATUS_TORN_SEEN : Field := ⟨0x20010, 20, 1⟩
def BOOT_SA_STATUS_PROFILES_MISSING : Field := ⟨0x20010, 15, 1⟩
def BOOT_SA_STATUS_ENTRY_UNUSABLE : Field := ⟨0x20010, 14, 1⟩
def BOOT_SA_STATUS_CAL_MISSING : Field := ⟨0x20010, 13, 1⟩
def BOOT_SA_STATUS_PT_OVERSIZE : Field := ⟨0x20010, 12, 1⟩
def BOOT_SA_STATUS_PT_PLATE_FAULT : Field := ⟨0x20010, 11, 1⟩
def BOOT_SA_STATUS_CHAIN_MAP : Field := ⟨0x20010, 0, 8⟩
def BOOT_SA_CHAINS_CSTATE (n : Nat) : Field := ⟨0x20014, 2 * n, 2⟩
def BOOT_T_FIRST_FRAME_T_US : Field := ⟨0x20018, 0, 32⟩
def BOOT_STATUS_PHASE : Field := ⟨0x20000, 28, 4⟩
def BOOT_STATUS_FAIL_CAUSE : Field := ⟨0x20000, 24, 4⟩
def BOOT_STATUS_KEYLOCK : Field := ⟨0x20000, 23, 1⟩
def BOOT_STATUS_SCRIBE_RUN : Field := ⟨0x20000, 22, 1⟩
def BOOT_STATUS_STYLUS_RUN : Field := ⟨0x20000, 21, 1⟩
def BOOT_STATUS_GATE_STALLED : Field := ⟨0x20000, 20, 1⟩
def BOOT_STATUS_ZEROISED : Field := ⟨0x20000, 19, 1⟩
def BOOT_STATUS_LAST_REJECT : Field := ⟨0x20000, 16, 3⟩
def BOOT_STATUS_SEG_LOADED : Field := ⟨0x20000, 0, 16⟩
def BOOT_PROGRESS_NEXT_SEG : Field := ⟨0x20004, 27, 5⟩
def BOOT_PROGRESS_NEXT_OFFSET : Field := ⟨0x20004, 0, 24⟩
def BOOT_GATE_HIGH_WATER : Field := ⟨0x20008, 16, 13⟩
def BOOT_GATE_PLATE_DROPS : Field := ⟨0x20008, 13, 3⟩
def BOOT_GATE_DEPTH : Field := ⟨0x20008, 0, 13⟩
def BOOT_RUNTIME_VERSION_VERSION : Field := ⟨0x2000c, 0, 32⟩
def PRES_STATUS_P2 : Field := ⟨0x40, 31, 1⟩
def PRES_STATUS_P1_OPEN : Field := ⟨0x40, 30, 1⟩
def PRES_STATUS_SVC_LOW : Field := ⟨0x40, 29, 1⟩
def PRES_STATUS_DEBUG_UNLOCKED : Field := ⟨0x40, 28, 1⟩
def PRES_STATUS_ENROL_ACTIVE : Field := ⟨0x40, 27, 1⟩
def PRES_STATUS_SVC_HELD : Field := ⟨0x40, 16, 8⟩
def PRES_STATUS_P1_REMAIN : Field := ⟨0x40, 0, 6⟩
def SEAL_STATE_SEAL_OPEN_COUNT : Field := ⟨0x44, 16, 16⟩
def SEAL_STATE_LOG_PENDING : Field := ⟨0x44, 12, 4⟩
def SEAL_STATE_LOG_LOST : Field := ⟨0x44, 11, 1⟩
def SEAL_STATE_FOUND_OPEN_AT_START : Field := ⟨0x44, 10, 1⟩
def SEAL_STATE_STATE : Field := ⟨0x44, 0, 2⟩
def FUSE_STATUS_VPP_OK : Field := ⟨0x48, 31, 1⟩
def FUSE_STATUS_ENROL_LOCK : Field := ⟨0x48, 30, 1⟩
def FUSE_STATUS_DEBUG_LOCK : Field := ⟨0x48, 29, 1⟩
def FUSE_STATUS_DK_PRESENT : Field := ⟨0x48, 28, 1⟩
def FUSE_STATUS_ROLLBACK_STEPS : Field := ⟨0x48, 16, 7⟩
def CW_MODE_WIDTH : Field := ⟨0x30000, 0, 1⟩
def CW_IRQ_STATUS_GPIO : Field := ⟨0x30004, 15, 1⟩
def CW_IRQ_STATUS_THERMAL : Field := ⟨0x30004, 14, 1⟩
def CW_IRQ_STATUS_TORN : Field := ⟨0x30004, 13, 1⟩
def CW_IRQ_STATUS_ETCH : Field := ⟨0x30004, 12, 1⟩
def CW_IRQ_STATUS_CAL : Field := ⟨0x30004, 11, 1⟩
def CW_IRQ_STATUS_PRESENCE : Field := ⟨0x30004, 10, 1⟩
def CW_IRQ_STATUS_BOOT : Field := ⟨0x30004, 9, 1⟩
def CW_IRQ_STATUS_WAKE : Field := ⟨0x30004, 8, 1⟩
def CW_IRQ_STATUS_BUDGET : Field := ⟨0x30004, 7, 1⟩
def CW_IRQ_STATUS_PLATE : Field := ⟨0x30004, 6, 1⟩
def CW_IRQ_STATUS_LINK : Field := ⟨0x30004, 5, 1⟩
def CW_IRQ_STATUS_SUPPLY : Field := ⟨0x30004, 4, 1⟩
def CW_IRQ_STATUS_TELLTALE : Field := ⟨0x30004, 3, 1⟩
def CW_IRQ_STATUS_TOUCH : Field := ⟨0x30004, 2, 1⟩
def CW_IRQ_STATUS_SPACE : Field := ⟨0x30004, 1, 1⟩
def CW_IRQ_STATUS_REPLY : Field := ⟨0x30004, 0, 1⟩
def CW_IRQ_ENABLE_EN : Field := ⟨0x30008, 0, 16⟩
def CW_ERR_COUNT_CRC_CNT : Field := ⟨0x3000c, 24, 8⟩
def CW_ERR_COUNT_FRAME_CNT : Field := ⟨0x3000c, 16, 8⟩
def CW_ERR_COUNT_FULL_CNT : Field := ⟨0x3000c, 8, 8⟩
def CW_ERR_COUNT_PUSH_CNT : Field := ⟨0x3000c, 0, 8⟩
def CW_PUSH_STATE_NEXT_OFFSET : Field := ⟨0x30010, 0, 32⟩
def CW_PUSH_REGION_ACCEPTED : Field := ⟨0x30014, 8, 1⟩
def CW_PUSH_REGION_REGION : Field := ⟨0x30014, 0, 5⟩
def PLATE_CTRL_REFRESH_HI : Field := ⟨0x200000, 31, 1⟩
def PLATE_CTRL_DEEP_BAND : Field := ⟨0x200000, 29, 2⟩
def PLATE_CTRL_LO_READY : Field := ⟨0x200000, 28, 1⟩
def PLATE_CTRL_HI_READY : Field := ⟨0x200000, 27, 1⟩
def PLATE_CTRL_TSENSE : Field := ⟨0x200000, 8, 8⟩
def PLATE_CTRL_SCRUB_EN : Field := ⟨0x200000, 0, 1⟩
def PLATE_ECC_CE_CNT : Field := ⟨0x200004, 16, 16⟩
def PLATE_ECC_UE_CNT : Field := ⟨0x200004, 4, 12⟩
def PLATE_ECC_CE_STICKY : Field := ⟨0x200004, 1, 1⟩
def PLATE_ECC_UE_STICKY : Field := ⟨0x200004, 0, 1⟩
def PLATE_ECC_ADDR_CLIENT : Field := ⟨0x200008, 27, 5⟩
def PLATE_ECC_ADDR_OFFSET : Field := ⟨0x200008, 0, 25⟩
def PLATE_OFF_HIT_COUNT : Field := ⟨0x20000c, 16, 16⟩
def PLATE_OFF_HIT_STICKY : Field := ⟨0x20000c, 0, 1⟩
def PLATE_BIST_DONE : Field := ⟨0x200010, 31, 1⟩
def PLATE_BIST_FAULT : Field := ⟨0x200010, 30, 1⟩
def PLATE_BIST_FIRST_BAD_BANK : Field := ⟨0x200010, 24, 6⟩
def PLATE_BIST_DURATION : Field := ⟨0x200010, 0, 16⟩
def PLATE_REPAIR_BANK (r k : Nat) : Field := ⟨0x200020 + 4 * r, 2 * k, 2⟩
def TILE_BIST_DONE : Field := ⟨0x200030, 16, 6⟩
def TILE_BIST_FAULT : Field := ⟨0x200030, 0, 6⟩
def TILE_REPAIR_BANK (r k : Nat) : Field := ⟨0x200040 + 4 * r, 2 * k, 2⟩
def ETCH_STATUS_BUSY : Field := ⟨0x1c0000, 31, 1⟩
def ETCH_STATUS_SUSPENDED : Field := ⟨0x1c0000, 30, 1⟩
def ETCH_STATUS_WRITE_FAIL : Field := ⟨0x1c0000, 29, 1⟩
def ETCH_STATUS_FETCH_FAULT : Field := ⟨0x1c0000, 28, 1⟩
def ETCH_STATUS_UE_STICKY : Field := ⟨0x1c0000, 27, 1⟩
def ETCH_STATUS_CE_STICKY : Field := ⟨0x1c0000, 26, 1⟩
def ETCH_STATUS_UPDATES : Field := ⟨0x1c0000, 0, 16⟩
def ETCH_ECC_CE_CNT : Field := ⟨0x1c0004, 16, 16⟩
def ETCH_ECC_UE_CNT : Field := ⟨0x1c0004, 0, 16⟩
def ETCH_UE_ADDR_ADDR : Field := ⟨0x1c0008, 0, 22⟩
def ETCH_WFAIL_ADDR_ADDR : Field := ⟨0x1c000c, 0, 22⟩
def ETCH_MISSING_HATCH : Field := ⟨0x1c0010, 20, 4⟩
def ETCH_MISSING_OVERDRIVE : Field := ⟨0x1c0010, 16, 4⟩
def ETCH_MISSING_BASELINE : Field := ⟨0x1c0010, 12, 4⟩
def ETCH_MISSING_PROFILES : Field := ⟨0x1c0010, 8, 1⟩
def ETCH_MISSING_CAL : Field := ⟨0x1c0010, 0, 5⟩
def ETCH_LOG_HEAD_VALID : Field := ⟨0x1c0014, 16, 14⟩
def ETCH_LOG_HEAD_HEAD : Field := ⟨0x1c0014, 0, 13⟩
def PBA_STATUS_RUNNING : Field := ⟨0x40000, 31, 1⟩
def PBA_STATUS_COMMITTED : Field := ⟨0x40000, 0, 15⟩
def PBA_PERIOD_COUNT : Field := ⟨0x40004, 0, 32⟩
def PBA_ALLOT_ALLOT (c : Nat) : Field := ⟨0x40100 + 0x10 * c, 0, 15⟩
def PBA_DELAY_DELAY_CNT (c : Nat) : Field := ⟨0x40104 + 0x10 * c, 0, 32⟩
def PBA_REFUSE_REFUSE_CNT (c : Nat) : Field := ⟨0x40108 + 0x10 * c, 0, 32⟩
def PBA_FLAGS_REFUSED (c : Nat) : Field := ⟨0x4010c + 0x10 * c, 1, 1⟩
def PBA_FLAGS_DELAYED (c : Nat) : Field := ⟨0x4010c + 0x10 * c, 0, 1⟩
def HEAD_TIMETABLE_GROUPS (h : Nat) : Field := ⟨0x80100 + 0x10000 * h, 8, 4⟩
def HEAD_TIMETABLE_TS_LINES (h : Nat) : Field := ⟨0x80100 + 0x10000 * h, 0, 6⟩
def HEAD_TT_STATUS_TT_REJECT (h : Nat) : Field := ⟨0x80104 + 0x10000 * h, 31, 1⟩
def HEAD_TT_STATUS_KIND (h : Nat) : Field := ⟨0x80104 + 0x10000 * h, 28, 2⟩
def HEAD_TT_STATUS_LINE (h : Nat) : Field := ⟨0x80104 + 0x10000 * h, 0, 16⟩
def IN_DSI_CTRL_EN (i : Nat) : Field := ⟨0x50000 + 0x40 * i, 31, 1⟩
def IN_DSI_CTRL_MODE (i : Nat) : Field := ⟨0x50000 + 0x40 * i, 30, 1⟩
def IN_DSI_CTRL_LANES (i : Nat) : Field := ⟨0x50000 + 0x40 * i, 28, 2⟩
def IN_DSI_CTRL_VC1_MODE (i : Nat) : Field := ⟨0x50000 + 0x40 * i, 26, 2⟩
def IN_DSI_CTRL_CMD_FMT (i : Nat) : Field := ⟨0x50000 + 0x40 * i, 24, 2⟩
def IN_DSI_CTRL_SURF0 (i : Nat) : Field := ⟨0x50000 + 0x40 * i, 16, 8⟩
def IN_DSI_CTRL_SURF1 (i : Nat) : Field := ⟨0x50000 + 0x40 * i, 8, 8⟩
def IN_DSI_CTRL_LOST_MS (i : Nat) : Field := ⟨0x50000 + 0x40 * i, 0, 8⟩
def IN_DSI_TE_TE_EN (i : Nat) : Field := ⟨0x50004 + 0x40 * i, 31, 1⟩
def IN_DSI_TE_SLEEP_OUT (i : Nat) : Field := ⟨0x50004 + 0x40 * i, 30, 1⟩
def IN_DSI_TE_TE_PIN_EN (i : Nat) : Field := ⟨0x50004 + 0x40 * i, 29, 1⟩
def IN_DSI_TE_TE_GPIO (i : Nat) : Field := ⟨0x50004 + 0x40 * i, 26, 3⟩
def IN_DSI_TE_TE_HEAD (i : Nat) : Field := ⟨0x50004 + 0x40 * i, 24, 2⟩
def IN_LVDS_CTRL_EN (i : Nat) : Field := ⟨0x50000 + 0x40 * i, 31, 1⟩
def IN_LVDS_CTRL_DUAL (i : Nat) : Field := ⟨0x50000 + 0x40 * i, 30, 1⟩
def IN_LVDS_CTRL_BITS (i : Nat) : Field := ⟨0x50000 + 0x40 * i, 28, 2⟩
def IN_LVDS_CTRL_MAP (i : Nat) : Field := ⟨0x50000 + 0x40 * i, 27, 1⟩
def IN_LVDS_CTRL_SURF0 (i : Nat) : Field := ⟨0x50000 + 0x40 * i, 16, 8⟩
def IN_LVDS_CTRL_LOST_MS (i : Nat) : Field := ⟨0x50000 + 0x40 * i, 0, 8⟩
def IN_STATUS_STATE (i : Nat) : Field := ⟨0x50008 + 0x40 * i, 29, 3⟩
def IN_STATUS_CFG_ERR (i : Nat) : Field := ⟨0x50008 + 0x40 * i, 28, 1⟩
def IN_STATUS_SIZE_MISMATCH (i : Nat) : Field := ⟨0x50008 + 0x40 * i, 27, 1⟩
def IN_STATUS_TORN (i : Nat) : Field := ⟨0x50008 + 0x40 * i, 26, 1⟩
def IN_STATUS_VC1_LATE (i : Nat) : Field := ⟨0x50008 + 0x40 * i, 25, 1⟩
def IN_GEOM_WIDTH (i : Nat) : Field := ⟨0x5000c + 0x40 * i, 16, 13⟩
def IN_GEOM_HEIGHT (i : Nat) : Field := ⟨0x5000c + 0x40 * i, 0, 12⟩
def IN_COUNT_FRAMES (i : Nat) : Field := ⟨0x50010 + 0x40 * i, 16, 16⟩
def IN_COUNT_TORN_CNT (i : Nat) : Field := ⟨0x50010 + 0x40 * i, 8, 8⟩
def IN_COUNT_DROPPED (i : Nat) : Field := ⟨0x50010 + 0x40 * i, 0, 8⟩
def IN_ERR_ECC_CORR (i : Nat) : Field := ⟨0x50014 + 0x40 * i, 24, 8⟩
def IN_ERR_ECC_UNCORR (i : Nat) : Field := ⟨0x50014 + 0x40 * i, 16, 8⟩
def IN_ERR_CRC_ERR (i : Nat) : Field := ⟨0x50014 + 0x40 * i, 8, 8⟩
def IN_ERR_UNSUP (i : Nat) : Field := ⟨0x50014 + 0x40 * i, 0, 8⟩
def REGION_POOL_BASE_BASE : Field := ⟨0x50100, 0, 25⟩
def REGION_POOL_SIZE_SIZE : Field := ⟨0x50104, 0, 17⟩
def REGION_STATUS_IN_USE : Field := ⟨0x50108, 26, 6⟩
def REGION_STATUS_FREE_MAX : Field := ⟨0x50108, 0, 17⟩
def REGION_FENCE_LAST : Field := ⟨0x5010c, 0, 32⟩
def SURF_BASE_BASE (n k : Nat) : Field := ⟨0x51000 + 0x20 * n + 4 * k, 0, 25⟩
def SURF_SIZE_WIDTH (n : Nat) : Field := ⟨0x5100c + 0x20 * n, 16, 13⟩
def SURF_SIZE_HEIGHT (n : Nat) : Field := ⟨0x5100c + 0x20 * n, 0, 12⟩
def SURF_FMT_FORMAT (n : Nat) : Field := ⟨0x51010 + 0x20 * n, 28, 4⟩
def SURF_FMT_NBUF (n : Nat) : Field := ⟨0x51010 + 0x20 * n, 26, 2⟩
def SURF_FMT_PITCH32 (n : Nat) : Field := ⟨0x51010 + 0x20 * n, 0, 11⟩
def SURF_STATUS_FRONT (n : Nat) : Field := ⟨0x51014 + 0x20 * n, 30, 2⟩
def SURF_STATUS_USE (n : Nat) : Field := ⟨0x51014 + 0x20 * n, 28, 2⟩
def SURF_STATUS_WRITE_IGNORED (n : Nat) : Field := ⟨0x51014 + 0x20 * n, 27, 1⟩
def SURF_STATUS_INVALID (n : Nat) : Field := ⟨0x51014 + 0x20 * n, 26, 1⟩
def SURF_STATUS_FRONT_VALID (n : Nat) : Field := ⟨0x51014 + 0x20 * n, 25, 1⟩
def LAYER_W0_EN (n : Nat) : Field := ⟨0x60000 + 0x40 * n, 31, 1⟩
def LAYER_W0_HEAD (n : Nat) : Field := ⟨0x60000 + 0x40 * n, 28, 2⟩
def LAYER_W0_Z (n : Nat) : Field := ⟨0x60000 + 0x40 * n, 24, 3⟩
def LAYER_W0_GLOBAL_ALPHA (n : Nat) : Field := ⟨0x60000 + 0x40 * n, 16, 8⟩
def LAYER_W0_ALPHA_MODE (n : Nat) : Field := ⟨0x60000 + 0x40 * n, 14, 2⟩
def LAYER_W0_PREMULT (n : Nat) : Field := ⟨0x60000 + 0x40 * n, 13, 1⟩
def LAYER_W0_KEY_EN (n : Nat) : Field := ⟨0x60000 + 0x40 * n, 12, 1⟩
def LAYER_W0_LUT_EN (n : Nat) : Field := ⟨0x60000 + 0x40 * n, 11, 1⟩
def LAYER_W0_PQ (n : Nat) : Field := ⟨0x60000 + 0x40 * n, 10, 1⟩
def LAYER_W0_YUV709 (n : Nat) : Field := ⟨0x60000 + 0x40 * n, 9, 1⟩
def LAYER_W0_YUV_FULL (n : Nat) : Field := ⟨0x60000 + 0x40 * n, 8, 1⟩
def LAYER_W0_SURF (n : Nat) : Field := ⟨0x60000 + 0x40 * n, 0, 6⟩
def LAYER_W1_SRC_X (n : Nat) : Field := ⟨0x60004 + 0x40 * n, 16, 13⟩
def LAYER_W1_SRC_Y (n : Nat) : Field := ⟨0x60004 + 0x40 * n, 0, 12⟩
def LAYER_W2_SRC_W (n : Nat) : Field := ⟨0x60008 + 0x40 * n, 16, 13⟩
def LAYER_W2_SRC_H (n : Nat) : Field := ⟨0x60008 + 0x40 * n, 0, 12⟩
def LAYER_W3_POS_X (n : Nat) : Field := ⟨0x6000c + 0x40 * n, 16, 13⟩
def LAYER_W3_POS_Y (n : Nat) : Field := ⟨0x6000c + 0x40 * n, 0, 13⟩
def LAYER_W4_DST_W (n : Nat) : Field := ⟨0x60010 + 0x40 * n, 16, 13⟩
def LAYER_W4_DST_H (n : Nat) : Field := ⟨0x60010 + 0x40 * n, 0, 12⟩
def LAYER_W5_KEY (n : Nat) : Field := ⟨0x60014 + 0x40 * n, 0, 24⟩
def LAYER_W6_KEY_MASK (n : Nat) : Field := ⟨0x60018 + 0x40 * n, 0, 24⟩
def LAYER_W7_COLOUR (n : Nat) : Field := ⟨0x6001c + 0x40 * n, 0, 24⟩
def LAYER_STATUS_SHOWN (n : Nat) : Field := ⟨0x60300 + 4 * n, 31, 1⟩
def LAYER_STATUS_CFG_ERR (n : Nat) : Field := ⟨0x60300 + 4 * n, 30, 1⟩
def LAYER_STATUS_BUF (n : Nat) : Field := ⟨0x60300 + 4 * n, 28, 2⟩
def LAYER_STATUS_NO_FRONT (n : Nat) : Field := ⟨0x60300 + 4 * n, 27, 1⟩
def COMP_W0_POST_LUT_EN (h : Nat) : Field := ⟨0x60400 + 0x20 * h, 31, 1⟩
def COMP_W1_BG (h : Nat) : Field := ⟨0x60404 + 0x20 * h, 0, 24⟩
def COMP_W2_TM_EN (h : Nat) : Field := ⟨0x60408 + 0x20 * h, 31, 1⟩
def COMP_W2_ALS (h : Nat) : Field := ⟨0x60408 + 0x20 * h, 30, 1⟩
def COMP_W2_MAX_IN (h : Nat) : Field := ⟨0x60408 + 0x20 * h, 0, 16⟩
def COMP_W3_PEAK (h : Nat) : Field := ⟨0x6040c + 0x20 * h, 0, 16⟩
def COMP_W4_KF_DARK (h : Nat) : Field := ⟨0x60410 + 0x20 * h, 24, 8⟩
def COMP_W4_KF_BRIGHT (h : Nat) : Field := ⟨0x60410 + 0x20 * h, 16, 8⟩
def COMP_W5_AMB_HI (h : Nat) : Field := ⟨0x60414 + 0x20 * h, 16, 16⟩
def COMP_W5_AMB_LO (h : Nat) : Field := ⟨0x60414 + 0x20 * h, 0, 16⟩
def COMP_W6_P_NOW (h : Nat) : Field := ⟨0x60418 + 0x20 * h, 16, 16⟩
def COMP_W6_KF_NOW (h : Nat) : Field := ⟨0x60418 + 0x20 * h, 8, 8⟩
def COMP_W7_BL_NOW (h : Nat) : Field := ⟨0x6041c + 0x20 * h, 0, 11⟩
def STAGE_PENDING_COEFF : Field := ⟨0x60500, 16, 4⟩
def STAGE_PENDING_LUT : Field := ⟨0x60500, 0, 12⟩
def WB_CTRL_EN : Field := ⟨0x60504, 31, 1⟩
def WB_CTRL_SINGLE : Field := ⟨0x60504, 30, 1⟩
def WB_CTRL_HEAD : Field := ⟨0x60504, 24, 2⟩
def WB_CTRL_SURF : Field := ⟨0x60504, 0, 6⟩
def WB_STATUS_ACTIVE : Field := ⟨0x60508, 31, 1⟩
def WB_STATUS_CONFLICT : Field := ⟨0x60508, 30, 1⟩
def WB_STATUS_INCOMPLETE : Field := ⟨0x60508, 29, 1⟩
def WB_STATUS_INC_CNT : Field := ⟨0x60508, 16, 8⟩
def WB_STATUS_FRAMES : Field := ⟨0x60508, 0, 16⟩
def BUNT_CFG_EN (h s : Nat) : Field := ⟨0xc0000 + 0x400 * h + 0x10 * s, 31, 1⟩
def BUNT_CFG_SRC (h s : Nat) : Field := ⟨0xc0000 + 0x400 * h + 0x10 * s, 30, 1⟩
def BUNT_CFG_BLINK (h s : Nat) : Field := ⟨0xc0000 + 0x400 * h + 0x10 * s, 28, 2⟩
def BUNT_CFG_PIN (h s : Nat) : Field := ⟨0xc0000 + 0x400 * h + 0x10 * s, 24, 4⟩
def BUNT_CFG_ICON (h s : Nat) : Field := ⟨0xc0000 + 0x400 * h + 0x10 * s, 16, 8⟩
def BUNT_POS_X (h s : Nat) : Field := ⟨0xc0004 + 0x400 * h + 0x10 * s, 16, 12⟩
def BUNT_POS_Y (h s : Nat) : Field := ⟨0xc0004 + 0x400 * h + 0x10 * s, 0, 12⟩
def BUNT_COLOUR_COLOUR (h s : Nat) : Field := ⟨0xc0008 + 0x400 * h + 0x10 * s, 0, 24⟩
def BUNT_STATUS_SHOWN (h s : Nat) : Field := ⟨0xc000c + 0x400 * h + 0x10 * s, 31, 1⟩
def BUNT_STATUS_FORCED (h s : Nat) : Field := ⟨0xc000c + 0x400 * h + 0x10 * s, 30, 1⟩
def BUNT_STATUS_FAULT_NOW (h s : Nat) : Field := ⟨0xc000c + 0x400 * h + 0x10 * s, 29, 1⟩
def BUNT_STATUS_KIND (h s : Nat) : Field := ⟨0xc000c + 0x400 * h + 0x10 * s, 26, 3⟩
def BUNT_STATUS_OUT_CRC (h s : Nat) : Field := ⟨0xc000c + 0x400 * h + 0x10 * s, 0, 16⟩
def BUNT_PIN_POL (p : Nat) : Field := ⟨0xC1000 + 4 * p, 31, 1⟩
def BUNT_PIN_DEB (p : Nat) : Field := ⟨0xC1000 + 4 * p, 0, 7⟩
def BUNT_PIN_STATE_RAW : Field := ⟨0xc1040, 16, 16⟩
def BUNT_PIN_STATE_ASSERTED : Field := ⟨0xc1040, 0, 16⟩
def BUNT_FAULT_ICON_FAULT (h : Nat) : Field := ⟨0xC1080 + 4 * h, 0, 32⟩
def BUNT_CTRL_ICONS_BAD : Field := ⟨0xc1090, 16, 1⟩
def BUNT_CTRL_TT_FAULT : Field := ⟨0xc1090, 9, 1⟩
def BUNT_CTRL_FAULT_READY : Field := ⟨0xc1090, 8, 1⟩
def BUNT_CTRL_FAULT_HEADS : Field := ⟨0xc1090, 0, 4⟩
def BUNT_ICON_STATE_LOADED : Field := ⟨0xc1094, 0, 32⟩
def HEAD_CTRL_RUN (h : Nat) : Field := ⟨0x80000 + 0x10000 * h, 31, 1⟩
def HEAD_CTRL_OD_EN (h : Nat) : Field := ⟨0x80000 + 0x10000 * h, 30, 1⟩
def HEAD_CTRL_HATCH_EN (h : Nat) : Field := ⟨0x80000 + 0x10000 * h, 29, 1⟩
def HEAD_CTRL_STIPPLE_EN (h : Nat) : Field := ⟨0x80000 + 0x10000 * h, 28, 1⟩
def HEAD_CTRL_COLD_EN (h : Nat) : Field := ⟨0x80000 + 0x10000 * h, 27, 1⟩
def HEAD_CTRL_SEED (h : Nat) : Field := ⟨0x80000 + 0x10000 * h, 16, 6⟩
def HEAD_CTRL_COLD_K2 (h : Nat) : Field := ⟨0x80000 + 0x10000 * h, 0, 8⟩
def HEAD_STATUS_STATE (h : Nat) : Field := ⟨0x80004 + 0x10000 * h, 28, 4⟩
def HEAD_STATUS_MODE (h : Nat) : Field := ⟨0x80004 + 0x10000 * h, 26, 2⟩
def HEAD_STATUS_PARITY (h : Nat) : Field := ⟨0x80004 + 0x10000 * h, 25, 1⟩
def HEAD_STATUS_COLD (h : Nat) : Field := ⟨0x80004 + 0x10000 * h, 24, 1⟩
def HEAD_STATUS_FPHASE (h : Nat) : Field := ⟨0x80004 + 0x10000 * h, 22, 2⟩
def HEAD_STATUS_HIST_VALID (h : Nat) : Field := ⟨0x80004 + 0x10000 * h, 21, 1⟩
def HEAD_STATUS_IDLE (h : Nat) : Field := ⟨0x80004 + 0x10000 * h, 20, 1⟩
def HEAD_STATUS_FURLED (h : Nat) : Field := ⟨0x80004 + 0x10000 * h, 19, 1⟩
def HEAD_OD_TEMP (h : Nat) : Field := ⟨0x80008 + 0x10000 * h, 20, 12⟩
def HEAD_OD_SET_LO (h : Nat) : Field := ⟨0x80008 + 0x10000 * h, 16, 3⟩
def HEAD_OD_W (h : Nat) : Field := ⟨0x80008 + 0x10000 * h, 8, 8⟩
def HEAD_OD_NTC_FAULT (h : Nat) : Field := ⟨0x80008 + 0x10000 * h, 7, 1⟩
def HEAD_OD_OD_MISSING (h : Nat) : Field := ⟨0x80008 + 0x10000 * h, 6, 1⟩
def HEAD_OD_OD_SKIP (h : Nat) : Field := ⟨0x80008 + 0x10000 * h, 5, 1⟩
def HEAD_OD_HATCH_BYPASS (h : Nat) : Field := ⟨0x80008 + 0x10000 * h, 4, 1⟩
def HEAD_HIST0_BASE (h : Nat) : Field := ⟨0x80010 + 0x10000 * h, 0, 25⟩
def HEAD_HIST1_BASE (h : Nat) : Field := ⟨0x80014 + 0x10000 * h, 0, 25⟩
def HEAD_REFRESH_MODE (h : Nat) : Field := ⟨0x80020 + 0x10000 * h, 16, 2⟩
def HEAD_REFRESH_LR_RATE (h : Nat) : Field := ⟨0x80020 + 0x10000 * h, 0, 16⟩
def HEAD_BL_MODE (h : Nat) : Field := ⟨0x80028 + 0x10000 * h, 31, 1⟩
def HEAD_BL_REG (h : Nat) : Field := ⟨0x80028 + 0x10000 * h, 30, 1⟩
def HEAD_BL_ALS (h : Nat) : Field := ⟨0x80028 + 0x10000 * h, 29, 1⟩
def HEAD_BL_LEVEL (h : Nat) : Field := ⟨0x80028 + 0x10000 * h, 16, 11⟩
def HEAD_BL_LEVEL_DARK (h : Nat) : Field := ⟨0x80028 + 0x10000 * h, 0, 11⟩
def HEAD_BL_AMB_LUX_HI (h : Nat) : Field := ⟨0x8002c + 0x10000 * h, 16, 16⟩
def HEAD_BL_AMB_LUX_LO (h : Nat) : Field := ⟨0x8002c + 0x10000 * h, 0, 16⟩
def HEAD_BL_REG_I_FULL (h : Nat) : Field := ⟨0x80030 + 0x10000 * h, 0, 16⟩
def HEAD_BL_STATUS_REG_LIMIT (h : Nat) : Field := ⟨0x80034 + 0x10000 * h, 31, 1⟩
def HEAD_BL_STATUS_BL_NOW (h : Nat) : Field := ⟨0x80034 + 0x10000 * h, 16, 11⟩
def HEAD_BL_STATUS_DUTY (h : Nat) : Field := ⟨0x80034 + 0x10000 * h, 0, 11⟩
def HEAD_SELF_SURF (h : Nat) : Field := ⟨0x80024 + 0x10000 * h, 0, 6⟩
def HEAD_PROFILE_ENTRY (h k : Nat) : Field := ⟨0x80200 + 0x10000 * h + 4 * k, 0, 32⟩
def LINK_CFG0_FINE (n : Nat) : Field := ⟨0x100020 + 0x1000 * n, 31, 1⟩
def LINK_CFG0_PRECODE (n : Nat) : Field := ⟨0x100020 + 0x1000 * n, 30, 1⟩
def LINK_CFG0_BLIND (n : Nat) : Field := ⟨0x100020 + 0x1000 * n, 29, 1⟩
def LINK_CFG0_RATE (n : Nat) : Field := ⟨0x100020 + 0x1000 * n, 0, 16⟩
def LINK_CFG1_COL_FIRST (n : Nat) : Field := ⟨0x100024 + 0x1000 * n, 16, 13⟩
def LINK_CFG1_COL_COUNT (n : Nat) : Field := ⟨0x100024 + 0x1000 * n, 0, 13⟩
def LINK_CFG2_EXPECTED (n : Nat) : Field := ⟨0x100028 + 0x1000 * n, 8, 5⟩
def LINK_CFG2_BEACON (n : Nat) : Field := ⟨0x100028 + 0x1000 * n, 0, 8⟩
def LINK_CFG3_BOUND (n : Nat) : Field := ⟨0x10002c + 0x1000 * n, 7, 1⟩
def LINK_CFG3_HEAD (n : Nat) : Field := ⟨0x10002c + 0x1000 * n, 0, 2⟩
def LINK_CFG4_EQ_FIXED (n : Nat) : Field := ⟨0x100030 + 0x1000 * n, 31, 1⟩
def LINK_CFG4_PRE (n : Nat) : Field := ⟨0x100030 + 0x1000 * n, 16, 5⟩
def LINK_CFG4_POST (n : Nat) : Field := ⟨0x100030 + 0x1000 * n, 8, 5⟩
def LINK_CFG5_ALL (n : Nat) : Field := ⟨0x100034 + 0x1000 * n, 0, 32⟩
def LINK_CFG6_ALL (n : Nat) : Field := ⟨0x100038 + 0x1000 * n, 0, 32⟩
def LINK_STATUS_STATE (n : Nat) : Field := ⟨0x100004 + 0x1000 * n, 28, 4⟩
def LINK_STATUS_STATIONS (n : Nat) : Field := ⟨0x100004 + 0x1000 * n, 23, 5⟩
def LINK_STATUS_LAST_POS (n : Nat) : Field := ⟨0x100004 + 0x1000 * n, 19, 4⟩
def LINK_STATUS_LANE (n : Nat) : Field := ⟨0x100004 + 0x1000 * n, 16, 3⟩
def LINK_STATUS_ATTEMPT (n : Nat) : Field := ⟨0x100004 + 0x1000 * n, 14, 2⟩
def LINK_STATUS_PARTIAL (n : Nat) : Field := ⟨0x100004 + 0x1000 * n, 13, 1⟩
def LINK_STATUS_MISMATCH (n : Nat) : Field := ⟨0x100004 + 0x1000 * n, 12, 1⟩
def LINK_STATUS_SHORT (n : Nat) : Field := ⟨0x100004 + 0x1000 * n, 11, 1⟩
def LINK_STATUS_PRECODE_ON (n : Nat) : Field := ⟨0x100004 + 0x1000 * n, 10, 1⟩
def LINK_STATUS_RET_INV (n : Nat) : Field := ⟨0x100004 + 0x1000 * n, 9, 1⟩
def LINK_STATUS_BLIND_ON (n : Nat) : Field := ⟨0x100004 + 0x1000 * n, 8, 1⟩
def LINK_STATUS_RATE_NOW (n : Nat) : Field := ⟨0x100004 + 0x1000 * n, 0, 8⟩
def LINK_TRAIN_FAIL_STATE (n : Nat) : Field := ⟨0x100008 + 0x1000 * n, 28, 4⟩
def LINK_TRAIN_FAIL_CAUSE (n : Nat) : Field := ⟨0x100008 + 0x1000 * n, 24, 4⟩
def LINK_TRAIN_FAILS (n : Nat) : Field := ⟨0x100008 + 0x1000 * n, 16, 8⟩
def LINK_TRAIN_T_TRAIN (n : Nat) : Field := ⟨0x100008 + 0x1000 * n, 0, 16⟩
def LINK_ERR_LINE_ERR (n : Nat) : Field := ⟨0x10000c + 0x1000 * n, 16, 16⟩
def LINK_ERR_LOCK_LOSS (n : Nat) : Field := ⟨0x10000c + 0x1000 * n, 8, 8⟩
def LINK_ERR_RET_CRC (n : Nat) : Field := ⟨0x10000c + 0x1000 * n, 0, 8⟩
def LINK_STA_CLASS (n k : Nat) : Field := ⟨0x100100 + 0x1000 * n + 4 * k, 29, 3⟩
def LINK_STA_PRESENT (n k : Nat) : Field := ⟨0x100100 + 0x1000 * n + 4 * k, 28, 1⟩
def LINK_STA_COL_OFF (n k : Nat) : Field := ⟨0x100100 + 0x1000 * n + 4 * k, 13, 13⟩
def LINK_STA_COL_N (n k : Nat) : Field := ⟨0x100100 + 0x1000 * n + 4 * k, 0, 13⟩
def LINK_PWR_HEAD_NOW (n : Nat) : Field := ⟨0x100040 + 0x1000 * n, 21, 2⟩
def LINK_PWR_BOUND_NOW (n : Nat) : Field := ⟨0x100040 + 0x1000 * n, 20, 1⟩
def LINK_PWR_REQ (n : Nat) : Field := ⟨0x100040 + 0x1000 * n, 16, 3⟩
def LINK_PWR_PENDING (n : Nat) : Field := ⟨0x100040 + 0x1000 * n, 8, 1⟩
def LINK_PWR_T_RETURN (n : Nat) : Field := ⟨0x100040 + 0x1000 * n, 0, 8⟩
def LINK_FURLS_COUNT (n : Nat) : Field := ⟨0x100044 + 0x1000 * n, 0, 32⟩
def LINK_EYE_CFG_PHASE_STEP (n : Nat) : Field := ⟨0x100048 + 0x1000 * n, 24, 6⟩
def LINK_EYE_CFG_OFFSET_STEP (n : Nat) : Field := ⟨0x100048 + 0x1000 * n, 16, 6⟩
def LINK_DIAG_BASE (n : Nat) : Field := ⟨0x10004c + 0x1000 * n, 0, 25⟩
def LINK_DIAG_STATUS_RUN_STATE (n : Nat) : Field := ⟨0x100050 + 0x1000 * n, 28, 4⟩
def LINK_DIAG_STATUS_KIND (n : Nat) : Field := ⟨0x100050 + 0x1000 * n, 26, 2⟩
def LINK_DIAG_STATUS_STALE (n : Nat) : Field := ⟨0x100050 + 0x1000 * n, 25, 1⟩
def LINK_DIAG_STATUS_OVERRUN (n : Nat) : Field := ⟨0x100050 + 0x1000 * n, 24, 1⟩
def LINK_DIAG_STATUS_DONE_CNT (n : Nat) : Field := ⟨0x100050 + 0x1000 * n, 0, 16⟩
def TOUCH_CFG0_EN (h : Nat) : Field := ⟨0x140000 + 0x100 * h, 31, 1⟩
def TOUCH_CFG0_GLOVE (h : Nat) : Field := ⟨0x140000 + 0x100 * h, 30, 1⟩
def TOUCH_CFG0_WATER (h : Nat) : Field := ⟨0x140000 + 0x100 * h, 29, 1⟩
def TOUCH_CFG0_IRQ_ALL (h : Nat) : Field := ⟨0x140000 + 0x100 * h, 28, 1⟩
def TOUCH_CFG0_AXIS (h : Nat) : Field := ⟨0x140000 + 0x100 * h, 27, 1⟩
def TOUCH_CFG0_FLIP_X (h : Nat) : Field := ⟨0x140000 + 0x100 * h, 26, 1⟩
def TOUCH_CFG0_FLIP_Y (h : Nat) : Field := ⟨0x140000 + 0x100 * h, 25, 1⟩
def TOUCH_CFG1_USED (h k : Nat) : Field := ⟨0x140004 + 0x100 * h + 4 * k, 31, 1⟩
def TOUCH_CFG1_STATION (h k : Nat) : Field := ⟨0x140004 + 0x100 * h + 4 * k, 24, 7⟩
def TOUCH_CFG1_FIRST (h k : Nat) : Field := ⟨0x140004 + 0x100 * h + 4 * k, 16, 6⟩
def TOUCH_CFG1_COUNT (h k : Nat) : Field := ⟨0x140004 + 0x100 * h + 4 * k, 0, 6⟩
def TOUCH_CFG5_D (h : Nat) : Field := ⟨0x140014 + 0x100 * h, 16, 7⟩
def TOUCH_CFG6_TOUCH_THR (h : Nat) : Field := ⟨0x140018 + 0x100 * h, 16, 16⟩
def TOUCH_CFG6_GLOVE_THR (h : Nat) : Field := ⟨0x140018 + 0x100 * h, 0, 16⟩
def TOUCH_CFG7_WATER_AREA (h : Nat) : Field := ⟨0x14001c + 0x100 * h, 16, 8⟩
def TOUCH_CFG7_MOVE_MAX (h : Nat) : Field := ⟨0x14001c + 0x100 * h, 0, 16⟩
def TOUCH_CFG8_ABSORB (h : Nat) : Field := ⟨0x140020 + 0x100 * h, 16, 10⟩
def TOUCH_CFG8_DRIFT_SHIFT (h : Nat) : Field := ⟨0x140020 + 0x100 * h, 0, 4⟩
def TOUCH_CFG9_TC_DEFAULT (h : Nat) : Field := ⟨0x140024 + 0x100 * h, 0, 16⟩
def TOUCH_STATUS_STATE (h : Nat) : Field := ⟨0x140040 + 0x100 * h, 28, 4⟩
def TOUCH_STATUS_HOLD_CAUSE (h : Nat) : Field := ⟨0x140040 + 0x100 * h, 25, 3⟩
def TOUCH_STATUS_BASELINE_MISSING (h : Nat) : Field := ⟨0x140040 + 0x100 * h, 24, 1⟩
def TOUCH_STATUS_PROVISIONAL_ANY (h : Nat) : Field := ⟨0x140040 + 0x100 * h, 23, 1⟩
def TOUCH_COUNT_SETS (h : Nat) : Field := ⟨0x140044 + 0x100 * h, 16, 16⟩
def TOUCH_COUNT_CUT_CNT (h : Nat) : Field := ⟨0x140044 + 0x100 * h, 8, 8⟩
def TOUCH_COUNT_REBASE_CNT (h : Nat) : Field := ⟨0x140044 + 0x100 * h, 0, 8⟩
def CAL_STATUS_RUN_STATE : Field := ⟨0x180000, 28, 4⟩
def CAL_STATUS_ABORT_CAUSE : Field := ⟨0x180000, 26, 2⟩
def CAL_STATUS_SOURCE : Field := ⟨0x180000, 24, 2⟩
def CAL_STATUS_RUN_SCOPE : Field := ⟨0x180000, 21, 3⟩
def CAL_STATUS_USABLE : Field := ⟨0x180000, 16, 5⟩
def CAL_STATUS_CLAMP_CNT : Field := ⟨0x180000, 8, 8⟩
def CAL_STATUS_TD_FAULT : Field := ⟨0x180000, 7, 1⟩
def CAL_TEMP_TD : Field := ⟨0x180004, 16, 16⟩
def CAL_TEMP_W : Field := ⟨0x180004, 8, 8⟩
def CAL_TEMP_SET_LO : Field := ⟨0x180004, 0, 3⟩
def SENSE_CTRL_EN_MASK : Field := ⟨0x190000, 0, 16⟩
def SENSE_NTC_BIAS (k : Nat) : Field := ⟨0x190010 + 4 * k, 30, 2⟩
def SENSE_NTC_B (k : Nat) : Field := ⟨0x190010 + 4 * k, 16, 13⟩
def SENSE_NTC_R25 (k : Nat) : Field := ⟨0x190010 + 4 * k, 0, 16⟩
def SENSE_ALS_LUX_FS (k : Nat) : Field := ⟨0x190020 + 4 * k, 0, 20⟩
def SENSE_BLFB_RSENSE (k : Nat) : Field := ⟨0x190030 + 4 * k, 0, 16⟩
def SENSE_OVR_CNT (k j : Nat) : Field := ⟨0x190040 + 4 * k, 8 * j, 8⟩
def SENSE_CH_FLAGS_OVR (n : Nat) : Field := ⟨0x190100 + 0x10 * n, 31, 1⟩
def SENSE_CH_FLAGS_SETTLING (n : Nat) : Field := ⟨0x190100 + 0x10 * n, 30, 1⟩
def SENSE_CH_FLAGS_STALE (n : Nat) : Field := ⟨0x190100 + 0x10 * n, 29, 1⟩
def SENSE_CH_FLAGS_NO_CLEAN (n : Nat) : Field := ⟨0x190100 + 0x10 * n, 28, 1⟩
def SENSE_CH_FLAGS_OVR_STICKY (n : Nat) : Field := ⟨0x190100 + 0x10 * n, 27, 1⟩
def SENSE_CH_FLAGS_LAST (n : Nat) : Field := ⟨0x190100 + 0x10 * n, 0, 12⟩
def SENSE_CH_AVG_1MS_AVG_1MS (n : Nat) : Field := ⟨0x190104 + 0x10 * n, 0, 16⟩
def SENSE_CH_AVG_1S_AVG_1S (n : Nat) : Field := ⟨0x190108 + 0x10 * n, 0, 16⟩
def SENSE_CH_SCALED_SCALED (n : Nat) : Field := ⟨0x19010c + 0x10 * n, 0, 32⟩
def PWR_STATE_STATE : Field := ⟨0x10000, 28, 4⟩
def PWR_STATE_ENTERING : Field := ⟨0x10000, 27, 1⟩
def PWR_STATE_RIDE : Field := ⟨0x10000, 26, 1⟩
def PWR_STATE_PARKED : Field := ⟨0x10000, 25, 1⟩
def PWR_STATE_SUPPLY : Field := ⟨0x10000, 22, 3⟩
def PWR_WAKE_CFG_TT_MASK : Field := ⟨0x10004, 16, 16⟩
def PWR_WAKE_CFG_EN : Field := ⟨0x10004, 0, 8⟩
def PWR_WAKE_TIMER_TIMER : Field := ⟨0x10008, 0, 16⟩
def WAKE_CAUSE_REPLAYED : Field := ⟨0x1000c, 31, 1⟩
def WAKE_CAUSE_FROM : Field := ⟨0x1000c, 28, 3⟩
def WAKE_CAUSE_SOURCES : Field := ⟨0x1000c, 0, 8⟩
def PWR_THR0_LOW : Field := ⟨0x10010, 16, 16⟩
def PWR_THR0_CRANK : Field := ⟨0x10010, 0, 16⟩
def PWR_THR1_DUMP : Field := ⟨0x10014, 16, 16⟩
def PWR_THR1_HIGH : Field := ⟨0x10014, 0, 16⟩
def PWR_SUPPLY_STATUS_MIN_MV : Field := ⟨0x10018, 16, 16⟩
def PWR_SUPPLY_STATUS_CRANKS : Field := ⟨0x10018, 8, 8⟩
def PWR_SUPPLY_STATUS_CHANGES : Field := ⟨0x10018, 0, 8⟩
def PWR_SUPPLY_CLR_MIN_RESET : Field := ⟨0x10028, 0, 1⟩
def PWR_BL_FLOOR_LEVEL : Field := ⟨0x1001c, 0, 11⟩
def PWR_THERM_WARN : Field := ⟨0x10020, 24, 8⟩
def PWR_THERM_CRIT : Field := ⟨0x10020, 16, 8⟩
def PWR_THERM_ZONE : Field := ⟨0x10020, 0, 2⟩
def PWR_DRAIN_LOST_CNT : Field := ⟨0x10024, 0, 16⟩
def PWR_PD_STATE (n : Nat) : Field := ⟨0x10100 + 4 * n, 28, 4⟩
def PWR_PD_REG_RDY (n : Nat) : Field := ⟨0x10100 + 4 * n, 27, 1⟩
def PWR_PD_CLK_RDY (n : Nat) : Field := ⟨0x10100 + 4 * n, 26, 1⟩
def PWR_PD_MEM_RDY (n : Nat) : Field := ⟨0x10100 + 4 * n, 25, 1⟩
def PWR_PD_LOGIC_RDY (n : Nat) : Field := ⟨0x10100 + 4 * n, 24, 1⟩
def PWR_PD_PENDING (n : Nat) : Field := ⟨0x10100 + 4 * n, 23, 1⟩
def PWR_PD_HOST_ON (n : Nat) : Field := ⟨0x10100 + 4 * n, 22, 1⟩
def GPIO_DIR_DIR : Field := ⟨0x80, 0, 8⟩
def GPIO_OUT_OUT : Field := ⟨0x84, 0, 8⟩
def GPIO_IN_IN : Field := ⟨0x88, 0, 8⟩
def GPIO_EDGE_EN_RISE_EN : Field := ⟨0x8c, 8, 8⟩
def GPIO_EDGE_EN_FALL_EN : Field := ⟨0x8c, 0, 8⟩
def GPIO_EVENT_RISE : Field := ⟨0x90, 8, 8⟩
def GPIO_EVENT_FALL : Field := ⟨0x90, 0, 8⟩

end F

/-- A register's reset value (Reset column), the bits a write sets (RW, GATED, RWP) and the bits a write of 1
clears (W1C); every other bit is RO or reserved (R14 to R16). -/
structure RegInfo where
  reset : Nat
  rw : Nat
  w1c : Nat

/-- Address `a` is one of `n` registers at `base`, `stride` bytes apart. -/
def inArr (a base stride n : Nat) : Bool :=
  base ≤ a && (a - base) % stride == 0 && (a - base) / stride < n

/-- Address `a` is a register of a two-level array. -/
def inArr2 (a base s n t m : Nat) : Bool :=
  base ≤ a && (a - base) / s < n && (a - base) % s % t == 0 && (a - base) % s / t < m

/-- R272: no register stands here; it reads 0 and ignores writes. -/
def RegInfo.none : RegInfo := ⟨0, 0, 0⟩

/-- Table 9-1: the default allotment of PBA client `c`, in slots per period. -/
def defaultAllot (c : Nat) : Nat :=
  if c = 1 then 1024 else if c ≤ 5 then 608 else if c = 6 then 1024 else if c ≤ 14 then 1200
  else if c = 15 then 800 else if c = 16 then 1600 else if c = 17 then 256 else if c = 18 then 2048
  else if c = 19 then 256 else 512

/-- The registers of block BSlot. -/
def infoBSlot (o : Nat) : RegInfo :=
  if o = 0 then ⟨0, 0xffff0000, 0⟩
  else if o = 4 then ⟨0, 0xfff0fff, 0⟩
  else if o = 8 then ⟨0, 0xffffff, 0⟩
  else if o = 12 then ⟨0, 0, 0⟩
  else RegInfo.none

/-- The registers of block SYS. -/
def infoSYS (a : Nat) : RegInfo :=
  if a = 0x10 then ⟨0x20488084, 0, 0⟩
  else if a = 0x14 then ⟨0x9840c0fa, 0, 0⟩
  else if a = 0x40 then ⟨0, 0, 0⟩
  else if a = 0x44 then ⟨0, 0, 0⟩
  else if a = 0x48 then ⟨0, 0, 0⟩
  else if a = 0x80 then ⟨0, 0xff, 0⟩
  else if a = 0x84 then ⟨0, 0xff, 0⟩
  else if a = 0x88 then ⟨0, 0, 0⟩
  else if a = 0x8c then ⟨0, 0xffff, 0⟩
  else if a = 0x90 then ⟨0, 0, 0xffff⟩
  else RegInfo.none

/-- The registers of block PWR. -/
def infoPWR (a : Nat) : RegInfo :=
  if a = 0x10000 then ⟨0, 0, 0⟩
  else if a = 0x10004 then ⟨0xffff001f, 0xffff00ff, 0⟩
  else if a = 0x10008 then ⟨0, 0xffff, 0⟩
  else if a = 0x1000c then ⟨0, 0, 0⟩
  else if a = 0x10010 then ⟨0x23281d4c, 0xffffffff, 0⟩
  else if a = 0x10014 then ⟨0x5dc03e80, 0xffffffff, 0⟩
  else if a = 0x10018 then ⟨0xffff0000, 0, 0⟩
  else if a = 0x10028 then ⟨0, 0, 0⟩
  else if a = 0x1001c then ⟨0x66, 0x7ff, 0⟩
  else if a = 0x10020 then ⟨0x737d0000, 0xffff0000, 0⟩
  else if a = 0x10024 then ⟨0, 0, 0⟩
  else if inArr a 0x10104 4 24 then ⟨0, 0, 0⟩
  else RegInfo.none

/-- The registers of block BOOT. -/
def infoBOOT (a : Nat) : RegInfo :=
  if a = 0x20010 then ⟨0, 0, 0⟩
  else if a = 0x20014 then ⟨0, 0, 0⟩
  else if a = 0x20018 then ⟨0, 0, 0⟩
  else if a = 0x20000 then ⟨0, 0, 0⟩
  else if a = 0x20004 then ⟨0, 0, 0⟩
  else if a = 0x20008 then ⟨0, 0, 0⟩
  else if a = 0x2000c then ⟨0, 0, 0⟩
  else RegInfo.none

/-- The registers of block CW. -/
def infoCW (a : Nat) : RegInfo :=
  if a = 0x30000 then ⟨0, 1, 0⟩
  else if a = 0x30004 then ⟨0, 0, 0xfffe⟩
  else if a = 0x30008 then ⟨1, 0xffff, 0⟩
  else if a = 0x3000c then ⟨0, 0, 0⟩
  else if a = 0x30010 then ⟨0, 0, 0⟩
  else if a = 0x30014 then ⟨0, 0, 0⟩
  else RegInfo.none

/-- The registers of block PBA. -/
def infoPBA (a : Nat) : RegInfo :=
  if a = 0x40000 then ⟨0x4c60, 0, 0⟩
  else if a = 0x40004 then ⟨0, 0, 0⟩
  else if inArr a 0x40110 0x10 20 then ⟨defaultAllot ((a - 0x40100) / 0x10), 0, 0⟩
  else if inArr a 0x40114 0x10 20 then ⟨0, 0, 0⟩
  else if inArr a 0x40118 0x10 20 then ⟨0, 0, 0⟩
  else if inArr a 0x4011c 0x10 20 then ⟨0, 0, 3⟩
  else RegInfo.none

/-- The registers of block IN. -/
def infoIN (a : Nat) : RegInfo :=
  if inArr a 0x50000 0x40 2 then ⟨0x32000032, 0xffffffff, 0⟩
  else if inArr a 0x50004 0x40 2 then ⟨0, 0x3f000000, 0⟩
  else if inArr a 0x50080 0x40 2 then ⟨0x10000032, 0xf8ff00ff, 0⟩
  else if inArr a 0x50008 0x40 4 then ⟨0, 0, 0xe000000⟩
  else if inArr a 0x5000c 0x40 4 then ⟨0, 0, 0⟩
  else if inArr a 0x50010 0x40 4 then ⟨0, 0, 0⟩
  else if inArr a 0x50014 0x40 4 then ⟨0, 0, 0⟩
  else if a = 0x50100 then ⟨0, 0x1ffffff, 0⟩
  else if a = 0x50104 then ⟨0, 0x1ffff, 0⟩
  else if a = 0x50108 then ⟨0, 0, 0⟩
  else if a = 0x5010c then ⟨0, 0, 0⟩
  else if inArr2 a 0x51000 0x20 64 0x4 3 then ⟨0, 0x1ffffff, 0⟩
  else if inArr a 0x5100c 0x20 64 then ⟨0, 0x1fff0fff, 0⟩
  else if inArr a 0x51010 0x20 64 then ⟨0, 0xfc0007ff, 0⟩
  else if inArr a 0x51014 0x20 64 then ⟨0x4000000, 0, 0x8000000⟩
  else RegInfo.none

/-- The registers of block CMP. -/
def infoCMP (a : Nat) : RegInfo :=
  if inArr a 0x60000 0x40 8 then ⟨0xff4000 + 0x1000000 * ((a - 0x60000) / 0x40), 0x37ffff3f, 0⟩
  else if inArr a 0x60004 0x40 8 then ⟨0, 0x1fff0fff, 0⟩
  else if inArr a 0x60008 0x40 8 then ⟨0x10001, 0x1fff0fff, 0⟩
  else if inArr a 0x6000c 0x40 8 then ⟨0, 0x1fff1fff, 0⟩
  else if inArr a 0x60010 0x40 8 then ⟨0x10001, 0x1fff0fff, 0⟩
  else if inArr a 0x60014 0x40 8 then ⟨0, 0xffffff, 0⟩
  else if inArr a 0x60018 0x40 8 then ⟨0xffffff, 0xffffff, 0⟩
  else if inArr a 0x6001c 0x40 8 then ⟨0xffffff, 0xffffff, 0⟩
  else if inArr a 0x60300 0x4 8 then ⟨0, 0, 0⟩
  else if inArr a 0x60400 0x20 4 then ⟨0, 0x80000000, 0⟩
  else if inArr a 0x60404 0x20 4 then ⟨0, 0xffffff, 0⟩
  else if inArr a 0x60408 0x20 4 then ⟨0x2710, 0xc000ffff, 0⟩
  else if inArr a 0x6040c 0x20 4 then ⟨0, 0xffff, 0⟩
  else if inArr a 0x60410 0x20 4 then ⟨0xc0e60000, 0xffff0000, 0⟩
  else if inArr a 0x60414 0x20 4 then ⟨0x27100032, 0xffffffff, 0⟩
  else if inArr a 0x60418 0x20 4 then ⟨0, 0, 0⟩
  else if inArr a 0x6041c 0x20 4 then ⟨0, 0, 0⟩
  else if a = 0x60500 then ⟨0, 0, 0⟩
  else if a = 0x60504 then ⟨0, 0xc300003f, 0⟩
  else if a = 0x60508 then ⟨0, 0, 0x60000000⟩
  else RegInfo.none

/-- The registers of block BUNT. -/
def infoBUNT (a : Nat) : RegInfo :=
  if a < 0xC1000 && a % 0x400 < 0x200 then infoBSlot (a % 0x10)
  else if inArr a 0xc1000 0x4 16 then ⟨8, 0x8000007f, 0⟩
  else if a = 0xc1040 then ⟨0, 0, 0⟩
  else if inArr a 0xc1080 0x4 4 then ⟨0, 0, 0xffffffff⟩
  else if a = 0xc1090 then ⟨0x201, 0xf, 0x10000⟩
  else if a = 0xc1094 then ⟨0, 0, 0⟩
  else RegInfo.none

/-- The registers of block TOUCH. -/
def infoTOUCH (a : Nat) : RegInfo :=
  if inArr a 0x140000 0x100 4 then ⟨0, 0xfe000000, 0⟩
  else if inArr2 a 0x140004 0x100 4 0x4 4 then ⟨0, 0xff3f003f, 0⟩
  else if inArr a 0x140014 0x100 4 then ⟨0, 0x7f0000, 0⟩
  else if inArr a 0x140018 0x100 4 then ⟨0x12c0078, 0xffffffff, 0⟩
  else if inArr a 0x14001c 0x100 4 then ⟨0xc0040, 0xffffff, 0⟩
  else if inArr a 0x140020 0x100 4 then ⟨6, 0x3ff000f, 0⟩
  else if inArr a 0x140024 0x100 4 then ⟨0, 0xffff, 0⟩
  else if inArr a 0x140040 0x100 4 then ⟨0, 0, 0⟩
  else if inArr a 0x140044 0x100 4 then ⟨0, 0, 0⟩
  else RegInfo.none

/-- The registers of block CAL. -/
def infoCAL (a : Nat) : RegInfo :=
  if a = 0x180000 then ⟨0, 0, 0⟩
  else if a = 0x180004 then ⟨0, 0, 0⟩
  else RegInfo.none

/-- The registers of block SENSE. -/
def infoSENSE (a : Nat) : RegInfo :=
  if a = 0x190000 then ⟨0xffff, 0xffff, 0⟩
  else if inArr a 0x190010 0x4 4 then ⟨0xd6b03e8, 0xdfffffff, 0⟩
  else if inArr a 0x190020 0x4 4 then ⟨0x186a0, 0xfffff, 0⟩
  else if inArr a 0x190030 0x4 4 then ⟨0x3e8, 0xffff, 0⟩
  else if inArr a 0x190040 0x4 4 then ⟨0, 0, 0⟩
  else if inArr a 0x190100 0x10 16 then ⟨0x10000000, 0, 0x8000000⟩
  else if inArr a 0x190104 0x10 16 then ⟨0, 0, 0⟩
  else if inArr a 0x190108 0x10 16 then ⟨0, 0, 0⟩
  else if inArr a 0x19010c 0x10 16 then ⟨0, 0, 0⟩
  else RegInfo.none

/-- The registers of block ETCH. -/
def infoETCH (a : Nat) : RegInfo :=
  if a = 0x1c0000 then ⟨0, 0, 0x2c000000⟩
  else if a = 0x1c0004 then ⟨0, 0, 0⟩
  else if a = 0x1c0008 then ⟨0, 0, 0⟩
  else if a = 0x1c000c then ⟨0, 0, 0⟩
  else if a = 0x1c0010 then ⟨0, 0, 0⟩
  else if a = 0x1c0014 then ⟨0, 0, 0⟩
  else RegInfo.none

/-- The registers of block TILE. -/
def infoTILE (a : Nat) : RegInfo :=
  if a = 0x200000 then ⟨0, 1, 0⟩
  else if a = 0x200004 then ⟨0, 0, 3⟩
  else if a = 0x200008 then ⟨0, 0, 0⟩
  else if a = 0x20000c then ⟨0, 0, 1⟩
  else if a = 0x200010 then ⟨0, 0, 0⟩
  else if inArr a 0x200020 0x4 4 then ⟨0, 0, 0⟩
  else if a = 0x200030 then ⟨0, 0, 0⟩
  else if inArr a 0x200040 0x4 6 then ⟨0, 0, 0⟩
  else RegInfo.none

/-- The registers of block HEAD. -/
def infoHEAD (o : Nat) : RegInfo :=
  if o = 0x100 then ⟨1, 0xf3f, 0⟩
  else if o = 0x104 then ⟨0, 0, 0x80000000⟩
  else if o = 0x0 then ⟨0, 0xf83f00ff, 0⟩
  else if o = 0x4 then ⟨0, 0, 0⟩
  else if o = 0x8 then ⟨0, 0, 0x20⟩
  else if o = 0x10 then ⟨0, 0x1ffffff, 0⟩
  else if o = 0x14 then ⟨0, 0x1ffffff, 0⟩
  else if o = 0x20 then ⟨0, 0x3ffff, 0⟩
  else if o = 0x28 then ⟨0, 0xe7ff07ff, 0⟩
  else if o = 0x2c then ⟨0x27100032, 0xffffffff, 0⟩
  else if o = 0x30 then ⟨0, 0xffff, 0⟩
  else if o = 0x34 then ⟨0, 0, 0x80000000⟩
  else if o = 0x24 then ⟨0, 0x3f, 0⟩
  else if inArr o 0x200 4 32 then ⟨0, 0, 0⟩
  else RegInfo.none

/-- The registers of block LINK. -/
def infoLINK (n o : Nat) : RegInfo :=
  if o = 0x20 then ⟨0x7d, 0xe000ffff, 0⟩
  else if o = 0x24 then ⟨0, 0x1fff1fff, 0⟩
  else if o = 0x28 then ⟨0xa, 0x1fff, 0⟩
  else if o = 0x2c then ⟨0, 0x83, 0⟩
  else if o = 0x30 then ⟨0x800, 0x801f1f00, 0⟩
  else if o = 0x4 then ⟨0, 0, 0⟩
  else if o = 0x8 then ⟨0, 0, 0⟩
  else if o = 0xc then ⟨0, 0, 0⟩
  else if inArr o 0x100 4 16 then ⟨0, 0, 0⟩
  else if o = 0x40 then ⟨0x20000, 0, 0⟩
  else if o = 0x44 then ⟨0, 0, 0⟩
  else if o = 0x48 then ⟨0x8080000, 0x3f3f0000, 0⟩
  else if o = 0x4c then ⟨0x1F00000 + 0x10000 * n, 0x1ffffff, 0⟩
  else if o = 0x50 then ⟨0, 0, 0⟩
  else RegInfo.none

/-- R11, R271, R272: the register at internal address `a`. -/
def regInfo (a : Nat) : RegInfo :=
  match a / 0x10000 with
  | 0 => infoSYS a
  | 1 => infoPWR a
  | 2 => infoBOOT a
  | 3 => infoCW a
  | 4 => infoPBA a
  | 5 => infoIN a
  | 6 => infoCMP a
  | 12 => infoBUNT a
  | 20 => infoTOUCH a
  | 24 => infoCAL a
  | 25 => infoSENSE a
  | 28 => infoETCH a
  | 32 => infoTILE a
  | 8 | 9 | 10 | 11 => infoHEAD (a % 0x10000)
  | 16 => if a % 0x10000 < 0x8000 then infoLINK (a % 0x10000 / 0x1000) (a % 0x1000) else RegInfo.none
  | _ => RegInfo.none

/-- The Reset column value of the register at `a`. -/
def regReset (a : Nat) : Word := BitVec.ofNat 32 (regInfo a).reset

end Sys2Proof.Machine
end

