-- ==== Sys2Proof/Machine/Ops.lean ====
section
/-! DEFINITION. The named operations over State: sparse canonical memories, register fields, interrupt causes,
free values, byte orders. -/

namespace Sys2Proof.Machine

/-! ### Sparse lists in canonical form: keys strictly rising, no entry equal to its default -/

/-- The value at `k`: the entry's, or the default `d k` of an unlisted key. -/
def assocGet {α : Type} (d : Nat → α) (l : List (Nat × α)) (k : Nat) : α :=
  match l with
  | [] => d k
  | (a, v) :: t => if a = k then v else assocGet d t k

/-- Insert before the first larger key. -/
def assocInsert {α : Type} (l : List (Nat × α)) (k : Nat) (v : α) : List (Nat × α) :=
  match l with
  | [] => [(k, v)]
  | (a, w) :: t => if k < a then (k, v) :: (a, w) :: t else (a, w) :: assocInsert t k v

/-- Write `v` at `k`; writing the default removes the entry. -/
def assocSet {α : Type} [DecidableEq α] (d : Nat → α) (l : List (Nat × α)) (k : Nat) (v : α) : List (Nat × α) :=
  let l' := l.filter (fun e => e.1 != k)
  if v = d k then l' else assocInsert l' k v

/-- The canonical form. -/
def assocWf {α : Type} [DecidableEq α] (d : Nat → α) : List (Nat × α) → Bool
  | [] => true
  | (a, v) :: t => decide (v ≠ d a) && t.all (fun e => a < e.1) && assocWf d t

/-- What an unlisted byte of a memory reads as: 0 (log entry 6). -/
def zeroByte (_ : Nat) : Byte := 0

def memGet (m : List Host.Cell) (a : Nat) : Byte := assocGet zeroByte m a
def memSet (m : List Host.Cell) (a : Nat) (b : Byte) : List Host.Cell := assocSet zeroByte m a b

/-- Store bytes at rising addresses. -/
def memPut (m : List Host.Cell) (a : Nat) : List Byte → List Host.Cell
  | [] => m
  | b :: t => memPut (memSet m a b) (a + 1) t

/-- `n` bytes from address `a`. -/
def memBytes (m : List Host.Cell) (a n : Nat) : List Byte := (List.range n).map (fun i => memGet m (a + i))

abbrev Memory := List Host.Cell

/-- The canonical form of a byte memory. -/
abbrev Memory.wf (m : Memory) : Bool := assocWf zeroByte m

/-! ### Byte orders -/

/-- R12: little-endian value of a byte list. -/
def leNat : List Byte → Nat
  | [] => 0
  | b :: t => b.toNat + 256 * leNat t

/-- R13: big-endian value of a byte list. -/
def beNat (l : List Byte) : Nat := l.foldl (fun n b => n * 256 + b.toNat) 0

/-- `n` little-endian bytes of `v`. -/
def leBytes : Nat → Nat → List Byte
  | 0, _ => []
  | n + 1, v => BitVec.ofNat 8 v :: leBytes n (v / 256)

/-- `n` big-endian bytes of `v` (R13). -/
def beBytes (n v : Nat) : List Byte := (leBytes n v).reverse

/-- R13, R107: the four bytes of a word in the order they travel. -/
def wordBytes (w : Word) : List Byte := beBytes 4 w.toNat

/-- The words a byte list carries, most significant byte first; a short tail is dropped. -/
def wordsOf : List Byte → List Word
  | a :: b :: c :: d :: t => BitVec.ofNat 32 (beNat [a, b, c, d]) :: wordsOf t
  | _ => []

/-! ### Bit fields -/

/-- Bits `[lo + w - 1 : lo]` of a number. -/
def bitsOf (n lo w : Nat) : Nat := n / 2 ^ lo % 2 ^ w

/-- Bits `[lo + n - 1 : lo]` of a word. -/
def getBits (x : Word) (lo n : Nat) : Nat := bitsOf x.toNat lo n

/-- A word with ones in bits `[lo + n - 1 : lo]`. -/
def maskWord (lo n : Nat) : Word := BitVec.ofNat 32 ((2 ^ n - 1) * 2 ^ lo)

/-- `x` with `v` (modulo its width) in bits `[lo + n - 1 : lo]`. -/
def putBits (x : Word) (lo n v : Nat) : Word :=
  (x &&& ~~~ maskWord lo n) ||| BitVec.ofNat 32 (v % 2 ^ n * 2 ^ lo)

/-- Two's complement value of an `n`-bit number. -/
def signedOf (n v : Nat) : Int := if 2 ^ n ≤ 2 * v then (v : Int) - 2 ^ n else v

/-- The `n`-bit two's complement code of an integer. -/
def codeOf (n : Nat) (v : Int) : Nat := (v % (2 ^ n : Nat)).toNat

/-- `v` kept within `lo` and `hi`. -/
def clampInt (lo hi v : Int) : Int := if v < lo then lo else if hi < v then hi else v

/-! ### Registers -/

/-- The stored value of a register. -/
def State.rd (s : State) (a : Nat) : Word := assocGet regReset s.regs a

/-- Store a whole register. -/
def State.wr (s : State) (a : Nat) (w : Word) : State := { s with regs := assocSet regReset s.regs a w }

/-- A field's value. -/
def State.fld (s : State) (f : Field) : Nat := getBits (s.rd f.addr) f.lo f.width

/-- A one-bit field as a truth value. -/
def State.bit (s : State) (f : Field) : Bool := s.fld f != 0

/-- Set a field, leaving the register's other bits. -/
def State.setFld (s : State) (f : Field) (v : Nat) : State := s.wr f.addr (putBits (s.rd f.addr) f.lo f.width v)

def State.setBit (s : State) (f : Field) (b : Bool) : State := s.setFld f (if b then 1 else 0)

/-- Add to a counter field that saturates at its maximum. -/
def State.satAdd (s : State) (f : Field) (n : Nat) : State := s.setFld f (min (2 ^ f.width - 1) (s.fld f + n))

/-- Add to a counter field that wraps. -/
def State.wrapAdd (s : State) (f : Field) (n : Nat) : State := s.setFld f (s.fld f + n)

/-! ### Free values -/

/-- A value the manual leaves open, and the state with the draw counted (log entry 1). -/
def State.draw (s : State) : Nat × State := (Config.freeValue s.free, { s with free := s.free + 1 })

/-! ### Phases and power -/

/-- Table 3-6: BOOT_STATUS.PHASE. -/
def State.phase (s : State) : Nat := s.fld F.BOOT_STATUS_PHASE

/-- R21, R262: the runtime owns the device (phase RUNTIME). -/
def State.runtime (s : State) : Bool := s.phase == 5

/-- R340: Scribe has halted after the commit instant: the runtime does nothing more. -/
def State.runtimeDead (s : State) : Bool := s.runtime && s.boot.halted

/-- R340, R831: the runtime does its own work: calibration stepping, table loads, log appends, record retirement, replies, levels. -/
def State.runtimeWorks (s : State) : Bool := s.runtime && !s.boot.halted

/-- Table 5-8: the POWER code of the state word; 4 in crank ride-through. -/
def State.powerCode (s : State) : Nat := if s.bit F.PWR_STATE_RIDE then 4 else s.fld F.PWR_STATE_STATE

/-- R841: the state of domain PDn. -/
def State.pdState (s : State) (n : Nat) : Nat := s.fld (F.PWR_PD_STATE n)

/-- R839: domain PDn is ON; PD00 is the AO domain, always on. -/
def State.pdOn (s : State) (n : Nat) : Bool := n == 0 || s.pdState n == 2

/-! ### Interrupt causes (R241 to R246) -/

/-- R245: the causes that stay 0 before the commit instant: CAL, WAKE, TOUCH, THERMAL, GPIO. -/
def lateCause (k : Nat) : Bool := k == 11 || k == 8 || k == 2 || k == 14 || k == 15

/-- Set cause `k` of CW_IRQ_STATUS. -/
def State.raise (s : State) (k : Nat) : State :=
  if lateCause k && !s.runtime then s else s.setFld ⟨0x30004, k, 1⟩ 1

def causeSpace := 1
def causeTouch := 2
def causeTelltale := 3
def causeSupply := 4
def causeLink := 5
def causePlate := 6
def causeBudget := 7
def causeWake := 8
def causeBoot := 9
def causePresence := 10
def causeCal := 11
def causeEtch := 12
def causeTorn := 13
def causeThermal := 14
def causeGpio := 15

/-- What becomes of a row's effect: nothing in OFF or while PORST_N is low. -/
def State.ifLive (s t : State) : State := if s.off then s else t

/-- R29, R30: an instant at which an event that is tied to no head takes effect. -/
def State.edge (s : State) : State := { s with boot := { s.boot with edges := s.boot.edges + 1 } }

/-- R112: enter a download phase; a change raises the BOOT cause. -/
def State.setPhase (s : State) (p : Nat) : State :=
  if s.phase = p then s else (s.setFld F.BOOT_STATUS_PHASE p).raise causeBoot

end Sys2Proof.Machine
end

