-- ==== Sys2Proof/Machine/Operands.lean ====
section
/-! DEFINITION. Operand forms: command parameter words and their fields, the BAD_PARAM index (R249), byte-string
words (R107), the kinds of transaction tail. -/

namespace Sys2Proof.Machine

/-- Parameter word `i`; a word that was not sent reads 0. -/
def par (p : List Word) (i : Nat) : Word := p.getD i 0

/-- Bits `[lo + n - 1 : lo]` of parameter word `i`. -/
def parBits (p : List Word) (i lo n : Nat) : Nat := getBits (par p i) lo n

/-- R253: the unit number or the unit mask of parameter word 0. -/
def parUnit (p : List Word) : Nat := parBits p 0 24 8

/-- R932: word `i` has a bit outside `mask` set. -/
def strayBits (p : List Word) (i : Nat) (mask : Nat) : Bool := (par p i).toNat &&& (0xFFFFFFFF - mask) != 0

/-- Index `i` when the check on word `i` fails. -/
def failAt (i : Nat) (bad : Bool) : List Nat := if bad then [i] else []

/-- The smallest of a list of indices. -/
def minIndex : List Nat → Option Nat
  | [] => none
  | i :: t => match minIndex t with
    | none => some i
    | some j => some (min i j)

/-- R249: the index of a BAD_PARAM: 0xFFFF for a wrong LENGTH, otherwise the lowest failing word. -/
def badIndex (lenOk : Bool) (fails : List Nat) : Option Nat := if lenOk then minIndex fails else some 0xFFFF

/-- R107: the bytes of byte-string words, first byte first. -/
def byteString (p : List Word) : List Byte := p.flatMap wordBytes

end Sys2Proof.Machine
end

