-- ==== Sys2Proof/Machine/Command.lean ====
section
/-! DEFINITION. How a command starts, is judged and is answered (R232, R233, R239, R247 to R262): shared by every
opcode. -/

namespace Sys2Proof.Machine

/-! ### Status codes (Table 5-7) -/

def stOk := 0x00
def stAccepted := 0x01
def stBusy := 0x02
def stStateRefused := 0x03
def stBadParam := 0x04
def stPresenceRequired := 0x06
def stCrcError := 0x07
def stLocked := 0x08
def stDeferred := 0x09
def stDomainLost := 0x0A
def stCheckFailed := 0x0C
def stTimeout := 0x0D
def stOverrun := 0x0E
def stUnknownOpcode := 0x0F
def stOvercommit := 0x10
def stCancelled := 0x11

/-! ### Replies -/

/-- R232, R243: post a reply at the end of the reply queue. -/
def State.post (s : State) (e : CmdEntry) (status : Nat) (payload : List Word) : State :=
  { s with cw := { s.cw with replyQ := s.cw.replyQ ++ [⟨e.tag, BitVec.ofNat 8 status, payload, none⟩] } }

/-- Table 5-8: the state word. -/
def State.stateWord (s : State) (cls idx st : Nat) : Word :=
  BitVec.ofNat 32 (s.phase % 16 * 2 ^ 28 + s.powerCode % 16 * 2 ^ 24 + cls % 256 * 2 ^ 16 + idx % 256 * 2 ^ 8 + st % 256)

/-- What executing a command gives: a reply at once, or a reply that is posted later. -/
inductive Res where
  | done (s : State) (status : Nat) (payload : List Word)
  | wait (s : State) (w : Waiting)

/-- OK with no payload. -/
def Res.ok (s : State) : Res := .done s stOk []

/-- R249: BAD_PARAM with the index of the offending word. -/
def Res.bad (s : State) (i : Nat) : Res := .done s stBadParam [BitVec.ofNat 32 (i * 0x10000)]

/-- R240: STATE_REFUSED with its state word. -/
def Res.refuse (s : State) (cls idx st : Nat) : Res := .done s stStateRefused [s.stateWord cls idx st]

/-- R49: STATE_REFUSED because domain PDn is not on. -/
def Res.domainOff (s : State) (n : Nat) : Res := Res.refuse s 0x04 n (s.pdState n)

/-- A status without payload (R250). -/
def Res.stat (s : State) (status : Nat) : Res := .done s status []

/-! ### Starting a command -/

/-- R232, R261, R860, R825, R340: the owner can start the next command: none is executing, a reply entry is free, the device
is in RUN or IDLE, no entry is in progress, it is not parked, and the runtime has not halted. -/
def State.canStart (s : State) : Bool :=
  !s.off && s.cw.running.isNone && decide (s.cw.replyQ.length < 16) && decide (s.fld F.PWR_STATE_STATE ≤ 1) &&
    !s.bit F.PWR_STATE_ENTERING && !s.bit F.PWR_STATE_PARKED && !s.runtimeDead

/-- R232, R244: the command at the head leaves the queue; leaving a full queue sets SPACE. -/
def State.popCmd (s : State) : State :=
  let s' := { s with cw := { s.cw with cmdQ := s.cw.cmdQ.tail } }
  if s.cw.cmdQ.length = 16 then s'.raise causeSpace else s'

/-- Post the reply of a finished execution, or keep the command executing. -/
def finish (e : CmdEntry) : Res → State
  | .done s status payload => s.post e status payload
  | .wait s w => { s with cw := { s.cw with running := some ⟨e, w⟩ } }

/-- R232: start the command at the head of the queue when `sel` picks it; otherwise nothing happens (log entry 4). -/
def startCmd (s : State) (sel : CmdEntry → Bool) (run : State → CmdEntry → Res) : State :=
  match s.cw.cmdQ with
  | [] => s
  | e :: _ => if s.canStart && sel e then finish e (run s.popCmd e) else s

/-- R281 and the rows that end a waiting command: post the reply of the executing command and release it; a runtime that has halted answers
no further command (R340). -/
def State.finishRunning (s : State) (status : Nat) (payload : List Word) : State :=
  match s.cw.running with
  | none => s
  | some r => if s.runtimeDead then s else { s with cw := { s.cw with running := none } }.post r.cmd status payload

/-- A packet that passed its CRC and carries opcode `op` (R216, R247). -/
def isOp (op : Nat) (e : CmdEntry) : Bool := e.crcOk && e.opcode.toNat == op

/-- The same with sub-operation `sub` in `[lo + n - 1 : lo]` of parameter word 0. -/
def isSubOp (op lo n sub : Nat) (e : CmdEntry) : Bool := isOp op e && parBits e.params 0 lo n == sub

/-- R239, R248, R249: judge LENGTH and parameter fields, then run. -/
def judged (s : State) (lenOk : Bool) (fails : List Nat) (run : Res) : Res :=
  match badIndex lenOk fails with
  | some i => Res.bad s i
  | none => run

/-- R258 to R262: a command that only the runtime executes. `unitFails` are the LENGTH and unit-number checks Burin
makes too; `fails` the runtime's further checks; `ride` says whether crank ride-through permits it. -/
def runtimeCmd (s : State) (lenOk : Bool) (unitFails fails : List Nat) (ride : Bool) (run : Res) : Res :=
  if s.runtime then
    judged s lenOk (unitFails ++ fails)
      (if !ride && s.bit F.PWR_STATE_RIDE then Res.refuse s 0 0 0 else run)
  else judged s lenOk unitFails (Res.refuse s 0 0 0)

/-- R247: the opcodes of the catalogue. -/
def knownOpcode (op : Nat) : Bool :=
  op ≤ 0x03 || op == 0x0A || op == 0x0B || (0x10 ≤ op && op ≤ 0x15) || (0x20 ≤ op && op ≤ 0x23) ||
  (0x30 ≤ op && op ≤ 0x32) || (0x40 ≤ op && op ≤ 0x45) || op == 0x50 || (0x52 ≤ op && op ≤ 0x54) ||
  (0x60 ≤ op && op ≤ 0x63) || (0x70 ≤ op && op ≤ 0x72) || (0x80 ≤ op && op ≤ 0x84) ||
  (0x90 ≤ op && op ≤ 0x92) || (0xA0 ≤ op && op ≤ 0xA2) || (0xB0 ≤ op && op ≤ 0xB2) ||
  op == 0xC0 || op == 0xC1 || (0xD0 ≤ op && op ≤ 0xD3)

end Sys2Proof.Machine
end

