-- ==== Sys2Proof/Machine/Flags.lean ====
section
/-! DEFINITION. Status computed from the state: the CW interrupt status and CW_IRQ_N (R241, R243), the snapshot
(Table 5-5), the registers that show queues, and error counters. -/

namespace Sys2Proof.Machine

/-- R243: CW_IRQ_STATUS with its REPLY cause. -/
def State.irqStatus (s : State) : Word :=
  putBits (s.rd 0x30004) 0 1 (if s.cw.replyQ.isEmpty then 0 else 1)

/-- R241: CW_IRQ_N is low. -/
def State.irqLow (s : State) : Bool := s.irqStatus &&& s.rd 0x30008 != 0

/-- The register as software reads it: the fields that show a queue (REPLY, LOG_PENDING, DEPTH) are computed. -/
def State.readReg (s : State) (a : Nat) : Word :=
  if a = 0x30004 then s.irqStatus
  else if a = 0x44 then putBits (s.rd a) 12 4 s.pres.events.length
  else if a = 0x20008 then putBits (s.rd a) 0 13 s.boot.commitQ.length
  else s.rd a

/-- R231: free bytes of the 16 KiB push buffer. -/
def State.pushFree (s : State) : Nat := 16384 - (s.cw.pushBuf.map (fun i => i.data.length)).sum

/-- A region handle is open for pushes (Table 10-7 state OPEN). -/
def State.pushOpen (s : State) (r : Nat) : Bool :=
  match s.regions[r]? with
  | some g => g.st == 1
  | none => false

/-- R229, Table 5-5: the 4-byte snapshot. -/
def State.snapshot (s : State) : Nat :=
  let free := 16 - s.cw.cmdQ.length
  2 * 2 ^ 30 + (if free = 0 then 1 else 0) * 2 ^ 29 + free * 2 ^ 24 + s.cw.replyQ.length % 32 * 2 ^ 19 +
    (if s.runtime then 1 else 0) * 2 ^ 18 + (if s.regions.any (fun g => g.st == 1) then 1 else 0) * 2 ^ 17 +
    (if s.irqLow then 1 else 0) * 2 ^ 16 + min 255 (s.pushFree / 64) * 2 ^ 8 + s.cw.lastErr % 16 * 2 ^ 4 +
    s.cw.seq % 16

end Sys2Proof.Machine
end

