-- ==== Sys2Proof/Machine/Plate.lean ====
section
/-! DEFINITION. The Plate and the Period Budget Arbiter (chapters 07 and 09): addressing, requests, credit, crossbar
grants with ECC, refresh, the half power gates, BUDGET_SET and BUDGET_READ. -/

namespace Sys2Proof.Machine

/-! ### Addressing (R286, R287) -/

/-- The Plate offset of the Plate word that holds offset `a`. -/
def plateWordOf (a : Nat) : Nat := a / 32 * 32

/-- Table 7-1: the bank of offset `a`. -/
def plateBank (a : Nat) : Nat := 32 * (a / 2 ^ 24 % 2) + a / 2 ^ 8 % 32

/-- Table 7-1: the DRAM row of offset `a`. -/
def plateRow (a : Nat) : Nat := a / 2 ^ 16 % 256

/-- Table 7-1: the word within its bank of offset `a`, W = 8 × A[23:13] + A[7:5]. -/
def plateIndex (a : Nat) : Nat := 8 * (a / 2 ^ 13 % 2048) + a / 32 % 8

/-- R294: the domain of the half that holds offset `a`. -/
def plateDomain (a : Nat) : Nat := if a < 0x1000000 then 7 else 8

/-- R295, R297: the half that holds offset `a` is powered and ready. -/
def State.halfOn (s : State) (a : Nat) : Bool :=
  if a < 0x1000000 then s.bit F.PLATE_CTRL_LO_READY else s.bit F.PLATE_CTRL_HI_READY

/-- R324, R328: the bank that holds offset `a` has a fault beyond repair. -/
def State.bankFailed (s : State) (a : Nat) : Bool :=
  s.fld ⟨0x200020 + 4 * (plateBank a / 16), 2 * (plateBank a % 16), 2⟩ == 3

/-- R304: the bits of Plate word `w` that are wrong now, 256 data bits and 10 check bits: those that failed since it was written, and
in a bank with a fault beyond repair whatever its failed cells make of it (R328; log entry 105). -/
def State.wrongBits (s : State) (w : Nat) : Nat :=
  let m := assocGet (fun _ => 0) s.plate.flips w
  if s.halfOn w && s.bankFailed w then m ^^^ Config.failedRow w s.free % 2 ^ 266 else m

/-- R305: the code corrects a mask of at most one wrong bit; every other mask it flags as uncorrectable (log entry 11). -/
def correctable (m : Nat) : Bool := m &&& (m - 1) == 0

/-- The byte stored at offset `a`, as written. -/
def State.storedByte (s : State) (a : Nat) : Byte :=
  let g := assocGet (fun _ => 0) s.plate.gone (plateWordOf a)
  if g = 0 then memGet s.plate.mem a else Config.lostByte g a

/-- R305: the byte at offset `a` as every read delivers it: corrected where the word's error is correctable, and as stored where it is
not. A half that is off holds nothing and gives zeros (R295). -/
def State.plateByte (s : State) (a : Nat) : Byte :=
  let m := s.wrongBits (plateWordOf a)
  if correctable m then s.storedByte a else s.storedByte a ^^^ BitVec.ofNat 8 (m / 2 ^ (8 * (a % 32)))

def State.plateBytes (s : State) (a n : Nat) : List Byte := (List.range n).map (fun i => s.plateByte (a + i))

/-- Entries of Plate words other than those that `n` bytes from offset `a` touch. -/
def untouched (a n : Nat) (l : List (Nat × Nat)) : List (Nat × Nat) :=
  l.filter (fun e => !(decide (plateWordOf a ≤ e.1) && decide (e.1 < a + n)))

/-- Write bytes into the Plate, with fresh check bits for every word touched (R304). -/
def State.plateWrite (s : State) (a : Nat) (d : List Byte) : State :=
  { s with plate := { s.plate with
      mem := memPut s.plate.mem a d
      flips := untouched a d.length s.plate.flips
      gone := untouched a d.length s.plate.gone } }

/-! ### PBA accounting (R395, R396) -/

/-- R396: set a client flag; a change from 0 to 1 raises BUDGET. -/
def State.setBudgetFlag (s : State) (f : Field) : State :=
  if s.bit f then s else (s.setFld f 1).raise causeBudget

/-- R395: one delayed period of client `c`. -/
def State.countDelay (s : State) (c : Nat) : State :=
  (s.satAdd (F.PBA_DELAY_DELAY_CNT c) 1).setBudgetFlag (F.PBA_FLAGS_DELAYED c)

/-- R395: one refused request or discarded line of client `c`. -/
def State.countRefuse (s : State) (c : Nat) : State :=
  (s.satAdd (F.PBA_REFUSE_REFUSE_CNT c) 1).setBudgetFlag (F.PBA_FLAGS_REFUSED c)

/-- Table 9-1: class G clients. -/
def isClassG (c : Nat) : Bool := 1 ≤ c && c ≤ 5

/-- Table 9-1: class E clients. -/
def isClassE (c : Nat) : Bool := 15 ≤ c && c ≤ 19

/-- R384: the PBA judges only clients of class D and E. -/
def State.credit (s : State) (c : Nat) : Nat := s.pba.credit.toList.getD c 0

def State.setCredit (s : State) (c n : Nat) : State :=
  { s with pba := { s.pba with credit := s.pba.credit.setIfInBounds c n } }

def State.waitingOf (s : State) (c : Nat) : List ReqBody := s.pba.waiting.toList.getD c []
def State.presentedOf (s : State) (c : Nat) : List ReqBody := s.pba.presented.toList.getD c []

def State.setWaiting (s : State) (c : Nat) (l : List ReqBody) : State :=
  { s with pba := { s.pba with waiting := s.pba.waiting.setIfInBounds c l } }

def State.setPresented (s : State) (c : Nat) (l : List ReqBody) : State :=
  { s with pba := { s.pba with presented := s.pba.presented.setIfInBounds c l } }

/-- R381: the PBA is running. -/
def State.pbaRunning (s : State) : Bool := s.bit F.PBA_STATUS_RUNNING

/-! ### Client buffers (R389, R464) -/

/-- Cut a list into pieces of `k` elements, `n` pieces at most. -/
def pieces {α : Type} (k : Nat) : Nat → List α → List (List α)
  | 0, _ => []
  | n + 1, l => if l.isEmpty then [] else l.take k :: pieces k n (l.drop k)

/-- R933: the whole Plate words of a line at Plate offset `a`, the last one filled with zeros. -/
def lineWords (a : Nat) (bytes : List Byte) : List BufWord :=
  let n := (bytes.length + 31) / 32
  (pieces 32 n (bytes ++ List.replicate (32 * n - bytes.length) 0)).mapIdx (fun i d => ⟨a + 32 * i, d⟩)

/-- Bytes waiting in a buffer (R389). -/
def bufBytes (l : List BufWord) : Nat := (l.map (fun w => w.data.length)).sum

/-- R443, R447: the next `n` black rows enter the elastic buffer while it has room for a whole one. -/
def State.refillRows : Nat → State → State
  | 0, s => s
  | n + 1, s =>
    match s.black with
    | [] => s
    | r :: t =>
      if bufBytes s.elastic + r.row.length ≤ 65536 then
        State.refillRows n { s with
          elastic := s.elastic ++ lineWords r.addr r.row
          black := if r.rows ≤ 1 then t else { r with addr := r.addr + r.pitch, rows := r.rows - 1 } :: t }
      else s

/-- R443, R447: black rows that wait enter the elastic buffer as far as it has room. -/
def State.refill (s : State) : State := State.refillRows ((s.black.map (fun r => r.rows)).sum) s

/-- The bytes an accepted push puts into its region's staging area, cut at Plate words: the first word and the rest. -/
def pushHead (i : PushItem) : BufWord × PushItem :=
  let n := 32 - i.addr % 32
  (⟨i.addr, i.data.take n⟩, { i with addr := i.addr + n, data := i.data.drop n })

/-- The next Plate word of client `c`'s own buffer. -/
def State.bufferHead (s : State) (c : Nat) : Option BufWord :=
  if c = 6 then s.histBuf.head?.map (·.2)
  else if c = 15 then s.wbBuf.head?
  else if c = 16 then s.elastic.head?
  else if c = 17 then
    match s.cw.pushBuf with
    | [] => none
    | i :: _ => some (pushHead i).1
  else none

/-- R389: the bytes of the next Plate word leave the buffer. -/
def State.bufferPop (s : State) (c : Nat) : State :=
  if c = 6 then { s with histBuf := s.histBuf.tail }
  else if c = 15 then { s with wbBuf := s.wbBuf.tail }
  else if c = 16 then { s with elastic := s.elastic.tail }.refill
  else if c = 17 then
    match s.cw.pushBuf with
    | [] => s
    | i :: t =>
      let r := (pushHead i).2
      { s with cw := { s.cw with pushBuf := if r.data.isEmpty then t else r :: t } }
  else s

/-- The action a request stands for now: a `drain` takes the head of the client's buffer. The words of commands and copies are made by
those themselves. -/
def State.resolve (s : State) (c : Nat) : ReqBody → Option ReqBody
  | .drain => match s.bufferHead c with
    | none => none
    | some w => some (.write w.addr w.data)
  | .window => none
  | .copy _ => none
  | r => some r

def reqAddr : ReqBody → Nat
  | .read a => a
  | .write a _ => a
  | _ => 0

/-- R385: a request costs 1 slot, a partial write 2. -/
def reqCost : ReqBody → Nat
  | .write _ d => if d.length = 32 then 1 else 2
  | _ => 1

/-- A drain's bytes leave the buffer when the request is admitted. -/
def State.popIfDrain (s : State) (c : Nat) (r : ReqBody) : State :=
  match r with
  | .drain => s.bufferPop c
  | _ => s

/-- R385, R391: present `r` (resolved to `a`): deduct its cost and present it. -/
def State.present (s : State) (c : Nat) (r a : ReqBody) : State :=
  let s1 := s.popIfDrain c r
  let s2 := if isClassG c then s1 else s1.setCredit c (s1.credit c - reqCost a)
  s2.setPresented c (s2.presentedOf c ++ [a])

/-- R295: one request to a half that is off. -/
def State.countOff (s : State) : State := (s.satAdd F.PLATE_OFF_HIT_COUNT 1).setFld F.PLATE_OFF_HIT_STICKY 1

/-- R295: a request to a half that is off is not judged: a read delivers zeros, a write is discarded. -/
def State.offHit (s : State) (c : Nat) (r a : ReqBody) : State :=
  let s1 := (s.popIfDrain c r).countOff
  match a with
  | .read x => { s1 with plate := { s1.plate with delivered := [(c, plateWordOf x, List.replicate 32 0)] } }
  | _ => s1

/-- R595: a refused history write of head `h` at Plate word `w` is listed, up to 64 in a frame; a 65th sets OD_SKIP. -/
def State.listRefused (s : State) (h w : Nat) : State :=
  let x := s.heads.toList.getD h HeadState.idle
  let l := x.od.words[0]
  let y := if l.length < 64 then { x.od with words := x.od.words.set 0 (l ++ [w]) } else { x.od with skip := x.od.skip.set 0 true }
  let s1 := { s with heads := s.heads.setIfInBounds h { x with od := y } }
  if l.length < 64 then s1 else s1.setFld (F.HEAD_OD_OD_SKIP h) 1

/-- R388: refuse a class D request; the word is kept for its client's outcome (Table 9-1). A history write leaves its buffer
and is listed. -/
def State.refuseReq (s : State) (c : Nat) (r a : ReqBody) : State :=
  let s1 := s.countRefuse c
  match c, r, s.histBuf with
  | 6, .drain, (h, w) :: _ => (s1.bufferPop 6).listRefused h (plateWordOf w.addr)
  | _, _, _ => { s1 with pba := { s1.pba with refused := s1.pba.refused ++ [(c, plateWordOf (reqAddr a))] } }

/-- R314: before the commit instant only scan-out and capture use the Plate, for the stand-alone capture buffers. -/
def State.mayUse (s : State) (c : Nat) : Bool := s.runtime || isClassG c || c == 16

/-- R385 to R388, R295: the PBA judges a request of client `c`. A client presents at most 8 requests at a time. -/
def State.judgeReq (s : State) (c : Nat) (r : ReqBody) : State :=
  match s.resolve c r with
  | none => s
  | some a =>
    if !s.mayUse c then s
    else if !s.halfOn (reqAddr a) then
      (if isClassE c && !(s.waitingOf c).isEmpty then s.setWaiting c (s.waitingOf c ++ [r]) else s.offHit c r a)
    else if !s.pbaRunning || 8 ≤ (s.presentedOf c).length then s
    else if isClassG c then s.present c r a
    else if isClassE c then
      if (s.waitingOf c).isEmpty && reqCost a ≤ s.credit c then s.present c r a
      else s.setWaiting c (s.waitingOf c ++ [r])
    else if reqCost a ≤ s.credit c then s.present c r a
    else s.refuseReq c r a

/-! ### Grants and ECC (R288 to R293, R304 to R307) -/

/-- The number of ones of an `n`-bit mask. -/
def popcount : Nat → Nat → Nat
  | 0, _ => 0
  | n + 1, v => v % 2 + popcount n (v / 2)

/-- R305 to R307: a read of the Plate word that holds offset `a` by client `c`: data delivered, ECC events counted, scrub requested. -/
def State.plateRead (s : State) (c : Nat) (a : Nat) : List Byte × State :=
  let w := plateWordOf a
  let m := s.wrongBits w
  let d := s.plateBytes w 32
  if m = 0 then (d, s)
  else if correctable m then
    let s1 := s.satAdd F.PLATE_ECC_CE_CNT 1
    let s2 := if s1.bit F.PLATE_ECC_CE_STICKY then s1 else (s1.setFld F.PLATE_ECC_CE_STICKY 1).raise causePlate
    (d, if s2.bit F.PLATE_CTRL_SCRUB_EN then s2.judgeReq 20 (.write w d) else s2)
  else
    let s1 := s.satAdd F.PLATE_ECC_UE_CNT 1
    let s2 := if s1.bit F.PLATE_ECC_UE_STICKY then s1
      else ((s1.setFld F.PLATE_ECC_ADDR_OFFSET w).setFld F.PLATE_ECC_ADDR_CLIENT c).setFld F.PLATE_ECC_UE_STICKY 1
    (d, s2.raise causePlate)

/-- Bytes `new` laid over `old` from position `i`. -/
def overlay (old : List Byte) (i : Nat) (new : List Byte) : List Byte :=
  old.take i ++ new ++ old.drop (i + new.length)

/-- R292: the merged word that a partial write of `d` at offset `a` leaves, and what its read does. -/
def State.mergeRead (s : State) (c a : Nat) (d : List Byte) : Merge × State :=
  let (old, s1) := s.plateRead c a
  (⟨c, plateWordOf a, overlay old (a % 32) d⟩, s1)

/-- A word read for client `c` is delivered; a scan-out, history or layer client keeps it until it uses it. -/
def State.deliver (s : State) (c w : Nat) (d : List Byte) : State :=
  { s with
    plate := { s.plate with delivered := s.plate.delivered ++ [(c, w, d)] }
    pba := if 2 ≤ c ∧ c ≤ 14 then { s.pba with fetched := s.pba.fetched ++ [(c, w)] } else s.pba }

/-- R288, R292: the slot of one granted request of client `c`. A partial write reads its word and writes it in a second slot. -/
def State.grant (s : State) (c : Nat) : ReqBody → State
  | .read a => (s.plateRead c a).2.deliver c (plateWordOf a) (s.plateRead c a).1
  | .write a d =>
    if d.length = 32 then s.plateWrite a d
    else (fun (m : Merge × State) => { m.2 with pba := { m.2.pba with merging := m.2.pba.merging ++ [m.1] } }) (s.mergeRead c a d)
  | _ => s

/-- A request of client `c` carried out whole, both slots of a partial write. -/
def State.carryOut (s : State) (c : Nat) : ReqBody → State
  | .write a d =>
    if d.length = 32 then s.plateWrite a d
    else (fun (m : Merge × State) => m.2.plateWrite m.1.addr m.1.data) (s.mergeRead c a d)
  | r => s.grant c r

/-- R304: bits that failed in the cells since the last event: word and mask (the environment's). -/
def State.flip (s : State) (w m : Nat) : State :=
  let w' := plateWordOf w
  { s with plate := { s.plate with
      flips := assocSet (fun _ => 0) s.plate.flips w' (assocGet (fun _ => 0) s.plate.flips w' ^^^ m % 2 ^ 266) } }

/-! ### One Plate cycle (R288 to R293) -/

/-- A Plate cycle in progress: the state, and the banks of the slots granted so far. -/
structure Cycle where
  state : State
  banks : List Nat

/-- R288, R289: a slot of the bank of offset `a` is free in this cycle. -/
def Cycle.free (k : Cycle) (a : Nat) : Bool := decide (k.banks.length < 4) && !k.banks.contains (plateBank a)

/-- The slot of the bank of offset `a` is taken, with the effect `t`. -/
def Cycle.take (k : Cycle) (a : Nat) (t : State) : Cycle := ⟨t, plateBank a :: k.banks⟩

/-- R298: the next row of the sweep is refreshed; the slot of a half that is off goes unused. -/
def State.refreshRow (s : State) : State :=
  { s with plate := { s.plate with
      refreshPtr := (s.plate.refreshPtr + 1) % 16384
      refreshLeft := s.plate.refreshLeft - 1
      refreshed := s.plate.refreshed + (if s.pdOn (if s.plate.refreshPtr % 64 < 32 then 7 else 8) then 1 else 0) } }

/-- R290, R298: refresh, at rank 1, takes a slot while the period has some left for it. -/
def Cycle.refresh (k : Cycle) : Cycle :=
  let b := k.state.plate.refreshPtr % 64
  if k.state.plate.refreshLeft = 0 ∨ !k.state.pbaRunning then k
  else if k.state.pdOn (if b < 32 then 7 else 8) then ⟨k.state.refreshRow, b :: k.banks⟩
  else { k with state := k.state.refreshRow }

/-- R292: the second slot of a partial write. -/
def Cycle.mergeWrite (k : Cycle) (m : Merge) : Cycle :=
  if k.free m.addr then
    k.take m.addr ({ k.state with pba := { k.state.pba with merging := k.state.pba.merging.erase m } }.plateWrite m.addr m.data)
  else k

/-- R292: a write to a Plate word whose partial write has its second slot to come is not granted. -/
def State.heldOff (s : State) : ReqBody → Bool
  | .write a _ => s.pba.merging.any (fun m => m.addr == plateWordOf a)
  | _ => false

/-- R290: one presented request competes: granted, or presented still. -/
def Cycle.request (c : Nat) (k : Cycle) (r : ReqBody) : Cycle :=
  if k.free (reqAddr r) && !k.state.heldOff r then
    k.take (reqAddr r) ((k.state.setPresented c ((k.state.presentedOf c).erase r)).grant c r)
  else k

/-- Client `c` competes with its second slots and then its presented requests, oldest first. -/
def Cycle.client (k : Cycle) (c : Nat) : Cycle :=
  let k1 := (k.state.pba.merging.filter (fun m => m.client == c)).foldl Cycle.mergeWrite k
  (k1.state.presentedOf c).foldl (Cycle.request c) k1

/-- R290, Table 7-2: one Plate cycle grants up to 4 slots of different banks, in rank order. -/
def State.plateCycle (s : State) : State :=
  let k : Cycle := ⟨{ s with plate := { s.plate with delivered := [] } }, []⟩
  (((List.range 20).map (· + 1)).foldl Cycle.client k.refresh).state

/-! ### Engines that make their own requests -/

/-- The requests that client `c` has presented, and the second slots of its partial writes, are granted (log entry 11). -/
def State.flush (s : State) (c : Nat) : State :=
  let s1 := (s.pba.merging.filter (fun m => m.client == c)).foldl (fun (s : State) m => s.plateWrite m.addr m.data)
    { s with
      plate := { s.plate with delivered := [] }
      pba := { s.pba with merging := s.pba.merging.filter (fun m => m.client != c) } }
  (s1.presentedOf c).foldl (fun s r => s.carryOut c r) (s1.setPresented c [])

/-- R385: client `c`'s credit covers request `a` now. -/
def State.affords (s : State) (c : Nat) (a : ReqBody) : Bool := s.pbaRunning && decide (reqCost a ≤ s.credit c)

/-- R385: an admitted request of an engine is charged and carried out at once (log entry 11). -/
def State.serve (s : State) (c : Nat) (a : ReqBody) : State := ((s.flush c).setCredit c (s.credit c - reqCost a)).carryOut c a

/-- R385, R387, R295: an engine of class E makes request `a`: carried out, or waiting behind the client's other requests. -/
def State.requestE (s : State) (c : Nat) (a : ReqBody) : State :=
  if !(s.waitingOf c).isEmpty then s.setWaiting c (s.waitingOf c ++ [a])
  else if !s.halfOn (reqAddr a) then s.countOff
  else if s.affords c a then s.serve c a
  else s.setWaiting c [a]

/-- A waiting request that is not the executing command's. -/
def notWindow : ReqBody → Bool
  | .window => false
  | _ => true

/-- The executing command no longer asks for Plate words. -/
def State.dropWindow (s : State) : State := s.setWaiting 17 ((s.waitingOf 17).filter notWindow)

/-- R387, R395: `n` Plate words of one transfer of client `c`, class E: they take its credit of this and of as many later periods as they
need, each of which ends with a request waiting; the periods themselves are not shown (log entry 70). -/
def State.chargeLong (s : State) (c n : Nat) : State :=
  let a := max 1 (s.fld (F.PBA_ALLOT_ALLOT c))
  let m := n - s.credit c
  let k := (m + a - 1) / a
  if k = 0 then s.setCredit c (s.credit c - n)
  else ((s.satAdd (F.PBA_DELAY_DELAY_CNT c) k).setBudgetFlag (F.PBA_FLAGS_DELAYED c)).setCredit c (k * a - m)

/-- The Plate words that `n` bytes from offset `a` touch. -/
def wordsFrom (a n : Nat) : List Nat := (List.range ((a % 32 + n + 31) / 32)).map (fun i => plateWordOf a + 32 * i)

/-- A transfer of class E client `c` reads `n` bytes from offset `a`: its words charged, their ECC events counted; the words of a half that
is off count as such (R295). -/
def State.readLong (s : State) (c a n : Nat) : State :=
  let l := wordsFrom a n
  let on := l.filter s.halfOn
  let t := ((l.filter (fun w => !s.halfOn w)).foldl (fun (s : State) _ => s.countOff) s).chargeLong c on.length
  on.foldl (fun (s : State) w => (s.plateRead c w).2) t

/-- `d` at offset `a`, cut at Plate words. -/
def cutWords : Nat → Nat → List Byte → List BufWord
  | 0, _, _ => []
  | n + 1, a, l =>
    if l.isEmpty then []
    else ⟨a, l.take (32 - a % 32)⟩ :: cutWords n (a + (32 - a % 32)) (l.drop (32 - a % 32))

/-- The write requests of `d` at offset `a`, one for each Plate word. -/
def spanWrites (a : Nat) (d : List Byte) : List ReqBody := (cutWords (d.length + 1) a d).map (fun w => .write w.addr w.data)

/-! ### The Plate words of a line (R308, R309, R384, R388) -/

/-- Client `c` needs Plate word `w` for its line: it is read now unless it has been delivered already, or refused; a class D client
whose credit does not cover it is refused (R388). -/
def State.fetchWord (c : Nat) (s : State) (w : Nat) : State :=
  if s.pba.fetched.contains (c, w) || s.pba.refused.contains (c, w) then s
  else if !s.halfOn w then s.countOff
  else if isClassG c then (s.plateRead c w).2
  else if s.affords c (.read w) then
    let t := ((s.setCredit c (s.credit c - 1)).plateRead c w).2
    { t with pba := { t.pba with fetched := t.pba.fetched ++ [(c, w)] } }
  else s.refuseReq c (.read w) (.read w)

def State.fetchWords (s : State) (c : Nat) (l : List Nat) : State := l.foldl (State.fetchWord c) s

/-- A line of client `c` is done with the words of `l`. -/
def State.dropFetched (s : State) (c : Nat) (l : List Nat) : State :=
  { s with pba := { s.pba with fetched := s.pba.fetched.filter (fun e => !(e.1 == c && l.contains e.2)) } }

/-- R309: the runs of consecutive Plate words that share a bank, each at most 8 words long. -/
def bankRuns (l : List Nat) : List (List Nat) :=
  ((l.map (fun w => w / 256)).eraseDups).map (fun g => l.filter (fun w => w / 256 == g))

/-- R309: rotating bank order: the first word of every run, then the second of every run, and so on. -/
def rotating (l : List Nat) : List Nat := (List.range 8).flatMap (fun k => (bankRuns l).filterMap (fun r => r[k]?))

/-! ### Periods and refresh (R298 to R302, R380, R381, R395) -/

/-- Counts one delayed period for every client of the list that holds a waiting request. -/
def State.countDelays (s : State) : List Nat → State
  | [] => s
  | c :: t => (if (s.waitingOf c).isEmpty then s else s.countDelay c).countDelays t

/-- R380, R394: every client's credit becomes its allotment. -/
def State.allotments (s : State) : Vector Nat 21 := Vector.ofFn (fun c => s.fld (F.PBA_ALLOT_ALLOT c.val))

/-- R298: the row slots refresh uses in a period. -/
def State.refreshSlots (s : State) : Nat := if s.bit F.PLATE_CTRL_REFRESH_HI then 1024 else 512

/-- R298: row slots `n` of the sweep pass: how many of their rows lie in a powered half. -/
def State.rowsPowered (s : State) (n : Nat) : Nat :=
  ((List.range n).filter (fun i => s.pdOn (if (s.plate.refreshPtr + i) % 64 < 32 then 7 else 8))).length

/-- R298: what refresh has still to do in the period is done, and the next period begins with its slots. A change of REFRESH_HI within a
period counts from the next period (DESIGN CHOICE, log entry 106). -/
def State.refreshPeriod (s : State) : State :=
  let n := s.plate.refreshLeft
  { s with plate := { s.plate with
      refreshPtr := (s.plate.refreshPtr + n) % 16384
      refreshed := s.plate.refreshed + s.rowsPowered n
      refreshLeft := s.refreshSlots } }

/-- R380, R395, R298: the period in progress ends and the next one starts. -/
def State.periodStart (s : State) : State :=
  let s1 := ((s.countDelays (List.range 21)).wrapAdd F.PBA_PERIOD_COUNT 1).refreshPeriod
  { s1 with pba := { s1.pba with credit := s1.allotments } }

/-- R301: all 256 rows of every powered bank are refreshed back to back. -/
def State.sweepAll (s : State) : State :=
  { s with plate := { s.plate with
      refreshed := s.plate.refreshed + (if s.pdOn 7 then 8192 else 0) + (if s.pdOn 8 then 8192 else 0) } }

/-- R32, R381: the PBA starts: its first period. -/
def State.pbaStart (s : State) : State :=
  let s1 := ((s.setFld F.PBA_STATUS_RUNNING 1).wrapAdd F.PBA_PERIOD_COUNT 1).refreshPeriod
  { s1 with pba := { s1.pba with credit := s1.allotments } }

/-- R381: the PBA stops at DEEP entry; the period in progress ends and its credit lapses, and refresh has no slots left (R301). -/
def State.pbaStop (s : State) : State :=
  let s1 := (s.countDelays (List.range 21)).setFld F.PBA_STATUS_RUNNING 0
  { s1 with
    pba := { s1.pba with credit := Vector.replicate 21 0 }
    plate := { s1.plate with refreshLeft := 0 } }

/-- Table 7-3: the band of a coarse reading: 0 is 8 µs, 1 is 2 µs, 2 is 0.5 µs. -/
def deepBand (t : Int) : Nat := if t ≤ 40 then 0 else if t ≤ 80 then 1 else 2

/-- R300: at DEEP entry the band is that of the latest coarse reading. -/
def State.enterBand (s : State) : State :=
  match s.plate.samples with
  | [] => s.setFld F.PLATE_CTRL_DEEP_BAND (deepBand (signedOf 8 (s.fld F.PLATE_CTRL_TSENSE)))
  | t :: _ => s.setFld F.PLATE_CTRL_DEEP_BAND (deepBand t)

/-- R299, R300: one coarse sample. -/
def State.tsense (s : State) (t : Int) : State :=
  let s1 := s.setFld F.PLATE_CTRL_TSENSE (codeOf 8 t)
  let s2 := { s1 with plate := { s1.plate with samples := (t :: s1.plate.samples).take 10 } }
  let s3 := if 80 < t then s2.setFld F.PLATE_CTRL_REFRESH_HI 1 else s2
  if s.fld F.PWR_STATE_STATE = 3 ∧ s.fld F.PLATE_CTRL_DEEP_BAND < deepBand t then
    s3.setFld F.PLATE_CTRL_DEEP_BAND (deepBand t)
  else s3

/-- R300: the slowest band whose upper bound every sample of the last 1 ms lay at least 5 °C below; the band in use when
no slower one qualifies. -/
def State.slowerBand (s : State) : Nat :=
  let b := s.fld F.PLATE_CTRL_DEEP_BAND
  if s.plate.samples.length < 10 then b
  else if s.plate.samples.all (fun t => decide (t ≤ 35)) then min b 0
  else if s.plate.samples.all (fun t => decide (t ≤ 75)) then min b 1
  else b

/-! ### The rows -/

/-- PLATE_TSENSE_SAMPLE (R299). -/
def execPlateTsenseSample (t : Int) (s : State) : Host.Outcome State Fault Refusal :=
  .next (s.ifLive (if s.pdOn 6 ∨ s.fld F.PWR_STATE_STATE = 3 then s.tsense t else s))

/-- REFRESH_HI_RELEASE (R299): the samples of the last 1 ms were all at or below 75 °C. -/
def execRefreshHiRelease (s : State) : Host.Outcome State Fault Refusal :=
  .next (s.ifLive (if s.plate.samples.length = 10 ∧ s.plate.samples.all (fun t => decide (t ≤ 75)) then
    s.setFld F.PLATE_CTRL_REFRESH_HI 0 else s))

/-- DEEP_BAND_SLOWER (R300). -/
def execDeepBandSlower (s : State) : Host.Outcome State Fault Refusal :=
  .next (s.ifLive (if s.fld F.PWR_STATE_STATE = 3 then s.setFld F.PLATE_CTRL_DEEP_BAND s.slowerBand else s))

/-- SELF_REFRESH_BURST (R300): one row of all 64 banks. -/
def execSelfRefreshBurst (s : State) : Host.Outcome State Fault Refusal :=
  .next (s.ifLive (if s.fld F.PWR_STATE_STATE = 3 then
    { s with plate := { s.plate with
        burstRow := (s.plate.burstRow + 1) % 256
        refreshed := s.plate.refreshed + (if s.pdOn 7 then 32 else 0) + (if s.pdOn 8 then 32 else 0) } } else s))

/-- PLATE_REQUEST (R385): client code `c` + 1 makes a request. -/
def execPlateRequest (c : Fin 20) (r : ReqBody) (s : State) : Host.Outcome State Fault Refusal :=
  .next (s.ifLive (s.judgeReq (c.val + 1) r))

/-- R387, R295: the oldest waiting request `r` of client `c`, a transfer of its own or of its buffer, is admitted once its credit covers
it; `l` are those behind it. -/
def State.admitOldest (s : State) (c : Nat) (r : ReqBody) (l : List ReqBody) : State :=
  match s.resolve c r with
  | none => s.setWaiting c l
  | some a =>
    if !s.halfOn (reqAddr a) then (s.setWaiting c l).offHit c r a
    else if s.affords c a && decide ((s.presentedOf c).length < 8) then (s.setWaiting c l).present c r a
    else s

/-- PLATE_ACCESS (R288 to R293): cells that failed since the last access, if any, then one Plate cycle. -/
def execPlateAccess (word mask : Nat) (s : State) : Host.Outcome State Fault Refusal :=
  .next (s.ifLive ((s.flip word mask).plateCycle))

/-! ### BUDGET_SET and BUDGET_READ -/

/-- R392: the sum of the reservations and of the allotments of clients 6 to 20, with client `c` at `v`. -/
def State.committedWith (s : State) (c v : Nat) : Nat :=
  3456 + ((List.range 15).map (fun i => if i + 6 = c then v else s.fld (F.PBA_ALLOT_ALLOT (i + 6)))).sum

/-- R392, R394: admission control, then the new allotment, which applies from the next period. -/
def State.budgetSet (s : State) (c v : Nat) : Res :=
  if 24320 < s.committedWith c v then Res.stat s stOvercommit
  else Res.ok ((s.setFld (F.PBA_ALLOT_ALLOT c) v).setFld F.PBA_STATUS_COMMITTED (s.committedWith c v))

/-- BUDGET_SET (R392 to R394). -/
def execBudgetSet (s : State) : Host.Outcome State Fault Refusal :=
  .next (startCmd s (isOp 0xC0) (fun s e =>
    let c := parUnit e.params
    let v := (par e.params 1).toNat
    runtimeCmd s (e.params.length == 2) (failAt 0 (c == 0 || 20 < c))
      (failAt 0 (isClassG c || strayBits e.params 0 0xFF000000) ++ failAt 1 (20864 < v || (c == 18 && v < 1280)))
      true (s.budgetSet c v)))

/-- R398: the four words of a client. -/
def State.budgetWords (s : State) (c : Nat) : List Word :=
  [s.rd (0x40100 + 0x10 * c), s.rd (0x40104 + 0x10 * c), s.rd (0x40108 + 0x10 * c), s.rd (0x4010c + 0x10 * c)]

/-- BUDGET_READ (R398). -/
def execBudgetRead (s : State) : Host.Outcome State Fault Refusal :=
  .next (startCmd s (isOp 0xC1) (fun s e =>
    let c := parUnit e.params
    runtimeCmd s (e.params.length == 1) (failAt 0 (c == 0 || 20 < c)) (failAt 0 (strayBits e.params 0 0xFF000000))
      true (.done s stOk (s.budgetWords c))))

end Sys2Proof.Machine
end

