-- ==== Sys2Proof/Machine/Domains.lean ====
section
/-! DEFINITION. Power domains (R839 to R849): what powering a domain up or switching it off does to its ready bits and to
the memories it holds (R294, R297, R325, R327). -/

namespace Sys2Proof.Machine

/-- R842: state ON with every ready bit set. -/
def State.markOn (s : State) (n : Nat) : State :=
  ((((s.setFld (F.PWR_PD_STATE n) 2).setFld (F.PWR_PD_REG_RDY n) 1).setFld (F.PWR_PD_CLK_RDY n) 1).setFld
    (F.PWR_PD_MEM_RDY n) 1).setFld (F.PWR_PD_LOGIC_RDY n) 1

/-- R841: state `st` (OFF or RETAINED) with every ready bit clear. -/
def State.markDown (s : State) (n st : Nat) : State :=
  ((((s.setFld (F.PWR_PD_STATE n) st).setFld (F.PWR_PD_REG_RDY n) 0).setFld (F.PWR_PD_CLK_RDY n) 0).setFld
    (F.PWR_PD_MEM_RDY n) 0).setFld (F.PWR_PD_LOGIC_RDY n) 0

/-- Table 7-5: the RAM (bit of TILE_BIST) that domain PDn holds. -/
def ramOfDomain (n : Nat) : Option Nat :=
  if n = 4 then some 0 else if n = 5 then some 1 else if n = 3 then some 2 else if n = 12 then some 3
  else if n = 13 then some 4 else if n = 15 ∨ n = 16 then some 5 else none

/-- R327: the self-test of domain PDn's Tile RAM leaves it holding zeros. -/
def TileState.zero (t : TileState) (n : Nat) : TileState :=
  if n = 4 then { t with code := [] }
  else if n = 5 then { t with data := [] }
  else if n = 3 then { t with stylus := [] }
  else if n = 12 then { t with lut := [] }
  else if n = 13 then { t with coeff := [], coeffGen := 0 }
  else if n = 15 then { t with table := t.table.filter (fun e => 0x10000 ≤ e.1) }
  else if n = 16 then { t with table := t.table.filter (fun e => e.1 < 0x10000), tableGen := 0 }
  else t

/-- R327: both domains of Table RAM, or the one domain of another RAM, have been tested. -/
def TileState.allTested (t : TileState) (r : Nat) : Bool :=
  if r = 5 then t.tested.contains 15 && t.tested.contains 16 else true

/-- Table 7-5: the banks of its RAM that domain PDn holds: first bank and number. -/
def banksOfDomain (n : Nat) : Nat × Nat :=
  if n = 3 ∨ n = 13 then (0, 4) else if n = 12 then (0, 12) else if n = 15 then (0, 2) else if n = 16 then (2, 2) else (0, 8)

/-- R324, R327: the first power-up of domain PDn since power-on reset tests its Tile RAM: `repair` holds the codes of Table 7-8 of the
RAM's banks; those of the banks that PDn holds are recorded, and 0b11 among them is a fault beyond repair. -/
def State.ramSelfTest (s : State) (n : Nat) (repair : Word) : State :=
  match ramOfDomain n with
  | none => s
  | some r =>
    if s.tile.tested.contains n then s
    else
      let t := (s.tile.zero n)
      let t' := { t with tested := n :: t.tested }
      let s1 := { s with tile := t' }
      let s2 := if t'.allTested r then s1.setFld ⟨0x200030, 16 + r, 1⟩ 1 else s1
      let (b, k) := banksOfDomain n
      let s3 := if (List.range k).any (fun i => getBits repair (2 * (b + i)) 2 == 3) then s2.setFld ⟨0x200030, r, 1⟩ 1 else s2
      s3.setFld ⟨0x200040 + 4 * r, 2 * b, 2 * k⟩ (getBits repair (2 * b) (2 * k))

/-- R294, R297: the lower or the upper half holds zeros with valid check bits. -/
def PlateState.clearHalf (p : PlateState) (upper : Bool) : PlateState :=
  let keep := fun a : Nat => if upper then decide (a < 0x1000000) else decide (0x1000000 ≤ a)
  { p with
    mem := p.mem.filter (fun e => keep e.1)
    flips := p.flips.filter (fun e => keep e.1)
    gone := p.gone.filter (fun e => keep e.1) }

/-- R28, R583: the history planes that lie wholly or partly in a Plate half lose their history when the half powers off or on;
plane `i` of head `h` lies from HISTi.BASE, as latched for the frame, for HPITCH × VACT bytes (R581). -/
def State.histHit (s : State) (upper : Bool) : State :=
  let size := fun h =>
    (getBits (s.rd (0x80200 + 0x10000 * h)) 16 13 * 12 + 255) / 256 * 32 * getBits (s.rd (0x80200 + 0x10000 * h)) 0 12
  let hit := fun h b => if upper then decide (0x1000000 < b + size h) else decide (b < 0x1000000)
  { s with heads := s.heads.mapFinIdx (fun h x _ =>
      { x with od := { x.od with lost := Vector.ofFn (fun i => x.od.lost[i] || hit h (if i.val = 0 then x.fr.hist.1 else x.fr.hist.2)) } }) }

/-- R297: a Plate half that powers on is filled with zeros and becomes ready. -/
def State.plateHalfFill (s : State) (n : Nat) : State :=
  if n = 7 then
    ({ s with plate := s.plate.clearHalf false }.setFld F.PLATE_CTRL_LO_READY 1).histHit false
  else if n = 8 then
    ({ s with plate := s.plate.clearHalf true }.setFld F.PLATE_CTRL_HI_READY 1).histHit true
  else s

/-- R842: domain PDn completes its wake order and is ON; a domain that is ON stays as it is. -/
def State.powerUp (s : State) (n : Nat) (repair : Word) : State :=
  if s.pdState n = 2 then s
  else
    let s1 := ((s.ramSelfTest n repair).plateHalfFill n).markOn n
    if n = 6 ∧ !s1.pbaRunning then s1.pbaStart else s1

/-- R294, R843, Table 18-3: what switching PDn off (not into retention) does to its memories. -/
def State.loseMemory (s : State) (n : Nat) : State :=
  let z := { s with tile := s.tile.zero n }
  if n = 7 then
    ({ s with plate := s.plate.clearHalf false }.setFld F.PLATE_CTRL_LO_READY 0).histHit false
  else if n = 8 then
    ({ s with plate := s.plate.clearHalf true }.setFld F.PLATE_CTRL_HI_READY 0).histHit true
  else if n = 13 then
    { z with free := s.free + 1, tile := { z.tile with coeffGen := s.free + 1 } }
  else if n = 16 then
    { z with free := s.free + 1, tile := { z.tile with tableGen := s.free + 1 } }
  else z

/-- R843: domain PDn is off. -/
def State.powerDown (s : State) (n : Nat) : State := (s.loseMemory n).markDown n 0

/-- Apply `f` for each number of a list, in order. -/
def forEach {α : Type} (l : List α) (s : State) (f : State → α → State) : State := l.foldl f s

/-- What a Coefficient RAM byte that nothing has written reads as. -/
def TileState.coeffDefault (t : TileState) (a : Nat) : Byte :=
  if t.coeffGen = 0 then 0 else Config.lostByte t.coeffGen a

/-- What a Table RAM byte that nothing has written reads as. -/
def TileState.tableDefault (t : TileState) (a : Nat) : Byte :=
  if t.tableGen = 0 ∨ a < 0x10000 then 0 else Config.lostByte t.tableGen a

/-- Store bytes of a Tile RAM whose unlisted bytes read `d`. -/
def memPutD (d : Nat → Byte) (m : List Host.Cell) (a : Nat) : List Byte → List Host.Cell
  | [] => m
  | b :: t => memPutD d (assocSet d m a b) (a + 1) t

/-- Table 3-3: store bytes into the RAM with TARGET code `t`. -/
def TileState.put (m : TileState) (t a : Nat) (d : List Byte) : TileState :=
  if t = 1 then { m with code := memPut m.code a d }
  else if t = 2 then { m with data := memPut m.data a d }
  else if t = 3 then { m with stylus := memPut m.stylus a d }
  else if t = 4 then { m with lut := memPut m.lut a d }
  else if t = 5 then { m with coeff := memPutD m.coeffDefault m.coeff a d }
  else if t = 6 then { m with table := memPutD m.tableDefault m.table a d }
  else m

def TileState.coeffByte (t : TileState) (a : Nat) : Byte := assocGet t.coeffDefault t.coeff a
def TileState.tableByte (t : TileState) (a : Nat) : Byte := assocGet t.tableDefault t.table a

/-- The byte at offset `a` of the RAM with TARGET code `t`. -/
def TileState.byte (m : TileState) (t a : Nat) : Byte :=
  if t = 1 then memGet m.code a
  else if t = 2 then memGet m.data a
  else if t = 3 then memGet m.stylus a
  else if t = 4 then memGet m.lut a
  else if t = 5 then m.coeffByte a
  else m.tableByte a

/-- Table 7-5: the bytes of a bank of the RAM with TARGET code `t`. -/
def tileBankSize (t : Nat) : Nat := [0, 0x20000, 0x10000, 0x10000, 0x2000, 0x1000, 0x8000].getD t 1

/-- R324, R328: the bank that holds byte `a` of the RAM with TARGET code `t` has a fault beyond repair. -/
def State.columnFailed (s : State) (t a : Nat) : Bool := s.fld ⟨0x20003C + 4 * t, 2 * (a / tileBankSize t), 2⟩ == 3

/-- R328: what a read of byte `a` delivers; failed columns return whatever their cells hold. -/
def State.tileByte (s : State) (t a : Nat) : Byte :=
  if s.columnFailed t a then s.tile.byte t a ^^^ Config.failedColumn t a s.free else s.tile.byte t a

def State.tileBytes (s : State) (t a n : Nat) : List Byte := (List.range n).map (fun i => s.tileByte t (a + i))

/-! ### The two ports of a Tile RAM (R316, R318 to R321) -/

/-- What a port's read delivers. -/
def State.portRead (s : State) (t : Nat) : Option PortOp → Option (List Byte)
  | some (.read a n) => some (s.tileBytes t a n)
  | _ => none

/-- What a port's write leaves. -/
def TileState.portWrite (m : TileState) (t : Nat) : Option PortOp → TileState
  | some (.write a d) => m.put t a d
  | _ => m

/-- R319 to R321: ports A and B of the RAM with TARGET code `t` are used in the same cycle: reads return the content before it; of
two writes to one word, port B's data remain. The reads of ports A and B, and the state after. -/
def State.portCycle (s : State) (t : Nat) (a b : Option PortOp) : Option (List Byte) × Option (List Byte) × State :=
  (s.portRead t a, s.portRead t b, { s with tile := (s.tile.portWrite t a).portWrite t b })

end Sys2Proof.Machine
end

