-- ==== Sys2Proof/Machine/Surfaces.lean ====
section
/-! DEFINITION. Surfaces (R437 to R445, R312): descriptors, formats and their bytes, capture buffers, FRONT. -/

namespace Sys2Proof.Machine

/-! ### Descriptors -/

/-- Table 10-5: bytes per pixel. -/
def fmtBytes (f : Nat) : Nat :=
  if f ≤ 1 then 4 else if f = 2 then 3 else if f ≤ 4 then 2 else if f = 5 then 4 else if f ≤ 7 then 1 else if f = 8 then 2 else 4

/-- R312. -/
def baseOk (base pitch width height bpp : Nat) : Bool :=
  base % 256 == 0 && pitch % 32 == 0 && decide (width * bpp ≤ pitch) && decide (pitch ≤ 32768) &&
    decide (base + pitch * (height - 1) + width * bpp ≤ 0x2000000)

/-- R439. -/
def SurfDesc.valid (d : SurfDesc) : Bool :=
  decide (1 ≤ d.nbuf) && decide (d.fmt ≤ 8) && decide (1 ≤ d.width) && decide (d.width ≤ 4096) &&
    decide (1 ≤ d.height) && decide (d.height ≤ 2400) && (d.fmt != 8 || d.width % 2 == 0) &&
    (d.bases.take d.nbuf).all (fun b => baseOk b d.pitch d.width d.height (fmtBytes d.fmt))

/-- The descriptor that the registers of surface `n` hold. -/
def State.regDesc (s : State) (n : Nat) : SurfDesc :=
  { bases := [s.fld (F.SURF_BASE_BASE n 0), s.fld (F.SURF_BASE_BASE n 1), s.fld (F.SURF_BASE_BASE n 2)]
    width := s.fld (F.SURF_SIZE_WIDTH n)
    height := s.fld (F.SURF_SIZE_HEIGHT n)
    fmt := s.fld (F.SURF_FMT_FORMAT n)
    nbuf := s.fld (F.SURF_FMT_NBUF n)
    pitch := 32 * s.fld (F.SURF_FMT_PITCH32 n) }

/-- R312: surface `n` is defined (NBUF is not 0) and a buffer of it breaks the placement rules. -/
def State.surfBreaks (s : State) (n : Nat) : Bool :=
  let d := s.regDesc n
  (d.bases.take d.nbuf).any (fun b => !baseOk b d.pitch d.width d.height (fmtBytes d.fmt))

/-- R50: stand-alone mode is in effect. -/
def State.standAlone (s : State) : Bool := s.bit F.BOOT_SA_STATUS_SA_ACTIVE

/-- Bits `[lo + w - 1 : lo]` of word `k` of the profile applied to head `h` (Table 13-2). -/
def State.prof (s : State) (h k lo w : Nat) : Nat := bitsOf (s.fld (F.HEAD_PROFILE_ENTRY h k)) lo w

/-- R85: the code of Burin's own layout of a captured pixel: format 0x0, with the low bits of components wider than 8 bits in the
alpha byte, so that R85's expansion starts from the whole component (log entry 95). -/
def fmtBurin : Nat := 9

/-- R81: Burin's capture buffers: the panel's active area, 4 bytes per pixel. -/
def State.saDesc (s : State) : SurfDesc :=
  let w := s.prof 0 0 16 13
  { bases := [0, 0x1000000, 0]
    width := w
    height := s.prof 0 0 0 12
    fmt := fmtBurin
    nbuf := 2
    pitch := (w * 4 + 31) / 32 * 32 }

/-- The descriptor that captures and heads use: in stand-alone mode surface 63 is Burin's own (R81, R448). -/
def State.desc (s : State) (n : Nat) : SurfDesc :=
  if n = 63 ∧ s.standAlone then s.saDesc else s.regDesc n

/-- R439: SURFn_STATE.INVALID follows the descriptor. -/
def State.judgeSurf (s : State) (n : Nat) : State := s.setBit (F.SURF_STATUS_INVALID n) (!(s.regDesc n).valid)

def State.surfOk (s : State) (n : Nat) : Bool := decide (n < 64) && (s.desc n).valid

/-! ### Pixels in surface formats (R438, Table 10-6, R518) -/

/-- Widen an `a`-bit component to `b` bits by replicating its most significant bits (`b ≤ 3a`). -/
def widen (a b v : Nat) : Nat := (v * 2 ^ (2 * a) + v * 2 ^ a + v) / 2 ^ (3 * a - b)

/-- Narrow an `a`-bit component to `b` bits, rounding with ties up, clamped to the maximum. -/
def narrow (a b v : Nat) : Nat := min (2 ^ b - 1) ((v + 2 ^ (a - b) / 2) / 2 ^ (a - b))

/-- An `a`-bit component at `b` bits (Table 10-6). -/
def resize (a b v : Nat) : Nat := if a ≤ b then widen a b v else narrow a b v

/-- Bits of red, green and blue in a colour format of Table 10-5. -/
def fmtBits (f : Nat) : Nat × Nat × Nat :=
  if f = 3 then (5, 6, 5) else if f = 4 then (5, 5, 5) else if f = 5 then (10, 10, 10) else (8, 8, 8)

/-- R438: a colour pixel, its components already at the format's widths, with alpha all ones. -/
def packPixel (f r g b : Nat) : List Byte :=
  if f = 2 then leBytes 3 (r * 0x10000 + g * 0x100 + b)
  else if f = 3 then leBytes 2 (r * 2048 + g * 32 + b)
  else if f = 4 then leBytes 2 (0x8000 + r * 1024 + g * 32 + b)
  else if f = 5 then leBytes 4 (0xC0000000 + r * 0x100000 + g * 1024 + b)
  else leBytes 4 (0xFF000000 + r * 0x10000 + g * 0x100 + b)

/-- Log entry 95: a component of at most 10 bits in Burin's layout: its byte in format 0x0 and its two low bits. -/
def burinPart (w v : Nat) : Nat × Nat := if w ≤ 8 then (widen w 8 v, 3) else (v / 2 ^ (w - 8), v % 2 ^ (w - 8))

/-- Log entry 95: a captured pixel in Burin's layout. -/
def packBurin (wr wg wb : Nat) (p : Pix) : List Byte :=
  let r := burinPart wr p.r
  let g := burinPart wg p.g
  let b := burinPart wb p.b
  leBytes 4 ((0xC0 + 16 * r.2 + 4 * g.2 + b.2) * 0x1000000 + r.1 * 0x10000 + g.1 * 0x100 + b.1)

/-- R85: a component that arrived with `w` bits, from its byte and low bits in Burin's layout, expanded to 12 bits. -/
def burinWide (w hi lo : Nat) : Nat := widen w 12 (if w ≤ 8 then hi / 2 ^ (8 - w) else hi * 2 ^ (w - 8) + lo % 2 ^ (w - 8))

/-- A pixel of component widths `wr`, `wg`, `wb` stored in format `f`. A YCbCr pixel is its luma and its chroma byte. -/
def storePixel (f wr wg wb : Nat) (p : Pix) : List Byte :=
  if f = 8 then [BitVec.ofNat 8 p.r, BitVec.ofNat 8 p.g]
  else if f = fmtBurin then packBurin wr wg wb p
  else
    let (br, bg, bb) := fmtBits f
    packPixel f (resize wr br p.r) (resize wg bg p.g) (resize wb bb p.b)

/-- Black with alpha all ones (R443); YCbCr black is luma 0 and chroma 128 (log entry 16). -/
def blackPixel (f : Nat) : List Byte :=
  if f = 8 then [0, 0x80] else if f = fmtBurin then [0, 0, 0, 0xC0] else packPixel f 0 0 0

/-! ### Heads and surfaces -/

def State.headState (s : State) (h : Nat) : Nat := s.fld (F.HEAD_STATUS_STATE h)

/-- Table 13-1: the head sends counted frames: RUNNING, or STOPPING until its frame ends. -/
def State.headRunning (s : State) (h : Nat) : Bool := s.headState h == 2 || s.headState h == 3

/-- R30: the head produces frames, counted or not. -/
def State.headFrames (s : State) (h : Nat) : Bool := s.headState h != 0

def State.head (s : State) (h : Nat) : HeadState := s.heads.toList.getD h HeadState.idle

def State.setHead (s : State) (h : Nat) (x : HeadState) : State := { s with heads := s.heads.setIfInBounds h x }

/-- R441: head `h` has buffer `b` of surface `n` latched for its present frame. A layer on the direct route reads no surface
(R453). -/
def State.latched (s : State) (h n b : Nat) : Bool :=
  (s.head h).scan == some (n, b) ||
    (s.head h).layers.any (fun l => l.shown && l.direct.isNone && getBits (l.words.getD 0 0) 0 6 == n && l.buf == b)

/-- R441: a running head has buffer `b` of surface `n` latched for its present frame. -/
def State.reading (s : State) (n b : Nat) : Bool := (List.range 4).any (fun h => s.headRunning h && s.latched h n b)

/-- R488, R450: the DSI port whose VC1 feeds layer `l` directly. -/
def State.directPort (s : State) (l : Nat) : Option Nat :=
  [0, 1].find? (fun p => s.bit (F.IN_DSI_CTRL_EN p) && s.fld (F.IN_STATUS_STATE p) != 0 && !s.bit (F.IN_DSI_CTRL_MODE p) &&
    s.fld (F.IN_DSI_CTRL_VC1_MODE p) == 2 && s.fld (F.IN_DSI_CTRL_SURF1 p) == l)

/-- R607, R875, R936: an event that ends the idle lines of head `h`, and makes a head in SELF compose. -/
def State.headEvent (s : State) (h : Nat) : State :=
  let x := s.head h
  let self := s.fld (F.HEAD_STATUS_MODE h) == 2 || x.selfEvent.isSome
  { s.setHead h { x with
      event := true
      selfEvent := if self then some (s.stampCount + 1) else x.selfEvent } with stampCount := s.stampCount + 1 }

/-- R469: an enabled layer of head `h` reads surface `n`; the surface of a layer on the direct route is ignored (R453). -/
def State.headReads (s : State) (h n : Nat) : Bool :=
  (List.range 8).any (fun l => s.bit (F.LAYER_W0_EN l) && s.fld (F.LAYER_W0_HEAD l) == h && s.fld (F.LAYER_W0_SURF l) == n &&
    (s.directPort l).isNone)

/-- R31, R468: head `h` shows surface `n` in its present frame or reads it in the next: by an enabled layer, by one just disabled, or
by scan-out. -/
def State.headShows (s : State) (h n : Nat) : Bool := s.headReads h n || [0, 1, 2].any (s.latched h n)

/-- `f` folded over a list of numbers. -/
def State.each (s : State) (l : List Nat) (f : State → Nat → State) : State := l.foldl f s

/-- R607: FRONT of surface `n` changed. -/
def State.surfaceEvent (s : State) (n : Nat) : State :=
  s.each [0, 1, 2, 3] (fun s h => if s.headReads h n then s.headEvent h else s)

def State.bufs (s : State) (n : Nat) : SurfBufs := s.surfs.toList.getD n SurfBufs.reset
def State.setBufs (s : State) (n : Nat) (b : SurfBufs) : State := { s with surfs := s.surfs.setIfInBounds n b }

/-- R445: the eligible buffer with the newest completion. -/
def SurfBufs.newest (b : SurfBufs) : Option Nat :=
  [0, 1, 2].foldl (fun best k =>
    if b.elig.toList.getD k false then
      match best with
      | none => some k
      | some j => if b.stamp.toList.getD j 0 < b.stamp.toList.getD k 0 then some k else some j
    else best) none

/-- R445: FRONT and FRONT_VALID of a captured surface follow its buffers; a change of FRONT is an event. -/
def State.refront (s : State) (n : Nat) : State :=
  if s.standAlone then s
  else match (s.bufs n).newest with
    | none => s.setFld (F.SURF_STATUS_FRONT_VALID n) 0
    | some k =>
      let t := (s.setFld (F.SURF_STATUS_FRONT n) k).setFld (F.SURF_STATUS_FRONT_VALID n) 1
      if s.fld (F.SURF_STATUS_FRONT n) = k ∧ s.bit (F.SURF_STATUS_FRONT_VALID n) then t else t.surfaceEvent n

/-- R82: a frame in progress is being captured into buffer `b` of surface `n`. -/
def State.filling (s : State) (n b : Nat) : Bool :=
  s.inputs.toList.any (fun x => x.vc0.cap == some (n, b) || x.vc1.cap == some (n, b))

/-- R444: among the buffers that no head is reading, the one whose last completion is oldest. In stand-alone mode two inputs can be
capturing into Burin's buffers, and never into the same one (R82). -/
def State.chooseBuf (s : State) (n : Nat) : Option Nat :=
  let st := (s.bufs n).stamp.toList
  (List.range (s.desc n).nbuf).foldl (fun best k =>
    if s.reading n k || (s.standAlone && s.filling n k) then best
    else match best with
      | none => some k
      | some j => if st.getD k 0 < st.getD j 0 then some k else some j) none

/-- R444, R445: capture starts writing into buffer `b` of surface `n`; black rows that an earlier frame still owed it are void. -/
def State.startBuf (s : State) (n b : Nat) : State :=
  let x := s.bufs n
  let t := { s with stampCount := s.stampCount + 1, black := s.black.filter (fun r => !(r.surf == n && r.buf == b)) }
  (t.setBufs n { x with
    elig := x.elig.setIfInBounds b false
    began := x.began.setIfInBounds b t.stampCount }).refront n

/-- R445: an untorn frame completed in buffer `b` of surface `n`. -/
def State.completeBuf (s : State) (n b : Nat) : State :=
  let x := s.bufs n
  let t := { s with stampCount := s.stampCount + 1 }
  (t.setBufs n { x with
    elig := x.elig.setIfInBounds b true
    stamp := x.stamp.setIfInBounds b t.stampCount }).refront n

/-- The Plate offset of line `y` of buffer `b`. -/
def SurfDesc.lineAt (d : SurfDesc) (b y : Nat) : Nat := d.bases.getD b 0 + d.pitch * y

/-- R440: software writes a descriptor word; ignored while the surface is in use. -/
def State.writeSurf (s : State) (n off : Nat) (w mask : Word) : State :=
  if s.fld (F.SURF_STATUS_USE n) != 0 then s.setFld (F.SURF_STATUS_WRITE_IGNORED n) 1
  else
    let a := 0x51000 + 0x20 * n + off
    (s.wr a ((s.rd a &&& ~~~ mask) ||| (w &&& mask))).judgeSurf n

end Sys2Proof.Machine
end

