-- ==== Sys2Proof/Machine/Inputs.lean ====
section
/-! DEFINITION. The pixel inputs (R418 to R459): frames and lines captured into the Plate, input states, DSI packets,
command mode, the direct route of virtual channel 1, CTRL writes. -/

namespace Sys2Proof.Machine

/-! ### An input and its streams -/

def State.input (s : State) (i : Nat) : InputState := s.inputs.toList.getD i InputState.idle
def State.setInput (s : State) (i : Nat) (x : InputState) : State := { s with inputs := s.inputs.setIfInBounds i x }

def InputState.vid (x : InputState) (vc1 : Bool) : VidIn := if vc1 then x.vc1 else x.vc0
def State.setVid (s : State) (i : Nat) (vc1 : Bool) (v : VidIn) : State :=
  let x := s.input i
  s.setInput i (if vc1 then { x with vc1 := v } else { x with vc0 := v })

def inOff := 0
def inSearch := 1
def inLocked := 2
def inSleep := 3
def inLost := 4

def State.inState (s : State) (i : Nat) : Nat := s.fld (F.IN_STATUS_STATE i)
def State.setInState (s : State) (i v : Nat) : State := s.setFld (F.IN_STATUS_STATE i) v

/-- DSI ports are inputs 0 and 1 (R428). -/
def isDsi (i : Nat) : Bool := decide (i < 2)

/-- R435: the domain of an input. -/
def inDomain (i : Nat) : Nat := if i < 2 then 10 else 11

/-- The port is in DSI command mode. -/
def State.cmdMode (s : State) (i : Nat) : Bool := isDsi i && s.bit (F.IN_DSI_CTRL_MODE i)

def State.vc1Mode (s : State) (i : Nat) : Nat := if isDsi i && !s.cmdMode i then s.fld (F.IN_DSI_CTRL_VC1_MODE i) else 0

/-- The surface a stream captures into (R442). -/
def State.inSurf (s : State) (i : Nat) (vc1 : Bool) : Nat :=
  if vc1 then s.fld (F.IN_DSI_CTRL_SURF1 i) else s.fld (F.IN_DSI_CTRL_SURF0 i)

/-- R423, R424: widths of red, green and blue of an arriving line. -/
def State.pixWidths (s : State) (i : Nat) (f : PixFmt) : Nat × Nat × Nat :=
  if isDsi i then
    match f with
    | .rgb565 => (5, 6, 5)
    | .rgb666 => (6, 6, 6)
    | .rgb888 => (8, 8, 8)
    | .rgb101010 => (10, 10, 10)
    | .ycc422 => (8, 8, 8)
  else
    let w := 6 + 2 * s.fld (F.IN_LVDS_CTRL_BITS i)
    (w, w, w)

/-- A YCbCr line; LVDS carries red, green and blue only. -/
def isYcc (i : Nat) (f : PixFmt) : Bool := isDsi i && f == .ycc422

/-! ### Lines as they arrive (R419, R423 to R427) -/

/-- R425: a component of `w` bits from its six bits on pairs 0 to 2 and its bits on pairs 3 and 4: VESA mapping has the least
significant bits on the highest-numbered pair, JEIDA the most significant ones. -/
def lvdsPart (w : Nat) (jeida : Bool) (base p3 p4 : Nat) : Nat :=
  if w = 6 then base
  else if w = 8 then (if jeida then p3 * 64 + base else base * 4 + p3)
  else if jeida then p4 * 256 + p3 * 64 + base
  else base * 16 + p3 * 4 + p4

/-- R425: the pixel that a link carries in one clock. -/
def lvdsPx (w : Nat) (jeida : Bool) (c : LvdsClk) : Pix :=
  ⟨lvdsPart w jeida c.base.r c.p3.r c.p4.r, lvdsPart w jeida c.base.g c.p3.g c.p4.g, lvdsPart w jeida c.base.b c.p3.b c.p4.b⟩

/-- R426: even pixels from link 0, odd pixels from link 1. -/
def interleave : List Pix → List Pix → List Pix
  | [], _ => []
  | a :: _, [] => [a]
  | a :: l, b :: m => a :: b :: interleave l m

/-- R426: link 1's pixels where its DE lies more than 3 pixel clocks from link 0's: free values of `w` bits (log entry 96). -/
def skewedLink (w draw : Nat) (l : List Pix) : List Pix :=
  l.mapIdx (fun k _ => ⟨Config.skewed draw (3 * k) % 2 ^ w, Config.skewed draw (3 * k + 1) % 2 ^ w, Config.skewed draw (3 * k + 2) % 2 ^ w⟩)

/-- R424 to R426: the pixels of an LVDS line under CTRL's DUAL, BITS and MAP. -/
def State.lvdsLine (s : State) (i : Nat) (l0 l1 : List LvdsClk) (skew : Int) : List Pix × State :=
  let w := 6 + 2 * s.fld (F.IN_LVDS_CTRL_BITS i)
  let px := List.map (lvdsPx w (s.bit (F.IN_LVDS_CTRL_MAP i)))
  if !s.bit (F.IN_LVDS_CTRL_DUAL i) then (px l0, s)
  else if -3 ≤ skew ∧ skew ≤ 3 then (interleave (px l0) (px l1), s)
  else (interleave (px l0) (skewedLink w s.draw.1 (px l1)), s.draw.2)

/-- R423, R426: format and pixels of an arriving line, whether it is whole, and the state with a free value drawn where one is needed.
A DSI line arrives in 1 to 4 packets; a line of another kind of port does not arrive at all. -/
def State.arrived (s : State) (i : Nat) : LineIn → Option (PixFmt × List Pix × Bool) × State
  | .dsi f l => if isDsi i then (some (f, l.flatten, decide (1 ≤ l.length) && decide (l.length ≤ 4)), s) else (none, s)
  | .lvds l0 l1 k =>
    if isDsi i then (none, s)
    else
      let (px, t) := s.lvdsLine i l0 l1 k
      (some (.rgb888, px, true), t)

/-- R419: the bytes of a packet from its data lanes: the lanes that LANES selects take turns, in ascending order. -/
def State.laneBytes (s : State) (p : Nat) (lanes : List (List Byte)) : List Byte :=
  let n := s.fld (F.IN_DSI_CTRL_LANES p) + 1
  let used := lanes.take n
  (List.range ((used.map List.length).sum)).map (fun k => (lanes.getD (k % n) []).getD (k / n) 0)

/-- The 5-, 6-, 8- or 10-bit groups of a payload, least significant bit first. -/
def bitGroups (w n : Nat) (l : List Byte) : List Nat := (List.range n).map (fun k => bitsOf (leNat l) (w * k) w)

/-- Pixels from their components in wire order. -/
def triples : List Nat → List Pix
  | r :: g :: b :: l => ⟨r, g, b⟩ :: triples l
  | _ => []

/-- YCbCr 4:2:2 in wire order Cb, Y0, Cr, Y1 (Table 10-6): each pixel is its luma and one chroma. -/
def yccPixels : List Nat → List Pix
  | cb :: y0 :: cr :: y1 :: l => ⟨y0, cb, 0⟩ :: ⟨y1, cr, 0⟩ :: yccPixels l
  | _ => []

/-- Table 10-2: format and whole pixels of a payload of data type `dt`. The order of the bits within a pixel is that of the published
standard (log entry 97). -/
def payloadPixels (dt : Nat) (d : List Byte) : PixFmt × List Pix :=
  let n := d.length
  if dt = 0x0E then (.rgb565, (List.range (n / 2)).map (fun k =>
    let v := leNat ((d.drop (2 * k)).take 2)
    ⟨bitsOf v 0 5, bitsOf v 5 6, bitsOf v 11 5⟩))
  else if dt = 0x1E then (.rgb666, triples (bitGroups 6 (8 * n / 18 * 3) d))
  else if dt = 0x2E then (.rgb666, triples (d.map (fun b => b.toNat / 4)))
  else if dt = 0x0D then (.rgb101010, triples (bitGroups 10 (8 * n / 30 * 3) d))
  else if dt = 0x2C then (.ycc422, yccPixels (d.map BitVec.toNat))
  else (.rgb888, triples (d.map BitVec.toNat))

/-- R446: mark a frame TORN. -/
def State.countTorn (s : State) (i : Nat) : State :=
  ((s.satAdd (F.IN_COUNT_TORN_CNT i) 1).setFld (F.IN_STATUS_TORN i) 1).raise causeTorn

/-- R446: the frame in progress becomes TORN, once. In stand-alone mode a captured frame sets TORN_SEEN. -/
def State.tear (s : State) (i : Nat) (vc1 : Bool) : State :=
  let v := (s.input i).vid vc1
  if v.torn then s
  else
    let t := (s.setVid i vc1 { v with torn := true }).countTorn i
    if v.cap.isSome && t.standAlone then t.setFld F.BOOT_SA_STATUS_TORN_SEEN 1 else t

/-- R433 to R435: a frame being captured is TORN and abandoned; geometry starts afresh. -/
def State.cutFrame (s : State) (i : Nat) (vc1 : Bool) : State :=
  let s1 := if ((s.input i).vid vc1).cap.isSome then s.tear i vc1 else s
  s1.setVid i vc1 VidIn.idle

def State.cutFrames (s : State) (i : Nat) : State := (s.cutFrame i false).cutFrame i true

/-! ### Stand-alone selection (R75 to R80) -/

/-- R424, Table 10-4: the port receives: the D-PHY clock lane is in HS, or the LVDS receiver is locked to a pixel clock from 20 MHz
to 112 MHz. -/
def State.receives (s : State) (i : Nat) : Bool :=
  let x := s.input i
  x.signal && (isDsi i || (decide (20000 ≤ x.khz) && decide (x.khz ≤ 112000)))

/-- Table 2-4: input `i` is active. -/
def State.saActive (s : State) (i : Nat) : Bool :=
  (i == 0 || i == 2) && s.receives i && s.inState i == inLocked && !s.cmdMode i && !(i == 0 && (s.input 0).ycc)

/-- The code of an input in BOOT_SA_STATUS.INPUT. -/
def saCode (i : Nat) : Nat := if i = 2 then 1 else if i = 0 then 2 else 0

/-- R80: the selected input has stopped being active; head A shows black from its next frame start. -/
def State.saWatch (s : State) : State :=
  let gone := fun i => s.fld F.BOOT_SA_STATUS_INPUT == saCode i && !s.saActive i
  if s.standAlone && (gone 0 || gone 2) then { s with boot := { s.boot with saStopped := true } } else s

/-- Table 10-4, Table 2-4: what the pins of input `i` carry at a tick; without a sample they carry what they did. -/
def State.hear (s : State) (i : Nat) (g : Option InSignal) : State :=
  let x := s.input i
  let y := { x with signal := (g.map InSignal.on).getD x.signal, khz := (g.map InSignal.khz).getD x.khz, quiet := x.quiet + 1 }
  let t := s.setInput i y
  t.setInput i { y with gone := if t.receives i then 0 else x.gone + 1 }

def State.hearAll (s : State) (rx : List InSignal) : State := (s.each [0, 1, 2, 3] (fun s i => s.hear i rx[i]?)).saWatch

/-- R86: the profile is small enough for pass-through. -/
def State.saFits (s : State) : Bool :=
  !s.bit F.BOOT_SA_STATUS_PT_OVERSIZE && !s.bit F.BOOT_SA_STATUS_PT_PLATE_FAULT

/-- R78, R82: whether Burin captures input `i`: the selected one; with none selected LVDS0 while it receives, else
DSI0 (log entry 17). -/
def State.saCaptures (s : State) (i : Nat) : Bool :=
  s.saFits && (
    if s.fld F.BOOT_SA_STATUS_INPUT != 0 then s.fld F.BOOT_SA_STATUS_INPUT == saCode i
    else if i = 2 then true
    else i == 0 && !(s.inState 2 == inSearch || s.inState 2 == inLocked))

/-! ### Frames (R429, R430, R443 to R446) -/

/-- The surface that the next frame of a stream is captured into. -/
def State.captureSurf (s : State) (i : Nat) (vc1 : Bool) : Option Nat :=
  if s.standAlone then (if !vc1 && s.saCaptures i then some 63 else none)
  else
    let n := s.inSurf i vc1
    if (s.input i).targets.contains n then some n else none

/-- The stream exists: VC0 of a video port, or VC1 in capture mode; an LVDS receiver is locked (R424). -/
def State.streamOn (s : State) (i : Nat) (vc1 : Bool) : Bool :=
  !s.cmdMode i && (!vc1 || s.vc1Mode i == 1) && (isDsi i || s.receives i)

/-- R85: what the capture buffer of stand-alone mode is being filled with. -/
def State.noteCapture (s : State) (i b : Nat) (w : Nat × Nat × Nat) : State :=
  if s.standAlone then { s with boot := { s.boot with saBuf := s.boot.saBuf.setIfInBounds b (i, w) } } else s

/-- Table 10-4: a Vsync Start has come on virtual channel 0. -/
def State.heardVsync (s : State) (i : Nat) (vc1 : Bool) : State := if vc1 then s else s.setInput i { s.input i with quiet := 0 }

/-- R432, R444: a frame starts. The first Vsync Start after LOST leads to SEARCH. -/
def State.frameIn (s : State) (i : Nat) (vc1 : Bool) : State :=
  if !s.streamOn i vc1 || s.inState i == inOff || s.inState i == inSleep || ((s.input i).vid vc1).inFrame then s
  else if s.inState i == inLost && (vc1 || !isDsi i) then s
  else
    let s1 := (if s.inState i == inLost then s.setInState i inSearch else s).heardVsync i vc1
    let v : VidIn := { VidIn.idle with inFrame := true, prev := ((s1.input i).vid vc1).prev }
    match s1.captureSurf i vc1 with
    | none => s1.setVid i vc1 v
    | some n => match s1.chooseBuf n with
      | none => (s1.setVid i vc1 v).satAdd (F.IN_COUNT_DROPPED i) 1
      | some b => ((s1.setVid i vc1 { v with cap := some (n, b) }).startBuf n b).noteCapture i b (8, 8, 8)

/-- The bytes of surface line `y`: input pixels cut to the width, the rest black (R443). -/
def lineBytes (d : SurfDesc) (wr wg wb : Nat) (px : List Pix) : List Byte :=
  (px.take d.width).flatMap (storePixel d.fmt wr wg wb) ++
    (List.replicate (d.width - px.length) (blackPixel d.fmt)).flatten

/-- R389: a line enters the elastic buffer when its free space holds it, else it is discarded, counted, and its frame
torn. -/
def State.lineIn (s : State) (i : Nat) (vc1 : Bool) (n b y : Nat) (bytes : List Byte) : State :=
  let w := lineWords ((s.desc n).lineAt b y) bytes
  if bufBytes s.elastic + bufBytes w ≤ 65536 then { s with elastic := s.elastic ++ w }
  else (s.countRefuse 16).tear i vc1

/-- R421, R423, R430, R443: a line of a frame has arrived. It differs when its pixel count is not that of the frame's first whole line, or,
in a LOCKED input, not that of the stream's last complete frame; an incomplete line is TORN and has no pixel count (log entry 57). -/
def State.videoLine (s : State) (i : Nat) (vc1 : Bool) (f : PixFmt) (px : List Pix) : State :=
  let v := (s.input i).vid vc1
  if !v.inFrame || (vc1 && isYcc i f) then s
  else
    let y := v.lines
    let broken := v.broken
    let width := if broken || v.width != 0 then v.width else px.length
    let odd := !broken && px.length != width
    let differs := odd || (!broken && v.prev.any (fun g => g.1 != px.length))
    let v1 := { v with lines := y + 1, width := width, broken := false, odd := v.odd || odd, packets := [] }
    let s1 := (s.setVid i vc1 v1).setInput i { (s.setVid i vc1 v1).input i with ycc := !vc1 && isYcc i f }
    let s2 := if broken then s1.tear i vc1 else s1
    let s3 := if differs && s2.inState i == inLocked then (s2.tear i vc1).setInState i inSearch else s2
    match v.cap with
    | none => s3
    | some (n, b) =>
      let d := s3.desc n
      if isYcc i f != (d.fmt == 8) then s3.tear i vc1
      else
        let (wr, wg, wb) := s3.pixWidths i f
        let s4 := if px.length != d.width || d.height ≤ y then s3.setFld (F.IN_STATUS_SIZE_MISMATCH i) 1 else s3
        if d.height ≤ y || broken then s4
        else (s4.lineIn i vc1 n b y (lineBytes d wr wg wb px)).noteCapture i b (wr, wg, wb)

/-- R423: a line that did not arrive whole is incomplete (R421). -/
def State.wholeLine (s : State) (i : Nat) (vc1 : Bool) (f : PixFmt) (px : List Pix) (whole : Bool) : State :=
  let v := (s.input i).vid vc1
  (if whole then s else s.setVid i vc1 { v with broken := true }).videoLine i vc1 f px

/-- R443, R447, R933: the rows from `y` on that the frame did not cover go through the elastic buffer as black lines, behind the frame's
own (log entry 18). -/
def State.blackRows (s : State) (n b : Nat) (d : SurfDesc) (y : Nat) : State :=
  if d.height ≤ y then s
  else
    let row := (List.replicate d.width (blackPixel d.fmt)).flatten
    let pad := (32 - row.length % 32) % 32
    let r : BlackRows := ⟨n, b, d.lineAt b y, d.pitch, d.height - y, row ++ List.replicate pad 0⟩
    { s with black := s.black ++ [r] }.refill

/-- R429, R430: what a complete frame of geometry `g` does to the state of the input. -/
def State.judgeGeometry (s : State) (i : Nat) (vc1 : Bool) (g : Option (Nat × Nat)) (prev : Option (Nat × Nat)) : State :=
  let s1 := match g with
    | some (w, h) => if vc1 then s else (s.setFld (F.IN_GEOM_WIDTH i) w).setFld (F.IN_GEOM_HEIGHT i) h
    | none => s
  if s1.inState i == inLocked && prev.isSome && g != prev then (s1.tear i vc1).setInState i inSearch
  else if s1.inState i == inSearch && !vc1 && g.isSome && g == prev then s1.setInState i inLocked
  else s1

/-- R445, R446: the frame ends. -/
def State.frameEnd (s : State) (i : Nat) (vc1 : Bool) : State :=
  let v := (s.input i).vid vc1
  if !v.inFrame then s
  else
    let s0 := if v.broken then s.tear i vc1 else s
    let g := if v.odd || v.width = 0 || decide (4096 < v.width) || decide (2400 < v.lines) then none else some (v.width, v.lines)
    let s1 := s0.judgeGeometry i vc1 g v.prev
    let v1 := (s1.input i).vid vc1
    let s2 := s1.setVid i vc1 { VidIn.idle with prev := g }
    match v1.cap with
    | none => s2
    | some (n, b) =>
      let d := s2.desc n
      let s3 := if v1.lines < d.height then s2.setFld (F.IN_STATUS_SIZE_MISMATCH i) 1 else s2
      let s4 := s3.blackRows n b d v1.lines
      if v1.torn then s4 else (s4.wrapAdd (F.IN_COUNT_FRAMES i) 1).completeBuf n b

/-- R423, R450: the packets of the line in progress are complete. -/
def State.closeLine (s : State) (i : Nat) (vc1 : Bool) : State :=
  let v := (s.input i).vid vc1
  if v.packets.isEmpty && !v.broken then s else s.wholeLine i vc1 v.fmt v.packets.flatten (decide (v.packets.length ≤ 4))

/-- INPUT_FRAME_START (R442, R444). -/
def execInputFrameStart (i : Fin 4) (vc1 : Bool) (s : State) : Host.Outcome State Fault Refusal :=
  .next (s.ifLive (s.frameIn i.val (vc1 && isDsi i.val)))

/-- INPUT_LINE (R389, R421, R423 to R427, R430, R443). -/
def execInputLine (i : Fin 4) (vc1 : Bool) (l : LineIn) (s : State) : Host.Outcome State Fault Refusal :=
  .next (s.ifLive (
    if !s.streamOn i.val (vc1 && isDsi i.val) then s
    else match s.arrived i.val l with
      | (none, t) => t
      | (some (f, px, whole), t) => (t.wholeLine i.val (vc1 && isDsi i.val) f px whole).saWatch))

/-- INPUT_FRAME_END (R429, R430, R443, R445). -/
def execInputFrameEnd (i : Fin 4) (vc1 : Bool) (s : State) : Host.Outcome State Fault Refusal :=
  .next (s.ifLive ((s.closeLine i.val (vc1 && isDsi i.val)).frameEnd i.val (vc1 && isDsi i.val)).saWatch)

/-! ### DSI packets (R418, R420, R421, R431, R451) -/

/-- Table 10-2. -/
def isPixelType (dt : Nat) : Bool := [0x0E, 0x1E, 0x2E, 0x3E, 0x0D, 0x2C].contains dt

/-- Packets that carry no pixels: sync events, end of transmission, null, blanking, set maximum return size. -/
def isSyncType (dt : Nat) : Bool := [0x01, 0x11, 0x21, 0x31, 0x08, 0x09, 0x19, 0x37].contains dt

/-- Table 10-1: the DCS commands and reads that a packet of type `dt` can carry: short writes without and with a parameter, a long
write, a read (log entry 97). -/
def dcsCodes (dt : Nat) : List Nat :=
  if dt = 0x05 then [0x34, 0x10, 0x11]
  else if dt = 0x15 then [0x35]
  else if dt = 0x39 then [0x2C, 0x3C, 0x2A, 0x2B, 0x34, 0x35, 0x10, 0x11]
  else if dt = 0x06 then [0x0A, 0x0C, 0x0E]
  else []

/-- A DCS long write of pixels. -/
def isPixelWrite (dt dcs : Nat) : Bool := dt == 0x39 && (dcs == 0x2C || dcs == 0x3C)

/-- The packet is supported on its channel in the port's present mode (R418, R420). The reads of Table 10-1 are supported in either
mode. -/
def State.supported (s : State) (p vc dt dcs : Nat) : Bool :=
  decide (vc < 2) && (isSyncType dt || (dt == 0x06 && (dcsCodes dt).contains dcs) ||
    (if s.cmdMode p then vc == 0 && (dcsCodes dt).contains dcs
     else isPixelType dt && !(vc == 1 && dt == 0x2C)))

/-- R421: the packet carries pixels in the port's present mode. -/
def State.pixelPacket (s : State) (p dt dcs : Nat) : Bool := if s.cmdMode p then isPixelWrite dt dcs else isPixelType dt

/-- R421, R446, R456: a packet that carried pixels is discarded. -/
def State.packetLost (s : State) (p vc dt dcs : Nat) : State :=
  if !s.pixelPacket p dt dcs then s
  else if s.cmdMode p then s.countTorn p
  else
    let vc1 := vc == 1
    let v := (s.input p).vid vc1
    if v.inFrame then s.setVid p vc1 { v with broken := true } else s

/-- R431, R432: a packet received in command mode: SEARCH becomes LOCKED when it came without error, LOST in any case. -/
def State.cmdPacket (s : State) (p : Nat) (clean : Bool) : State :=
  if s.cmdMode p && ((s.inState p == inSearch && clean) || s.inState p == inLost) then s.setInState p inLocked else s

/-! ### The direct route (R450 to R452) -/

/-- The direct route of port `p` takes lines now. -/
def State.directLive (s : State) (p : Nat) : Bool :=
  s.vc1Mode p == 2 && s.inState p != inOff && s.inState p != inSleep && s.inState p != inLost

/-- R450, R452: a line enters the buffer of 8 lines of up to 4,096 pixels, or is discarded. One that did not arrive whole stays out. -/
def State.directLine (s : State) (p : Nat) (f : PixFmt) (px : List Pix) (whole : Bool) : State :=
  if f == .ycc422 then s
  else
    let x := s.input p
    let y := x.directNext
    let (wr, wg, wb) := s.pixWidths p f
    let wide := px.map (fun q => (⟨widen wr 12 q.r, widen wg 12 q.g, widen wb 12 q.b⟩ : Pix))
    if !whole then s.setInput p { x with directNext := y + 1 }
    else if 8 ≤ x.direct.length then
      (s.setInput p { x with directNext := y + 1 }).setFld (F.IN_STATUS_VC1_LATE p) 1
    else s.setInput p { x with direct := x.direct ++ [(x.directCount, y, wide.take 4096)], directNext := y + 1 }

/-- R451: a Vsync Start on the direct route: a new VC1 frame begins; lines that the head's present frame still needs stay. -/
def State.directStart (s : State) (p : Nat) : State :=
  let x := s.input p
  let l := s.fld (F.IN_DSI_CTRL_SURF1 p)
  let h := s.fld (F.LAYER_W0_HEAD l)
  (s.setInput p { x with directCount := x.directCount + 1, directNext := 0, directNew := true }).headEvent h

/-- R423, R450: the packets of the VC1 line in progress are complete on the direct route. -/
def State.closeDirect (s : State) (p : Nat) : State :=
  let v := (s.input p).vc1
  let t := s.setVid p true VidIn.idle
  if (v.packets.isEmpty && !v.broken) || !s.directLive p then t
  else t.directLine p v.fmt v.packets.flatten (decide (v.packets.length ≤ 4) && !v.broken)

/-- VC1_LINE (R450, R452). -/
def execVc1Line (p : Fin 2) (f : PixFmt) (packets : List (List Pix)) (s : State) : Host.Outcome State Fault Refusal :=
  .next (s.ifLive (
    if s.directLive p.val then
      s.directLine p.val f packets.flatten (decide (1 ≤ packets.length) && decide (packets.length ≤ 4))
    else s))

/-! ### Packets of a line and a frame (R423) -/

/-- R423: the packet `dt` with payload `d` on virtual channel 0 or 1 of a port in video mode: a Vsync Start ends the frame before and
starts one, an Hsync Start or Vsync End ends the line before, a pixel packet joins its line. -/
def State.videoPacket (s : State) (p : Nat) (vc1 : Bool) (dt : Nat) (d : List Byte) : State :=
  let direct := vc1 && s.vc1Mode p == 2
  let ended := if direct then s.closeDirect p else s.closeLine p vc1
  if dt = 0x01 then
    (if direct then (if ended.inState p == inSleep then ended else ended.directStart p)
     else (ended.frameEnd p vc1).frameIn p vc1)
  else if dt = 0x21 ∨ dt = 0x11 then ended
  else if isPixelType dt then
    let v := (s.input p).vid vc1
    let (f, px) := payloadPixels dt d
    if direct || v.inFrame then s.setVid p vc1 { v with packets := v.packets ++ [px], fmt := f } else s
  else s

/-- DSI_PACKET (R418 to R421, R423, R431, R451): the bytes on the port's data lanes, with header bytes as the ECC leaves them: a data
identifier (virtual channel [7:6], data type [5:0]), two bytes of data or word count, the ECC, and a long packet's payload. -/
def execDsiPacket (p : Fin 2) (lanes : List (List Byte)) (hdr : HdrEcc) (crcOk : Bool) (s : State) :
    Host.Outcome State Fault Refusal :=
  .next (s.ifLive (
    let b := s.laneBytes p.val lanes
    let vc := bitsOf (b.getD 0 0).toNat 6 2
    let dt := bitsOf (b.getD 0 0).toNat 0 6
    let d := (b.drop 4).take (leNat ((b.drop 1).take 2))
    let dcs := if dt = 0x39 then (d.getD 0 0).toNat else (b.getD 1 0).toNat
    if s.inState p.val == inOff then s
    else match hdr with
      | .uncorrectable => (s.satAdd (F.IN_ERR_ECC_UNCORR p.val) 1).packetLost p.val vc dt dcs
      | _ =>
        let s1 := if hdr = .corrected then s.satAdd (F.IN_ERR_ECC_CORR p.val) 1 else s
        if !s1.supported p.val vc dt dcs then s1.satAdd (F.IN_ERR_UNSUP p.val) 1
        else if !crcOk then
          (if s1.pixelPacket p.val dt dcs then s1.satAdd (F.IN_ERR_CRC_ERR p.val) 1 else s1).packetLost p.val vc dt dcs
        else
          let s2 := s1.cmdPacket p.val (hdr == .clean)
          if s2.cmdMode p.val || (vc = 1 && s2.vc1Mode p.val = 0) then s2 else (s2.videoPacket p.val (vc == 1) dt d).saWatch))

/-! ### Command mode (R454 to R459) -/

/-- The port takes command-mode packets (R454, R459). -/
def State.cmdOn (s : State) (p : Nat) : Bool := s.cmdMode p && s.inState p != inOff

/-- The write window (R454): first and last column, first and last row. -/
def State.window (s : State) (p : Nat) : Nat × Nat × Nat × Nat :=
  let d := s.desc (s.inSurf p false)
  let x := s.input p
  let (c0, c1) := x.cols.getD (0, d.width - 1)
  let (r0, r1) := x.rows.getD (0, d.height - 1)
  (c0, min c1 (d.width - 1), r0, min r1 (d.height - 1))

/-- R454: a window that clipping leaves empty becomes the whole surface. -/
def State.clipWindow (s : State) (p : Nat) : State :=
  let (c0, c1, r0, r1) := s.window p
  if c1 < c0 ∨ r1 < r0 then s.setInput p { s.input p with cols := none, rows := none } else s

/-- The wire format's component widths (Table 10-2, CMD_FMT). -/
def State.cmdWidths (s : State) (p : Nat) : Nat × Nat × Nat :=
  if s.fld (F.IN_DSI_CTRL_CMD_FMT p) = 0 then (5, 6, 5)
  else if s.fld (F.IN_DSI_CTRL_CMD_FMT p) = 1 then (6, 6, 6) else (8, 8, 8)

/-- The runs of pixels that `px`, from window position `pos`, puts into the rows of a window `w` columns wide. -/
def windowRuns (c0 r0 w : Nat) : Nat → Nat → List Pix → List (Nat × Nat × List Pix)
  | 0, _, _ => []
  | n + 1, pos, px =>
    if px.isEmpty then []
    else
      let k := w - pos % w
      (c0 + pos % w, r0 + pos / w, px.take k) :: windowRuns c0 r0 w n (pos + k) (px.drop k)

/-- R455, R456: pixels written from window position `pos`. -/
def State.writePixels (s : State) (p pos : Nat) (px : List Pix) : State :=
  let d := s.desc (s.inSurf p false)
  let (c0, c1, r0, r1) := s.window p
  let w := c1 + 1 - c0
  let room := w * (r1 + 1 - r0) - pos
  let (wr, wg, wb) := s.cmdWidths p
  let s1 := if room < px.length then s.setFld (F.IN_STATUS_SIZE_MISMATCH p) 1 else s
  let s2 := s1.setInput p { s1.input p with pos := pos + min px.length room }
  let words := (windowRuns c0 r0 w (px.length + 1) pos (px.take room)).flatMap (fun (x, y, q) =>
    cutWords (q.length + 1) (d.lineAt 0 y + x * fmtBytes d.fmt) (q.flatMap (storePixel d.fmt wr wg wb)))
  if bufBytes s2.elastic + bufBytes words ≤ 65536 then { s2 with elastic := s2.elastic ++ words }
  else (s2.countRefuse 16).countTorn p

/-- WRITE_MEMORY_START (R455, R456). -/
def execWriteMemoryStart (p : Fin 2) (px : List Pix) (s : State) : Host.Outcome State Fault Refusal :=
  .next (s.ifLive (if s.cmdOn p.val then s.writePixels p.val 0 px else s))

/-- WRITE_MEMORY_CONTINUE (R455, R456). -/
def execWriteMemoryContinue (p : Fin 2) (px : List Pix) (s : State) : Host.Outcome State Fault Refusal :=
  .next (s.ifLive (if s.cmdOn p.val then s.writePixels p.val (s.input p.val).pos px else s))

/-- SET_COLUMN_ADDRESS (R454). -/
def execSetColumnAddress (p : Fin 2) (first last : Fin 65536) (s : State) : Host.Outcome State Fault Refusal :=
  .next (s.ifLive (if s.cmdOn p.val then
    (s.setInput p.val { s.input p.val with cols := some (first.val, last.val) }).clipWindow p.val else s))

/-- SET_PAGE_ADDRESS (R454). -/
def execSetPageAddress (p : Fin 2) (first last : Fin 65536) (s : State) : Host.Outcome State Fault Refusal :=
  .next (s.ifLive (if s.cmdOn p.val then
    (s.setInput p.val { s.input p.val with rows := some (first.val, last.val) }).clipWindow p.val else s))

/-- SET_TEAR_ON (R458). -/
def execSetTearOn (p : Fin 2) (s : State) : Host.Outcome State Fault Refusal :=
  .next (s.ifLive (if s.cmdOn p.val then s.setFld (F.IN_DSI_TE_TE_EN p.val) 1 else s))

/-- SET_TEAR_OFF (R458). -/
def execSetTearOff (p : Fin 2) (s : State) : Host.Outcome State Fault Refusal :=
  .next (s.ifLive (if s.cmdOn p.val then s.setFld (F.IN_DSI_TE_TE_EN p.val) 0 else s))

/-- ENTER_SLEEP_MODE (R432, R433, R457). -/
def execEnterSleepMode (p : Fin 2) (s : State) : Host.Outcome State Fault Refusal :=
  .next (s.ifLive (if s.cmdOn p.val then
    (s.setFld (F.IN_DSI_TE_SLEEP_OUT p.val) 0).setInState p.val inSleep else s))

/-- EXIT_SLEEP_MODE (R432, R457). -/
def execExitSleepMode (p : Fin 2) (s : State) : Host.Outcome State Fault Refusal :=
  .next (s.ifLive (if s.cmdOn p.val then
    (s.setFld (F.IN_DSI_TE_SLEEP_OUT p.val) 1).setInState p.val inLocked else s))

/-- The port answers a read (R422, R457). -/
def State.answer (s : State) (p v : Nat) : State := s.setInput p { s.input p with out := [BitVec.ofNat 8 v] }

/-- GET_POWER_MODE (R457). -/
def execGetPowerMode (p : Fin 2) (s : State) : Host.Outcome State Fault Refusal :=
  .next (s.ifLive (if s.inState p.val != inOff then
    s.answer p.val (0x08 + 0x10 * s.fld (F.IN_DSI_TE_SLEEP_OUT p.val) +
      0x04 * (if s.headRunning (s.fld (F.IN_DSI_TE_TE_HEAD p.val)) then 1 else 0)) else s))

/-- GET_PIXEL_FORMAT (R457). -/
def execGetPixelFormat (p : Fin 2) (s : State) : Host.Outcome State Fault Refusal :=
  .next (s.ifLive (if s.inState p.val != inOff then s.answer p.val (0x55 + 0x11 * s.fld (F.IN_DSI_CTRL_CMD_FMT p.val)) else s))

/-- GET_SIGNAL_MODE (R457). -/
def execGetSignalMode (p : Fin 2) (s : State) : Host.Outcome State Fault Refusal :=
  .next (s.ifLive (if s.inState p.val != inOff then s.answer p.val 0 else s))

/-- BUS_TURNAROUND (R422): after no supported read, the bus returns without a packet. -/
def execBusTurnaround (p : Fin 2) (s : State) : Host.Outcome State Fault Refusal :=
  .next (s.ifLive (s.setInput p.val { s.input p.val with out := [] }))

/-! ### Sleep and loss (R432, R433) -/

/-- The state an input returns to (Table 10-4). -/
def State.backState (s : State) (i : Nat) : Nat := if s.cmdMode i then inLocked else inSearch

/-- R452: the lines that the direct route holds are given up. -/
def State.dropDirect (s : State) (i : Nat) : State := s.setInput i { s.input i with direct := [], directOn := none, directNew := false }

/-- R432, R433: the input goes to SLEEP or LOST. -/
def State.goneTo (s : State) (i st : Nat) : State := (((s.cutFrames i).dropDirect i).setInState i st).saWatch

/-- ULPS_ENTRY (R432, R433). -/
def execUlpsEntry (p : Fin 2) (s : State) : Host.Outcome State Fault Refusal :=
  .next (s.ifLive (if s.inState p.val == inOff then s else s.goneTo p.val inSleep))

/-- ULPS_EXIT (R432). -/
def execUlpsExit (p : Fin 2) (s : State) : Host.Outcome State Fault Refusal :=
  .next (s.ifLive (if s.inState p.val == inSleep then s.setInState p.val (s.backState p.val) else s))

/-- Table 10-4: input `i` has had no signal for LOST_MS, or, in DSI video mode, no Vsync Start; a port in command mode is lost only
while SLEEP_OUT is 1. -/
def State.lostDue (s : State) (i : Nat) : Bool :=
  let x := s.input i
  let n := s.fld (F.IN_DSI_CTRL_LOST_MS i)
  (s.inState i == inSearch || s.inState i == inLocked) && (!s.cmdMode i || s.bit (F.IN_DSI_TE_SLEEP_OUT i)) &&
    (decide (n ≤ x.gone) || (isDsi i && !s.cmdMode i && decide (n ≤ x.quiet)))

/-- INPUT_LOST (R432, R433). -/
def execInputLost (i : Fin 4) (s : State) : Host.Outcome State Fault Refusal :=
  .next (s.ifLive (if s.lostDue i.val then s.goneTo i.val inLost else s))

/-- LVDS_LOCK (R424, R432): the receiver of LVDS port 0 or 1 regains lock, to a pixel clock of `khz` kHz. -/
def execLvdsLock (i : Fin 2) (khz : Nat) (s : State) : Host.Outcome State Fault Refusal :=
  .next (s.ifLive (
    let k := i.val + 2
    let t := s.setInput k { s.input k with signal := true, khz := khz }
    let u := if t.receives k then t.setInput k { t.input k with gone := 0 } else t
    if u.receives k && u.inState k == inLost then u.setInState k inSearch else u))

/-! ### Configuration (R434 to R436, R442, R454) -/

/-- R442: surface `n` can be a capture target; `rgb` allows no YCbCr. -/
def State.captureOk (s : State) (n : Nat) (rgb : Bool) : Bool :=
  let d := s.regDesc n
  decide (n < 64) && d.valid && decide (2 ≤ d.nbuf) && s.fld (F.SURF_STATUS_USE n) == 0 &&
    ([0, 1, 2, 3, 5].contains d.fmt || (!rgb && d.fmt == 8))

/-- R436, R442, R450, R454: the configuration in CTRL keeps the rules. -/
def State.inCfgOk (s : State) (i : Nat) : Bool :=
  let n0 := s.inSurf i false
  let n1 := s.fld (F.IN_DSI_CTRL_SURF1 i)
  s.pdOn (inDomain i) && s.fld (F.IN_DSI_CTRL_LOST_MS i) != 0 &&
    (if !isDsi i then s.fld (F.IN_LVDS_CTRL_BITS i) != 3 && s.captureOk n0 true
     else if s.cmdMode i then
       let d := s.regDesc n0
       s.fld (F.IN_DSI_CTRL_CMD_FMT i) != 3 && decide (n0 < 64) && d.valid && d.nbuf == 1 &&
         s.fld (F.SURF_STATUS_USE n0) == 0 && [0, 1, 2, 3, 5].contains d.fmt
     else s.captureOk n0 false &&
       (match s.fld (F.IN_DSI_CTRL_VC1_MODE i) with
        | 0 => true
        | 1 => s.captureOk n1 true
        | 2 => decide (4 ≤ n1) && decide (n1 ≤ 7) && s.bit (F.LAYER_W0_EN n1) &&
            s.headRunning (s.fld (F.LAYER_W0_HEAD n1))
        | _ => false))

/-- Give back the surfaces the input held. -/
def State.releaseTargets (s : State) (i : Nat) : State :=
  let t := s.each (s.input i).targets (fun s n => s.setFld (F.SURF_STATUS_USE n) 0)
  t.setInput i { t.input i with targets := [] }

/-- Claim surface `n` for the input with USE `use`. -/
def State.claim (s : State) (i n use : Nat) : State :=
  let t := s.setFld (F.SURF_STATUS_USE n) use
  t.setInput i { t.input i with targets := n :: (t.input i).targets }

/-- The input starts in SEARCH (R434, R435): targets claimed, window whole, SLEEP_OUT 0 (R454, R457). -/
def State.startInput (s : State) (i : Nat) : State :=
  let s1 := s.setInput i (s.input i).fresh
  let s2 :=
    if s1.cmdMode i then
      ((s1.claim i (s1.inSurf i false) 3).setFld (F.SURF_STATUS_FRONT (s1.inSurf i false)) 0).setFld
        (F.SURF_STATUS_FRONT_VALID (s1.inSurf i false)) 1
    else
      let a := (s1.claim i (s1.inSurf i false) 2).refront (s1.inSurf i false)
      if a.vc1Mode i = 1 then (a.claim i (a.inSurf i true) 2).refront (a.inSurf i true) else a
  let s3 := if isDsi i then s2.setFld (F.IN_DSI_TE_SLEEP_OUT i) 0 else s2
  s3.setInState i inSearch

/-- R434, R436: judge the CTRL register that has just been written. -/
def State.judgeInput (s : State) (i : Nat) : State :=
  if !s.bit (F.IN_DSI_CTRL_EN i) then (s.setInState i inOff).setFld (F.IN_STATUS_CFG_ERR i) 0
  else if s.inCfgOk i then (s.startInput i).setFld (F.IN_STATUS_CFG_ERR i) 0
  else (s.setInState i inOff).setFld (F.IN_STATUS_CFG_ERR i) 1

/-- R434, R436: a write of CTRL. A frame in capture is TORN; the input restarts. -/
def State.writeInCtrl (s : State) (i : Nat) (w mask : Word) : State :=
  let a := 0x50000 + 0x40 * i
  let s1 := if s.bit (F.IN_DSI_CTRL_EN i) then s.cutFrames i else s
  ((s1.releaseTargets i).wr a ((s.rd a &&& ~~~ mask) ||| (w &&& mask))).judgeInput i

/-- R435: the input's domain powers down. -/
def State.inputDown (s : State) (i : Nat) : State := ((s.cutFrames i).dropDirect i).setInState i inOff

/-- R435: the domain is on again: an enabled input restarts in SEARCH. One that R436 has refused is judged again. -/
def State.inputUp (s : State) (i : Nat) : State :=
  if !s.bit (F.IN_DSI_CTRL_EN i) then s
  else
    let t := s.releaseTargets i
    if !s.bit (F.IN_STATUS_CFG_ERR i) || t.inCfgOk i then t.startInput i else t

end Sys2Proof.Machine
end

