-- ==== Sys2Proof/Machine/Numeric.lean ====
section
/-! DEFINITION. Exact arithmetic helpers: rounded division (R478) and fixed-point logarithm and exponential, with which
R501 and Table 17-5 are evaluated. -/

namespace Sys2Proof.Machine

/-- R478: `x / y` to the nearest integer, ties up. -/
def rdiv (x y : Nat) : Nat := (2 * x + y) / (2 * y)

/-- Signed `x / y` to the nearest integer, ties up (`y > 0`). -/
def rdivInt (x : Int) (y : Nat) : Int := (2 * x + y) / (2 * (y : Int))

/-- One in the fixed-point scale. -/
def one60 : Nat := 2 ^ 60

/-- Integer square root, bit by bit from bit `k - 1` down. -/
def isqrtFrom : Nat → Nat → Nat → Nat
  | 0, _, r => r
  | k + 1, n, r => let t := r + 2 ^ k; isqrtFrom k n (if t * t ≤ n then t else r)

/-- 2^(2^-k) in the fixed-point scale. -/
def root2 : Nat → Nat
  | 0 => 2 * one60
  | k + 1 => isqrtFrom 64 (root2 k * one60) 0

/-- Fraction bits of log2 of `m` in [1, 2), `k` of them, most significant first. -/
def logBits : Nat → Nat → Nat → Nat
  | 0, _, acc => acc
  | k + 1, m, acc =>
    let q := m * m / one60
    if 2 * one60 ≤ q then logBits k (q / 2) (2 * acc + 1) else logBits k q (2 * acc)

/-- log2 of the positive rational `a / b`, in units of 2^-48. -/
def log2Fx (a b : Nat) : Int :=
  let e : Int := (Nat.log2 a : Int) - (Nat.log2 b : Int)
  let m := if 0 ≤ e then a * one60 / (b * 2 ^ e.toNat) else a * one60 * 2 ^ (-e).toNat / b
  let (m', e') := if m < one60 then (2 * m, e - 1) else (m, e)
  e' * (2 : Int) ^ 48 + logBits 48 m' 0

/-- The product of 2^(2^-k) over the set bits of a 48-bit fraction, from its bit `48 - k`. -/
def expBits : Nat → Nat → Nat → Nat
  | 0, _, acc => acc
  | k + 1, f, acc => expBits k f (if f / 2 ^ k % 2 = 1 then acc * root2 (48 - k) / one60 else acc)

/-- 2 to the power `y / 2^48`, in the fixed-point scale. -/
def exp2Fx (y : Int) : Nat :=
  let i := y / (2 : Int) ^ 48
  let f := (y % (2 : Int) ^ 48).toNat
  let v := expBits 48 f one60
  if 0 ≤ i then v * 2 ^ i.toNat else v / 2 ^ (-i).toNat

/-- R501: 65,535 × Y of ST 2084 code `v`, rounded, before the tolerance. -/
def pqExact (v : Nat) : Nat :=
  if v = 0 then 0
  else
    let t := exp2Fx (log2Fx v 4095 * 32 / 2523)
    let num := 128 * t - 107 * one60
    let den := 2413 * one60 - 2392 * t
    if num = 0 then 0 else rdiv (65535 * exp2Fx (log2Fx num den * 8192 / 1305)) one60

/-- Natural logarithm of `a / b` in units of 2^-40 (ln 2 = 0.6931471805599453). -/
def lnFx (a b : Nat) : Int := log2Fx a b * 6931471805599453 / (10000000000000000 * 256)

end Sys2Proof.Machine
end

