-- ==== Sys2Proof/Machine/Pixels.lean ====
section
/-! DEFINITION. The composition pipeline as functions of latched layers, tables and memory (R477 to R513): unpacking,
colour key, scalers, linearisation, alpha, blending, tone mapping, the post-blend table, refused fetches (R521). -/

namespace Sys2Proof.Machine

/-- A pixel in the pipeline: 12-bit colour and 8-bit alpha (Table 11-1). -/
structure Px where
  r : Nat
  g : Nat
  b : Nat
  a : Nat
  deriving DecidableEq, Repr

/-! ### Unpacking (R479 to R482) -/

/-- R499: entry `i` of the look-up table in LUT RAM bank `bank`. -/
def State.lutEntry (s : State) (bank i : Nat) : Nat := leNat (s.tileBytes 4 (bank * 8192 + 8 * i) 8)

def entryR (e : Nat) : Nat := bitsOf e 24 12
def entryG (e : Nat) : Nat := bitsOf e 12 12
def entryB (e : Nat) : Nat := bitsOf e 0 12

/-- R482: a component, clamped at 0, scaled and clamped to 4,095. -/
def yccOut (v : Int) : Nat := if v < 0 then 0 else min 4095 (rdiv (v.toNat * 4095) (255 * 1024))

/-- R482, Table 11-2. -/
def yccPixel (m709 full : Bool) (y cb cr : Nat) : Px :=
  let (y0, ky, rv, gu, gv, bu) : Int × Int × Int × Int × Int × Int :=
    if m709 then (if full then (0, 1024, 1613, -192, -479, 1900) else (16, 1192, 1836, -218, -546, 2163))
    else (if full then (0, 1024, 1436, -352, -731, 1815) else (16, 1192, 1634, -401, -832, 2066))
  let y' := (y : Int) - y0
  let u := (cb : Int) - 128
  let v := (cr : Int) - 128
  ⟨yccOut (ky * y' + rv * v), yccOut (ky * y' + gu * u + gv * v), yccOut (ky * y' + bu * u), 255⟩

/-- R479: the colour and alpha of a pixel word of formats 0x0 to 0x5. -/
def unpackColour (f v : Nat) : Px :=
  if f = 3 then ⟨widen 5 12 (bitsOf v 11 5), widen 6 12 (bitsOf v 5 6), widen 5 12 (bitsOf v 0 5), 255⟩
  else if f = 4 then ⟨widen 5 12 (bitsOf v 10 5), widen 5 12 (bitsOf v 5 5), widen 5 12 (bitsOf v 0 5), 255 * bitsOf v 15 1⟩
  else if f = 5 then
    ⟨widen 10 12 (bitsOf v 20 10), widen 10 12 (bitsOf v 10 10), widen 10 12 (bitsOf v 0 10), 85 * bitsOf v 30 2⟩
  else ⟨widen 8 12 (bitsOf v 16 8), widen 8 12 (bitsOf v 8 8), widen 8 12 (bitsOf v 0 8), if f = 0 then bitsOf v 24 8 else 255⟩

/-- Bits `[lo + w - 1 : lo]` of word `k` of a latched layer. -/
def LatchedLayer.fld (l : LatchedLayer) (k lo w : Nat) : Nat := getBits (l.words.getD k 0) lo w

def LatchedLayer.srcX (l : LatchedLayer) : Nat := l.fld 1 16 13
def LatchedLayer.srcY (l : LatchedLayer) : Nat := l.fld 1 0 12
def LatchedLayer.srcW (l : LatchedLayer) : Nat := l.fld 2 16 13
def LatchedLayer.srcH (l : LatchedLayer) : Nat := l.fld 2 0 12
def LatchedLayer.posX (l : LatchedLayer) : Int := signedOf 13 (l.fld 3 16 13)
def LatchedLayer.posY (l : LatchedLayer) : Int := signedOf 13 (l.fld 3 0 13)

/-- R484: the drawn size; L4 to L7 have no scaler. -/
def LatchedLayer.dstW (l : LatchedLayer) : Nat := if l.layer < 4 then l.fld 4 16 13 else l.srcW
def LatchedLayer.dstH (l : LatchedLayer) : Nat := if l.layer < 4 then l.fld 4 0 12 else l.srcH

def LatchedLayer.z (l : LatchedLayer) : Nat := l.fld 0 24 3
def LatchedLayer.globalAlpha (l : LatchedLayer) : Nat := l.fld 0 16 8
def LatchedLayer.alphaMode (l : LatchedLayer) : Nat := l.fld 0 14 2
def LatchedLayer.premult (l : LatchedLayer) : Bool := l.fld 0 13 1 == 1
def LatchedLayer.keyEn (l : LatchedLayer) : Bool := l.fld 0 12 1 == 1
def LatchedLayer.lutEn (l : LatchedLayer) : Bool := l.fld 0 11 1 == 1
def LatchedLayer.pq (l : LatchedLayer) : Bool := l.fld 0 10 1 == 1

/-- R388, R521: the fetch of the Plate word that holds offset `a` was refused to layer `l`. -/
def State.refusedAt (s : State) (client a : Nat) : Bool := s.pba.refused.contains (client, plateWordOf a)

/-- R479 to R482, R521: source pixel (x, y) of a layer's latched buffer; none where its fetch was refused. -/
def State.fetchPx (s : State) (l : LatchedLayer) (x y : Nat) : Option Px :=
  let f := l.surf.fmt
  let a := l.surf.lineAt l.buf y + (if f = 8 then x / 2 * 4 else x * fmtBytes f)
  let n := if f = 8 then 4 else fmtBytes f
  if s.refusedAt (7 + l.layer) a || s.refusedAt (7 + l.layer) (a + n - 1) then none
  else
    let d := s.plateBytes a n
    let v := leNat d
    some (
      if f = 6 then let e := s.lutEntry l.layer v; ⟨entryR e, entryG e, entryB e, bitsOf e 36 8⟩
      else if f = 7 then
        let c := l.fld 7 0 24
        ⟨widen 8 12 (bitsOf c 16 8), widen 8 12 (bitsOf c 8 8), widen 8 12 (bitsOf c 0 8), v⟩
      else if f = 8 then
        yccPixel (l.fld 0 9 1 == 1) (l.fld 0 8 1 == 1) (bitsOf v (16 * (x % 2)) 8) (bitsOf v 8 8) (bitsOf v 24 8)
      else unpackColour f v)

/-- R483. -/
def keyPx (l : LatchedLayer) (p : Px) : Px :=
  let v := p.r / 16 * 65536 + p.g / 16 * 256 + p.b / 16
  let m := l.fld 6 0 24
  if l.keyEn && (v &&& m) == (l.fld 5 0 24 &&& m) then
    (if l.premult then ⟨0, 0, 0, 0⟩ else { p with a := 0 })
  else p

/-! ### Source pixels by crop position (R484, R488, R493) -/

/-- R450 to R452: pixel (x, y) of the VC1 frame that feeds the present frame; a line that has not arrived is transparent. -/
def State.directPx (s : State) (port x y : Nat) : Option Px :=
  match (s.input port).direct.find? (fun e => (s.input port).directOn == some e.1 && e.2.1 == y) with
  | none => none
  | some e => (e.2.2[x]?).map (fun p => ⟨p.r, p.g, p.b, 255⟩)

/-- The pixel at crop position (x, y), after the colour key. -/
def State.srcPx (s : State) (l : LatchedLayer) (x y : Nat) : Option Px :=
  match l.direct with
  | some p => (s.directPx p x y).map (keyPx l)
  | none => (s.fetchPx l (l.srcX + x) (l.srcY + y)).map (keyPx l)

/-- A position clamped into 0 to n - 1 (R493). -/
def clampPos (n : Nat) (v : Int) : Nat := if v < 0 then 0 else min (n - 1) v.toNat

/-! ### The scalers (R491 to R495, R497) -/

/-- R497: coefficient word `i` of scaler `k`. -/
def State.coeff (s : State) (k i : Nat) : Int :=
  signedOf 12 (leNat (s.tileBytes 5 (k * 4096 + 4 * i) 4) % 4096)

/-- R492: centre source pixel and phase of output position `x`. -/
def scalePos (x src dst : Nat) : Int × Nat :=
  let step := src * 65536 / dst
  let p : Int := ((2 * x + 1) * step / 2 : Nat) - 32768
  (p / 65536, (p % 65536).toNat / 1024)

/-- R494: the filter's sum over its taps for one component, clamped. -/
def filterSum (cs : List Int) (vs : List Nat) (mx : Nat) : Nat :=
  let t := ((cs.zip vs).map (fun (c, v) => c * (v : Int))).foldl (· + ·) 0
  (clampInt 0 mx ((t + 512) / 1024)).toNat

/-- R494: colour and alpha are filtered with the same coefficients. -/
def filterPx (cs : List Int) (ps : List Px) : Px :=
  ⟨filterSum cs (ps.map (·.r)) 4095, filterSum cs (ps.map (·.g)) 4095, filterSum cs (ps.map (·.b)) 4095,
    filterSum cs (ps.map (·.a)) 255⟩

/-- All the pixels of a list, or none when one is missing. -/
def allPx : List (Option Px) → Option (List Px)
  | [] => some []
  | none :: _ => none
  | some p :: t => (allPx t).map (p :: ·)

/-- The horizontal pass: output column `x` of source line `y`. -/
def State.hPass (s : State) (l : LatchedLayer) (x y : Nat) : Option Px :=
  if 4 ≤ l.layer ∨ l.dstW = l.srcW then s.srcPx l x y
  else
    let (n, ph) := scalePos x l.srcW l.dstW
    (allPx ((List.range 8).map (fun (t : Nat) => s.srcPx l (clampPos l.srcW (n - 3 + (t : Nat))) y))).map
      (filterPx ((List.range 8).map (fun t => s.coeff l.layer (8 * ph + t))))

/-- Horizontal then vertical: drawn pixel (x, y) of a layer. -/
def State.scaledPx (s : State) (l : LatchedLayer) (x y : Nat) : Option Px :=
  if 4 ≤ l.layer ∨ l.dstH = l.srcH then s.hPass l x y
  else
    let (n, ph) := scalePos y l.srcH l.dstH
    (allPx ((List.range 4).map (fun (t : Nat) => s.hPass l x (clampPos l.srcH (n - 1 + (t : Nat)))))).map
      (filterPx ((List.range 4).map (fun t => s.coeff l.layer (512 + 4 * ph + t))))

/-! ### Linearisation, alpha, blending (R501, R508 to R510) -/

/-- R501, R502: the PQ decoder, exact at code 4,095 and within ±1 elsewhere. -/
def pqDecode (v : Nat) : Nat :=
  if v = 4095 then 65535 else (clampInt 0 65535 ((pqExact v : Int) - 1 + Config.pqError v % 3)).toNat

/-- R501: interpolation in a pre-blend table whose entries are `e`. -/
def preLut (e : Nat → Nat) (v : Nat) : Nat :=
  let i := v / 4
  let f := v % 4
  ((e i * (4 - f) + e (min (i + 1) 1023) * f) * 65535 + 8190) / 16380

/-- R480, R501: stage 4. -/
def State.linear (s : State) (l : LatchedLayer) (sel : Nat → Nat) (v : Nat) : Nat :=
  if l.pq then pqDecode v
  else if l.lutEn then preLut (fun i => sel (s.lutEntry l.layer i)) v
  else v * 16 + v / 256

/-- L8 pixels come out of the palette and skip stage 4 (R480): they are widened as a bypass widens them (log entry 20). -/
def State.linearPx (s : State) (l : LatchedLayer) (p : Px) : Px :=
  if l.direct.isNone && l.surf.fmt == 6 then
    ⟨p.r * 16 + p.r / 256, p.g * 16 + p.g / 256, p.b * 16 + p.b / 256, p.a⟩
  else ⟨s.linear l entryR p.r, s.linear l entryG p.g, s.linear l entryB p.b, p.a⟩

/-- R508. -/
def LatchedLayer.alpha (l : LatchedLayer) (ap : Nat) : Nat :=
  if l.alphaMode = 1 then rdiv (ap * l.globalAlpha) 255 else l.globalAlpha

/-- R509: one component of a layer over what lies below. -/
def blend1 (premult : Bool) (g a src d : Nat) : Nat :=
  if a = 0 then d else min 65535 (rdiv (src * (if premult then g else a) + d * (255 - a)) 255)

/-- R485, R509, R510, R521: a layer over the pixel `d` at (x, y) of the head. -/
def State.blendLayer (s : State) (x y : Nat) (d : Pix) (l : LatchedLayer) : Pix :=
  let dx := (x : Int) - l.posX
  let dy := (y : Int) - l.posY
  if !l.shown || dx < 0 || dy < 0 || (l.dstW : Int) ≤ dx || (l.dstH : Int) ≤ dy then d
  else match s.scaledPx l dx.toNat dy.toNat with
    | none => d
    | some q =>
      let p := s.linearPx l q
      let a := l.alpha p.a
      ⟨blend1 l.premult l.globalAlpha a p.r d.r, blend1 l.premult l.globalAlpha a p.g d.g,
        blend1 l.premult l.globalAlpha a p.b d.b⟩

/-- R486: ascending Z, equal Z in ascending layer number. -/
def stackOrder (ls : List LatchedLayer) : List LatchedLayer :=
  (List.range 8).flatMap (fun z => ls.filter (fun l => l.z == z))

/-- R509: the blended pixel (x, y) of a head, 16 bits linear. -/
def State.blendPx (s : State) (h : HeadState) (x y : Nat) : Pix :=
  let bg : Pix := ⟨257 * bitsOf h.comp.bg 16 8, 257 * bitsOf h.comp.bg 8 8, 257 * bitsOf h.comp.bg 0 8⟩
  (stackOrder h.layers).foldl (s.blendLayer x y) bg

/-! ### Tone mapping and the post-blend table (R503, R511 to R513) -/

/-- R512: the exact output of component `v` whose pixel has maximum `m`. Luminances are in units of 1/(65,535 × 256)
cd/m². -/
def toneExact (c : CompLatch) (v m : Nat) : Nat :=
  if m = 0 then 0
  else
    let mm := m * 10000 * 256
    let k := c.peak * c.knee * 65535
    let mx := c.maxIn * 65535 * 256
    let p := c.peak * 65535 * 256
    let m' :=
      if mx ≤ k ∨ mx ≤ p ∨ mm ≤ k then min mm p
      else if mx ≤ mm then p
      else
        let a := mm - k
        let b := mx - k
        k + (p - k) * (2 * a * b - a * a) / (b * b)
    min 65535 (rdiv (v * m' * 65535) (m * p))

/-- R512: the output within ±2 (log entry 19). -/
def toneOut (c : CompLatch) (v m : Nat) : Nat :=
  if m = 0 then 0
  else (clampInt 0 65535 ((toneExact c v m : Int) - 2 + Config.toneError [c.maxIn, c.peak, c.knee, v, m] % 5)).toNat

/-- R512, R513. -/
def tonePx (c : CompLatch) (p : Pix) : Pix :=
  if c.tmEn then
    let m := max p.r (max p.g p.b)
    ⟨toneOut c p.r m, toneOut c p.g m, toneOut c p.b m⟩
  else p

/-- R503: a component through post-blend table entries `e`. -/
def postLut (e : Nat → Nat) (v : Nat) : Nat :=
  let i := v / 64
  let f := v % 64
  (e i * (64 - f) + e (min (i + 1) 1023) * f + 32) / 64

/-- R503: stage 8 of head `h`. -/
def State.postPx (s : State) (h : Nat) (c : CompLatch) (p : Pix) : Pix :=
  if c.postEn then
    ⟨postLut (fun i => entryR (s.lutEntry (8 + h) i)) p.r, postLut (fun i => entryG (s.lutEntry (8 + h) i)) p.g,
      postLut (fun i => entryB (s.lutEntry (8 + h) i)) p.b⟩
  else ⟨min 4095 (rdiv p.r 16), min 4095 (rdiv p.g 16), min 4095 (rdiv p.b 16)⟩

/-- R477: pixel (x, y) of head `h` after the post-blend table. -/
def State.composePx (s : State) (h x y : Nat) : Pix :=
  let c := (s.head h).comp
  s.postPx h c (tonePx c (s.blendPx (s.head h) x y))

/-- The composed row `y` of head `h`, `w` pixels. -/
def State.composeRow (s : State) (h w y : Nat) : List Pix := (List.range w).map (fun x => s.composePx h x y)

/-! ### The Plate words of a composed row (R388, R485, R510) -/

/-- The Plate words that source pixels `lo` to `hi` of line `y` of a latched buffer lie in. -/
def pixelWords (d : SurfDesc) (b y lo hi : Nat) : List Nat :=
  let f := d.fmt
  let at_ := fun x => if f = 8 then x / 2 * 4 else x * fmtBytes f
  let first := at_ lo
  wordsFrom (d.lineAt b y + first) (at_ hi + (if f = 8 then 4 else fmtBytes f) - first)

/-- R485, R492, R493: the crop columns that output columns `x0` to `x1` of a layer use. -/
def LatchedLayer.columns (l : LatchedLayer) (x0 x1 : Nat) : Nat × Nat :=
  if 4 ≤ l.layer ∨ l.dstW = l.srcW then (x0, x1)
  else (clampPos l.srcW ((scalePos x0 l.srcW l.dstW).1 - 3), clampPos l.srcW ((scalePos x1 l.srcW l.dstW).1 + 4))

/-- R492, R493: the crop lines that output line `y` of a layer uses. -/
def LatchedLayer.lines (l : LatchedLayer) (y : Nat) : List Nat :=
  if 4 ≤ l.layer ∨ l.dstH = l.srcH then [y]
  else ((List.range 4).map (fun (t : Nat) => clampPos l.srcH ((scalePos y l.srcH l.dstH).1 - 1 + (t : Nat)))).eraseDups

/-- R485: the Plate words that row `y` of a head `w` pixels wide needs of a layer. -/
def LatchedLayer.rowWords (l : LatchedLayer) (w y : Nat) : List Nat :=
  let dy := (y : Int) - l.posY
  let x0 := max 0 l.posX
  let x1 := min (w : Int) (l.posX + l.dstW)
  if !l.shown || l.direct.isSome || dy < 0 || (l.dstH : Int) ≤ dy || x1 ≤ x0 then []
  else
    let (lo, hi) := l.columns (x0 - l.posX).toNat (x1 - 1 - l.posX).toNat
    (l.lines dy.toNat).flatMap (fun k => pixelWords l.surf l.buf (l.srcY + k) (l.srcX + lo) (l.srcX + hi))

/-- A later row of the layer may use the same source lines. -/
def LatchedLayer.reuses (l : LatchedLayer) : Bool := decide (l.layer < 4) && l.dstH != l.srcH

/-! ### The scan-out route (R35, R576) -/

/-- R85, log entry 95: a pixel of Burin's layout in capture buffer `b`, at 12 bits. -/
def State.burinPx (s : State) (b v : Nat) : Pix :=
  let (_, wr, wg, wb) := s.boot.saBuf.toList.getD b (0, 8, 8, 8)
  ⟨burinWide wr (bitsOf v 16 8) (bitsOf v 28 2), burinWide wg (bitsOf v 8 8) (bitsOf v 26 2),
    burinWide wb (bitsOf v 0 8) (bitsOf v 24 2)⟩

/-- Row `y` of buffer `b` of a scanned-out surface as latched, 12 bits; pixels that it does not cover are black (R84). -/
def State.scanRow (s : State) (d : SurfDesc) (b w y : Nat) : List Pix :=
  (List.range w).map (fun x =>
    if d.width ≤ x ∨ d.height ≤ y then ⟨0, 0, 0⟩
    else
      let v := leNat (s.plateBytes (d.lineAt b y + x * fmtBytes d.fmt) (fmtBytes d.fmt))
      if d.fmt = fmtBurin then s.burinPx b v
      else
        let p := unpackColour d.fmt v
        ⟨p.r, p.g, p.b⟩)

end Sys2Proof.Machine
end

