-- ==== Sys2Proof/Machine/Compose.lean ====
section
/-! DEFINITION. Composition state (R487 to R490, R496 to R507, R511, R514 to R520): latching at a frame start, table and
coefficient stages, write-back, and the commands of the compositor. -/

namespace Sys2Proof.Machine

/-! ### Latching at a head's frame start (R445, R450, R451, R487 to R490, R511) -/

def State.owner (s : State) (l : Nat) : Option Nat := s.layerHead.toList.getD l none

def State.setOwner (s : State) (l : Nat) (o : Option Nat) : State :=
  { s with layerHead := s.layerHead.setIfInBounds l o }

/-- R490: layer `l` belongs to head `h` at this frame start: enabled on it, and it has left any other head. -/
def State.layerJoins (s : State) (h l : Nat) : Bool :=
  s.bit (F.LAYER_W0_EN l) && s.fld (F.LAYER_W0_HEAD l) == h &&
    (match s.owner l with
     | none => true
     | some g => g == h || !s.headRunning g)

/-- The 8 words of layer `l`. -/
def State.layerWords (s : State) (l : Nat) : List Word := (List.range 8).map (fun k => s.rd (0x60000 + 0x40 * l + 4 * k))

/-- R487: the configuration of a latched layer is valid. -/
def LatchedLayer.valid (x : LatchedLayer) : Bool :=
  x.direct.isSome ||
    (x.surf.valid && decide (x.srcX + x.srcW ≤ x.surf.width) && decide (x.srcY + x.srcH ≤ x.surf.height) &&
      (x.surf.fmt != 8 || (x.srcX % 2 == 0 && x.srcW % 2 == 0)))

/-- R441, R487: layer `l` as it is now. A direct-route layer whose port sleeps or is lost, or that no new VC1 frame
feeds, is transparent (R451, R452); it reads no surface (R453). -/
def State.latchLayer (s : State) (l : Nat) : LatchedLayer :=
  let n := s.fld (F.LAYER_W0_SURF l)
  match s.directPort l with
  | some p =>
    ⟨l, s.layerWords l, SurfDesc.none, 0, s.inState p != inSleep && s.inState p != inLost && (s.input p).directOn.isSome, some p⟩
  | none =>
    let x : LatchedLayer := ⟨l, s.layerWords l, s.desc n, s.fld (F.SURF_STATUS_FRONT n), false, none⟩
    { x with shown := x.valid && s.bit (F.SURF_STATUS_FRONT_VALID n) }

/-- R451: at the frame start of the layer's head, a new VC1 frame becomes the one shown, and what is left of the one before it goes;
without one the line buffer is given up. -/
def State.takeDirect (s : State) (p : Nat) : State :=
  let x := s.input p
  s.setInput p (if x.directNew then
      { x with directOn := some x.directCount, directNew := false, direct := x.direct.filter (fun e => e.1 == x.directCount) }
    else { x with directOn := none, direct := [] })

/-- R487, R490: latch layer `l` for head `h`, with its status register. A layer that leaves `h` is on no head (R490). -/
def State.latchFor (s : State) (h l : Nat) : State :=
  let s0 := if s.owner l == some h && (s.fld (F.LAYER_W0_HEAD l) != h || !s.bit (F.LAYER_W0_EN l)) then
      (s.setOwner l none).setFld (F.LAYER_STATUS_SHOWN l) 0
    else s
  if s0.layerJoins h l then
    let s1 := match s0.directPort l with
      | some p => s0.takeDirect p
      | none => s0
    let x := s1.latchLayer l
    let y := s1.head h
    let s2 := (s1.setHead h { y with layers := y.layers ++ [x] }).setOwner l (some h)
    (((s2.setBit (F.LAYER_STATUS_SHOWN l) x.shown).setBit (F.LAYER_STATUS_CFG_ERR l) (!x.valid)).setFld
      (F.LAYER_STATUS_BUF l) x.buf).setBit (F.LAYER_STATUS_NO_FRONT l)
        (x.direct.isNone && x.valid && !s1.bit (F.SURF_STATUS_FRONT_VALID (x.fld 0 0 6)))
  else if s0.fld (F.LAYER_W0_HEAD l) == h then
    (s0.setFld (F.LAYER_STATUS_SHOWN l) 0).setFld (F.LAYER_STATUS_CFG_ERR l) 0
  else s0

/-- R511: kf for an ambient level of `a` lux. -/
def kneeFor (a lo hi dark bright : Nat) : Nat :=
  if a ≤ lo then dark
  else if hi ≤ a then bright
  else ((dark : Int) + rdivInt (((bright : Int) - dark) * ((a : Int) - lo)) (hi - lo)).toNat

/-- R489, R511: latch a head's composition block. P is latched as P_NOW's whole cd/m², rounded (log entry 114). -/
def State.latchComp (s : State) (h : Nat) : State :=
  let bl := s.fld (F.HEAD_BL_STATUS_BL_NOW h)
  let p := max 1 (rdiv (s.fld (F.COMP_W3_PEAK h) * bl) 1024)
  let a := s.fld (F.SENSE_CH_SCALED_SCALED (5 + s.fld (F.COMP_W2_ALS h)))
  let k := kneeFor a (s.fld (F.COMP_W5_AMB_LO h)) (s.fld (F.COMP_W5_AMB_HI h)) (s.fld (F.COMP_W4_KF_DARK h))
    (s.fld (F.COMP_W4_KF_BRIGHT h))
  let tm := s.bit (F.COMP_W2_TM_EN h)
  let c : CompLatch :=
    { postEn := s.bit (F.COMP_W0_POST_LUT_EN h)
      bg := s.fld (F.COMP_W1_BG h)
      tmEn := tm
      maxIn := s.fld (F.COMP_W2_MAX_IN h)
      peak := p
      knee := k }
  let s1 := s.setHead h { s.head h with comp := c }
  if tm then ((s1.setFld (F.COMP_W6_P_NOW h) p).setFld (F.COMP_W6_KF_NOW h) k).setFld (F.COMP_W7_BL_NOW h) bl else s1

/-! ### Stages (R504 to R507) -/

/-- The live bytes of a scaler's or a table's bank. -/
def State.liveBank (s : State) (coeff : Bool) (bank : Nat) : List Byte :=
  if coeff then s.tileBytes 5 (bank * 4096) 4096 else s.tileBytes 4 (bank * 8192) 8192

/-- R504: the open stage of a bank, or a copy of the live content. -/
def State.stageOf (s : State) (coeff : Bool) (bank : Nat) : Stage :=
  (s.stages.find? (fun t => t.coeff == coeff && t.bank == bank)).getD ⟨coeff, bank, s.liveBank coeff bank, false⟩

/-- STAGE_PENDING shows the pending stages. -/
def State.showStages (s : State) : State :=
  let bits := fun c => ((s.stages.filter (fun t => t.coeff == c && t.pending)).map (fun t => 2 ^ t.bank)).sum
  (s.setFld F.STAGE_PENDING_COEFF (bits true)).setFld F.STAGE_PENDING_LUT (bits false)

/-- R490, R505, R506: the head that reads a bank: for a layer's, the running head that still shows the layer, else the head that it
is configured for. -/
def State.stageHead (s : State) (t : Stage) : Nat :=
  if !t.coeff && 8 ≤ t.bank then t.bank - 8
  else match s.owner t.bank with
    | some g => if s.headRunning g then g else s.fld (F.LAYER_W0_HEAD t.bank)
    | none => s.fld (F.LAYER_W0_HEAD t.bank)

/-- R505: copy a stage live. -/
def State.applyStage (s : State) (t : Stage) : State :=
  { s with
    tile := if t.coeff then s.tile.put 5 (t.bank * 4096) t.data else s.tile.put 4 (t.bank * 8192) t.data
    stages := s.stages.filter (fun u => !(u.coeff == t.coeff && u.bank == t.bank)) }

/-- R504: keep a modified stage; with `hold` clear it becomes pending, and applies at once when its head is not running
(R505). -/
def State.putStage (s : State) (t : Stage) (hold : Bool) : State :=
  let u := { t with pending := t.pending || !hold }
  let s1 := { s with stages := s.stages.filter (fun (v : Stage) => !(v.coeff == t.coeff && v.bank == t.bank)) ++ [u] }
  (if u.pending && !s1.headRunning (s1.stageHead u) then s1.applyStage u else s1).showStages

/-- R505, R506: the pending stages of head `h` apply together. -/
def State.applyStages (s : State) (h : Nat) : State :=
  let ts := s.stages.filter (fun t => t.pending && s.stageHead t == h)
  if ts.isEmpty then s else (ts.foldl State.applyStage s).showStages

/-- R505: the pending stages that no running head reads apply at once. -/
def State.applyIdle (s : State) : State :=
  let ts := s.stages.filter (fun t => t.pending && !s.headRunning (s.stageHead t))
  if ts.isEmpty then s else (ts.foldl State.applyStage s).showStages

/-- R489: everything a composing head latches at its frame start. -/
def State.latchHead (s : State) (h : Nat) : State :=
  let s1 := s.setHead h { s.head h with layers := [] }
  ((s1.each (List.range 8) (fun s l => s.latchFor h l)).applyIdle).latchComp h

/-- STAGE_APPLY (R505 to R507, R607): between the frame boundary and the next frame start of head `h`. -/
def execStageApply (h : Fin 4) (s : State) : Host.Outcome State Fault Refusal :=
  .next (s.ifLive (
    if (s.head h.val).blank && s.stages.any (fun t => t.pending && s.stageHead t == h.val) then
      (s.applyStages h.val).headEvent h.val
    else s))

/-! ### Configuration words -/

/-- The index of every data word that `bad` rejects: data word `i` is parameter word `i + 1` and configuration word
`first + i`. -/
def badWords (p : List Word) (first : Nat) (bad : Nat → Word → Bool) : List Nat :=
  (List.range (p.length - 1)).filterMap (fun i => if bad (first + i) (par p (i + 1)) then some (i + 1) else none)

/-- The value that configuration word `k` will have: from the command, or as it stands. -/
def State.wordAfter (s : State) (p : List Word) (first base k : Nat) : Word :=
  if first ≤ k ∧ k - first + 1 < p.length then par p (k - first + 1) else s.rd (base + 4 * k)

/-- Write the data words of a configuration command under each word's mask. -/
def State.writeWords (s : State) (p : List Word) (first base : Nat) (mask : Nat → Word) : State :=
  s.each (List.range (p.length - 1)) (fun s i =>
    let a := base + 4 * (first + i)
    s.wr a ((s.rd a &&& ~~~ mask (first + i)) ||| (par p (i + 1) &&& mask (first + i))))

/-- The parameter index of configuration word `k`, 0 when the command does not write it. -/
def wordIndex (p : List Word) (first k : Nat) : Nat := if first ≤ k ∧ k - first + 1 < p.length then k - first + 1 else 0

/-! ### LAYER_CONFIG and LAYER_ENABLE (R484, R487, R489, R491, R508) -/

/-- The fields that LAYER_CONFIG writes in layer word `k`. -/
def layerMask (k : Nat) : Word :=
  if k = 0 then 0x37FFFF3F
  else if k = 1 ∨ k = 2 ∨ k = 4 then 0x1FFF0FFF
  else if k = 3 then 0x1FFF1FFF
  else if k ≤ 7 then 0x00FFFFFF else 0

/-- LAYER_CONFIG refuses the value of one word: beyond word 15, reserved bits, ALPHA_MODE, sizes. -/
def layerWordBad (k : Nat) (w : Word) : Bool :=
  decide (15 < k) || (w &&& ~~~ (if k = 0 then 0xB7FFFF3F else layerMask k)) != 0 ||
    (k == 0 && decide (2 ≤ getBits w 14 2)) ||
    (k == 2 && (getBits w 16 13 == 0 || getBits w 0 12 == 0 || decide (4096 < getBits w 16 13) || decide (2400 < getBits w 0 12))) ||
    (k == 4 && (getBits w 16 13 == 0 || getBits w 0 12 == 0))

/-- R491: DST lies from SRC div 8, rounded up, to 8 × SRC. -/
def scaleOk (src dst : Nat) : Bool := decide ((src + 7) / 8 ≤ dst) && decide (dst ≤ 8 * src)

/-- R607: a layer or tone-map change is recorded for head `h`. -/
def State.recorded (s : State) (h : Nat) : State := s.headEvent h

/-- LAYER_CONFIG's parameter failures beyond LENGTH and the unit. -/
def State.layerFails (s : State) (p : List Word) : List Nat :=
  let l := parUnit p
  let first := parBits p 0 0 4
  let base := 0x60000 + 0x40 * l
  let src := s.wordAfter p first base 2
  let dst := s.wordAfter p first base 4
  let touched := wordIndex p first 2 != 0 || wordIndex p first 4 != 0
  failAt 0 (strayBits p 0 0xFF00000F) ++ badWords p first layerWordBad ++
    failAt (max (wordIndex p first 2) (wordIndex p first 4))
      (touched && decide (l < 4) &&
        !(scaleOk (getBits src 16 13) (getBits dst 16 13) && scaleOk (getBits src 0 12) (getBits dst 0 12)))

/-- R49, R846: an enabled layer of `t` among `ls` is scaled, which needs PD13. -/
def State.needsScaler (t : State) (ls : List Nat) : Bool :=
  ls.any (fun l => decide (l < 4) && t.bit (F.LAYER_W0_EN l) &&
    (t.fld (F.LAYER_W4_DST_W l) != t.fld (F.LAYER_W2_SRC_W l) || t.fld (F.LAYER_W4_DST_H l) != t.fld (F.LAYER_W2_SRC_H l)))

/-- R49: `run` needs PDn. -/
def State.needing (s : State) (n : Nat) (needed : Bool) (run : Res) : Res := if needed && !s.pdOn n then Res.domainOff s n else run

/-- The domain that holds head `h`. -/
def headDomain (h : Nat) : Nat := if h < 2 then 15 else 16

/-- LAYER_CONFIG (R49, R254, R484, R489, R491). -/
def execLayerConfig (s : State) : Host.Outcome State Fault Refusal :=
  .next (startCmd s (isOp 0x40) (fun s e =>
    let p := e.params
    let l := parUnit p
    runtimeCmd s (decide (1 ≤ p.length) && decide (p.length ≤ 16)) (failAt 0 (decide (7 < l))) (s.layerFails p) true
      (let old := s.fld (F.LAYER_W0_HEAD l)
       let t := s.writeWords p (parBits p 0 0 4) (0x60000 + 0x40 * l) layerMask
       let new := t.fld (F.LAYER_W0_HEAD l)
       let t1 := t.recorded new
       s.needing 13 (t.needsScaler [l]) (Res.ok (if old = new then t1 else (t1.recorded old).applyIdle)))))

/-- LAYER_ENABLE (R254, R489): bits [31:24] name layers, [23:16] give their enables. -/
def execLayerEnable (s : State) : Host.Outcome State Fault Refusal :=
  .next (startCmd s (isOp 0x41) (fun s e =>
    let p := e.params
    runtimeCmd s (p.length == 1) [] (failAt 0 (strayBits p 0 0xFFFF0000)) true
      (let t := s.each (List.range 8) (fun s l =>
          if parBits p 0 (24 + l) 1 = 1 then (s.setFld (F.LAYER_W0_EN l) (parBits p 0 (16 + l) 1)) else s)
       s.needing 13 (t.needsScaler ((List.range 8).filter (fun l => parBits p 0 (24 + l) 1 == 1)))
         (Res.ok (t.each [0, 1, 2, 3] (fun t h =>
           if (List.range 8).any (fun l => parBits p 0 (24 + l) 1 == 1 && t.fld (F.LAYER_W0_HEAD l) == h) then t.recorded h
           else t))))))

/-! ### LUT_LOAD and SCALER_COEFF (R497 to R500) -/

/-- The LUT RAM bank of a table code: pre-blend L0 to L7, post-blend A to D. -/
def lutBank (code : Nat) : Option Nat :=
  if code ≤ 7 then some code else if 0x10 ≤ code ∧ code ≤ 0x13 then some (code - 8) else none

/-- Write bits `[lo + n - 1 : lo]` of the `w`-byte little-endian word at byte `a` of a list. -/
def putField (d : List Byte) (w a lo n v : Nat) : List Byte :=
  let old := leNat ((d.drop a).take w)
  let new := old - bitsOf old lo n * 2 ^ lo + v % 2 ^ n * 2 ^ lo
  d.take a ++ leBytes w new ++ d.drop (a + w)

/-- R499: bit position and width of component `c` in a table entry. -/
def lutField (c : Nat) : Nat × Nat := if c = 0 then (24, 12) else if c = 1 then (12, 12) else if c = 2 then (0, 12) else (36, 8)

/-- R500: two entries per data word, from entry `first`. -/
def putEntries (c : Nat) : Nat → List Word → List Byte → List Byte
  | _, [], d => d
  | i, w :: t, d =>
    let (lo, n) := lutField c
    putEntries c (i + 2) t
      (putField (putField d 8 (8 * i) lo n (getBits w 16 12)) 8 (8 * (i + 1)) lo n (getBits w 0 12))

/-- LUT_LOAD (R500, R504). -/
def execLutLoad (s : State) : Host.Outcome State Fault Refusal :=
  .next (startCmd s (isOp 0x42) (fun s e =>
    let p := e.params
    let first := parBits p 0 0 10
    let c := parBits p 0 16 2
    let resv : Word := if c = 3 then 0xFF00FF00 else 0xF000F000
    runtimeCmd s (decide (2 ≤ p.length) && decide (p.length ≤ 1026)) (failAt 0 (lutBank (parUnit p)).isNone)
      (failAt 0 (strayBits p 0 0xFF1303FF) ++ badWords p 0 (fun i w => decide (1023 < first + 2 * i + 1) || (w &&& resv) != 0))
      true
      (match lutBank (parUnit p) with
       | none => Res.bad s 0
       | some b =>
         let t := s.stageOf false b
         Res.ok (s.putStage { t with data := putEntries c first p.tail t.data } (parBits p 0 20 1 == 1)))))

/-- R497, R498: two coefficients per data word, from Coefficient RAM word `i`. -/
def putCoeffs : Nat → List Word → List Byte → List Byte
  | _, [], d => d
  | i, w :: t, d =>
    putCoeffs (i + 2) t
      (putField (putField d 4 (4 * i) 0 12 (getBits w 16 12)) 4 (4 * (i + 1)) 0 12 (getBits w 0 12))

/-- SCALER_COEFF (R498, R504). -/
def execScalerCoeff (s : State) : Host.Outcome State Fault Refusal :=
  .next (startCmd s (isOp 0x43) (fun s e =>
    let p := e.params
    let l := parUnit p
    let first := parBits p 0 0 6
    let per := if parBits p 0 16 1 = 0 then 4 else 2
    let base := if parBits p 0 16 1 = 0 then 8 * first else 512 + 4 * first
    runtimeCmd s (decide (2 ≤ p.length) && decide (p.length ≤ 1026) && (p.length - 1) % per == 0)
      (failAt 0 (decide (3 < l)))
      (failAt 0 (strayBits p 0 0xFF11003F) ++
        badWords p 0 (fun i w => decide (63 < first + i / per) || (w &&& 0xF000F000) != 0))
      true
      (if !s.pdOn 13 then Res.domainOff s 13
       else
         let t := s.stageOf true l
         Res.ok (s.putStage { t with data := putCoeffs base p.tail t.data } (parBits p 0 20 1 == 1)))))

/-- R496: the linear set of every scaler, in the order of R497. -/
def linearSet : List Byte :=
  let h := (List.range 64).flatMap (fun p => [0, 0, 0, 1024 - 16 * p, 16 * p, 0, 0, 0])
  let v := (List.range 64).flatMap (fun p => [0, 1024 - 16 * p, 16 * p, 0])
  (h ++ v).flatMap (leBytes 4)

/-- R496: the runtime loads every scaler with the linear set. -/
def State.loadLinear (s : State) : State :=
  s.each [0, 1, 2, 3] (fun s k => { s with tile := s.tile.put 5 (k * 4096) linearSet })

/-! ### TONEMAP_CONFIG (R514) -/

/-- The fields that TONEMAP_CONFIG writes in composition word `k`. -/
def compMask (k : Nat) : Word :=
  if k = 0 then 0x80000000 else if k = 1 then 0x00FFFFFF else if k = 2 then 0xC000FFFF
  else if k = 3 then 0x0000FFFF else if k = 4 then 0xFFFF0000 else if k = 5 then 0xFFFFFFFF else 0

/-- R514: MAX_IN and PEAK lie from 1 to 10,000; a word beyond 5 or a reserved bit is refused. -/
def compWordBad (k : Nat) (w : Word) : Bool :=
  decide (5 < k) || (w &&& ~~~ compMask k) != 0 ||
    ((k == 2 || k == 3) && (getBits w 0 16 == 0 || decide (10000 < getBits w 0 16))) ||
    (k == 5 && decide (getBits w 16 16 < getBits w 0 16))

/-- TONEMAP_CONFIG (R254, R514). -/
def execTonemapConfig (s : State) : Host.Outcome State Fault Refusal :=
  .next (startCmd s (isOp 0x44) (fun s e =>
    let p := e.params
    let h := parUnit p
    let first := parBits p 0 0 4
    runtimeCmd s (decide (1 ≤ p.length) && decide (p.length ≤ 8)) (failAt 0 (decide (3 < h)))
      (failAt 0 (strayBits p 0 0xFF00000F) ++ badWords p first compWordBad) true
      (s.needing (headDomain h) true (s.needing 14 (getBits (s.wordAfter p first (0x60400 + 0x20 * h) 2) 31 1 == 1)
        (Res.ok ((s.writeWords p first (0x60400 + 0x20 * h) compMask).recorded h))))))

/-! ### Write-back (R515 to R520) -/

/-- R515: what write-back asks of its surface, but for the USE rule. -/
def State.wbSurfOk (s : State) (h n : Nat) : Bool :=
  let d := s.regDesc n
  d.valid && decide (2 ≤ d.nbuf) && [0, 1, 2, 3, 5].contains d.fmt && d.width == s.prof h 0 16 13 && d.height == s.prof h 0 0 12

/-- R516: start the engine's configuration for head `h`. -/
def State.wbEnable (s : State) (h n : Nat) (single : Bool) : State :=
  let s1 := (((s.setFld F.WB_CTRL_EN 1).setFld F.WB_CTRL_HEAD h).setFld F.WB_CTRL_SURF n).setBit F.WB_CTRL_SINGLE single
  { s1 with wb := { s1.wb with last := (n, single), deferred := none } }

/-- The engine is disabled and idle. -/
def State.wbStop (s : State) : State :=
  let s1 := (s.setFld F.WB_CTRL_EN 0).setFld F.WB_STATUS_ACTIVE 0
  { s1 with wb := { s1.wb with frame := none, stopping := none } }

/-- R516: the disable lets the frame in progress finish; without one, or before the engine has taken effect, it stops at once. -/
def State.wbDisable (s : State) : State :=
  let h := s.fld F.WB_CTRL_HEAD
  if s.wb.stopping.isSome then { s with wb := { s.wb with deferred := none } }
  else if !s.bit F.WB_CTRL_EN then s
  else if s.headRunning h && (s.head h).fr.on && !(s.head h).blank && s.bit F.WB_STATUS_ACTIVE then
    { s.setFld F.WB_CTRL_EN 0 with wb := { s.wb with stopping := some (s.fld F.WB_CTRL_HEAD) } }
  else s.wbStop

/-- WRITEBACK (R254, R515, R516). -/
def execWriteback (s : State) : Host.Outcome State Fault Refusal :=
  .next (startCmd s (isOp 0x45) (fun s e =>
    let p := e.params
    let h := parUnit p
    let en := parBits p 0 0 1 == 1
    let n := if p.length = 1 then s.wb.last.1 else parBits p 1 0 6
    let single := if p.length = 1 then s.wb.last.2 else parBits p 1 8 1 == 1
    runtimeCmd s (decide (1 ≤ p.length) && decide (p.length ≤ 4)) (failAt 0 (decide (3 < h)))
      (failAt 0 (strayBits p 0 0xFF000001) ++ failAt 1 (strayBits p 1 0x13F) ++ failAt 2 (strayBits p 2 0) ++
        failAt 3 (strayBits p 3 0) ++
        failAt (if p.length = 1 then 0 else 1) (en && !(s.wbSurfOk h n && s.fld (F.SURF_STATUS_USE n) == 0)))
      true
      (s.needing (headDomain h) en
        (if s.bit F.WB_CTRL_EN && s.fld F.WB_CTRL_HEAD != h then Res.stat s stBusy
         else if !en then Res.ok s.wbDisable
         else if s.wb.stopping.isSome then
           .done { s with wb := { s.wb with deferred := some (h, n, single), last := (n, single) } } stDeferred []
         else Res.ok (s.wbEnable h n single)))))

/-- R516, R519, R520: the engine at a frame start of head `h`; `compose` is clear when the head scans out (R609). -/
def State.wbFrameStart (s : State) (h : Nat) (compose : Bool) : State :=
  if !s.bit F.WB_CTRL_EN || s.fld F.WB_CTRL_HEAD != h || s.wb.stopping.isSome then s
  else
    let n := s.fld F.WB_CTRL_SURF
    if !s.wbSurfOk h n || s.fld (F.SURF_STATUS_USE n) != 0 then s.wbStop.setFld F.WB_STATUS_CONFLICT 1
    else
      let s1 := s.setFld F.WB_STATUS_ACTIVE 1
      if !compose then { s1 with wb := { s1.wb with frame := none } }
      else match s1.chooseBuf n with
        | none => { s1 with wb := { s1.wb with frame := none } }
        | some b =>
        { s1.startBuf n b with
          wb := { s1.wb with frame := some ⟨h, n, b, s1.regDesc n, s1.bit F.WB_CTRL_SINGLE⟩, incomplete := false } }

/-- R389, R518, R519, R933: row `y` of the head's output enters the 32 KiB line buffer, or marks the frame INCOMPLETE. -/
def State.wbRow (s : State) (h y : Nat) (row : List Pix) : State :=
  match s.wb.frame with
  | none => s
  | some f =>
    if f.head != h then s
    else
      let w := lineWords (f.desc.lineAt f.buf y) (row.flatMap (storePixel f.desc.fmt 12 12 12))
      if bufBytes s.wbBuf + bufBytes w ≤ 32768 then { s with wbBuf := s.wbBuf ++ w }
      else { s.countRefuse 15 with wb := { s.wb with incomplete := true } }

/-- R517, R519: the frame `f` that the engine was writing is complete, or INCOMPLETE. -/
def State.wbEnd (s : State) (f : WbFrame) : State :=
  let s1 := { s with wb := { s.wb with frame := none } }
  if s.wb.incomplete then (s1.setFld F.WB_STATUS_INCOMPLETE 1).satAdd F.WB_STATUS_INC_CNT 1
  else
    let t := (s1.wrapAdd F.WB_STATUS_FRAMES 1).completeBuf f.surf f.buf
    if f.single && t.wb.stopping.isNone then t.wbStop else t

/-- R516, R517, R519: the engine at the frame boundary of head `h`. -/
def State.wbFrameEnd (s : State) (h : Nat) : State :=
  let s1 := match s.wb.frame with
    | none => s
    | some f => if f.head = h then s.wbEnd f else s
  if s1.wb.stopping = some h then
    match s1.wb.deferred with
    | none => s1.wbStop
    | some (g, n, x) => s1.wbStop.wbEnable g n x
  else s1

end Sys2Proof.Machine
end

