-- ==== Sys2Proof/Machine/Crc.lean ====
section
/-! DEFINITION. The check codes of the manual: CRC-16 of the Command Window and the link (R215), CRC-32C (R346),
SHA-256 and HMAC-SHA-256 (R116). -/

namespace Sys2Proof.Machine

/-- One bit of CRC-16 with polynomial 0x1021, most significant bit first. -/
def crc16Bit (c : Nat) (b : Bool) : Nat :=
  let top := (c / 0x8000 % 2 == 1) != b
  let c' := c * 2 % 0x10000
  if top then c' ^^^ 0x1021 else c'

/-- One byte, most significant bit first. -/
def crc16Byte (c : Nat) (b : Byte) : Nat :=
  [7, 6, 5, 4, 3, 2, 1, 0].foldl (fun c k => crc16Bit c (b.toNat / 2 ^ k % 2 == 1)) c

/-- R215: initial value 0xFFFF, no reflection, no final XOR. -/
def crc16 (l : List Byte) : Nat := l.foldl crc16Byte 0xFFFF

/-- One bit step of the reflected CRC-32C polynomial 0x82F63B78. -/
def crc32cStep (c : Nat) : Nat := if c % 2 = 1 then (c / 2) ^^^ 0x82F63B78 else c / 2

def crc32cByte (c : Nat) (b : Byte) : Nat :=
  crc32cStep (crc32cStep (crc32cStep (crc32cStep (crc32cStep (crc32cStep (crc32cStep (crc32cStep (c ^^^ b.toNat))))))))

/-- The bytes in order. The match has the remainder evaluated before the next byte is taken. -/
def crc32cRun : List Byte → Nat → Nat
  | [], c => c
  | b :: l, c => match crc32cByte c b with
    | 0 => crc32cRun l 0
    | k + 1 => crc32cRun l (k + 1)

/-- CRC-32C (Castagnoli) with initial value and final XOR 0xFFFF_FFFF (R346). -/
def crc32c (l : List Byte) : Nat := crc32cRun l 0xFFFFFFFF ^^^ 0xFFFFFFFF

/-! ### SHA-256 (FIPS 180-4) and HMAC (RFC 2104), named by R116 -/

/-- The largest number of `n` bits more than `r` has, whose `k`-th power stays within `v`: found bit by bit. -/
def rootBits (k v : Nat) : Nat → Nat → Nat
  | 0, r => r
  | n + 1, r => rootBits k v n (if (r + 2 ^ n) ^ k ≤ v then r + 2 ^ n else r)

/-- The first 32 bits of the fraction of the `k`-th root of a prime below 512: how FIPS 180-4 defines its constants. -/
def rootWord (k p : Nat) : Word := BitVec.ofNat 32 (rootBits k (p * 2 ^ (32 * k)) 36 0)

/-- The first `n` primes from `c` on, by trial division; `fuel` numbers are looked at. -/
def primesFrom : Nat → Nat → Nat → List Nat
  | 0, _, _ => []
  | fuel + 1, n, c =>
    if n = 0 then []
    else if (List.range (c - 2)).all (fun d => c % (d + 2) != 0) then c :: primesFrom fuel (n - 1) (c + 1)
    else primesFrom fuel n (c + 1)

/-- The round constants: cube roots of the first 64 primes. -/
def shaK : List Word := (primesFrom 310 64 2).map (rootWord 3)

/-- The initial hash value: square roots of the first 8 primes. -/
def shaInit : List Word := (primesFrom 20 8 2).map (rootWord 2)

/-- The exclusive or of a word's rotations to the right. -/
def rotXor (x : Word) (l : List Nat) : Word := l.foldl (fun v n => v ^^^ x.rotateRight n) 0

def shaS0 (x : Word) : Word := rotXor x [2, 13, 22]
def shaS1 (x : Word) : Word := rotXor x [6, 11, 25]
def shaT0 (x : Word) : Word := rotXor x [7, 18] ^^^ x >>> 3
def shaT1 (x : Word) : Word := rotXor x [17, 19] ^^^ x >>> 10

/-- Extend the 16-word window by `n` words; the window is kept newest first. -/
def shaExtend : Nat → List Word → List Word
  | 0, w => w
  | n + 1, w => shaExtend n ((shaT1 (w.getD 1 0) + w.getD 6 0 + shaT0 (w.getD 14 0) + w.getD 15 0) :: w)

/-- One round over the eight working words a to h. -/
def shaRound (v : List Word) (kw : Word) : List Word :=
  match v with
  | [a, b, c, d, e, f, g, h] =>
    let t1 := h + shaS1 e + ((e &&& f) ^^^ (~~~ e &&& g)) + kw
    let t2 := shaS0 a + ((a &&& b) ^^^ (a &&& c) ^^^ (b &&& c))
    [t1 + t2, a, b, c, d + t1, e, f, g]
  | v => v

def shaBlock (h : List Word) (blk : List Byte) : List Word :=
  let w := (shaExtend 48 (wordsOf blk).reverse).reverse
  List.zipWith (· + ·) h ((List.zipWith (· + ·) shaK w).foldl shaRound h)

/-- Blocks of 64 bytes, `n` of them. -/
def shaBlocks : Nat → List Word → List Byte → List Word
  | 0, h, _ => h
  | n + 1, h, m => shaBlocks n (shaBlock h (m.take 64)) (m.drop 64)

def sha256 (m : List Byte) : List Byte :=
  let z := (119 - m.length % 64) % 64
  let p := m ++ [0x80] ++ List.replicate z 0 ++ beBytes 8 (8 * m.length)
  (shaBlocks (p.length / 64) shaInit p).flatMap wordBytes

/-- HMAC-SHA-256 under a key of at most 64 bytes. -/
def hmacSha256 (key m : List Byte) : List Byte :=
  let k := key ++ List.replicate (64 - key.length) 0
  sha256 (k.map (· ^^^ 0x5c) ++ sha256 (k.map (· ^^^ 0x36) ++ m))

/-- R116: the device tag of a message, under DK. -/
def deviceTag (m : List Byte) : List Byte := hmacSha256 (beBytes 32 Config.deviceKey.toNat) m

end Sys2Proof.Machine
end

