-- ==== Sys2Proof/Machine/Bunting.lean ====
section
/-! DEFINITION. Telltales and the bunting plane (R522 to R556): pins, slots, icon images, the per-icon check, TT_FAULT_N and
the three telltale commands. -/

namespace Sys2Proof.Machine

/-! ### Icon images (R527 to R531) -/

def imgW (i : List Word) : Nat := getBits (i.getD 0 0) 8 8
def imgH (i : List Word) : Nat := getBits (i.getD 0 0) 0 8
def imgCheck (i : List Word) : Nat := getBits (i.getD 0 0) 16 16

/-- Pixel words in a row. -/
def imgRow (i : List Word) : Nat := (imgW i + 7) / 8

/-- R527: the pixel words of an image, without its header. -/
def imgPixels (i : List Word) : List Word := (i.drop 1).take (imgRow i * imgH i)

/-- Table 12-1: the CRC-16 over the pixel words. -/
def imgCrc (i : List Word) : Nat := crc16 (byteString (imgPixels i))

/-- The coverage of image pixel (x, y), 0 to 15. -/
def coverage (i : List Word) (x y : Nat) : Nat :=
  if imgW i ≤ x ∨ imgH i ≤ y then 0 else getBits (i.getD (1 + imgRow i * y + x / 8) 0) (28 - 4 * (x % 8)) 4

/-- R527: pixels beyond the width in a row's last word are 0. -/
def imgPadOk (i : List Word) : Bool :=
  imgW i % 8 == 0 ||
    (List.range (imgH i)).all (fun y =>
      getBits (i.getD (imgRow i * (y + 1)) 0) 0 (4 * (8 - imgW i % 8)) == 0)

/-- R527: the geometry of an image is legal. -/
def imgOk (i : List Word) : Bool :=
  decide (1 ≤ imgW i) && decide (imgW i ≤ 64) && decide (1 ≤ imgH i) && decide (imgH i ≤ 64) && imgPadOk i

/-- R528: ROM icon `k`: 48 × 48, 289 words, with a valid CHECK. -/
def romIcon (k : Nat) : List Word :=
  let px := (List.range 288).map (Config.romIconWord k)
  BitVec.ofNat 32 (crc16 (byteString px) * 65536 + 48 * 256 + 48) :: px

def State.icon (s : State) (k : Nat) : Icon := s.icons.toList.getD k Icon.empty
def State.setIcon (s : State) (k : Nat) (i : Icon) : State := { s with icons := s.icons.setIfInBounds k i }

/-- An icon's live image; an icon number outside both ranges names none. -/
def State.iconImage (s : State) (n : Nat) : List Word :=
  if n < 32 then (s.icon n).imgs.toList.getD (s.icon n).live []
  else if 0x80 ≤ n ∧ n ≤ 0x8F then romIcon (n - 0x80) else []

/-- BUNT_ICON_STATE.LOADED. -/
def State.showLoaded (s : State) : State :=
  s.setFld F.BUNT_ICON_STATE_LOADED (((List.range 32).map (fun k => if (s.iconImage k).isEmpty then 0 else 2 ^ k)).sum)

/-- R529: PD17 powers up: every image is empty. -/
def State.iconsLost (s : State) : State :=
  ({ s with icons := s.icons.map (fun (i : Icon) => { i with imgs := Vector.replicate 2 [], live := 0, copied := false }) }).showLoaded

/-- R530: the runtime writes its copies back. -/
def State.iconsRestore (s : State) : State :=
  if !s.runtimeWorks then s
  else ({ s with icons := s.icons.map (fun (i : Icon) => { i with imgs := i.imgs.set 0 i.kept, live := 0 }) }).showLoaded

/-! ### Pins and slots (R523, R524, R533 to R535, R540) -/

/-- R523: pin `n` is asserted after debounce. -/
def State.ttAsserted (s : State) (n : Nat) : Bool := (bitsOf s.ttLevel n 1 == 1) != s.bit (F.BUNT_PIN_POL n)

/-- BUNT_PIN_STATE.ASSERTED follows the debounced levels and the polarities. -/
def State.showPins (s : State) : State :=
  s.setFld F.BUNT_PIN_STATE_ASSERTED (((List.range 16).map (fun n => if s.ttAsserted n then 2 ^ n else 0)).sum)

/-- R535: the blink clock is in an on-phase for BLINK code `b`. -/
def State.blinkOn (s : State) (b : Nat) : Bool :=
  if b = 1 then s.ticks % 1000 < 500 else if b = 2 then s.ticks % 500 < 250 else true

/-- R534 without blinking and without the test for an empty icon. -/
def State.slotDue (s : State) (h k : Nat) : Bool :=
  s.bit (F.BUNT_CFG_EN h k) &&
    (s.bit (F.BUNT_STATUS_FORCED h k) ||
      (!s.bit (F.BUNT_CFG_SRC h k) && s.ttAsserted (s.fld (F.BUNT_CFG_PIN h k))))

/-- R534 without the test for an empty icon. -/
def State.slotWanted (s : State) (h k : Nat) : Bool := s.slotDue h k && s.blinkOn (s.fld (F.BUNT_CFG_BLINK h k))

/-- R534: the slot is shown. -/
def State.slotShown (s : State) (h k : Nat) : Bool :=
  s.slotWanted h k && !(s.iconImage (s.fld (F.BUNT_CFG_ICON h k))).isEmpty

/-- R412, R540, R936: an urgent request to head `h`. -/
def State.urgent (s : State) (h : Nat) : State :=
  if s.headRunning h then s.setHead h { s.head h with event := true } else s

/-- R540: the step from `s` to `t` changed the shown state of slot `k` of head `h` by a pin, a forced bit, a blink phase or EN: a change
of ICON or BLINK alone, or of an image, is no telltale change. -/
def telltaleDiff (s t : State) (h k : Nat) : Bool :=
  let shown := fun (u : State) =>
    u.slotDue h k && u.blinkOn (t.fld (F.BUNT_CFG_BLINK h k)) && !(t.iconImage (t.fld (F.BUNT_CFG_ICON h k))).isEmpty
  shown s != shown t

/-- R540: every head on which the step from `s` to `t` is a telltale change gets an urgent request. -/
def telltaleChange (s t : State) : State :=
  t.each [0, 1, 2, 3] (fun u h => if (List.range 32).any (fun k => telltaleDiff s t h k) then u.urgent h else u)

/-- R523, R524: the time for which a level of pin `n` must stand, in 0.25 ms; a value above 80 takes effect as 80. -/
def State.debounce (s : State) (n : Nat) : Nat := min 80 (s.fld (F.BUNT_PIN_DEB n))

/-- TT_DEBOUNCED_CHANGE (R524 to R526, R540): pin `n` is sampled at the level `high`, which has stood for `stood` quarters of a
millisecond. The debounced state takes it once it has stood for DEB. -/
def execTtDebouncedChange (n : Fin 16) (high : Bool) (stood : Nat) (s : State) : Host.Outcome State Fault Refusal :=
  .next (s.ifLive (
    let s1 := s.setBit ⟨0xC1040, 16 + n.val, 1⟩ high
    if stood < s.debounce n.val then s1
    else
      let lv := s.ttLevel - bitsOf s.ttLevel n.val 1 * 2 ^ n.val + (if high then 2 ^ n.val else 0)
      telltaleChange s ({ s1 with ttLevel := lv }.showPins)))

/-- BLINK_PHASE_CHANGE (R535, R540): at a tick at which the blink clock changes phase, every slot that blinks does. -/
def execBlinkPhaseChange (s : State) : Host.Outcome State Fault Refusal :=
  .next (s.ifLive (
    let before := { s with ticks := s.ticks - 1 }
    if s.ticks = 0 then s else telltaleChange before s))

/-! ### Latching, sampling, merging (R536 to R538) -/

/-- R536: slot `k` of head `h` as it is now. -/
def State.latchSlot (s : State) (h k : Nat) : LatchedSlot :=
  let n := s.fld (F.BUNT_CFG_ICON h k)
  { slot := k
    icon := n
    buf := if n < 32 then some (s.icon n).live else none
    image := s.iconImage n
    x := s.fld (F.BUNT_POS_X h k)
    y := s.fld (F.BUNT_POS_Y h k)
    colour := s.fld (F.BUNT_COLOUR_COLOUR h k)
    shown := none
    kinds := []
    count := 0 }

/-- The rows of a latched slot inside an active area of `va` rows: first and one past the last. -/
def LatchedSlot.rows (l : LatchedSlot) (va : Nat) : Nat × Nat := (min l.y va, min (l.y + imgH l.image) va)

/-- The coverage of active pixel (x, y) by a latched slot. -/
def LatchedSlot.cover (l : LatchedSlot) (x y : Nat) : Nat :=
  if x < l.x ∨ y < l.y then 0 else coverage l.image (x - l.x) (y - l.y)

/-- R552, Table 12-3: EMPTY and LINK are decided at the sampling; `absent` holds the column spans (first, count) of the
head's ABSENT chains. -/
def samplingKinds (l : LatchedSlot) (wanted : Bool) (absent : List (Nat × Nat)) : List Nat :=
  (if wanted && !l.image.isEmpty &&
      absent.any (fun c => decide (l.x < c.1 + c.2) && decide (c.1 < l.x + imgW l.image)) then [4] else []) ++
    (if wanted && l.image.isEmpty then [5] else [])

/-- R550, R551: check pixels of slot `l` in row `y`: inside `hw` columns, opaque, under no higher shown slot. -/
def checkPixels (ls : List LatchedSlot) (l : LatchedSlot) (hw y : Nat) : Nat :=
  ((List.range (imgW l.image)).filter (fun i =>
    decide (l.x + i < hw) && l.cover (l.x + i) y == 15 &&
      ls.all (fun m => m.slot ≤ l.slot || m.shown != some true || m.cover (l.x + i) y == 0))).length

/-- R537: an 8-bit colour component at panel width `n`. -/
def colourAt (n c : Nat) : Nat := min (2 ^ n - 1) (rdiv (widen 8 12 c) (2 ^ (12 - n)))

/-- R537: one component merged. -/
def merge1 (col c under : Nat) : Nat := rdiv (col * c + under * (15 - c)) 15

/-- R537: the pixel at (x, y) with every shown slot over it, `n` bits wide. -/
def mergePx (ls : List LatchedSlot) (n x y : Nat) (p : Pix) : Pix :=
  ls.foldl (fun p l =>
    if l.shown = some true then
      let c := l.cover x y
      ⟨merge1 (colourAt n (bitsOf l.colour 16 8)) c p.r, merge1 (colourAt n (bitsOf l.colour 8 8)) c p.g,
        merge1 (colourAt n (bitsOf l.colour 0 8)) c p.b⟩
    else p) p

/-- R537: a row of the head after the merge. -/
def mergeRow (ls : List LatchedSlot) (n y : Nat) (row : List Pix) : List Pix := row.mapIdx (fun x p => mergePx ls n x y p)

/-! ### The check (R550 to R554) -/

/-- The image as the store holds it now (R550, IMAGE), header and CHECK included. -/
def State.storedImage (s : State) (l : LatchedSlot) : List Word :=
  match l.buf with
  | none => l.image
  | some b => (s.icon l.icon).imgs.toList.getD b []

/-- R554: the failure history of a slot after a check result, or once it is not shown. -/
def failStep (f : List (Nat × Nat)) (slot : Nat) (failed shown : Bool) : List (Nat × Nat) :=
  let rest := f.filter (fun e => e.1 != slot)
  if failed then (slot, 0) :: rest
  else if !shown then rest
  else match f.find? (fun e => e.1 == slot) with
    | none => rest
    | some e => if e.2 = 0 then (slot, 1) :: rest else rest

/-- R552, R553, R554: slot `k` of head `h` has failed its check; `kinds` holds what has been found, the lowest first. With `anew`, the
failure is a new one and counts in ICON_FAULT. -/
def State.slotFails (s : State) (h k : Nat) (kinds : List Nat) (anew : Bool) : State :=
  let x := s.head h
  let s1 := s.setHead h { x with failing := failStep x.failing k true true }
  let s2 := (s1.setFld (F.BUNT_STATUS_FAULT_NOW h k) 1).setFld (F.BUNT_STATUS_KIND h k) (kinds.headD 0)
  if !anew || s2.bit ⟨0xC1080 + 4 * h, k, 1⟩ then (if anew then s2.setFld ⟨0xC1080 + 4 * h, k, 1⟩ 1 else s2)
  else (s2.setFld ⟨0xC1080 + 4 * h, k, 1⟩ 1).raise causeTelltale

/-- R536, R552, R554: sample a slot; EMPTY and LINK fail it now, and one that is no longer shown has no failure left. -/
def State.sampleSlot (s : State) (h : Nat) (absent : List (Nat × Nat)) (l : LatchedSlot) : State × LatchedSlot :=
  let w := s.slotWanted h l.slot
  let sh := w && !l.image.isEmpty
  let k := samplingKinds l w absent
  let s1 := s.setBit (F.BUNT_STATUS_SHOWN h l.slot) sh
  let x := s1.head h
  let s2 := if sh then s1 else s1.setHead h { x with failing := failStep x.failing l.slot false false }
  (if k.isEmpty then s2 else s2.slotFails h l.slot k true, { l with shown := some sh, kinds := k })

/-- R552, R553: the result of a slot is decided; `wrong` says that the merged output differed from the reference. What the sampling
found is part of it. A slot that is not shown is not checked: its STATUS keeps its latest check. -/
def State.decideSlot (s : State) (h n : Nat) (l : LatchedSlot) (wrong : Bool) : State :=
  let shown := l.shown == some true
  let img := if shown && imgCrc (s.storedImage l) != imgCheck (s.storedImage l) then [1] else []
  let out := if shown && wrong && l.count != 0 then [2] else []
  let off := if shown && l.count == 0 then [3] else []
  let kinds := img ++ out ++ off ++ l.kinds
  let (crc, s0) := if shown && wrong then s.draw else (Config.checkCrc l.count l.colour n, s)
  let s1 := if shown || !kinds.isEmpty then s0.setFld (F.BUNT_STATUS_OUT_CRC h l.slot) crc else s0
  if !kinds.isEmpty then s1.slotFails h l.slot kinds l.kinds.isEmpty
  else if !shown then s1
  else
    let x := s1.head h
    ((s1.setHead h { x with failing := failStep x.failing l.slot false true }).setFld (F.BUNT_STATUS_FAULT_NOW h l.slot) 0).setFld
      (F.BUNT_STATUS_KIND h l.slot) 0

/-- R571: whether row `y` is the first and the last row that slot `l` sends, rows sent upwards when `up`. -/
def slotEdge (l : LatchedSlot) (va y : Nat) (up : Bool) : Bool × Bool :=
  let (a, b) := l.rows va
  if b ≤ a then (false, false)
  else if up then (y + 1 == b, y == a) else (y == a, y + 1 == b)

/-- Sample every slot whose first row this is: the sampling of a row comes before its merge and its checks. -/
def State.sampleRow (s : State) (h va y : Nat) (up : Bool) (absent : List (Nat × Nat)) : State :=
  let r := (s.head h).slots.foldl (fun (acc : State × List LatchedSlot) l =>
    if (slotEdge l va y up).1 then
      let (t, l') := acc.1.sampleSlot h absent l
      (t, acc.2 ++ [l'])
    else (acc.1, acc.2 ++ [l])) (s, [])
  r.1.setHead h { r.1.head h with slots := r.2 }

/-- R550 to R553: the checks of row `y` of head `h`; `wrong` lists the slots whose merged output came out wrong. -/
def State.checkRow (s : State) (h n hw va y : Nat) (up : Bool) (wrong : List Nat) : State :=
  let ls := (s.head h).slots
  let r := ls.foldl (fun (acc : State × List LatchedSlot) l =>
    let l1 := if l.shown = some true && decide (l.y ≤ y) && decide (y < l.y + imgH l.image) then
      { l with
        count := l.count + checkPixels ls l hw y
        kinds := if wrong.contains l.slot && !l.kinds.contains 2 then 2 :: l.kinds else l.kinds } else l
    if (slotEdge l va y up).2 then
      (acc.1.decideSlot h n { l1 with kinds := l1.kinds.filter (· != 2) } (l1.kinds.contains 2), acc.2 ++ [l1])
    else (acc.1, acc.2 ++ [l1])) (s, [])
  r.1.setHead h { r.1.head h with slots := r.2 }

/-- R536: latch every slot of head `h` at its frame start; a slot with no row in the active area, or with an empty icon, is
sampled and decided at once (log entry 116). -/
def State.latchSlots (s : State) (h n va : Nat) (absent : List (Nat × Nat)) : State :=
  let s0 := s.setHead h { s.head h with slots := (List.range 32).map (s.latchSlot h) }
  let r := (s0.head h).slots.foldl (fun (acc : State × List LatchedSlot) l =>
    let (a, b) := l.rows va
    if b ≤ a then
      let (t, l') := acc.1.sampleSlot h absent l
      (t.decideSlot h n l' false, acc.2 ++ [l'])
    else (acc.1, acc.2 ++ [l])) (s0, [])
  r.1.setHead h { r.1.head h with slots := r.2 }

/-- R554 case 1: the first frame boundary of head A at which every shown slot has passed its check. -/
def State.faultReady (s : State) : State :=
  if (s.head 0).slots.all (fun l => l.shown != some true || !s.bit (F.BUNT_STATUS_FAULT_NOW 0 l.slot)) then
    s.setFld F.BUNT_CTRL_FAULT_READY 1
  else s

/-- R554: TT_FAULT_N is asserted; a stopped head has no failures left (log entry 117). -/
def State.ttFault (s : State) : Bool :=
  !s.bit F.BUNT_CTRL_FAULT_READY ||
    [0, 1, 2, 3].any (fun h =>
      bitsOf (s.fld F.BUNT_CTRL_FAULT_HEADS) h 1 == 1 &&
        (!(s.head h).failing.isEmpty ||
          ((s.headState h == 0 || !s.pdOn 17) && (List.range 32).any (fun k => s.slotShown h k))))

/-- R554, R555: the level that the AO domain drives on TT_FAULT_N, low when asserted; none in OFF, where the board's pull-down keeps the
pin asserted. -/
def State.ttFaultPin (s : State) : Option Bool := if s.off then none else some (!s.ttFault)

/-! ### Stand-alone bindings (R542, R543) -/

/-- Table 12-2. -/
def saColour (k : Nat) : Nat :=
  if [0, 1, 3, 13, 14].contains k then 0x00D040
  else if k = 2 then 0x2060FF
  else if [4, 8, 9, 10].contains k then 0xFF2010 else 0xFFB000

/-- R90: the position of ROM icon `k` for the profile of head A. A coordinate above 4,095 is kept modulo 4,096, as the 12 bits of POS hold
it (log entry 99). -/
def State.saPos (s : State) (k : Nat) : Nat × Nat :=
  let x0 := s.prof 0 10 16 12
  let y0 := s.prof 0 10 0 12
  if 912 ≤ s.prof 0 0 16 13 then (x0 + 56 * k, y0) else (x0 + 56 * (k % 8), y0 + 56 * (k / 8))

/-- R542: Burin's bindings of head A, and no slot elsewhere. -/
def State.saSlots (s : State) : State :=
  s.each (List.range 128) (fun s i =>
    let h := i / 32
    let k := i % 32
    let a := 0xC0000 + 0x400 * h + 0x10 * k
    if h = 0 ∧ k < 16 then
      let (x, y) := s.saPos k
      ((s.wr a (BitVec.ofNat 32 (0x80000000 + k * 0x1000000 + (0x80 + k) * 0x10000))).wr (a + 4)
        (BitVec.ofNat 32 (x % 4096 * 65536 + y % 4096))).wr (a + 8) (BitVec.ofNat 32 (saColour k))
    else ((s.wr a 0).wr (a + 4) 0).wr (a + 8) 0)

/-! ### Commands (R544 to R549) -/

/-- The fields of a slot's CFG, POS and COLOUR words. -/
def slotMask (k : Nat) : Word := if k = 0 then 0xFFFF0000 else if k = 1 then 0x0FFF0FFF else 0x00FFFFFF

/-- R544: a slot word out of range. -/
def slotWordBad (k : Nat) (w : Word) : Bool :=
  (w &&& ~~~ slotMask k) != 0 ||
    (k == 0 && (getBits w 28 2 == 3 ||
      !(decide (getBits w 16 8 < 32) || (decide (0x80 ≤ getBits w 16 8) && decide (getBits w 16 8 ≤ 0x8F))))) ||
    (k == 1 && decide (2399 < getBits w 0 12))

/-- TELLTALE_CONFIG (R540, R544). -/
def execTelltaleConfig (s : State) : Host.Outcome State Fault Refusal :=
  .next (startCmd s (isOp 0xA0) (fun s e =>
    let p := e.params
    let h := parUnit p
    let k := parBits p 0 0 5
    runtimeCmd s (decide (1 ≤ p.length) && decide (p.length ≤ 4)) (failAt 0 (decide (3 < h)))
      (failAt 0 (strayBits p 0 0xFF00001F) ++ badWords p 0 slotWordBad) true
      (Res.ok (telltaleChange s (
        if p.length = 1 then s.setFld (F.BUNT_CFG_EN h k) 0
        else s.writeWords p 0 (0xC0000 + 0x400 * h + 0x10 * k) slotMask)))))

/-- TELLTALE_FORCE (R545). -/
def execTelltaleForce (s : State) : Host.Outcome State Fault Refusal :=
  .next (startCmd s (isOp 0xA2) (fun s e =>
    let p := e.params
    let h := parUnit p
    runtimeCmd s (p.length == 3) (failAt 0 (decide (3 < h))) (failAt 0 (strayBits p 0 0xFF000000)) true
      (Res.ok (telltaleChange s (s.each (List.range 32) (fun t k =>
        if parBits p 1 k 1 = 1 then t.setFld (F.BUNT_STATUS_FORCED h k) (parBits p 2 k 1) else t))))))

/-- R549: a running head still has the icon's other image latched. -/
def State.otherLatched (s : State) (k : Nat) : Bool :=
  [0, 1, 2, 3].any (fun h => s.headRunning h && !(s.head h).blank &&
    (s.head h).slots.any (fun l => l.icon == k && l.buf == some (1 - (s.icon k).live)))

/-- Words `d` laid over an image of 513 words from word `i`. -/
def putImage (img : List Word) (i : Nat) (d : List Word) : List Word :=
  let full := img ++ List.replicate (513 - img.length) 0
  full.take i ++ d ++ full.drop (i + d.length)

/-- R548: make the other image live. -/
def State.makeLive (s : State) (k : Nat) : State :=
  let i := s.icon k
  let img := i.imgs.toList.getD (1 - i.live) []
  (s.setIcon k { i with live := 1 - i.live, copied := false, kept := img }).showLoaded

/-- R547, R548: write the other image, then with HOLD 0 check it and make it live. -/
def State.iconLoad (s : State) (k first : Nat) (d : List Word) (hold : Bool) : Res :=
  let i := s.icon k
  let base := if i.copied then i.imgs.toList.getD (1 - i.live) [] else i.imgs.toList.getD i.live []
  let img := putImage base first d
  let t := s.setIcon k { i with imgs := i.imgs.setIfInBounds (1 - i.live) img, copied := true }
  if hold then Res.ok t
  else if !imgOk img then Res.bad t 0
  else if imgCrc img != imgCheck img then Res.stat t stCheckFailed
  else Res.ok (t.makeLive k)

/-- ICON_LOAD (R547 to R549). -/
def execIconLoad (s : State) : Host.Outcome State Fault Refusal :=
  .next (startCmd s (isOp 0xA1) (fun s e =>
    let p := e.params
    let k := parUnit p
    let first := parBits p 0 0 16
    runtimeCmd s (decide (2 ≤ p.length) && decide (p.length ≤ 1026)) (failAt 0 (decide (31 < k)))
      (failAt 0 (strayBits p 0 0xFF10FFFF) ++ badWords p 0 (fun i _ => decide (512 < first + i))) true
      (if s.otherLatched k then Res.stat s stBusy
       else s.iconLoad k first p.tail (parBits p 0 20 1 == 1))))

end Sys2Proof.Machine
end

