-- ==== Sys2Proof/Machine/Presence.lean ====
section
/-! DEFINITION. Service presence, the seal loop, fuses and debug unlock (chapter 04). -/

namespace Sys2Proof.Machine

/-- CAL_TEMP.TD in whole °C, rounded down, as the 8-bit code of Table 4-1 (log entry 103). -/
def State.dieTemp8 (s : State) : Nat := codeOf 8 (signedOf 16 (s.fld F.CAL_TEMP_TD) / 8)

/-- R163, R165: queue a service-log event; beyond 15 it is lost and LOG_LOST is set. -/
def State.pushEvent (s : State) (ev detail : Nat) : State :=
  if 15 ≤ s.pres.events.length then s.setFld F.SEAL_STATE_LOG_LOST 1
  else
    let e : PresEvent := ⟨ev, s.bit F.PRES_STATUS_P2, s.fld F.SEAL_STATE_SEAL_OPEN_COUNT, s.ticks, s.dieTemp8, s.phase, detail⟩
    { s with pres := { s.pres with events := s.pres.events ++ [e] } }

/-- R185: the enrolment session ends and releases the digest engine. -/
def State.endEnrol (s : State) : State :=
  match s.boot.enrol with
  | none => s
  | some _ => (({ s with boot := { s.boot with enrol := none } }.setFld F.PRES_STATUS_ENROL_ACTIVE 0)).powerDown 24

/-- R159, R185, R200: P2 is present while SVC_HELD is at least 2 s and the seal is OPEN; its lapse ends an enrolment
session and makes the debug port lock again. -/
def State.refreshP2 (s : State) : State :=
  let now := s.pres.reached && s.fld F.SEAL_STATE_STATE == 2
  if now = s.bit F.PRES_STATUS_P2 then s
  else
    let s1 := (s.setBit F.PRES_STATUS_P2 now).raise causePresence
    if now then s1
    else { s1.endEnrol with pres := { s1.endEnrol.pres with relockDue := s1.endEnrol.bit F.PRES_STATUS_DEBUG_UNLOCKED } }

/-- R149: 20 consecutive equal samples that differ from the debounced level (`true` is low). -/
def svcChange (s : State) (samples : List Bool) : Option Bool :=
  match samples with
  | [] => none
  | b :: _ => if samples.length = 20 ∧ samples.all (· == b) ∧ b ≠ s.bit F.PRES_STATUS_SVC_LOW then some b else none

/-- SVC_DEBOUNCE_CHANGE (R149, R150, R152, R159). -/
def execSvcDebounceChange (samples : List Bool) (s : State) : Host.Outcome State Fault Refusal :=
  .next (s.ifLive (match svcChange s samples with
    | none => s
    | some b =>
      let s1 := (s.setBit F.PRES_STATUS_SVC_LOW b).setFld F.PRES_STATUS_SVC_HELD 0
      ({ s1 with pres := { s1.pres with heldMs := 0, reached := false } }).refreshP2))

/-- R151, R153, R161: a P1 window of 60 s opens and P2 begins if the seal is OPEN. -/
def State.openP1 (s : State) : State :=
  let s1 := ((s.setFld F.PRES_STATUS_P1_OPEN 1).setFld F.PRES_STATUS_P1_REMAIN 60).raise causePresence
  ({ s1 with pres := { s1.pres with reached := true, p1Ms := 60000 } }).refreshP2

/-- P1_WINDOW_OPEN (R151): SVC_HELD reaches 2 s. -/
def execP1WindowOpen (s : State) : Host.Outcome State Fault Refusal :=
  .next (s.ifLive (if s.bit F.PRES_STATUS_SVC_LOW ∧ 2000 ≤ s.pres.heldMs ∧ !s.pres.reached then s.openP1 else s))

/-- P1_WINDOW_CLOSE (R151): 60 s after it opened. -/
def execP1WindowClose (s : State) : Host.Outcome State Fault Refusal :=
  .next (s.ifLive (if s.bit F.PRES_STATUS_P1_OPEN ∧ s.pres.p1Ms = 0 then
    ((s.setFld F.PRES_STATUS_P1_OPEN 0).setFld F.PRES_STATUS_P1_REMAIN 0).raise causePresence else s))

/-- R150, R151: one millisecond of SVC_HELD and of the P1 window. -/
def State.presenceMs (s : State) : State :=
  let held := if s.bit F.PRES_STATUS_SVC_LOW then s.pres.heldMs + 1 else s.pres.heldMs
  let p1 := s.pres.p1Ms - 1
  (({ s with pres := { s.pres with heldMs := held, p1Ms := p1 } }).setFld F.PRES_STATUS_SVC_HELD (min 255 (held / 100))).setFld
    F.PRES_STATUS_P1_REMAIN (if s.bit F.PRES_STATUS_P1_OPEN then (p1 + 999) / 1000 else 0)

/-- R156: SEAL_OUT `us` microseconds after the rising edge of its pulse: high for 250 µs of each 1 ms, in RUN, IDLE, SLEEP and DEEP; none in
OFF, where nothing drives the pin. -/
def State.sealOut (s : State) (us : Nat) : Option Bool := if s.off then none else some (decide (us % 1000 < 250))

/-- SEAL_PULSE_SAMPLE (R156, R157): the two samples of one pulse. -/
def execSealPulseSample (first second : Bool) (s : State) : Host.Outcome State Fault Refusal :=
  .next (s.ifLive (if first && !second then { s with pres := { s.pres with good := s.pres.good + 1, bad := 0 } }
    else { s with pres := { s.pres with bad := s.pres.bad + 1, good := 0 } }))

/-- R158, R162, R163: the seal becomes OPEN; counted and logged. -/
def State.sealOpen (s : State) : State :=
  let found := s.fld F.SEAL_STATE_STATE == 0
  let s1 := (s.satAdd F.SEAL_STATE_SEAL_OPEN_COUNT 1).setFld F.SEAL_STATE_STATE 2
  let s2 := if found then s1.setFld F.SEAL_STATE_FOUND_OPEN_AT_START 1 else s1
  let s3 := (s2.raise causePresence).refreshP2
  s3.pushEvent (if found then 2 else 1) 0

/-- SEAL_STATE_CHANGE (R158): 3 consecutive bad pulses or 64 consecutive good ones. -/
def execSealStateChange (s : State) : Host.Outcome State Fault Refusal :=
  .next (s.ifLive (if 3 ≤ s.pres.bad ∧ s.fld F.SEAL_STATE_STATE ≠ 2 then s.sealOpen
    else if 64 ≤ s.pres.good ∧ s.fld F.SEAL_STATE_STATE ≠ 1 then
      ((s.setFld F.SEAL_STATE_STATE 1).raise causePresence).refreshP2
    else s))

/-- VPP_OK_CHANGE (R192). -/
def execVppOkChange (ok : Bool) (s : State) : Host.Outcome State Fault Refusal :=
  .next (s.ifLive (s.setBit F.FUSE_STATUS_VPP_OK ok))

/-- DEBUG_RELOCK (R200): P2 has lapsed, or DBG_EN_N has risen. -/
def execDebugRelock (enRose : Bool) (s : State) : Host.Outcome State Fault Refusal :=
  .next (s.ifLive (if s.bit F.PRES_STATUS_DEBUG_UNLOCKED ∧ (s.pres.relockDue ∨ enRose) then
    { s.setFld F.PRES_STATUS_DEBUG_UNLOCKED 0 with pres := { s.pres with relockDue := false } } else s))

/-! ### The debug port (R196, R199) -/

/-- The port is open. -/
def State.debugOpen (s : State) : Bool := s.bit F.PRES_STATUS_DEBUG_UNLOCKED

/-- R196: DBG_IO, where `drive` is what an open port would drive: a locked port holds it at high impedance. -/
def State.dbgIo (s : State) (drive : Option Bool) : Option Bool := if s.debugOpen then drive else none

/-- R196: a clock of DBG_CK, where `t` is what it makes of an open port: a locked port ignores it. -/
def State.dbgClock (s t : State) : State := if s.debugOpen then t else s

/-! ### Presence classes (R160, R167, R170 to R172) -/

def State.p1Present (s : State) : Bool := s.bit F.PRES_STATUS_P1_OPEN || s.bit F.PRES_STATUS_P2
def State.p2Present (s : State) : Bool := s.bit F.PRES_STATUS_P2

/-- PRESENCE_STATUS (R175). -/
def execPresenceStatus (s : State) : Host.Outcome State Fault Refusal :=
  .next (startCmd s (isOp 0xD0) (fun s e => judged s e.params.isEmpty [] (.done s stOk [s.readReg 0x40])))

/-- SEAL_STATUS (R175). -/
def execSealStatus (s : State) : Host.Outcome State Fault Refusal :=
  .next (startCmd s (isOp 0xD3) (fun s e =>
    judged s e.params.isEmpty [] (.done s stOk [s.readReg 0x44, s.readReg 0x48])))

/-! ### FUSE_PROGRAM (R188 to R194) -/

/-- How a burn sequence ended. -/
inductive BurnEnd where
  | done
  | failed
  | vppLost
  | powerFail
  deriving DecidableEq, Repr

/-- R189, R191, R192, R194: burn `left` more bits, one pulse per step, with `tries` pulses left for the present bit, `p` pulses given and
`k` bits blown. `v` holds the verify result of each pulse still to come. VPP_OK is lost in bit `vpp`, which completes; PWR_FAIL_N asserts in
pulse `pwr`, which completes. Gives the bits blown and how it ended. -/
def burnPulses (vpp pwr : Option Nat) : Nat → Nat → Nat → List Bool → Nat → Nat → Nat × BurnEnd
  | 0, _, _, _, _, k => (k, .done)
  | n + 1, left, tries, v, p, k =>
    if left = 0 then (k, .done)
    else
      let good := v.headD true
      let k' := if good then k + 1 else k
      if pwr = some (p + 1) then (k', .powerFail)
      else if good then
        (if vpp = some k' then (k', .vppLost) else burnPulses vpp pwr n (left - 1) 3 v.tail (p + 1) k')
      else if tries ≤ 1 then (k, .failed)
      else burnPulses vpp pwr n left (tries - 1) v.tail (p + 1) k

/-- R189 to R194: the `n` bits of a command, with up to 3 pulses each. -/
def burnBits (n : Nat) (v : List Bool) (vpp pwr : Option Nat) : Nat × BurnEnd :=
  if n = 0 then (0, .done)
  else if pwr = some 0 then (0, .powerFail)
  else if vpp = some 0 then (0, .vppLost)
  else burnPulses vpp pwr (3 * n) n 3 v 0 0

/-- R177, R178: blow `k` bits of the field with code `code`; the shadow follows at the verify. -/
def State.blow (s : State) (code k : Nat) : State :=
  if k = 0 then s
  else if code = 1 then
    { s.setFld F.FUSE_STATUS_ENROL_LOCK 1 with fuses := { s.fuses with enrolLock := true } }
  else if code = 3 then
    { s.setFld F.FUSE_STATUS_DEBUG_LOCK 1 with fuses := { s.fuses with debugLock := true } }
  else
    let n := s.fld F.FUSE_STATUS_ROLLBACK_STEPS + k
    { s.setFld F.FUSE_STATUS_ROLLBACK_STEPS n with fuses := { s.fuses with rollback := n } }

/-- R189: how many bits the command has to blow. -/
def State.bitsToBlow (s : State) (code value : Nat) : Nat :=
  if code = 1 then (if s.bit F.FUSE_STATUS_ENROL_LOCK then 0 else 1)
  else if code = 3 then (if s.bit F.FUSE_STATUS_DEBUG_LOCK then 0 else 1)
  else value - s.fld F.FUSE_STATUS_ROLLBACK_STEPS

/-- R190: a field code outside Table 4-3, a lock value other than 1, or a target above 64. A target of 0 lies at or below every count, so
R189 answers it (log entry 102). -/
def fuseBad (code value : Nat) : Bool :=
  !(code == 1 || code == 2 || code == 3) || ((code == 1 || code == 3) && value != 1) || (code == 2 && 64 < value)

/-- R193: the reply word. -/
def State.fuseReply (s : State) (st : Nat) : Res := .done s st [s.rd 0x48]

/-- R163, Table 4-1: the log event of a FUSE_PROGRAM that blew at least one fuse. -/
def State.fuseEvent (s : State) (code k : Nat) : State :=
  if k = 0 then s
  else s.pushEvent 4 (code * 256 + if code = 2 then s.fld F.FUSE_STATUS_ROLLBACK_STEPS else 1)

/-- R174: the refusals of FUSE_PROGRAM in order: phase or ride-through, VPP_OK, supply (Table 18-7: CRANK 4, LOW 1). -/
def State.fuseRefusal (s : State) : Option (Nat × Nat) :=
  if !(s.phase == 0 || s.phase == 5 || s.phase == 6) then some (0, 0)
  else if !s.bit F.FUSE_STATUS_VPP_OK then some (0x0E, 1)
  else if s.fld F.PWR_STATE_SUPPLY = 4 ∨ s.fld F.PWR_STATE_SUPPLY = 1 then some (0x0E, 2)
  else if s.bit F.PWR_STATE_RIDE then some (0, 0)
  else none

/-- R188 to R194: FUSE_PROGRAM after its checks. `none`: no reply is posted (R194). VPP_OK follows its loss (R192). -/
def State.fuseProgram (s : State) (code value : Nat) (v : List Bool) (vpp pwr : Option Nat) : State × Option Nat :=
  let (k, e) := burnBits (s.bitsToBlow code value) v vpp pwr
  let s1 := (s.blow code k).fuseEvent code k
  let s2 := if e = .vppLost ∨ (e ≠ .done ∧ vpp = some (k + 1)) then s1.setFld F.FUSE_STATUS_VPP_OK 0 else s1
  (s2, match e with
    | .done => some stOk
    | .failed => some stCheckFailed
    | .vppLost => some stCheckFailed
    | .powerFail => none)

/-- FUSE_PROGRAM (R188 to R194, R172, R174). `v`: the verify result of each pulse; `vpp`: the bit in which VPP_OK is lost; `pwr`: the pulse in
which PWR_FAIL_N asserts; each 0 for before the first one, if it happens during the command. -/
def execFuseProgram (v : List Bool) (vpp pwr : Option Nat) (s : State) : Host.Outcome State Fault Refusal :=
  .next (match s.cw.cmdQ with
    | [] => s
    | e :: _ =>
      if s.canStart && isOp 0xD1 e then
        let s1 := s.popCmd
        let code := parUnit e.params
        let value := parBits e.params 0 0 24
        if e.params.length ≠ 1 ∨ fuseBad code value then finish e (s1.fuseReply stBadParam)
        else match s1.fuseRefusal with
          | some (c, u) => finish e (Res.refuse s1 c 0 u)
          | none =>
            if !s1.p2Present then finish e (s1.fuseReply stPresenceRequired)
            else match s1.fuseProgram code value v vpp pwr with
              | (s2, some st) => finish e (s2.fuseReply st)
              | (s2, none) => s2
      else s)

/-! ### DEBUG_UNLOCK (R197, R174) -/

/-- DEBUG_UNLOCK (R197). `enLow`: DBG_EN_N is low when the command starts. -/
def execDebugUnlock (enLow : Bool) (s : State) : Host.Outcome State Fault Refusal :=
  .next (startCmd s (isOp 0xD2) (fun s e =>
    judged s e.params.isEmpty []
      (if !(s.phase == 0 || s.phase == 5 || s.phase == 6) then Res.refuse s 0 0 0
       else if !enLow then Res.refuse s 0x0F 0 1
       else if s.bit F.FUSE_STATUS_DEBUG_LOCK then Res.stat s stLocked
       else if !s.p2Present then Res.stat s stPresenceRequired
       else Res.ok (((s.setFld F.BOOT_STATUS_KEYLOCK 1).setFld F.PRES_STATUS_DEBUG_UNLOCKED 1).pushEvent 5 0))))

end Sys2Proof.Machine
end

