-- ==== Sys2Proof/Machine/Boot.lean ====
section
/-! DEFINITION. The runtime download, provisional execution, the commit gate's queue, FAIL (chapter 03), and enrolment
sessions (chapter 04). -/

namespace Sys2Proof.Machine

/-! ### The image header (R104 to R106) -/

/-- Little-endian value of `n` header bytes at `o` (R105). -/
def hdrField (h : List Byte) (o n : Nat) : Nat := leNat ((h.drop o).take n)

def hdrSegCount (h : List Byte) : Nat := hdrField h 6 1
def hdrVersion (h : List Byte) : Nat := hdrField h 8 4
def hdrEntry (h : List Byte) : Nat := hdrField h 0x10 4

/-- Table 3-2: one segment. -/
structure Seg where
  target : Nat
  off : Nat
  len : Nat
  deriving DecidableEq, Repr

/-- Entry `k` of the segment table. -/
def hdrSeg (h : List Byte) (k : Nat) : Seg :=
  ⟨hdrField h (0x20 + 12 * k) 1, hdrField h (0x24 + 12 * k) 4, hdrField h (0x28 + 12 * k) 4⟩

/-- The used entries. -/
def hdrSegs (h : List Byte) : List Seg := (List.range (min 16 (hdrSegCount h))).map (hdrSeg h)

/-- Table 3-3: the size of a target RAM. -/
def targetSize (t : Nat) : Option Nat :=
  if t = 1 then some 0x100000 else if t = 2 then some 0x80000 else if t = 3 then some 0x40000
  else if t = 4 then some 0x18000 else if t = 5 then some 0x4000 else if t = 6 then some 0x20000 else none

def allZero (h : List Byte) (o n : Nat) : Bool := ((h.drop o).take n).all (· == 0)

/-- Two segments share a byte. -/
def segsOverlap (a b : Seg) : Bool := a.target == b.target && decide (a.off < b.off + b.len) && decide (b.off < a.off + a.len)

def noOverlap : List Seg → Bool
  | [] => true
  | a :: t => t.all (fun b => !segsOverlap a b) && noOverlap t

/-- Check 4 for one used entry. -/
def segOk (g : Seg) : Bool :=
  match targetSize g.target with
  | none => false
  | some n => g.off % 4 == 0 && g.len % 4 == 0 && g.len != 0 && decide (g.off + g.len ≤ n)

def hdrCheck1 (h : List Byte) : Bool := crc32c (h.take 0xFC) == hdrField h 0xFC 4

/-- Reserved bytes: of the header, and of all 16 entries of the segment table. -/
def hdrCheck2 (h : List Byte) : Bool :=
  hdrField h 0 4 == 0xD7A89840 && hdrField h 4 2 == 3 && allZero h 7 1 && allZero h 0x1B 5 && allZero h 0xE0 28 &&
    (List.range 16).all (fun k => allZero h (0x21 + 12 * k) 3)

def hdrCheck3 (h : List Byte) : Bool := hdrField h 0x18 2 == 0x9840 && decide (hdrField h 0x1A 1 ≤ 0xC0)

def hdrCheck4 (h : List Byte) : Bool :=
  decide (1 ≤ hdrSegCount h) && decide (hdrSegCount h ≤ 16) && (hdrSegs h).all segOk && noOverlap (hdrSegs h) &&
    (List.range 16).all (fun k => decide (k < hdrSegCount h) || allZero h (0x20 + 12 * k) 12) &&
    hdrField h 0x14 4 == ((hdrSegs h).map (fun g => g.len)).sum

/-- The segment that holds ENTRY_POINT, a Code RAM address. -/
def entryIn (h : List Byte) (g : Seg) : Bool :=
  g.target == 1 && decide (0x10000000 + g.off ≤ hdrEntry h) && decide (hdrEntry h < 0x10000000 + g.off + g.len)

def hdrCheck5 (h : List Byte) : Bool := hdrEntry h % 4 == 0 && (hdrSegs h).any (entryIn h)

def hdrCheck6 (s : State) (h : List Byte) : Bool :=
  decide (hdrField h 0xC 4 ≤ 64) && decide (s.fld F.FUSE_STATUS_ROLLBACK_STEPS ≤ hdrField h 0xC 4)

/-- R106, Table 3-4: the number of the first check that fails, 0 for none. -/
def headerCheck (s : State) (h : List Byte) : Nat :=
  if !hdrCheck1 h then 1 else if !hdrCheck2 h then 2 else if !hdrCheck3 h then 3 else if !hdrCheck4 h then 4
  else if !hdrCheck5 h then 5 else if !hdrCheck6 s h then 6 else 0

/-- R249: the header word of the first field that check `n` examines. -/
def headerCheckWord (n : Nat) : Nat :=
  if n = 1 then 63 else if n = 2 then 0 else if n = 3 then 6 else if n = 4 then 1 else if n = 5 then 4 else 3

/-! ### Position within the image (R108, R109) -/

/-- R108: chunk at `seg`, `off` of `n` bytes is the next one and stays within its segment. -/
def chunkFits (h : List Byte) (seg off next nextOff n : Nat) : Bool :=
  seg == next && off == nextOff && decide (seg < hdrSegCount h) && decide (off + n ≤ (hdrSeg h seg).len)

/-- R109: the position after `n` bytes at `seg`, `off`. -/
def advance (h : List Byte) (seg off n : Nat) : Nat × Nat :=
  if off + n = (hdrSeg h seg).len then (seg + 1, 0) else (seg, off + n)

def positionWord (seg off : Nat) : Word := BitVec.ofNat 32 (seg * 0x1000000 + off)

/-! ### Domains of the target RAMs (R110) -/

/-- The domains that hold target RAM `t` (Table 7-5). -/
def targetDomains (t : Nat) : List Nat :=
  if t = 1 then [4] else if t = 2 then [5] else if t = 3 then [3] else if t = 4 then [12] else if t = 5 then [13]
  else if t = 6 then [15, 16] else []

/-- R110: the domains an accepted LOAD_BEGIN powers. -/
def loadDomains (h : List Byte) : List Nat := [2, 4, 5, 24] ++ (hdrSegs h).flatMap (fun g => targetDomains g.target)

/-- Domains come up; `repair` holds, per RAM of TILE_BIST, the repair codes that a self-test would find (R327). -/
def State.powerUpAll (s : State) (ds : List Nat) (repair : List Word) : State :=
  forEach ds s (fun s n => s.powerUp n (repair.getD ((ramOfDomain n).getD 0) 0))

/-! ### LOAD_BEGIN (R106, R110, R111, R114, R115, R198) -/

/-- R110, R112, R114, R116: accept a header: the digest restarts, RAM contents stay. -/
def State.acceptHeader (s : State) (h : List Byte) (repair : List Word) : State :=
  let s1 := s.powerUpAll (loadDomains h) repair
  let s2 := ((s1.setFld F.BOOT_STATUS_SEG_LOADED 0).setFld F.BOOT_PROGRESS_NEXT_SEG 0).setFld F.BOOT_PROGRESS_NEXT_OFFSET 0
  ({ s2 with boot := { s2.boot with hdr := h, msg := h } }).setPhase 1

/-- The effect of LOAD_BEGIN with header bytes `h`. -/
def State.loadBegin (s : State) (h : List Byte) (repair : List Word) : Res :=
  if 2 ≤ s.phase then Res.refuse s 0 0 0
  else
    let c := headerCheck s h
    if c ≠ 0 then Res.bad (s.setFld F.BOOT_STATUS_LAST_REJECT c) (headerCheckWord c)
    else if s.bit F.BOOT_STATUS_KEYLOCK then Res.stat s stLocked
    else if s.boot.enrol.isSome then Res.stat s stBusy
    else Res.ok (s.acceptHeader h repair)

/-- LOAD_BEGIN (R106). `repair`: what the self-tests of the domains it powers find (R327). -/
def execLoadBegin (repair : List Word) (s : State) : Host.Outcome State Fault Refusal :=
  .next (startCmd s (isOp 0x10) (fun s e =>
    judged s (e.params.length == 64) [] (s.loadBegin (byteString e.params) repair)))

/-! ### LOAD_SEGMENT (R108, R109, R117, R120, R121) -/

/-- R120: a Code RAM range touches the 128 KiB bank `b`. -/
def touchesBank (off n b : Nat) : Bool := decide (off / 0x20000 ≤ b) && decide (b ≤ (off + n - 1) / 0x20000)

/-- R109, R112: the chunk is written and hashed; the position advances. -/
def State.acceptChunk (s : State) (g : Seg) (seg off : Nat) (d : List Byte) : State :=
  let (ns, no) := advance s.boot.hdr seg off d.length
  let s1 := { s with
    tile := s.tile.put g.target (g.off + off) d
    boot := { s.boot with msg := s.boot.msg ++ d, lastChunk := s.ticks } }
  let s2 := (s1.setFld F.BOOT_PROGRESS_NEXT_SEG ns).setFld F.BOOT_PROGRESS_NEXT_OFFSET no
  if ns = seg then s2
  else
    let s3 := s2.setFld ⟨0x20000, seg, 1⟩ 1
    if ns < hdrSegCount s.boot.hdr then s3
    else ({ s3 with boot := { s3.boot with lastSeg := s.ticks } }).setPhase 3

/-- Scribe has gone on fetching, up to now at Code RAM offset `fetch`; none where it is still at the address that the state holds. -/
def State.fetched (s : State) (fetch : Option (Fin 1048576)) : State :=
  match fetch with
  | some a => if s.bit F.BOOT_STATUS_SCRIBE_RUN then { s with boot := { s.boot with fetch := a.val } } else s
  | none => s

/-- R120: the 128 KiB bank of Code RAM that holds Scribe's fetch address. -/
def State.fetchBank (s : State) : Nat := s.boot.fetch / 0x20000

/-- The effect of LOAD_SEGMENT. -/
def State.loadSegment (s : State) (p : List Word) : Res :=
  let bank := s.fetchBank
  if !(s.phase == 1 || s.phase == 2) then Res.refuse s 0 0 0
  else
    let seg := parUnit p
    let off := parBits p 0 0 24
    let d := byteString (p.drop 1)
    let ns := s.fld F.BOOT_PROGRESS_NEXT_SEG
    let no := s.fld F.BOOT_PROGRESS_NEXT_OFFSET
    let g := hdrSeg s.boot.hdr seg
    if !chunkFits s.boot.hdr seg off ns no d.length then .done s stBadParam [positionWord ns no]
    else if s.bit F.BOOT_STATUS_SCRIBE_RUN ∧ g.target = 1 ∧ touchesBank (g.off + off) d.length bank then
      Res.refuse s.draw.2 0x0C bank (s.draw.1 % 256)
    else if s.bit F.BOOT_STATUS_STYLUS_RUN ∧ g.target = 3 then Res.refuse s.draw.2 0x0D 0 (s.draw.1 % 256)
    else
      let s1 := s.acceptChunk g seg off d
      .done s1 stOk [positionWord (s1.fld F.BOOT_PROGRESS_NEXT_SEG) (s1.fld F.BOOT_PROGRESS_NEXT_OFFSET)]

/-- LOAD_SEGMENT (R108, R120). `fetch`: where Scribe's fetch address has come to at the start of the write. -/
def execLoadSegment (fetch : Option (Fin 1048576)) (s : State) : Host.Outcome State Fault Refusal :=
  .next (startCmd s (isOp 0x11) (fun s e =>
    judged s (2 ≤ e.params.length && e.params.length ≤ 1025) [] ((s.fetched fetch).loadSegment e.params)))

/-! ### START_EARLY, release, PRESENT_TAG -/

/-- Table 3-7: the segment that holds ENTRY_POINT is loaded. -/
def State.entryLoaded (s : State) : Bool :=
  (List.range (hdrSegCount s.boot.hdr)).any (fun k =>
    entryIn s.boot.hdr (hdrSeg s.boot.hdr k) && bitsOf (s.fld F.BOOT_STATUS_SEG_LOADED) k 1 == 1)

/-- R123: the release of Scribe is due; the 2 s of R126 start. -/
def State.armRelease (s : State) : State :=
  { s with boot := { s.boot with releaseDue := true, lastChunk := s.ticks } }

/-- START_EARLY (R123, Table 3-7). -/
def execStartEarly (s : State) : Host.Outcome State Fault Refusal :=
  .next (startCmd s (isOp 0x12) (fun s e =>
    judged s e.params.isEmpty []
      (if s.phase = 1 ∧ s.entryLoaded then Res.ok (s.armRelease.setPhase 2)
       else if s.phase = 3 ∧ !s.bit F.BOOT_STATUS_SCRIBE_RUN then Res.ok s.armRelease
       else Res.refuse s 0 0 0)))

/-- R123: SCRIBE_RUN is set, and Scribe fetches its first instruction at ENTRY_POINT; a Scribe that runs goes on. -/
def State.releaseScribe (s : State) : State :=
  { s.setFld F.BOOT_STATUS_SCRIBE_RUN 1 with boot := { s.boot with
      releaseDue := false
      fetch := if s.bit F.BOOT_STATUS_SCRIBE_RUN then s.boot.fetch else (hdrEntry s.boot.hdr - 0x10000000) % 0x100000 } }

/-- Scribe runs and neither waits on a full commit queue (R130) nor has halted (R340). -/
def State.scribeActive (s : State) : Bool :=
  s.bit F.BOOT_STATUS_SCRIBE_RUN && s.boot.stalled.isNone && !s.boot.halted

/-- SCRIBE_RELEASE (R123). -/
def execScribeRelease (s : State) : Host.Outcome State Fault Refusal :=
  .next (s.ifLive (if s.boot.releaseDue then s.releaseScribe else s))

/-- STYLUS_RELEASE (R125, R130): Scribe releases Stylus in EARLY, AWAIT_TAG, PASSED or RUNTIME. -/
def execStylusRelease (s : State) : Host.Outcome State Fault Refusal :=
  .next (s.ifLive (if s.scribeActive ∧ 2 ≤ s.phase ∧ s.phase ≤ 5 then s.setFld F.BOOT_STATUS_STYLUS_RUN 1 else s))

/-- R146, R147: FAIL with a cause. -/
def State.failDownload (s : State) (cause : Nat) : State :=
  let s1 := (s.setFld F.BOOT_STATUS_SCRIBE_RUN 0).setFld F.BOOT_STATUS_STYLUS_RUN 0
  let s2 := { s1.setFld F.BOOT_STATUS_GATE_STALLED 0 with
    boot := { s.boot with commitQ := [], stalled := none, releaseDue := false } }
  let s3 := { s2 with tile := { s2.tile with code := [], data := [], stylus := [] } }
  let s4 := forEach [2, 3, 4, 5] (s3.setFld F.BOOT_STATUS_ZEROISED 1) State.powerDown
  (s4.setFld F.BOOT_STATUS_FAIL_CAUSE cause).setPhase 6

/-- The effect of PRESENT_TAG in AWAIT_TAG (R119, R124). -/
def State.presentTag (s : State) (tag : List Byte) : Res :=
  if s.phase ≠ 3 then Res.refuse s 0 0 0
  else if tag = deviceTag s.boot.msg then
    let r := s.releaseScribe
    Res.ok (({ r with boot := { r.boot with passAt := r.boot.edges } }).setPhase 4)
  else Res.stat (s.failDownload 1) stCheckFailed

/-- PRESENT_TAG (R119). -/
def execPresentTag (s : State) : Host.Outcome State Fault Refusal :=
  .next (startCmd s (isOp 0x13) (fun s e =>
    judged s (e.params.length == 8) [] (s.presentTag (byteString e.params))))

/-- BOOT_STATUS (R113). -/
def execBootStatus (s : State) : Host.Outcome State Fault Refusal :=
  .next (startCmd s (isOp 0x14) (fun s e =>
    judged s e.params.isEmpty []
      (.done s stOk [s.readReg 0x20000, s.readReg 0x20004, s.readReg 0x20008, s.readReg 0x2000c])))

/-- TAG_TIMEOUT (R145): 2 s after the last segment no PRESENT_TAG has arrived. One that waits in the command queue has. -/
def execTagTimeout (s : State) : Host.Outcome State Fault Refusal :=
  .next (s.ifLive (if s.phase = 3 ∧ s.boot.lastSeg + 2000 ≤ s.ticks ∧ !s.cw.cmdQ.any (isOp 0x13) then s.failDownload 2 else s))

/-- LOAD_STALLED (R126): 2 s without an accepted chunk in EARLY. -/
def execLoadStalled (s : State) : Host.Outcome State Fault Refusal :=
  .next (s.ifLive (if s.phase = 2 ∧ s.boot.lastChunk + 2000 ≤ s.ticks then s.failDownload 3 else s))

/-- R127: a core fault before the commit instant. -/
def State.coreFault (s : State) : State :=
  if 1 ≤ s.phase ∧ s.phase ≤ 4 ∧ s.bit F.BOOT_STATUS_SCRIBE_RUN then s.failDownload 4 else s

/-! ### The commit gate (R128 to R134) -/

/-- R128: the gated register groups. -/
def isGated (a : Nat) : Bool :=
  (0x60000 ≤ a && a < 0xD0000) || (0x100000 ≤ a && a < 0x108000) || (0x10000 ≤ a && a < 0x20000) ||
    (0x140000 ≤ a && a < 0x150000) || (0x80 ≤ a && a < 0x94) || (0x1C0100 ≤ a && a < 0x1C0200)

/-- R129, R130: a write to a gated group enters the commit queue, or stalls Scribe on a full queue. -/
def State.gateWrite (s : State) (a : Nat) (w : Word) : State :=
  if s.boot.stalled.isSome then s
  else if 4096 ≤ s.boot.commitQ.length then
    { s.setFld F.BOOT_STATUS_GATE_STALLED 1 with boot := { s.boot with stalled := some (a, w) } }
  else
    let q := s.boot.commitQ ++ [(a, w)]
    { s.setFld F.BOOT_GATE_HIGH_WATER (max (s.fld F.BOOT_GATE_HIGH_WATER) q.length) with
      boot := { s.boot with commitQ := q } }

/-- R132: a discarded Plate write. -/
def State.plateDrop (s : State) : State := s.satAdd F.BOOT_GATE_PLATE_DROPS 1

/-! ### Enrolment (R179 to R187) -/

/-- R172, R198: LOCKED and PRESENCE_REQUIRED of ENROL, the last two of its refusals. -/
def State.enrolPresence (s : State) (run : Res) : Res :=
  if s.bit F.BOOT_STATUS_KEYLOCK ∨ s.bit F.FUSE_STATUS_ENROL_LOCK then Res.stat s stLocked
  else if !s.p2Present then Res.stat s stPresenceRequired
  else run

/-- R172, R174, R186: DATA, END and ABORT of a session: its phase, the session, what `bad` finds wrong with the position, the rest. -/
def State.inSession (s : State) (bad : Enrol → Bool) (run : Enrol → Res) : Res :=
  if s.phase ≠ 0 then Res.refuse s 0 0 0
  else match s.boot.enrol with
    | none => Res.refuse s.draw.2 0x0B 0 (s.draw.1 % 256)
    | some n => if bad n then .done s stBadParam [positionWord n.seg n.off] else s.enrolPresence (run n)

/-- R181, R182, R840: open or restart a session, with PD24 powered. Its header becomes the last accepted one, which GET_DETAIL reports
(log entry 104). -/
def State.openEnrol (s : State) (h : List Byte) : State :=
  let s1 := (s.powerUp 24 0).setFld F.PRES_STATUS_ENROL_ACTIVE 1
  { s1 with boot := { s1.boot with hdr := h, enrol := some ⟨h, h, 0, 0, s.ticks⟩ } }

/-- The effect of ENROL BEGIN: a bad header is answered before the other refusals (R172). -/
def State.enrolBegin (s : State) (h : List Byte) : Res :=
  let c := headerCheck s h
  if c ≠ 0 then Res.bad (s.setFld F.BOOT_STATUS_LAST_REJECT c) (1 + headerCheckWord c)
  else if s.phase ≠ 0 then Res.refuse s 0 0 0
  else s.enrolPresence (Res.ok (s.openEnrol h))

/-- ENROL BEGIN (R181); an ENROL with an unknown sub-operation is answered here with BAD_PARAM (R249). -/
def execEnrolBegin (s : State) : Host.Outcome State Fault Refusal :=
  .next (startCmd s (fun e => isOp 0x15 e && (parUnit e.params == 0 || 3 < parUnit e.params)) (fun s e =>
    judged s (e.params.length == 65) (failAt 0 (strayBits e.params 0 0xFF000000 || 3 < parUnit e.params))
      (s.enrolBegin (byteString (e.params.drop 1)))))

/-- R183: a chunk of the image is hashed; nothing is written. -/
def State.enrolData (s : State) (p : List Word) : Res :=
  let seg := parBits p 1 24 8
  let off := parBits p 1 0 24
  let d := byteString (p.drop 2)
  s.inSession (fun n => !chunkFits n.hdr seg off n.seg n.off d.length) (fun n =>
    let (ns, no) := advance n.hdr seg off d.length
    .done { s with boot := { s.boot with enrol := some ⟨n.hdr, n.msg ++ d, ns, no, s.ticks⟩ } } stOk [positionWord ns no])

/-- ENROL DATA (R183). -/
def execEnrolData (s : State) : Host.Outcome State Fault Refusal :=
  .next (startCmd s (isSubOp 0x15 24 8 1) (fun s e =>
    judged s (3 ≤ e.params.length && e.params.length ≤ 1026) (failAt 0 (strayBits e.params 0 0xFF000000))
      (s.enrolData e.params)))

/-- R184: the tag of a whole image, or BAD_PARAM with the next expected position. -/
def State.enrolEnd (s : State) : Res :=
  s.inSession (fun n => decide (n.seg < hdrSegCount n.hdr)) (fun n =>
    .done ((s.endEnrol).pushEvent 3 (hdrVersion n.hdr / 0x10000)) stOk (wordsOf (deviceTag n.msg)))

/-- ENROL END (R184). -/
def execEnrolEnd (s : State) : Host.Outcome State Fault Refusal :=
  .next (startCmd s (isSubOp 0x15 24 8 2) (fun s e =>
    judged s (e.params.length == 1) (failAt 0 (strayBits e.params 0 0xFF000000)) s.enrolEnd))

/-- ENROL ABORT (R185). -/
def execEnrolAbort (s : State) : Host.Outcome State Fault Refusal :=
  .next (startCmd s (isSubOp 0x15 24 8 3) (fun s e =>
    judged s (e.params.length == 1) (failAt 0 (strayBits e.params 0 0xFF000000))
      (s.inSession (fun _ => false) (fun _ => Res.ok s.endEnrol))))

/-- ENROL_SESSION_TIMEOUT (R185): 2 s without an accepted ENROL command. -/
def execEnrolSessionTimeout (s : State) : Host.Outcome State Fault Refusal :=
  .next (s.ifLive (match s.boot.enrol with
    | none => s
    | some n => if n.last + 2000 ≤ s.ticks then s.endEnrol else s))

end Sys2Proof.Machine
end

