-- ==== Sys2Proof/Machine/Etch.lean ====
section
/-! DEFINITION. The Etch store (chapter 08): the array and its ECC, record slots and the choice between them, the update
order, the service log, ETCH_READ, ETCH_WRITE_RECORD, ETCH_LIST, and word writes with their verify. -/

namespace Sys2Proof.Machine

/-! ### Regions, slots, records (R342 to R350) -/

/-- Table 8-3: base, slot size and pairs of a region of record pairs; LOG has none. -/
def etchRegion (r : Nat) : Option (Nat × Nat × Nat) :=
  if r = 0 then some (0x000000, 0x1000, 32) else if r = 1 then some (0x040000, 0x2000, 16)
  else if r = 2 then some (0x080000, 0x20000, 1) else if r = 3 then some (0x0C0000, 0x4000, 32)
  else if r = 4 then some (0x1C0000, 0x1000, 32) else if r = 5 then some (0x200000, 0x4000, 8)
  else if r = 7 then some (0x280000, 0x2000, 96) else none

/-- R329: the bank of an Etch address, E[21:19]. -/
def etchBank (e : Nat) : Nat := e / 2 ^ 19 % 8

/-- Table 8-3: the region of an Etch address; 8 beyond the store. -/
def regionOfEtch (a : Nat) : Nat :=
  if a < 0x040000 then 0 else if a < 0x080000 then 1 else if a < 0x0C0000 then 2 else if a < 0x1C0000 then 3
  else if a < 0x200000 then 4 else if a < 0x240000 then 5 else if a < 0x280000 then 6 else if a < 0x400000 then 7 else 8

/-- Record indices in use (Table 8-3): the reserved ones of CAL, TABLES and BASELINE are excluded. -/
def recordIndexOk (r i : Nat) : Bool :=
  match etchRegion r with
  | none => false
  | some (_, _, n) => decide (i < n) && (r != 1 || decide (i ≤ 4)) && (r != 3 || decide (i % 8 ≤ 5)) && (r != 5 || decide (i ≤ 3))

def recRegion (type : Nat) : Nat := type / 0x1000
def recIndex (type : Nat) : Nat := type % 0x1000

/-- R342: the address of slot `k` (0 A, 1 B) of a record, and the slot size. -/
def slotAddr (type k : Nat) : Nat × Nat :=
  match etchRegion (recRegion type) with
  | none => (0, 0)
  | some (b, z, _) => (b + 2 * recIndex type * z + k * z, z)

/-- R344. -/
def slotCapacity (z : Nat) : Nat := z - 48

def validMarker : Nat := 0xA5C35A3C0FF09669
def retiredMarker : Nat := 0x00000000DEAD0000

/-- R330, R334: a word with two or more wrong bits among its 72 is uncorrectable (log entry 11). -/
def EtchState.bad (e : EtchState) (a : Nat) : Bool := decide (2 ≤ popcount 72 (assocGet (fun _ => 0) e.flips a))

/-- R330, R334: the 64 data bits a read of the Etch word at `a` delivers. -/
def EtchState.word (e : EtchState) (a : Nat) : Nat :=
  let v := leNat (memBytes e.mem a 8)
  if e.bad a then v ^^^ assocGet (fun _ => 0) e.flips a % 2 ^ 64 else v

/-- `n` bytes from `a`, a multiple of 8, as reads deliver them. -/
def EtchState.bytes (e : EtchState) (a n : Nat) : List Byte :=
  ((List.range ((n + 7) / 8)).flatMap (fun i => leBytes 8 (e.word (a + 8 * i)))).take n

/-- R347: a marker word is present. -/
def EtchState.marker (e : EtchState) (a v : Nat) : Bool := e.word a == v && !e.bad a

structure RecHeader where
  type : Nat
  slot : Nat
  flags : Nat
  seq : Nat
  len : Nat
  check : Nat
  deriving DecidableEq, Repr

/-- Table 8-4. -/
def EtchState.header (e : EtchState) (a : Nat) : RecHeader :=
  let h := e.bytes a 32
  ⟨leNat (h.take 2), (h.getD 2 0).toNat, (h.getD 3 0).toNat, leNat ((h.drop 4).take 4), leNat ((h.drop 8).take 4),
    leNat ((h.drop 28).take 4)⟩

/-- R348: slot `k` of record `type` qualifies. -/
def EtchState.qualifies (e : EtchState) (type k : Nat) : Bool :=
  let (a, z) := slotAddr type k
  e.marker (a + z - 16) validMarker && !e.marker (a + z - 8) retiredMarker &&
    (let h := e.header a
     h.type == type && h.slot == k && h.len % 4 == 0 && decide (4 ≤ h.len) && decide (h.len ≤ slotCapacity z) &&
      allZero (e.bytes a 32) 12 16 && decide (h.flags ≤ 1) &&
      crc32c (e.bytes a 28 ++ e.bytes (a + 32) h.len) == h.check)

/-- R349. -/
def seqNewer (a b : Nat) : Bool :=
  let d := (a + 2 ^ 32 - b) % 2 ^ 32
  decide (1 ≤ d) && decide (d < 2 ^ 31)

/-- The three slot states (R350). -/
def recNone := 0
def recOne := 1
def recDouble := 2

/-- R350: the winning slot (2 for none) and the state. -/
def EtchState.judge (e : EtchState) (type : Nat) : Nat × Nat :=
  let qa := e.qualifies type 0
  let qb := e.qualifies type 1
  if qa && qb then
    (if seqNewer (e.header (slotAddr type 1).1).seq (e.header (slotAddr type 0).1).seq then 1 else 0, recDouble)
  else if qa then (0, recOne) else if qb then (1, recOne) else (2, recNone)

/-- R334: count the errors that reads of Etch bytes `[a, a + n)` meet. -/
def State.etchTouch (s : State) (a n : Nat) : State :=
  forEach (s.etch.flips.filter (fun f => decide (a ≤ f.1) && decide (f.1 < a + n))) s (fun s f =>
    if popcount 72 f.2 = 1 then (s.satAdd F.ETCH_ECC_CE_CNT 1).setFld F.ETCH_STATUS_CE_STICKY 1
    else
      let s1 := s.satAdd F.ETCH_ECC_UE_CNT 1
      if s1.bit F.ETCH_STATUS_UE_STICKY then s1
      else ((s1.setFld F.ETCH_UE_ADDR_ADDR f.1).setFld F.ETCH_STATUS_UE_STICKY 1).raise causeEtch)

/-- Cells that failed since the last event (the environment's): XOR `m` into the 72 stored bits of the word at `a`. -/
def State.etchFlip (s : State) (a m : Nat) : State :=
  let a' := a / 8 * 8
  { s with etch := { s.etch with
      flips := assocSet (fun _ => 0) s.etch.flips a' (assocGet (fun _ => 0) s.etch.flips a' ^^^ m % 2 ^ 72) } }

/-- R345: the words of slot `k` of a record that a choice reads: header, payload and both markers. -/
def State.touchSlot (s : State) (type k : Nat) : State :=
  let (a, z) := slotAddr type k
  let n := (s.etch.header a).len
  ((s.etchTouch a 32).etchTouch (a + 32) (if n ≤ slotCapacity z then n else 0)).etchTouch (a + z - 16) 16

/-- R345: the words of both slots. -/
def State.touchPair (s : State) (type : Nat) : State := (s.touchSlot type 0).touchSlot type 1

/-- R351: the ETCH_MISSING bit of a record type. -/
def missingBit (type : Nat) : Option Nat :=
  let i := recIndex type
  if recRegion type = 1 ∧ i ≤ 4 then some i
  else if recRegion type = 2 then some 8
  else if recRegion type = 3 ∧ i % 8 ≤ 4 then some (16 + i / 8)
  else if recRegion type = 3 ∧ i % 8 = 5 then some (20 + i / 8)
  else if recRegion type = 5 ∧ i ≤ 3 then some (12 + i)
  else none

/-- R351: a needed record is missing. -/
def State.noteMissing (s : State) (type : Nat) : State :=
  match missingBit type with
  | none => s
  | some b =>
    let s1 := (s.setFld ⟨0x1C0010, b, 1⟩ 1).raise causeEtch
    { s1 with etch := { s1.etch with missing := type :: s1.etch.missing.filter (· != type) } }

/-- R351: an update of a record has completed: it is no longer missing, and its bit clears unless another record that shares the bit is
still missing. -/
def State.noteFound (s : State) (type : Nat) : State :=
  if !s.etch.missing.contains type then s
  else
    let left := s.etch.missing.filter (· != type)
    let s1 := { s with etch := { s.etch with missing := left } }
    match missingBit type with
    | none => s1
    | some b => if left.any (fun t => missingBit t == some b) then s1 else s1.setFld ⟨0x1C0010, b, 1⟩ 0

/-- R352: the winner in force: the choice that has been made, or the slots as they stand now. -/
def State.winner (s : State) (type : Nat) : Nat × State :=
  match s.etch.chosen.find? (fun c => c.1 == type) with
  | some c => (c.2, s)
  | none => ((s.etch.judge type).1, s.touchPair type)

/-- R352: the winner in force for a record, kept from now on; a missing record is noted. -/
def State.chooseRecord (s : State) (type : Nat) : Nat × State :=
  let (w, s1) := s.winner type
  if s.etch.chosen.any (fun c => c.1 == type) then (w, s1)
  else
    let s2 := { s1 with etch := { s1.etch with chosen := (type, w) :: s1.etch.chosen } }
    (w, if w = 2 then s2.noteMissing type else s2)

/-- The payload of slot `k` of a record. -/
def EtchState.payload (e : EtchState) (type k : Nat) : List Byte :=
  let a := (slotAddr type k).1
  e.bytes (a + 32) (e.header a).len

/-- The payload of the record in force, none when it is missing. A choice made before reads the payload again (R334). -/
def State.record (s : State) (type : Nat) : Option (List Byte) × State :=
  match s.chooseRecord type with
  | (2, s1) => (none, s1)
  | (k, s1) =>
    let d := s1.etch.payload type k
    (some d, if s.etch.chosen.any (fun c => c.1 == type) then s1.etchTouch ((slotAddr type k).1 + 32) d.length else s1)

/-! ### The write engine (R332, R353 to R357, R359 to R362) -/

/-- Etch words of a byte list from address `a`; a short tail is padded with zeros. -/
def etchWords (step : Nat) : Nat → Nat → List Byte → List EtchWrite
  | 0, _, _ => []
  | n + 1, a, d => ⟨a, leNat (d.take 8), step⟩ :: etchWords step n (a + 8) (d.drop 8)

/-- R345, Table 8-4: the 32 header bytes of a slot. -/
def headerBytes (type slot flags seq : Nat) (payload : List Byte) : List Byte :=
  let h := leBytes 2 type ++ leBytes 1 slot ++ leBytes 1 flags ++ leBytes 4 seq ++ leBytes 4 payload.length ++ leBytes 16 0
  h ++ leBytes 4 (crc32c (h ++ payload))

/-- R354, R355: the words of an update: spare slot `k`, its old slot (2 for none), the new SEQUENCE. -/
def updateWords (type k old seq flags : Nat) (payload : List Byte) : List EtchWrite :=
  let (a, z) := slotAddr type k
  [⟨a + z - 16, 0, 1⟩, ⟨a + z - 8, 0, 1⟩] ++ etchWords 2 ((payload.length + 7) / 8) (a + 32) payload ++
    etchWords 2 4 a (headerBytes type k flags seq payload) ++ [⟨a + z - 16, validMarker, 3⟩] ++
    (if old = 2 then [] else [⟨(slotAddr type old).1 + z - 8, retiredMarker, 4⟩])

/-- R352, R354 to R356: a record update begins: from the winner in force follow the spare slot and the SEQUENCE. -/
def State.beginUpdate (s : State) (type flags : Nat) (payload : List Byte) : EtchJob × State :=
  let (w, s1) := s.winner type
  let k := if w = 2 then 0 else 1 - w
  let a := (slotAddr type w).1
  let q := if w = 2 then 1 else ((s.etch.header a).seq + 1) % 2 ^ 32
  (⟨.record type q k, updateWords type k w q flags payload, none⟩, if w = 2 then s1 else s1.etchTouch a 32)

/-- R353: the retired marker of a record that is DOUBLE, into the slot that is not its winner. -/
def State.retireWords (s : State) (type : Nat) : List EtchWrite :=
  if (s.etch.judge type).2 = recDouble then
    let (a, z) := slotAddr type (1 - (s.winner type).1)
    [⟨a + z - 8, retiredMarker, 4⟩]
  else []

/-- R353, R356: the jobs but for the retirements at their front that have nothing left to retire. -/
def State.dueJobs (s : State) : List EtchJob :=
  s.etch.jobs.dropWhile (fun j => match j.kind with | .retire t => (s.retireWords t).isEmpty | _ => false)

/-- R354: queue a record update. -/
def State.queueUpdate (s : State) (type flags : Nat) (payload : List Byte) : State :=
  { s.setFld F.ETCH_STATUS_BUSY 1 with
    etch := { s.etch with jobs := s.etch.jobs ++ [⟨.record type 0 0, [], some (type, flags, payload)⟩] } }

/-- BUSY shows a record update or log append in progress. -/
def State.refreshBusy (s : State) : State :=
  s.setBit F.ETCH_STATUS_BUSY
    (s.etch.log.isSome || s.etch.jobs.any (fun j => match j.kind with | .record _ _ _ => true | _ => false))

/-- R356: the job whose word is next, with its words laid out if it has not begun. -/
def State.headJob (s : State) : Option (EtchJob × State) :=
  match s.dueJobs with
  | [] => none
  | j :: l =>
    let s1 := { s with etch := { s.etch with jobs := j :: l } }
    match j.todo, j.kind with
    | some (t, f, p), _ => some (s1.beginUpdate t f p)
    | none, .retire t => some ({ j with words := s.retireWords t }, s1.touchPair t)
    | none, _ => some (j, s1)

/-- R330: the word at `a` takes value `v` with valid check bits. -/
def EtchState.write (e : EtchState) (a v : Nat) : EtchState :=
  { e with mem := memPut e.mem a (leBytes 8 v), flips := assocSet (fun _ => 0) e.flips a 0 }

/-- R332, R347: a word that failed its third attempt holds no defined content and reads as no marker (log entry 15). -/
def State.tearWord (s : State) (a : Nat) : State :=
  let (v, s1) := s.draw
  { s1 with etch := { s1.etch with
      mem := memPut s1.etch.mem a (leBytes 8 v)
      flips := assocSet (fun _ => 0) s1.etch.flips a 3 } }

/-- R332: a write failure at `a`. -/
def State.writeFail (s : State) (a : Nat) : State :=
  (((s.tearWord a).setFld F.ETCH_WFAIL_ADDR_ADDR a).setFld F.ETCH_STATUS_WRITE_FAIL 1).raise causeEtch

/-- R601: an update of a loaded table of a head is followed by a load: record `r` of the TABLES region. -/
def State.tableUpdated (s : State) (r : Nat) : State :=
  { s with heads := s.heads.mapFinIdx (fun h x _ =>
      let k := r % 8
      let used := k == 5 || x.od.bufs.toList.contains (some k)
      if r / 8 = h ∧ k ≤ 5 ∧ s.rd (0x80200 + 0x10000 * h) ≠ 0 ∧ s.runtime ∧ used ∧ !x.od.due.contains k then
        { x with od := { x.od with due := x.od.due ++ [k] } } else x) }

/-- R352: the record's winner is chosen afresh when it is next needed. -/
def State.dropChoice (s : State) (type : Nat) : State :=
  { s with etch := { s.etch with chosen := s.etch.chosen.filter (fun c => c.1 != type) } }

/-- R351, R352: a completed update ends the record's missing mark and the runtime's old choice. One whose retired marker failed (R357) has
completed as well (log entry 108). -/
def State.recordDone (s : State) (type : Nat) : State :=
  let s1 := (s.satAdd F.ETCH_STATUS_UPDATES 1).dropChoice type
  (if type / 0x1000 = 3 then s1.tableUpdated (type % 0x1000) else s1).noteFound type

/-! ### Reads behind commands (R334 to R338) -/

/-- R375: `n` 32-bit words from Etch address `a`, each Etch word low half first. -/
def EtchState.halves (e : EtchState) : Nat → Nat → List Word
  | 0, _ => []
  | n + 1, a => BitVec.ofNat 32 (e.word (a / 8 * 8) / (if a % 8 = 0 then 1 else 2 ^ 32)) :: e.halves n (a + 4)

/-- R377: the three words of pair `i` of region `r`. -/
def EtchState.listPair (e : EtchState) (r i : Nat) : List Word :=
  let t := r * 0x1000 + i
  let (w, st) := e.judge t
  if w = 2 then [BitVec.ofNat 32 (i * 2 ^ 20), 0, 0]
  else
    let h := e.header (slotAddr t w).1
    [BitVec.ofNat 32 (i * 2 ^ 20 + w * 2 ^ 19 + st * 2 ^ 16 + h.flags * 2 ^ 8), BitVec.ofNat 32 h.seq, BitVec.ofNat 32 h.len]

def logCellAddr (c : Nat) : Nat := 0x240000 + 32 * c

/-- R364: a cell is valid. -/
def EtchState.cellValid (e : EtchState) (c : Nat) : Bool :=
  e.marker (logCellAddr c + 24) validMarker &&
    crc32c (e.bytes (logCellAddr c) 20) == leNat ((e.bytes (logCellAddr c) 24).drop 20)

def EtchState.cellSeq (e : EtchState) (c : Nat) : Nat := leNat ((e.bytes (logCellAddr c) 20).drop 16)

/-- The newer of two cells; equal LOG_SEQ goes to the lower index, which is `a`. -/
def EtchState.newerCell (e : EtchState) (a : Option Nat) (b : Nat) : Option Nat :=
  match a with
  | none => some b
  | some x => if seqNewer (e.cellSeq b) (e.cellSeq x) then some b else some x

/-- The valid cells, in index order. -/
def EtchState.validCells (e : EtchState) : List Nat :=
  if e.mem.any (fun c => decide (0x240000 ≤ c.1) && decide (c.1 < 0x280000)) then
    (List.range 8192).filter e.cellValid
  else []

/-- R364: the head of the log. -/
def EtchState.logHead (e : EtchState) : Option Nat := e.validCells.foldl e.newerCell none

/-- R334: a scan of the log reads each of its cells once. -/
def State.touchLog (s : State) : State := s.etchTouch 0x240000 0x40000

/-- R377, R378: the payload of ETCH_LIST. -/
def EtchState.list (e : EtchState) (r : Nat) : List Word :=
  match etchRegion r with
  | some (_, _, n) => (List.range n).flatMap (e.listPair r)
  | none =>
    match e.logHead with
    | none => [0, 0, 0]
    | some c => [BitVec.ofNat 32 c, BitVec.ofNat 32 (e.cellSeq c), BitVec.ofNat 32 e.validCells.length]

/-- Table 8-3: base and size of a region. -/
def regionRange (r : Nat) : Nat × Nat :=
  match etchRegion r with
  | some (b, z, n) => (b, 2 * z * n)
  | none => (0x240000, 0x40000)

/-- The first Etch address and the byte count that a read covers. -/
def EtchQuery.range : EtchQuery → Nat × Nat
  | .words a n => (a / 8 * 8, a % 8 + 4 * n)
  | .list r => regionRange r

/-- R336: the read has a word in a bank in which a word write is in progress. -/
def State.etchBusy (s : State) (q : EtchQuery) : Bool :=
  match s.etch.attempt with
  | none => false
  | some w => decide (etchBank q.range.1 ≤ etchBank w.addr) && decide (etchBank w.addr ≤ etchBank (q.range.1 + q.range.2 - 1))

/-- R334, R345, R375 to R379: what the read delivers, its errors counted. -/
def State.etchAnswer (s : State) : EtchQuery → List Word × State
  | .words a n => (s.etch.halves n a, s.etchTouch (a / 8 * 8) (a % 8 + 4 * n))
  | .list r =>
    (s.etch.list r, match etchRegion r with
      | some (_, _, n) => forEach (List.range n) s (fun s i => s.touchPair (r * 0x1000 + i))
      | none => s.touchLog)

/-- R336: a command's read: at once, or after the word that is being written. -/
def State.etchQuery (s : State) (q : EtchQuery) : Res :=
  if s.etchBusy q then .wait s (.etchRead q)
  else .done (s.etchAnswer q).2 stOk (s.etchAnswer q).1

/-- R336, R337: the word write in progress has ended; a read that waited for it is served. -/
def State.wordEnds (s : State) : State :=
  let t := { s with etch := { s.etch with attempt := none } }
  match t.cw.running with
  | some ⟨_, .etchRead q⟩ => (t.etchAnswer q).2.finishRunning stOk (t.etchAnswer q).1
  | _ => t

/-! ### The ends of jobs and appends, and word attempts -/

/-- The executing command waits for the write engine. -/
def State.waitsFor (s : State) (w : Waiting) : Bool :=
  match s.cw.running with
  | some r => r.wait == w
  | none => false

/-- R781: an update of a BASELINE record has ended. True when it was a factory capture's own. -/
def State.baselineDone (s : State) (type : Nat) (ok : Bool) : Bool × State :=
  if type / 0x1000 != 5 then (false, s)
  else match s.touch[type % 0x1000]? with
    | none => (false, s)
    | some x =>
      let put := fun (y : TouchState) => { s with touch := s.touch.setIfInBounds (type % 0x1000) y }
      match x.writing with
      | none => (false, s)
      | some 0 => (true, put { x with
          rebase := 0, writing := none, news := some ok })
      | some (n + 1) => (false, put { x with writing := some n })

/-- The head job ends; a command that waits for it replies. A write failure of a window word shows in the registers of R332 alone, and its
command replies OK (log entry 109). -/
def State.endJob (s : State) (j : EtchJob) (ok : Bool) : State :=
  let s1 := ({ s with etch := { s.etch with jobs := s.etch.jobs.tail } }).wordEnds.refreshBusy
  match j.kind with
  | .record type q _ =>
    let s2 := if ok then s1.recordDone type else s1.dropChoice type
    let (own, s3) := s2.baselineDone type ok
    if !own && s3.waitsFor (.record type) then
      (if ok then s3.finishRunning stOk [BitVec.ofNat 32 q] else s3.finishRunning stCheckFailed [])
    else s3
  | .window => if s1.waitsFor .etchWindow then s1.finishRunning stOk [] else s1
  | .retire type => s1.dropChoice type
  | _ => s1

/-- R365, R366: an append ends; on success the head moves and the event leaves the queue. -/
def State.endLog (s : State) (cell : Nat) (wasValid ok : Bool) : State :=
  let s1 := ({ s with etch := { s.etch with log := none } }).wordEnds.refreshBusy
  if ok then
    let s2 := (s1.setFld F.ETCH_LOG_HEAD_HEAD cell).setFld F.ETCH_LOG_HEAD_VALID
      (min 8192 (s1.fld F.ETCH_LOG_HEAD_VALID + if wasValid then 0 else 1))
    { s2 with pres := { s2.pres with events := s2.pres.events.tail } }
  else if wasValid then s1.setFld F.ETCH_LOG_HEAD_VALID (s1.fld F.ETCH_LOG_HEAD_VALID - 1)
  else s1

/-- R332: the failed attempts of the word in progress. -/
def EtchState.failed (e : EtchState) : Nat := match e.attempt with | some w => w.failed | none => 0

/-- R332: one more failed attempt of the word at `a`. -/
def State.retryWord (s : State) (log : Bool) (a : Nat) : State :=
  { s with etch := { s.etch with attempt := some ⟨log, a, s.etch.failed + 1⟩ } }

/-- R340, R359, R362: whether a word write may go on: the word has begun, or writes are neither suspended nor left by a halted runtime. -/
def State.mayWrite (s : State) : Bool :=
  s.pdOn 9 && !s.bit F.PWR_STATE_PARKED && (s.etch.attempt.isSome || (!s.bit F.ETCH_STATUS_SUSPENDED && !s.runtimeDead))

/-- R333, R374: the next attempt can be that of the log append (`log`) or of the job in front: no word of the other is in progress, and a
window write waits for the append in progress. -/
def State.canAttempt (s : State) (log : Bool) : Bool :=
  match s.etch.attempt with
  | some w => w.log == log
  | none =>
    if log then s.etch.log.isSome
    else match s.dueJobs with
      | [] => false
      | j :: _ => j.kind != .window || s.etch.log.isNone

/-- One attempt of a log append's next word. -/
def State.logAttempt (s : State) (ok : Bool) : State :=
  match s.etch.log with
  | none => s
  | some j =>
    let cell := match j.kind with | .log c _ => c | _ => 0
    let was := match j.kind with | .log _ v => v | _ => false
    match j.words with
    | [] => s.endLog cell was true
    | w :: t =>
      if ok then
        let s1 := { s with etch := { s.etch.write w.addr w.val with log := some { j with words := t } } }
        if t.isEmpty then s1.endLog cell was true else s1.wordEnds
      else if s.etch.failed < 2 then s.retryWord true w.addr
      else (s.writeFail w.addr).endLog cell was false

/-- R357: one attempt of the next word of the head job. After a write failure a window write goes on with its next word (log entry 109). -/
def State.jobAttempt (s0 : State) (ok : Bool) : State :=
  match s0.headJob with
  | none => s0
  | some (j, s) =>
    match j.words with
    | [] => s.endJob j true
    | w :: t =>
      let rest := { j with words := t } :: s.etch.jobs.tail
      if ok then
        let s1 := { s with etch := { s.etch.write w.addr w.val with jobs := rest } }
        if t.isEmpty then s1.endJob j true else s1.wordEnds
      else if s.etch.failed < 2 then
        ({ s with etch := { s.etch with jobs := j :: s.etch.jobs.tail } }).retryWord false w.addr
      else if j.kind == .window && !t.isEmpty then
        ({ s.writeFail w.addr with etch := { (s.writeFail w.addr).etch with jobs := rest } }).wordEnds
      else (s.writeFail w.addr).endJob j (w.step == 4)

/-- ETCH_WORD_WRITE's attempt (R332, R333). -/
def State.wordAttempt (s : State) (log ok : Bool) : State :=
  if !s.canAttempt log then s else if log then s.logAttempt ok else s.jobAttempt ok

/-- R353: the record types that are DOUBLE. -/
def EtchState.doubles (e : EtchState) : List Nat :=
  if e.mem.isEmpty then []
  else [0, 1, 2, 3, 4, 5, 7].flatMap (fun r =>
    match etchRegion r with
    | none => []
    | some (_, _, n) => ((List.range n).map (fun i => r * 0x1000 + i)).filter (fun t => (e.judge t).2 == recDouble))

/-- R334: a look at every record of the store. -/
def State.touchRecords (s : State) : State :=
  [0, 1, 2, 3, 4, 5, 7].foldl (fun (s : State) r =>
    match etchRegion r with
    | none => s
    | some (_, _, n) => forEach (List.range n) s (fun s i => s.touchPair (r * 0x1000 + i))) s

/-- LOSER_RETIREMENT (R353): once after the commit instant, unless Etch writes are suspended. -/
def execLoserRetirement (s : State) : Host.Outcome State Fault Refusal :=
  .next (s.ifLive (if s.runtimeWorks ∧ s.etch.retireDue ∧ s.pdOn 9 ∧ !s.bit F.ETCH_STATUS_SUSPENDED then
    let jobs := s.etch.doubles.map (fun t => (⟨.retire t, [], none⟩ : EtchJob))
    let s1 := s.touchRecords
    { s1 with etch := { s1.etch with retireDue := false, jobs := s1.etch.jobs ++ jobs } }
  else s))

/-! ### The service log (R163 to R166, R364 to R367) -/

/-- R166: LIFE_COUNT of the newest seal entry in the log, 0 for none. -/
def EtchState.lifeCount (e : EtchState) : Nat :=
  let sc := e.validCells.filter (fun c =>
    let ev := ((e.bytes (logCellAddr c) 1).getD 0 0).toNat
    ev == 1 || ev == 2)
  match sc.foldl e.newerCell none with
  | none => 0
  | some c => leNat ((e.bytes (logCellAddr c + 0) 8).drop 4)

/-- Table 4-1: the 16 bytes of an event's entry, as the Etch owner writes it. -/
def entryBytes (ev : PresEvent) (lost : Bool) (life : Nat) : List Byte :=
  leBytes 1 ev.event ++ leBytes 1 ((if lost then 1 else 0) + (if ev.p2 then 2 else 0)) ++ leBytes 2 ev.session ++
    leBytes 4 life ++ leBytes 4 ev.timeMs ++ leBytes 1 ev.dieTemp ++ leBytes 1 ev.phase ++ leBytes 2 ev.detail

/-- R365: the words of an append into cell `c`. -/
def appendWords (c seq : Nat) (entry : List Byte) : List EtchWrite :=
  let a := logCellAddr c
  let b := entry ++ leBytes 4 seq
  [⟨a + 24, 0, 0⟩] ++ etchWords 0 2 a entry ++ etchWords 0 1 (a + 16) (leBytes 4 seq ++ leBytes 4 (crc32c b)) ++
    [⟨a + 24, validMarker, 0⟩]

/-- R365: the cell and LOG_SEQ of the next append: after the head, or cell 0 with LOG_SEQ 1 with no valid cell. -/
def State.nextCell (s : State) : Nat × Nat :=
  if s.fld F.ETCH_LOG_HEAD_VALID = 0 then (0, 1)
  else
    let h := s.fld F.ETCH_LOG_HEAD_HEAD
    ((h + 1) % 8192, (s.etch.cellSeq h + 1) % 2 ^ 32)

/-- R164 to R166, R365: begin the append of the oldest pending event. -/
def State.startAppend (s0 : State) (ev : PresEvent) : State :=
  let s := s0.touchLog
  let (c, q) := s.nextCell
  let life := if ev.event = 1 ∨ ev.event = 2 then s.etch.lifeCount + 1 else s.etch.lifeCount
  { s.setFld F.ETCH_STATUS_BUSY 1 with
    etch := { s.etch with
      log := some ⟨.log c (s.etch.cellValid c),
        appendWords c q (entryBytes ev (s.bit F.SEAL_STATE_LOG_LOST) life), none⟩ } }

/-- LOG_APPEND (R164, R340, R365). -/
def execLogAppend (s : State) : Host.Outcome State Fault Refusal :=
  .next (s.ifLive (match s.pres.events with
    | [] => s
    | ev :: _ => if s.etch.log.isNone ∧ !s.runtimeDead ∧ s.pdOn 9 ∧ !s.bit F.ETCH_STATUS_SUSPENDED then s.startAppend ev else s))

/-! ### Commands -/

/-- ETCH_READ (R336, R375, R376). `word`, `mask`: cells that failed since the last event, if any. -/
def execEtchRead (word mask : Nat) (s : State) : Host.Outcome State Fault Refusal :=
  .next (s.ifLive (startCmd (s.etchFlip word mask) (isOp 0x70) (fun s e =>
    let a := (par e.params 0).toNat
    let n := (par e.params 1).toNat
    match badIndex (e.params.length == 2)
      (failAt 0 (a % 8 != 0 || 0x400000 ≤ a) ++
        failAt 1 (n % 2 != 0 || n < 2 || 1024 < n || (a < 0x400000 && 0x400000 < a + 4 * n))) with
    | some i => Res.bad s i
    | none =>
      if !s.pdOn 9 then Res.domainOff s 9 else s.etchQuery (.words a n))))

/-- Table 4-2, R373: the presence an update of a record needs: 0 none, 1 P1, 2 P2. -/
def State.recordClass (s : State) (type flags : Nat) : Nat :=
  let r := recRegion type
  if r = 0 then 2 else if r = 1 ∨ r = 5 then 1
  else if r = 7 then
    let w := (s.winner type).1
    if flags % 2 = 1 ∨ (w ≠ 2 ∧ (s.etch.header (slotAddr type w).1).flags % 2 = 1) then 1 else 0
  else 0

def State.presenceMet (s : State) (cls : Nat) : Bool :=
  cls == 0 || (cls == 1 && s.p1Present) || (cls == 2 && s.p2Present)

/-- R372: the failing words of an ETCH_WRITE_RECORD. -/
def recordParamFails (type flags total : Nat) : List Nat :=
  failAt 0 (!recordIndexOk (recRegion type) (recIndex type) || 1 < flags) ++
    failAt 1 (total % 4 != 0 || total == 0 || slotCapacity (slotAddr type 0).2 < total)

def State.dropStaging (s : State) : State := { s with etch := { s.etch with staging := none } }

/-- R369: the part belongs to another record than the open staging. -/
def State.stagingClash (s : State) (type flags total : Nat) : Bool :=
  match s.etch.staging with
  | some g => !(g.type == type && g.flags == flags && g.total == total)
  | none => false

/-- The bytes staged so far. -/
def State.staged (s : State) : List Byte := match s.etch.staging with | some g => g.data | none => []

/-- R370: the word that is wrong in an accepted part of `n` bytes: one that leaves the staging short of or beyond the total when it closes
it, or that the 16 KiB of the staging buffer do not hold. -/
def State.stagingFails (s : State) (total : Nat) (more : Bool) (n : Nat) : Option Nat :=
  let before := s.staged.length
  if 16384 < before + n then some (2 + (16384 - before) / 4)
  else if more || before + n == total then none
  else if before + n < total then some 1 else some (2 + (total - before) / 4)

/-- R370: an accepted part is staged; the last one starts the update. -/
def State.stagePart (s : State) (type flags total : Nat) (more : Bool) (part : List Byte) : Res :=
  let d := s.staged ++ part
  if more then
    .done { s with etch := { s.etch with staging := some ⟨type, flags, total, d, s.ticks⟩ } } stOk [BitVec.ofNat 32 d.length]
  else .wait (s.dropStaging.queueUpdate type flags d) (.record type)

/-- R239, R369 to R373: ETCH_WRITE_RECORD after LENGTH and reserved bits: the words, the staged length, crank ride-through (R262), the open
staging (UNIT_INDEX 0, log entry 110), presence. -/
def State.writeRecord (s : State) (type flags total : Nat) (more : Bool) (part : List Byte) : Res :=
  let clash := s.stagingClash type flags total
  match minIndex (recordParamFails type flags total), if clash then none else s.stagingFails total more part.length with
  | some i, _ => Res.bad s.dropStaging i
  | none, some i => Res.bad s.dropStaging i
  | none, none =>
    if s.bit F.PWR_STATE_RIDE then Res.refuse s 0 0 0
    else if clash then Res.refuse s 0x08 0 1
    else if !s.presenceMet (s.recordClass type flags) then Res.stat s stPresenceRequired
    else s.stagePart type flags total more part

/-- ETCH_WRITE_RECORD (R368 to R373). -/
def execEtchWriteRecord (s : State) : Host.Outcome State Fault Refusal :=
  .next (startCmd s (isOp 0x71) (fun s e =>
    runtimeCmd s (2 ≤ e.params.length && e.params.length ≤ 1026) [] (failAt 0 (strayBits e.params 0 0xFFFFFF80)) true
      (s.writeRecord (parBits e.params 0 16 16) (parBits e.params 0 8 8) (par e.params 1).toNat (parBits e.params 0 7 1 == 1)
        (byteString (e.params.drop 2)))))

/-- ETCH_STAGING_TIMEOUT (R371). -/
def execEtchStagingTimeout (s : State) : Host.Outcome State Fault Refusal :=
  .next (s.ifLive (match s.etch.staging with
    | none => s
    | some g => if g.last + 2000 ≤ s.ticks then s.dropStaging else s))

/-- ETCH_LIST (R336, R377 to R379). -/
def execEtchList (s : State) : Host.Outcome State Fault Refusal :=
  .next (startCmd s (isOp 0x72) (fun s e =>
    let r := parUnit e.params
    judged s (e.params.length == 1) (failAt 0 (7 < r || strayBits e.params 0 0xFF000000))
      (if !s.pdOn 9 then Res.domainOff s 9 else s.etchQuery (.list r))))

end Sys2Proof.Machine
end

