-- ==== Sys2Proof/Machine/Calibration.lean ====
section
/-! DEFINITION. Calibration and sensing (R791 to R822): trim targets and steps, CAL_RUN, CAL_STORE, CAL_SELECT, CAL_READ, the
sense ADC's averages and scaling. -/

namespace Sys2Proof.Machine

/-! ### Trims (R791 to R801) -/

def State.applied (s : State) (e : Nat) : Int := s.cal.applied.toList.getD e 0
def State.target (s : State) (e : Nat) : Int := s.cal.target.toList.getD e 0

def State.setApplied (s : State) (e : Nat) (t : Int) : State :=
  { s with cal := { s.cal with applied := s.cal.applied.setIfInBounds e t } }

/-- R801: no trim moves while a CAL_RUN measures or in crank ride-through. -/
def State.trimsHeld (s : State) : Bool := s.cal.measuring.isSome || s.bit F.PWR_STATE_RIDE

/-- R799: one step of entry `e` towards its target. -/
def State.stepTrim (s : State) (e : Nat) : State :=
  let a := s.applied e
  let t := s.target e
  s.setApplied e (if a < t then a + 1 else if t < a then a - 1 else a)

def State.stepTrims (s : State) (l : List Nat) : State := if s.trimsHeld then s else l.foldl State.stepTrim s

/-- R800: entries take their targets at once; that is no step, so R801 does not stop it (log entry 123). -/
def State.loadTrims (s : State) (l : List Nat) : State := l.foldl (fun s e => s.setApplied e (s.target e)) s

/-- The lane trims of chain `c` (Table 17-1). -/
def laneTrims (c : Nat) : List Nat := [2 * c, 2 * c + 1, 16 + 2 * c, 17 + 2 * c, 32 + 2 * c, 33 + 2 * c, 48 + c, 56 + c, 64 + c, 72 + c]

/-- The analogue trims that domain PDn powers. -/
def domainTrims (n : Nat) : List Nat :=
  if n = 10 then (List.range 20).map (· + 80)
  else if n = 11 then (List.range 48).map (· + 100)
  else if n = 23 then (List.range 17).map (· + 148) else []

/-- Every analogue trim: groups 0x7 to 0xC. -/
def analogueTrims : List Nat := (List.range 85).map (· + 80)

/-- Table 17-2: the taps of a CAL payload, none where the structural ranges of R794 break. -/
def calTaps (k : Nat) (p : List Byte) : Option (List Int) :=
  let w := fun a => leNat ((p.drop a).take 4)
  let entryOk := fun e =>
    let v := w (32 + 16 * e)
    let (g, t) := trimGroup e
    let tap := signedOf 8 (v % 256)
    bitsOf v 16 8 == g && bitsOf v 8 8 == e - t.base && bitsOf v 25 7 == 0 && decide (t.lo ≤ tap) && decide (tap ≤ t.hi) &&
      w (40 + 16 * e) == 0 && w (44 + 16 * e) == 0
  if p.length = 3072 ∧ w 0 = 0x01000000 + k ∧ bitsOf (w 4) 16 16 = 0 ∧ bitsOf (w 8) 8 24 = 0 ∧
      (p.drop 12).take 20 = List.replicate 20 0 ∧ (List.range 165).all entryOk ∧
      (p.drop 2672) = List.replicate 400 0 then
    some ((List.range 165).map (fun e => signedOf 8 (w (32 + 16 * e) % 256)))
  else none

/-- R794: the taps of stored set `k`, none when it is not usable. -/
def State.calSet (s : State) (k : Nat) : Option (List Int) :=
  match (s.record (0x1000 + k)).1 with
  | none => none
  | some p => calTaps k p

/-- The five sets (R793). -/
def State.calSets (s : State) : List (Option (List Int)) := (List.range 5).map s.calSet

/-- The temperatures of five-set tables in 0.125 °C: −40, −10, +25, +60, +95 °C. -/
def setTemp (k : Nat) : Int := if k = 0 then -320 else if k = 1 then -80 else if k = 2 then 200 else if k = 3 then 480 else 760

/-- The nearest usable set to set `k`, the colder one at equal distance (R797, R589). -/
def nearestSet (usable : Nat → Bool) (k : Nat) : Option Nat :=
  [0, 1, 2, 3, 4].foldl (fun best j =>
    if !usable j then best
    else match best with
      | none => some j
      | some i => if (setTemp j - setTemp k).natAbs < (setTemp i - setTemp k).natAbs then some j else some i) none

/-- R796, R587: the bracket of temperature `t`: lower set, upper set, w. -/
def bracket (t : Int) : Nat × Nat × Nat :=
  if t ≤ -320 then (0, 0, 0)
  else if 760 ≤ t then (4, 4, 0)
  else
    let lo := if t < -80 then 0 else if t < 200 then 1 else if t < 480 then 2 else 3
    let d := setTemp (lo + 1) - setTemp lo
    (lo, lo + 1, (((t - setTemp lo) * 256 + d / 2) / d).toNat)

/-- R796, R797: interpolated taps, the ROM defaults when no set is usable. -/
def interpolate (sets : List (Option (List Int))) (t : Int) : List Int :=
  let usable := fun k => (sets.getD k none).isSome
  let (lo, hi, w) := bracket t
  let taps := fun k => match nearestSet usable k with
    | none => (List.range 165).map romTap
    | some j => (sets.getD j none).getD []
  ((taps lo).zip (taps hi)).map (fun (a, b) => a + ((b - a) * w + 128) / 256)

/-- Td (R795). -/
def State.td (s : State) : Int := signedOf 16 (s.fld F.CAL_TEMP_TD)

/-- CAL_STATUS.USABLE, and in stand-alone mode CAL_MISSING when no set is usable (R68, R100, R797). -/
def State.showUsable (s : State) (sets : List (Option (List Int))) : State :=
  let u := ((List.range 5).map (fun k => if (sets.getD k none).isSome then 2 ^ k else 0)).sum
  let s1 := s.setFld F.CAL_STATUS_USABLE u
  if u = 0 ∧ s1.bit F.BOOT_SA_STATUS_SA_ACTIVE then s1.setFld F.BOOT_SA_STATUS_CAL_MISSING 1 else s1

/-- Table 17-3: the entries that a scope measures. -/
def scopeEntries (scope : Nat) : List Nat :=
  (if bitsOf scope 0 1 = 1 then List.range 80 else []) ++ (if bitsOf scope 1 1 = 1 then (List.range 68).map (· + 80) else []) ++
    (if bitsOf scope 2 1 = 1 then (List.range 17).map (· + 148) else [])

/-- R798: the taps of a run set; an entry that its run did not measure keeps its target (log entry 123). -/
def State.runTargets (s : State) (r : CalRun) : List Int :=
  (List.range 165).map (fun e => if (scopeEntries r.scope).contains e then r.taps.getD e 0 else s.target e)

/-- R796 to R798: the targets of the source in force. -/
def State.retarget (s : State) : State :=
  let s0 := (List.range 5).foldl (fun (s : State) k => (s.record (0x1000 + k)).2) s
  let sets := s0.calSets
  let s1 := s0.showUsable sets
  let src := s1.fld F.CAL_STATUS_SOURCE
  let (lo, _, w) := bracket s1.td
  let s2 := if src = 0 then (s1.setFld F.CAL_TEMP_W (min 255 w)).setFld F.CAL_TEMP_SET_LO lo else s1
  let taps :=
    if src = 0 then interpolate sets s1.td
    else if src = 1 then (match s1.cal.run with | some r => s1.runTargets r | none => s1.cal.target.toList)
    else if src = 2 then (List.range 165).map romTap
    else if s1.cal.source = 3 then s1.cal.target.toList else s1.cal.applied.toList
  { s2 with cal := { s2.cal with source := src, target := Vector.ofFn (fun e => taps.getD e.val 0) } }

/-- CAL_TARGET_RECOMPUTE (R796 to R798, R801): every 100 ms from the commit instant. -/
def execCalTargetRecompute (s : State) : Host.Outcome State Fault Refusal :=
  .next (s.ifLive (if s.runtimeWorks && s.ticks % 100 == 0 && s.fld F.PWR_STATE_STATE ≤ 1 && !s.trimsHeld then s.retarget else s))

/-! ### CAL_RUN (R802 to R807) -/

/-- R820: every sense channel is STALE while a run measures. -/
def State.setStale (s : State) (v : Nat) : State := (List.range 16).foldl (fun s n => s.setFld (F.SENSE_CH_FLAGS_STALE n) v) s

/-- R707: a finished diagnostic run shows STALE while a CAL_RUN measures. -/
def State.setDiagStale (s : State) (on : Bool) : State :=
  (List.range 8).foldl (fun s n =>
    s.setBit (F.LINK_DIAG_STATUS_STALE n)
      (on && s.fld (F.LINK_DIAG_STATUS_KIND n) == 0 && decide (3 ≤ s.fld (F.LINK_DIAG_STATUS_RUN_STATE n)))) s

/-- R695: a running eye scan pauses while a run measures; a paused one that nothing else holds resumes after it. -/
def State.calPauses (s : State) (on : Bool) : State :=
  let s0 := if on then
      { s with chains := s.chains.map (fun (x : ChainState) => { x with diag := x.diag.map (fun (d : DiagRun) => { d with moved := false }) }) }
    else s
  (List.range 8).foldl (fun s n =>
    let st := s.fld (F.LINK_DIAG_STATUS_RUN_STATE n)
    if s.fld (F.LINK_DIAG_STATUS_KIND n) != 0 then s
    else if on && st == 1 then s.setFld (F.LINK_DIAG_STATUS_RUN_STATE n) 2
    else if !on && st == 2 && s.fld (F.LINK_STATUS_LANE n) != 4 then s.setFld (F.LINK_DIAG_STATUS_RUN_STATE n) 1
    else s) s0

/-- R804: a run begins to measure. -/
def State.calStart (s : State) (scope : Nat) : State :=
  ((({ s with cal := { s.cal with measuring := some scope } }.setFld F.CAL_STATUS_RUN_STATE 1).setStale 1).setDiagStale
    true).calPauses true

/-- A run ends in state `st`; the CAL cause rises unless SOFT_RESET ends it (R806, R807). -/
def State.calEnd (s : State) (st cause : Nat) : State :=
  ((((({ s with cal := { s.cal with measuring := none } }.setFld F.CAL_STATUS_RUN_STATE st).setFld
    F.CAL_STATUS_ABORT_CAUSE cause).setStale 0).setDiagStale false).calPauses false).raise causeCal

/-- R806: crank ride-through (cause 1) or POWER_STATE (cause 2) aborts a run. -/
def State.calAbort (s : State) (cause : Nat) : State := if s.cal.measuring.isSome then s.calEnd 3 cause else s

/-- CAL_RUN (R802, R804). -/
def execCalRun (s : State) : Host.Outcome State Fault Refusal :=
  .next (startCmd s (isOp 0x60) (fun s e =>
    let p := e.params
    let sc := parUnit p
    runtimeCmd s (p.length == 1) [] (failAt 0 (strayBits p 0 0xFF000000 || sc == 0 || decide (7 < sc))) false
      (if s.cal.measuring.isSome then Res.stat s stBusy else .done (s.calStart sc) stAccepted [])))

/-- R805: a measured entry: its tap clamped to the range, with CLAMPED. -/
def clampTap (e : Nat) (t : Int) : Int × Bool :=
  let g := (trimGroup e).2
  (clampInt g.lo g.hi t, t < g.lo || g.hi < t)

/-- CAL_RUN_DONE (R805, R806): `found` holds, for each entry of the scope in order, the tap found and the value
measured. -/
def execCalRunDone (found : List (Int × Int)) (s : State) : Host.Outcome State Fault Refusal :=
  .next (s.ifLive (match s.cal.measuring with
    | none => s
    | some sc =>
      let es := scopeEntries sc
      let at' := fun e => (es.findIdx? (· == e)).map (fun i => found.getD i (romTap e, 0))
      let taps := (List.range 165).map (fun e => match at' e with | none => 0 | some f => (clampTap e f.1).1)
      let vals := (List.range 165).map (fun e => match at' e with | none => 0 | some f => f.2)
      let cl := (List.range 165).map (fun e => match at' e with | none => false | some f => (clampTap e f.1).2)
      let t := { s with cal := { s.cal with run := some ⟨sc, s.td, taps, vals, cl⟩ } }
      ((t.setFld F.CAL_STATUS_RUN_SCOPE sc).setFld F.CAL_STATUS_CLAMP_CNT (cl.filter id).length).calEnd 2 0))

/-- R807: SOFT_RESET. -/
def State.calSoftReset (s : State) : State :=
  let irq := s.rd 0x30004
  let t := if s.cal.measuring.isSome then (s.calEnd 0 0).wr 0x30004 irq else s
  ((({ t with cal := { t.cal with run := none } }.setFld F.CAL_STATUS_RUN_STATE 0).setFld F.CAL_STATUS_SOURCE 0).setFld
    F.CAL_STATUS_RUN_SCOPE 0).setFld F.CAL_STATUS_CLAMP_CNT 0

/-! ### CAL_SELECT, CAL_STORE, CAL_READ (R808 to R811) -/

/-- CAL_SELECT (R808). -/
def execCalSelect (s : State) : Host.Outcome State Fault Refusal :=
  .next (startCmd s (isOp 0x63) (fun s e =>
    let p := e.params
    runtimeCmd s (p.length == 1) [] (failAt 0 (strayBits p 0 0xFF000000 || decide (3 < parUnit p))) true
      (if parUnit p = 1 ∧ s.cal.run.isNone then Res.refuse s 0x07 0 (s.fld F.CAL_STATUS_RUN_STATE)
       else Res.ok (s.setFld F.CAL_STATUS_SOURCE (parUnit p)))))

/-- Table 17-2: the payload that CAL_STORE writes for set `k`. -/
def calPayload (k : Nat) (r : CalRun) : List Byte :=
  let entry := fun e =>
    let (g, t) := trimGroup e
    leBytes 4 ((if r.clamped.getD e false then 2 ^ 24 else 0) + g * 65536 + (e - t.base) * 256 + codeOf 8 (r.taps.getD e 0)) ++
      leBytes 4 (codeOf 32 (r.vals.getD e 0)) ++ leBytes 8 0
  leBytes 4 (0x01000000 + k) ++ leBytes 4 (codeOf 16 r.temp) ++ leBytes 4 (min 255 (r.clamped.filter id).length) ++
    leBytes 20 0 ++ (List.range 165).flatMap entry ++ List.replicate 400 0

/-- CAL_STORE (R809, R810). -/
def execCalStore (s : State) : Host.Outcome State Fault Refusal :=
  .next (startCmd s (isOp 0x62) (fun s e =>
    let p := e.params
    runtimeCmd s (p.length == 1) [] (failAt 0 (strayBits p 0 0xFF000000 || decide (4 < parUnit p))) false
      (match s.cal.run with
       | some r =>
         if r.scope != 7 then Res.refuse s 0x07 0 (s.fld F.CAL_STATUS_RUN_STATE)
         else if !s.p1Present then Res.stat s stPresenceRequired
         else .wait (s.queueUpdate (0x1000 + parUnit p) 0 (calPayload (parUnit p) r)) (.record (0x1000 + parUnit p))
       | none => Res.refuse s 0x07 0 (s.fld F.CAL_STATUS_RUN_STATE))))

/-- Table 17-4: the measured value in the units of a CAL_READ word; a greater one keeps its low 16 bits (log entry 123). -/
def measuredWord (e : Nat) (v : Int) : Nat :=
  let g := (trimGroup e).1
  codeOf 16 (if g = 2 ∨ g = 6 then v else v / 16)

/-- Table 17-4: the three words of entry `e`; reserved entries read 0. -/
def State.calWords (s : State) (e : Nat) : List Word :=
  if 165 ≤ e then [0, 0, 0]
  else
    let sets := s.calSets
    let tap := fun k => codeOf 8 (((sets.getD k none).getD []).getD e 0)
    let run := match s.cal.run with | some r => codeOf 8 (r.taps.getD e 0) | none => 0
    let val := match s.cal.run with | some r => measuredWord e (r.vals.getD e 0) | none => 0
    [BitVec.ofNat 32 (codeOf 8 (s.applied e) * 2 ^ 24 + codeOf 8 (s.target e) * 2 ^ 16 + run * 256 + codeOf 8 (romTap e)),
      BitVec.ofNat 32 (tap 0 * 2 ^ 24 + tap 1 * 2 ^ 16 + tap 2 * 256 + tap 3),
      BitVec.ofNat 32 (tap 4 * 2 ^ 24 + s.fld F.CAL_STATUS_USABLE * 2 ^ 16 + val)]

/-- CAL_READ (R811). -/
def execCalRead (s : State) : Host.Outcome State Fault Refusal :=
  .next (startCmd s (isOp 0x61) (fun s e =>
    let p := e.params
    let g := parUnit p
    let t := trimGroups.getD g ⟨0, 0, 0, 0, 0⟩
    let first := parBits p 1 16 16
    let n := parBits p 1 0 16
    runtimeCmd s (p.length == 2) []
      (failAt 0 (strayBits p 0 0xFF000000 || decide (12 < g)) ++ failAt 1 (n == 0 || (decide (g ≤ 12) && decide (t.count < first + n))))
      true
      (.done s stOk ((List.range n).flatMap (fun i => s.calWords (t.base + first + i))))))

/-! ### The sense ADC (R813 to R820) -/

/-- SENSE_CTRL: channels 0 and 11 to 15 are always enabled (R814). -/
def State.chanOn (s : State) (n : Nat) : Bool := n == 0 || decide (11 ≤ n) || bitsOf (s.fld F.SENSE_CTRL_EN_MASK) n 1 == 1

/-- R814: the channel converted next. In DEEP only channel 0 is converted (R852). -/
def State.nextChan (s : State) : Nat :=
  if s.fld F.PWR_STATE_STATE = 3 then 0
  else ((List.range 16).map (fun i => (s.sense.next + i) % 16)).find? s.chanOn |>.getD 0

/-- R815, R816, R820: one conversion of the next channel with code `c`. -/
def State.convert (s : State) (c : Nat) : State :=
  let n := s.nextChan
  let ovr := c == 0 || c == 0xFFF
  let settling := !ovr && decide (0 < s.sense.settling)
  let clean := !ovr && !settling
  let held := s.cal.measuring.isSome
  let x := s.sense
  let (a, k) := x.acc.toList.getD n (0, 0)
  let s1 := { s with sense := { x with
      next := (n + 1) % 16
      settling := if ovr then 2 else x.settling - 1
      acc := if clean && !held then x.acc.setIfInBounds n (a + c, k + 1) else x.acc } }
  let s2 := (s1.setBit (F.SENSE_CH_FLAGS_OVR n) ovr).setBit (F.SENSE_CH_FLAGS_SETTLING n) settling
  let s3 := if ovr then (s2.setFld (F.SENSE_CH_FLAGS_OVR_STICKY n) 1).satAdd (F.SENSE_OVR_CNT (n / 4) (n % 4)) 1 else s2
  if held then s3 else s3.setFld (F.SENSE_CH_FLAGS_LAST n) c

/-- Table 17-1: VFS in µV, times 8,192. -/
def State.vfs (s : State) : Nat := 2500000 * (8160 + s.applied 164).toNat

/-- Table 17-5: the thermistor formula, in 0.125 °C. -/
def ntcScaled (avg vfs i b r25 : Nat) : Int :=
  if b = 0 ∨ r25 = 0 then signedOf 32 (Config.ntcOpen avg b r25)
  else if avg = 0 then 1240
  else
    let l := lnFx (avg * vfs) (8192 * 65536 * i * r25 * 10)
    let d : Int := 20 * b * 2 ^ 40 + 5963 * l
    if d ≤ 0 then 1240
    else clampInt (-440) 1240 (rdivInt (80 * 5963 * b * 2 ^ 40 - 21852 * d) (10 * d).toNat)

/-- R818, Table 17-5: channel `n` scaled from an average. -/
def State.scaled (s : State) (n avg : Nat) : Int :=
  let q := 8192 * 65536
  if n = 0 then rdiv (avg * s.vfs * 11) (q * 1000)
  else if n ≤ 4 then
    let i := [10, 20, 50, 100].getD (s.fld (F.SENSE_NTC_BIAS (n - 1))) 10
    ntcScaled avg s.vfs i (s.fld (F.SENSE_NTC_B (n - 1))) (s.fld (F.SENSE_NTC_R25 (n - 1)))
  else if n ≤ 6 then rdiv (avg * s.fld (F.SENSE_ALS_LUX_FS (n - 5))) 65520
  else if n ≤ 10 then
    let r := s.fld (F.SENSE_BLFB_RSENSE (n - 7))
    if r = 0 then 0 else rdiv (avg * s.vfs) (q * r)
  else if n ≤ 14 then rdivInt ((avg * s.vfs : Nat) * 4 - (600000 * q * 4 : Nat)) (2000 * q) + 200
  else rdiv (avg * s.vfs) (q * 1000)

/-- R817, R820: the millisecond of channel `n` that ends while a run measures: its window moves on and no average does. -/
def State.slideWindow (s : State) (n : Nat) : State :=
  let x := s.sense
  let h := (x.acc.toList.getD n (0, 0) :: x.hist.toList.getD n []).take 1000
  { s with sense := { x with acc := x.acc.setIfInBounds n (0, 0), hist := x.hist.setIfInBounds n h } }

/-- R817, R818: recompute the averages of channel `n` at a system tick. -/
def State.average (s : State) (n : Nat) : State :=
  let a := s.sense.acc.toList.getD n (0, 0)
  let s1 := s.slideWindow n
  let h := s1.sense.hist.toList.getD n []
  let sum := (h.map (·.1)).sum
  let cnt := (h.map (·.2)).sum
  let s2 := if a.2 = 0 then s1 else s1.setFld (F.SENSE_CH_AVG_1MS_AVG_1MS n) (rdiv (16 * a.1) a.2)
  let s3 := s2.setBit (F.SENSE_CH_FLAGS_NO_CLEAN n) (a.2 == 0 || cnt == 0)
  if cnt = 0 then s3
  else
    let v := rdiv (16 * sum) cnt
    (s3.setFld (F.SENSE_CH_AVG_1S_AVG_1S n) v).setFld (F.SENSE_CH_SCALED_SCALED n) (codeOf 32 (s3.scaled n v))

/-- The signed SCALED value of a channel. -/
def State.scaledOf (s : State) (n : Nat) : Int := signedOf 32 (s.fld (F.SENSE_CH_SCALED_SCALED n))

/-- R795: Td from the valid die sensors. -/
def State.updateTd (s : State) : State :=
  let ok := [11, 12, 13, 14].filter (fun n => !s.bit (F.SENSE_CH_FLAGS_NO_CLEAN n))
  if ok.isEmpty then s.setFld F.CAL_STATUS_TD_FAULT 1
  else
    let sum := (ok.map s.scaledOf).foldl (· + ·) 0
    (s.setFld F.CAL_STATUS_TD_FAULT 0).setFld F.CAL_TEMP_TD (codeOf 16 (rdivInt sum ok.length))

/-- SENSE_AVERAGE_UPDATE (R817, R820): within a system tick; while a run measures the averages hold. -/
def State.senseTick (s : State) : State :=
  if !s.pdOn 23 then s
  else if s.cal.measuring.isSome then (List.range 16).foldl State.slideWindow s
  else ((List.range 16).foldl State.average s).updateTd

/-- ANALOG_TRIM_STEP (R799): within a system tick from the commit instant. -/
def State.trimTick (s : State) : State :=
  if s.runtimeWorks && decide (s.fld F.PWR_STATE_STATE ≤ 1) then s.stepTrims analogueTrims else s

end Sys2Proof.Machine
end

