-- ==== Sys2Proof/Machine/Lanes.lean ====
section
/-! DEFINITION. How the blocks of a chain stream become the symbols of its two forward lanes (R624 to R634), the pattern generators and
checkers of loopbacks (R715, R716), the packets of the return lane (R648). -/

namespace Sys2Proof.Machine

/-- `n` bits of `v`, most significant first. -/
def bitList : Nat → Nat → List Bool
  | 0, _ => []
  | n + 1, v => (v / 2 ^ n % 2 == 1) :: bitList n v

def bitsValue (l : List Bool) : Nat := l.foldl (fun n b => 2 * n + (if b then 1 else 0)) 0

/-! ### Fine mode (R624 to R626, R633) -/

/-- R633: the scrambled bits of `d` and the transmitter's last 31 scrambled bits after them, oldest first. -/
def scramble : List Bool → List Bool → List Bool × List Bool
  | st, [] => ([], st)
  | st, d :: l =>
    let x := (d != st.getD 3 false) != st.getD 0 false
    let r := scramble (st.tail ++ [x]) l
    (x :: r.1, r.2)

/-- R633: what a descrambler with the same last 31 scrambled bits makes of scrambled bits. -/
def descramble : List Bool → List Bool → List Bool
  | _, [] => []
  | st, x :: l => ((x != st.getD 3 false) != st.getD 0 false) :: descramble (st.tail ++ [x]) l

/-- Table 14-1: the Gray index of two bits, first one most significant. -/
def grayIndex (a b : Bool) : Nat := if a then (if b then 2 else 3) else (if b then 1 else 0)

/-- Table 14-1: the level of an index. -/
def levelOf (i : Nat) : Int := 2 * (i : Int) - 3

/-- R624, R625: bits two by two. -/
def grayIndices : List Bool → List Nat
  | a :: b :: l => grayIndex a b :: grayIndices l
  | _ => []

/-- R626: the precoded indices behind index `p`. -/
def precode : Nat → List Nat → List Nat
  | _, [] => []
  | p, g :: l => let q := (g + 4 - p) % 4; q :: precode q l

/-- R626: what a receiver recovers from precoded indices behind index `p`. -/
def unprecode : Nat → List Nat → List Nat
  | _, [] => []
  | p, q :: l => (q + p) % 4 :: unprecode q l

/-- R630: the 66 bits of a Fine block before scrambling: header 10 for control, 01 for data, then payload bit 63 first. -/
def headerBits (b : Block) : List Bool := [b.ctl, !b.ctl]

def payloadBits (b : Block) : List Bool := b.data.flatMap (fun x => bitList 8 x.toNat)

/-- R625, R626, R633: the indices that a Fine lane sends for a block. -/
def fineBlock (t : LaneTx) (pre : Bool) (b : Block) : List Nat × LaneTx :=
  let r := scramble t.scr (payloadBits b)
  let g := grayIndices (headerBits b ++ r.1)
  let q := if pre then precode t.prev g else g
  (q, { t with scr := r.2, prev := if pre then q.getLastD t.prev else t.prev })

/-! ### Coarse mode: 8b/10b (R627 to R629); the code groups are those of the standard that R627 names (log entry 113) -/

/-- Bits abcdei of D.x at negative running disparity. -/
def sixBits (x : Nat) : Nat :=
  [0x27, 0x1D, 0x2D, 0x31, 0x35, 0x29, 0x19, 0x38, 0x39, 0x25, 0x15, 0x34, 0x0D, 0x2C, 0x1C, 0x17,
    0x1B, 0x23, 0x13, 0x32, 0x0B, 0x2A, 0x1A, 0x3A, 0x33, 0x26, 0x16, 0x36, 0x0E, 0x2E, 0x1E, 0x2B].getD x 0

/-- Bits fghj of y at negative running disparity; the alternate of y = 7 is 0111. -/
def fourBits (alt : Bool) (y : Nat) : Nat := if y = 7 ∧ alt then 0x7 else [0xB, 0x9, 0x5, 0xC, 0xD, 0xA, 0x6, 0xE].getD y 0

/-- One sub-block of `n` bits: complemented at positive disparity where it is unbalanced or one of the balanced pair; and the disparity
after it. -/
def subBlock (n v : Nat) (pair rd : Bool) : List Bool × Bool :=
  let l := bitList n v
  let skew := 2 * (l.filter id).length != n
  (if rd && (skew || pair) then l.map (!·) else l, rd != skew)

/-- The code group of a data byte or, with `k`, of K28.y; bit a first. -/
def codeGroup (rd k : Bool) (v : Nat) : List Bool × Bool :=
  let x := v % 32
  let y := v / 32
  let six := subBlock 6 (if k then 0x0F else sixBits x) (!k && x == 7) rd
  let alt := if six.2 then x == 11 || x == 13 || x == 14 else x == 17 || x == 18 || x == 20
  let four := if k then subBlock 4 ([0xB, 0x9, 0xA, 0xC, 0xD, 0x5, 0x9, 0x7].getD y 0) true six.2
    else subBlock 4 (fourBits alt y) (y == 3) six.2
  (six.1 ++ four.1, four.2)

/-- The bits of a list of characters; `true` marks K28.y. -/
def codeGroups : Bool → List (Bool × Nat) → List Bool × Bool
  | rd, [] => ([], rd)
  | rd, c :: l =>
    let a := codeGroup rd c.1 c.2
    let r := codeGroups a.2 l
    (a.1 ++ r.1, r.2)

/-- Table 14-2: K28.5, K28.0, K28.2. -/
def charComma : Bool × Nat := (true, 0xBC)
def charData : Bool × Nat := (true, 0x1C)
def charCtl : Bool × Nat := (true, 0x5C)

/-- R629, R630: the characters of a Coarse lane's blocks, a K28.5 after every 63rd and after the last. -/
def coarseChars (l : List Block) : List (Bool × Nat) :=
  (l.mapIdx (fun i b =>
    (if b.ctl then charCtl else charData) :: b.data.map (fun x => (false, x.toNat)) ++
      (if i % 63 = 62 ∨ i + 1 = l.length then [charComma] else []))).flatten

/-! ### The two lanes (R631, R632) -/

/-- The symbols of a lane: indices in Fine mode, bits in Coarse mode. -/
def laneOut (fine pre : Bool) (t : LaneTx) (l : List Block) : List Nat × LaneTx :=
  if fine then
    l.foldl (fun r b => let q := fineBlock r.2 pre b; (r.1 ++ q.1, q.2)) ([], t)
  else
    let r := codeGroups t.rd (coarseChars l)
    (r.1.map (fun b => if b then 1 else 0), { t with rd := r.2 })

/-- R631: even-numbered blocks go on F0, odd-numbered ones on F1. -/
def onLane (k : Nat) (l : List Block) : List Block := (l.zipIdx.filter (fun e => e.2 % 2 == k)).map (·.1)

/-- R638: control blocks IDLE and ALIGN. -/
def idleBlock : Block := ⟨true, [0x1E, 0, 0, 0, 0, 0, 0, 0]⟩
def alignPair : List Block := [⟨true, [0xD2, 0, 0, 0, 0, 0, 0, 0]⟩, ⟨true, [0xD2, 1, 0, 0, 0, 0, 0, 0]⟩]

/-- R632: block pairs, an ALIGN pair after every 1,023 of them and after the last; the first argument bounds the recursion. An odd last
block is joined by an IDLE block. -/
def aligned : Nat → List Block → List Block
  | 0, _ => alignPair
  | n + 1, l =>
    let a := l.take 2046
    (if a.length % 2 = 1 then a ++ [idleBlock] else a) ++ alignPair ++ (if (l.drop 2046).isEmpty then [] else aligned n (l.drop 2046))

/-- R632: `n` block pairs between two sending steps: `pair i`, or ALIGN in every 1,024th. -/
def fillPairs (n : Nat) (pair : Nat → List Block) : List Block :=
  (List.range n).flatMap (fun i => if i % 1024 = 1023 then alignPair else pair i)

/-! ### Patterns (R715, R716) -/

/-- The next `n` bits of a pattern's generator from its last bits, oldest first: the taps are those `a` and `b` bits ago. -/
def prbsBits : Nat → Nat → Nat → List Bool → List Bool
  | _, _, 0, _ => []
  | a, b, n + 1, l =>
    let x := (l.getD 0 false) != (l.getD (a - b) false)
    x :: prbsBits a b n (l.tail ++ [x])

/-- Table 15-5: the degrees of PATTERN `p`. -/
def patternTaps (p : Nat) : Nat × Nat := [(7, 6), (15, 14), (23, 18), (31, 28)].getD p (7, 6)

/-- Table 15-5: the first `n` bits of PATTERN `p`, from a state of ones. -/
def patternBits (p n : Nat) : List Bool := prbsBits (patternTaps p).1 (patternTaps p).2 n (List.replicate (patternTaps p).1 true)

/-- R715: pattern block `i` of a run. -/
def patternBlock (p i : Nat) : Block :=
  let l := (patternBits p (64 * i + 64)).drop (64 * i)
  ⟨false, (List.range 8).map (fun k => BitVec.ofNat 8 (bitsValue ((l.drop (8 * k)).take 8)))⟩

/-- R716: a received pattern block meets the checker: its generator's last bits, none before synchronisation; errors and sync losses that
it adds; the generator after it. -/
def checkPattern (p : Nat) (gen : Option (List Bool)) (payload : BitVec 64) : Nat × Nat × Option (List Bool) :=
  let (a, b) := patternTaps p
  let got := bitList 64 payload.toNat
  match gen with
  | none => (0, 0, some (got.drop (64 - a)))
  | some g =>
    let want := prbsBits a b 64 g
    let wrong := ((got.zip want).filter (fun x => x.1 != x.2)).length
    if 16 < wrong then (64, 1, none) else (wrong, 0, some (want.drop (64 - a)))

/-! ### Return packets (R648) -/

/-- A return packet whose CRC matched: source address, type, payload. -/
structure RetPacket where
  src : Nat
  type : Nat
  payload : List Byte
  deriving DecidableEq, Repr

/-- The bytes between K27.7 and K29.7; none where the CRC or the length does not match (log entry 112). -/
def returnPacket (l : List Byte) : Option RetPacket :=
  let n := l.length - 6
  let body := l.take (n + 4)
  let crc := (l.drop (n + 4)).foldl (fun v b => 256 * v + b.toNat) 0
  let len := 256 * (l.getD 2 0).toNat + (l.getD 3 0).toNat
  if 6 ≤ l.length ∧ n ≤ 2048 ∧ len = n ∧ crc = crc16 body then
    some ⟨(l.getD 0 0).toNat, (l.getD 1 0).toNat, body.drop 4⟩
  else none

/-- Byte `k` of a packet's payload. -/
def RetPacket.byte (p : RetPacket) (k : Nat) : Nat := (p.payload.getD k 0).toNat

/-- `n` bytes of a packet's payload from byte `k`, most significant first. -/
def RetPacket.bytes (p : RetPacket) (k n : Nat) : Nat := ((p.payload.drop k).take n).foldl (fun v b => 256 * v + b.toNat) 0

/-- The words of a packet's payload from byte `k`, most significant byte first. -/
def RetPacket.words (p : RetPacket) (k n : Nat) : List Word := (List.range n).map (fun i => BitVec.ofNat 32 (p.bytes (k + 4 * i) 4))

end Sys2Proof.Machine
end

