-- ==== Sys2Proof/Machine/Chains.lean ====
section
/-! DEFINITION. Chains (R618 to R741): training states and attempts, enumeration, rate steps, equaliser, lane power,
blocks of the chain stream, diagnostic runs. The rows are in Link.lean. -/

namespace Sys2Proof.Machine

/-! ### Codes -/

/-- Table 14-6. -/
def chDark := 0
def chBeacon := 1
def chLock := 2
def chOrient := 3
def chCount := 4
def chRate := 5
def chEq := 6
def chUnfurled := 7
def chAbsent := 8

/-- Table 15-8. -/
def laneUnfurled := 2
def laneSlack := 3
def laneFurled := 4

/-- FAIL_CAUSE. -/
def failTimeout := 1
def failSequence := 2
def failReturn := 3
def failCount := 4
def failConfig := 5

def State.chain (s : State) (c : Nat) : ChainState := s.chains.toList.getD c ChainState.reset
def State.setChain (s : State) (c : Nat) (x : ChainState) : State := { s with chains := s.chains.setIfInBounds c x }

def State.chainState (s : State) (c : Nat) : Nat := s.fld (F.LINK_STATUS_STATE c)
def State.lane (s : State) (c : Nat) : Nat := s.fld (F.LINK_STATUS_LANE c)

/-- The domain that powers chain `c`'s lanes. -/
def laneDomain (c : Nat) : Nat := 18 + c / 2

/-- R690: the binding in force. -/
def State.boundTo (s : State) (c h : Nat) : Bool := s.bit (F.LINK_PWR_BOUND_NOW c) && s.fld (F.LINK_PWR_HEAD_NOW c) == h

/-- The chains bound to head `h`. -/
def State.chainsOf (s : State) (h : Nat) : List Nat := (List.range 8).filter (fun c => s.boundTo c h)

/-- R658, R934: UNIT_STATE of a chain. -/
def State.chainCode (s : State) (c : Nat) : Nat := s.chainState c + 16 * s.lane c

/-- R934: STATE_REFUSED with the chain's state. -/
def Res.chainRefused (s : State) (c : Nat) : Res := Res.refuse s 0x03 c (s.chainCode c)

/-- The lowest number of a list of chains that `bad` picks. -/
def firstOf (l : List Nat) (bad : Nat → Bool) : Option Nat := l.find? bad

/-! ### Control blocks (R630, R638, Table 14-3) -/

/-- A control block of type `t` with its other payload bytes; bytes not given are 0. -/
def ctlBlock (t : Nat) (b : List Nat) : Block :=
  ⟨true, ((BitVec.ofNat 8 t :: b.map (BitVec.ofNat 8)) ++ List.replicate 7 0).take 8⟩

def hi8 (n : Nat) : Nat := n / 256 % 256

def enumBlock (c : Nat) : Block := ctlBlock 0xAA [0, c]
def rateBlock (code : Nat) (pre : Bool) (ret countdown : Nat) : Block :=
  ctlBlock 0xB4 [hi8 code, code % 256, (if pre then 1 else 0) + 2 * ret, hi8 countdown, countdown % 256]
def furlBlock (lane countdown : Nat) : Block := ctlBlock 0xCC [lane, hi8 countdown, countdown % 256]
def tsBlock (state lane round : Nat) : Block := ctlBlock 0x2D [state, lane, round, 0, 0xB5, 0xB5, 0xB5]
def regBlock (dest : Nat) (write : Bool) (tag reg count : Nat) : Block :=
  ctlBlock 0x99 [dest, (if write then 0x80 else 0) + tag % 128, hi8 reg, reg % 256, count]

/-- R654: data blocks carry two words each, the first in [63:32]; a word that is not there is 0. -/
def dataWords : List Word → List Block
  | a :: b :: t => ⟨false, wordBytes a ++ wordBytes b⟩ :: dataWords t
  | [a] => [⟨false, wordBytes a ++ [0, 0, 0, 0]⟩]
  | [] => []

/-- R654: a write of `ws` from station register `reg`. -/
def regWrite (dest tag reg : Nat) (ws : List Word) : List Block := regBlock dest true tag reg ws.length :: dataWords ws


/-! ### Line packets (R640 to R642) -/

/-- R641: a bit string cut into data blocks from payload bit 63; the last one is filled with zeros. -/
def bitBlocks : Nat → List Bool → List Block
  | 0, _ => []
  | n + 1, l =>
    if l.isEmpty then []
    else ⟨false, beBytes 8 (bitsValue ((l ++ List.replicate 64 false).take 64))⟩ :: bitBlocks n (l.drop 64)

/-- R641: pixels at `w` bits per component. -/
def pixelBlocks (w : Nat) (px : List Pix) : List Block :=
  let bits := px.flatMap (fun p => bitList w p.r ++ bitList w p.g ++ bitList w p.b)
  bitBlocks ((bits.length + 63) / 64) bits

/-- R640, R642: the line packet of line `y`; `row` is its gate row, 0xFFF for none. -/
def linePacket (y parity inv row : Nat) (data : List Block) : List Block :=
  let n := data.length
  let crc := crc16 (data.flatMap (·.data))
  ctlBlock 0x4B [hi8 (y % 4096), y % 256, parity * 4 + inv * 8, hi8 n, n % 256, hi8 row, row % 256] :: data ++
    [ctlBlock 0x55 [hi8 crc, crc % 256, hi8 (y % 4096), y % 256]]

/-! ### The lanes (R624 to R634) -/

/-- Table 14-6, Table 15-8, R662: the host drives the forward lanes of chain `c`; otherwise they are at electrical idle. -/
def State.laneDriven (s : State) (c : Nat) : Bool :=
  let st := s.chainState c
  (decide (1 ≤ st) && decide (st ≤ 7) && s.lane c != laneFurled) || (st == chAbsent && (s.chain c).window)

/-- R631, R632: the blocks that lane `k` carries for the latest sending step. -/
def State.laneBlocks (s : State) (c k : Nat) : List Block :=
  let l := (s.chain c).sent
  onLane k (aligned (l.length / 2046 + 1) l)

/-- R624, R690: the attempt's mode is Fine. -/
def State.fineMode (s : State) (c : Nat) : Bool := getBits (s.chain c).cfg0 31 1 == 1

def ChainState.tx (x : ChainState) (k : Nat) : LaneTx := if k = 0 then x.tx0 else x.tx1

/-- R624 to R633: the symbols that lane `k` carries for the latest sending step: Gray or precoded indices in Fine mode, code group bits in
Coarse mode; none at electrical idle. -/
def State.laneSymbols (s : State) (c k : Nat) : List Nat :=
  if s.laneDriven c then (laneOut (s.fineMode c) (s.bit (F.LINK_STATUS_PRECODE_ON c)) ((s.chain c).tx k) (s.laneBlocks c k)).1 else []

/-- A far-end loopback of chain `c` is sending its pattern (R717, R718). -/
def State.farPattern (s : State) (c : Nat) : Option DiagRun :=
  match (s.chain c).diag with
  | some d => if d.loop && d.station && s.fld (F.LINK_DIAG_STATUS_RUN_STATE c) == 1 then some d else none
  | none => none

/-- Table 14-6, R632, R717: block pair `i` of the fill between two sending steps: TS in training, pattern blocks or IDLE. -/
def State.fillPair (s : State) (c i : Nat) : List Block :=
  let st := s.chainState c
  if 1 ≤ st ∧ st ≤ 6 then [tsBlock st 0 ((s.chain c).round % 256), tsBlock st 1 ((s.chain c).round % 256)]
  else if st = chAbsent then [tsBlock chBeacon 0 0, tsBlock chBeacon 1 0]
  else match s.farPattern c with
    | some d => [patternBlock d.pattern (d.blocks + 2 * i), patternBlock d.pattern (d.blocks + 2 * i + 1)]
    | none => [idleBlock, idleBlock]

/-- The transmitter of lane `k` once the latest step's blocks and the fill behind them are out. -/
def State.txAfter (s : State) (c k : Nat) : LaneTx :=
  let n := Config.fillPairs c (s.chain c).steps
  let l := s.laneBlocks c k ++ onLane k (fillPairs n (s.fillPair c))
  if s.laneDriven c then (laneOut (s.fineMode c) (s.bit (F.LINK_STATUS_PRECODE_ON c)) ((s.chain c).tx k) l).2 else (s.chain c).tx k

/-- A sending step: the chain stream takes these blocks, behind those of the step before and the fill. -/
def State.send (s : State) (c : Nat) (b : List Block) : State :=
  let x := s.chain c
  let n := Config.fillPairs c x.steps
  s.setChain c { x with
    sent := b, steps := x.steps + 1, tx0 := s.txAfter c 0, tx1 := s.txAfter c 1
    diag := match s.farPattern c with | some d => some { d with blocks := d.blocks + 2 * n } | none => x.diag }

/-- R634: both transmitters load their scramblers; nothing sent before counts. -/
def State.loadLanes (s : State) (c : Nat) : State :=
  s.setChain c { s.chain c with sent := [], tx0 := LaneTx.load, tx1 := LaneTx.load, steps := (s.chain c).steps + 1 }

/-! ### Diagnostic runs: states (R694 to R699) -/

def runNone := 0
def runRunning := 1
def runPaused := 2
def runDone := 3
def runAborted := 4
def runLost := 5

def State.runState (s : State) (c : Nat) : Nat := s.fld (F.LINK_DIAG_STATUS_RUN_STATE c)

/-- R691: a run is RUNNING or PAUSED. -/
def State.runBusy (s : State) (c : Nat) : Bool := s.runState c == runRunning || s.runState c == runPaused

def State.setDiag (s : State) (c : Nat) (d : DiagRun) : State := s.setChain c { s.chain c with diag := some d }

/-- R697: a capture write of client 20: judged, then written, or refused with OVERRUN. A half that is off takes nothing
(R295). -/
def State.capture (s : State) (c a : Nat) (d : List Byte) : State :=
  if !s.halfOn a then s.countOff
  else if s.affords 20 (.write a d) then s.serve 20 (.write a d)
  else (s.countRefuse 20).setFld (F.LINK_DIAG_STATUS_OVERRUN c) 1

/-- R703: the records held so far go to the area, as the Plate word that ends before point `next`. -/
def State.flushRecs (s : State) (c : Nat) (d : DiagRun) (next : Nat) : State :=
  if d.recs.isEmpty then s
  else
    (s.capture c (s.fld (F.LINK_DIAG_BASE c) + 4 * (next - d.recs.length)) (d.recs.flatMap (fun w => leBytes 4 w.toNat))).setDiag
      c { d with recs := [] }

/-- R694: a run ends in state `st`; its last, partial word is written (R703). -/
def State.endRun (s : State) (c st : Nat) : State :=
  let t := match (s.chain c).diag with
    | none => s
    | some d => if d.loop then s else s.flushRecs c d (s.fld (F.LINK_DIAG_STATUS_DONE_CNT c))
  t.setFld (F.LINK_DIAG_STATUS_RUN_STATE c) st

/-- R696: a loss condition ends the chain's run. -/
def State.loseRun (s : State) (c : Nat) : State := if s.runBusy c then s.endRun c runLost else s

/-- R870: a near-end loopback is held from step 4 of a SLEEP entry until the wake. -/
def State.nearHeld (s : State) : Bool :=
  s.fld F.PWR_STATE_STATE == 2 || (s.pwr.target == some 2 && decide (1 ≤ s.pwr.step))

/-- R695: the pause conditions of chain `c`'s run: furled lanes, slack lanes for a far-end loopback, a CAL_RUN for an eye
scan; a near-end loopback pauses only as R870 says. -/
def State.runHeld (s : State) (c : Nat) (d : DiagRun) : Bool :=
  if d.loop then (if d.station then s.lane c == laneFurled || s.lane c == laneSlack else s.nearHeld)
  else s.lane c == laneFurled || s.cal.measuring.isSome

/-- R695: pause or resume the run as its conditions say; the point in progress is measured again. -/
def State.pauseRun (s : State) (c : Nat) : State :=
  match (s.chain c).diag with
  | none => s
  | some d =>
    if s.runState c == runRunning && s.runHeld c d then
      (s.setFld (F.LINK_DIAG_STATUS_RUN_STATE c) runPaused).setDiag c { d with moved := false }
    else if s.runState c == runPaused && !s.runHeld c d then
      (s.setFld (F.LINK_DIAG_STATUS_RUN_STATE c) runRunning).setDiag c { d with last := s.ticks }
    else s

/-! ### Lane power (R724 to R736) -/

/-- R724: a FURL block pair with target `t` and a countdown of 32 block pairs. -/
def State.startFurl (s : State) (c t : Nat) (head : Bool) : State :=
  (s.setChain c { s.chain c with furling := some t, byHead := head }).send c [furlBlock t 32, furlBlock t 32]

/-- R725: SLACK ends with the next block pair. -/
def State.leaveSlack (s : State) (c : Nat) : State :=
  ((s.setFld (F.LINK_STATUS_LANE c) laneUnfurled).send c [furlBlock laneUnfurled 0, furlBlock laneUnfurled 0]).pauseRun c

/-- R727: the unfurl of Table 15-9 starts; a DEFERRED unfurl no longer waits. -/
def State.startUnfurl (s : State) (c : Nat) : State :=
  (s.setChain c { s.chain c with unfurling := true }).setFld (F.LINK_PWR_PENDING c) 0

/-- R731 to R734: the next move of chain `c` towards the lane code still to be reached. From FURLED, SLACK is reached
through UNFURLED. -/
def State.towardGoal (s : State) (c : Nat) : State :=
  let x := s.chain c
  match x.goal with
  | none => s
  | some g =>
    if x.furling.isSome || x.unfurling then s
    else if s.lane c = g then s.setChain c { x with goal := none }
    else if s.lane c = laneFurled then s.startUnfurl c
    else if g = laneUnfurled then (s.leaveSlack c).setChain c { (s.leaveSlack c).chain c with goal := none }
    else s.startFurl c g false

/-- The lane code that chain `c` is to reach. -/
def State.aim (s : State) (c g : Nat) : State := (s.setChain c { s.chain c with goal := some g }).towardGoal c

/-- R731: a CHAIN_FURL that waits names chain `c`. -/
def State.furlNames (s : State) (c : Nat) : Bool :=
  match s.cw.running with
  | some ⟨_, .furl m⟩ => bitsOf m c 1 == 1
  | _ => false

/-- R731: a waiting CHAIN_FURL is answered once every named chain has reached its target. One that has left UNFURLED meanwhile reaches it
after its next training (log entry 24). -/
def State.settleFurl (s : State) : State :=
  match s.cw.running with
  | some ⟨_, .furl _⟩ =>
    if ((List.range 8).filter s.furlNames).all (fun c => s.chainState c == chUnfurled && (s.chain c).goal.isNone) then
      s.finishRunning stOk []
    else s
  | _ => s

/-- R656, R934: a waiting broadcast is answered once no chain still has its blocks to send. -/
def State.settleBroadcast (s : State) : State :=
  match s.cw.running with
  | some ⟨_, .station _ k _⟩ =>
    if 0xFE ≤ k ∧ s.chains.all (fun x => x.access.isEmpty) then s.finishRunning stOk [] else s
  | _ => s

/-- R610, R410, R735: the head furls its chain, or unfurls it. -/
def State.headFurl (s : State) (c : Nat) : State :=
  let x := s.chain c
  if s.chainState c = chUnfurled ∧ s.lane c = laneUnfurled ∧ x.furling.isNone ∧ !x.unfurling ∧ x.access.isEmpty then
    s.startFurl c laneFurled true
  else s

def State.headUnfurl (s : State) (c : Nat) : State :=
  let x := s.chain c
  if s.chainState c = chUnfurled ∧ x.byHead ∧ s.lane c = laneFurled ∧ !x.unfurling then s.startUnfurl c else s

/-! ### Return packets (R648) -/

/-- A return packet that failed its CRC at the host counts in RET_CRC and is dropped. -/
def State.badReturn (s : State) (c : Nat) : State := s.satAdd (F.LINK_ERR_RET_CRC c) 1

/-- R648: a packet arrives on chain `c`: one that fails its CRC counts; one of type `k` from a station of the chain is acted on. -/
def State.packetIn (s : State) (c k : Nat) (l : List Byte) (run : RetPacket → State) : State :=
  match returnPacket l with
  | none => s.badReturn c
  | some p => if p.type = k ∧ p.src / 16 = c then run p else s

/-! ### Training states (R658 to R664) -/

/-- LANE follows the training state. -/
def laneOf (st : Nat) : Nat := if st = chUnfurled then laneUnfurled else if 1 ≤ st ∧ st ≤ 6 then 1 else 0

/-- R658, Table 6-7: a change of training state; each raises the LINK cause. The state timer restarts (R659). A chain that
leaves UNFURLED drops its furl work, but for the target of a CHAIN_FURL that waits (log entry 24), and the blocks it had to send, and its
run is LOST (R696). -/
def State.setChainState (s : State) (c st : Nat) : State :=
  let old := s.chainState c
  let s1 := s.setChain c { s.chain c with stateAt := s.ticks }
  if old = st then s1
  else
    let s2 := ((s1.setFld (F.LINK_STATUS_STATE c) st).setFld (F.LINK_STATUS_LANE c) (laneOf st)).raise causeLink
    let s3 := if old = chUnfurled then
        ((s2.setChain c { s2.chain c with
            joined := false, furling := none, unfurling := false, byHead := false, forSlot := false, access := []
            goal := if s.furlNames c then some ((s.chain c).goal.getD (s.fld (F.LINK_PWR_REQ c))) else none }).setFld
          (F.LINK_PWR_PENDING c) 0)
      else s2
    let s4 := if old = chUnfurled ∨ (1 ≤ st ∧ st ≤ 6) then s3.loseRun c else s3
    if old = chUnfurled then s4.settleBroadcast else if st = chUnfurled then (s4.towardGoal c).settleFurl else s4

/-- RATE_NOW shows the present rate code ÷ 4. -/
def State.setRate (s : State) (c code : Nat) : State :=
  (s.setChain c { s.chain c with rate := code }).setFld (F.LINK_STATUS_RATE_NOW c) (code / 4)

/-- R690: ranges of CFG0, of CFG1, of CFG2 and of CFG4. -/
def cfg0Ok (w : Word) : Bool :=
  let r := getBits w 0 16
  (getBits w 30 1 == 0 || getBits w 31 1 == 1) &&
    (if getBits w 31 1 = 1 then decide (250 ≤ r) && decide (r ≤ 1000) else decide (125 ≤ r) && decide (r ≤ 500))

def cfg1Ok (w : Word) : Bool :=
  decide (getBits w 16 13 ≤ 4095) && decide (getBits w 0 13 ≤ 4096) && decide (getBits w 16 13 + getBits w 0 13 ≤ 4096)

def cfg2Ok (w : Word) : Bool :=
  decide (getBits w 8 5 ≤ 16) && decide (1 ≤ getBits w 0 8) && decide (getBits w 0 8 ≤ 100)

def cfg4Ok (w : Word) : Bool := decide (getBits w 16 5 ≤ 16) && decide (getBits w 8 5 ≤ 24)

/-- Register CFGk of chain `c`. -/
def cfgReg (c k : Nat) : Nat := 0x100020 + 0x1000 * c + 4 * k

/-- R660: the configuration is within the ranges of R690. -/
def State.chainCfgOk (s : State) (c : Nat) : Bool :=
  cfg0Ok (s.rd (cfgReg c 0)) && cfg1Ok (s.rd (cfgReg c 1)) && cfg2Ok (s.rd (cfgReg c 2)) && cfg4Ok (s.rd (cfgReg c 4))

/-- R660, R661: the attempt fails in state `st`; the chain waits in DARK for attempt `next`. -/
def State.failTo (s : State) (c st cause next wait : Nat) : State :=
  let s1 := ((s.setFld (F.LINK_TRAIN_FAIL_STATE c) st).setFld (F.LINK_TRAIN_FAIL_CAUSE c) cause).satAdd (F.LINK_TRAIN_FAILS c) 1
  let s2 := s1.setChainState c chDark
  s2.setChain c { s2.chain c with backoff := some (s.ticks, wait), next := next, step := none, window := false }

/-- R661: after attempts 1, 2 and 3. -/
def State.failAttempt (s : State) (c st cause : Nat) : State :=
  let n := s.fld (F.LINK_STATUS_ATTEMPT c)
  if n = 1 then s.failTo c st cause 2 10
  else if n = 2 then s.failTo c st cause 3 40
  else s.failTo c st cause 0 160

/-- R673: the start rate. -/
def startRate (cfg0 : Word) : Nat :=
  if getBits cfg0 29 1 = 1 then getBits cfg0 0 16 else if getBits cfg0 31 1 = 1 then 250 else 125

/-- R660, R673, R677, R690, R800: attempt `n` starts in state `st`: the configuration and the binding are latched, the lane
trims take their targets, the taps take their starting values. -/
def State.startAttempt (s : State) (c n st : Nat) : State :=
  let s0 := s.setFld (F.LINK_STATUS_ATTEMPT c) n
  let x := s0.chain c
  let w0 := s.rd (cfgReg c 0)
  let w4 := s.rd (cfgReg c 4)
  let fixed := getBits w4 31 1 == 1
  let s1 := s0.setChain c { x with
    cfg0 := w0, cfg1 := s.rd (cfgReg c 1), cfg4 := w4, ret := 0, step := none
    pre := if fixed then getBits w4 16 5 else 0
    post := if fixed then getBits w4 8 5 else 8
    round := 0, eqDone := false, attemptAt := s.ticks, backoff := none, window := false }
  let s2 := (s1.setFld (F.LINK_PWR_BOUND_NOW c) (s.fld (F.LINK_CFG3_BOUND c))).setFld (F.LINK_PWR_HEAD_NOW c)
    (s.fld (F.LINK_CFG3_HEAD c))
  if !s.chainCfgOk c then s2.failAttempt c chDark failConfig
  else
    let s3 := (((s2.setRate c (startRate w0)).setFld (F.LINK_STATUS_PARTIAL c) 0).setFld (F.LINK_STATUS_PRECODE_ON c) 0).setFld
      (F.LINK_STATUS_BLIND_ON c) (getBits w0 29 1)
    let s4 := (s3.loadTrims (laneTrims c)).setChainState c st
    (if st = chBeacon then s4.loadLanes c else s4).send c [tsBlock st 0 0, tsBlock st 1 0]

/-- R663, R734: the chain goes to DARK at once and starts attempt 1; a chain whose lane domain is off stays DARK. -/
def State.trainChain (s : State) (c : Nat) : State :=
  let s1 := (s.setChainState c chDark).setFld (F.LINK_PWR_REQ c) laneUnfurled
  let s2 := s1.setChain c { s1.chain c with backoff := none, step := none, window := false }
  if s2.pdOn (laneDomain c) then s2.startAttempt c 1 chBeacon else s2

/-- R689, R696: the chain is put to DARK and stays there: its lane domain is off, or it is unbound. -/
def State.darken (s : State) (c : Nat) : State :=
  let s1 := (s.setChainState c chDark).loseRun c
  s1.setChain c { s1.chain c with backoff := none, step := none, window := false }

/-- R684: return-lane loss on a running chain counts as a failed attempt; attempt 1 follows after 10 ms. -/
def State.loseReturn (s : State) (c : Nat) : State := s.failTo c chUnfurled failReturn 1 10

/-- R662: the beacon interval in ms. -/
def State.beaconMs (s : State) (c : Nat) : Nat := if s.standAlone then 500 else 50 * s.fld (F.LINK_CFG2_BEACON c)

/-- R661, R662: attempt 3 has failed and its wait is over: the chain is ABSENT and its first window opens at once, unless a
near-end loopback runs (R713). -/
def State.becomeAbsent (s : State) (c : Nat) : State :=
  let s1 := s.setChainState c chAbsent
  let s2 := s1.setChain c { s1.chain c with backoff := none, window := !s.runBusy c, windowAt := s.ticks, beacon := s.beaconMs c }
  if s.runBusy c then s2 else (s2.loadLanes c).send c [tsBlock chBeacon 0 0, tsBlock chBeacon 1 0]

/-! ### Enumeration, rate steps, UNFURLED (R669 to R680) -/

/-- R672: the shares of the SRC stations from column `x` on, `left` columns to go: per station SLICE_OFF and count; and
what is left. -/
def shares : List Station → Nat → Nat → List (Nat × Nat) × Nat
  | [], _, left => ([], left)
  | t :: l, off, left =>
    if t.cls = 1 then
      let n := min (getBits t.caps2 0 13) left
      let (r, z) := shares l (off + n) (left - n)
      ((off, n) :: r, z)
    else
      let (r, z) := shares l off left
      ((0, 0) :: r, z)

/-- R672: the blocks that write SLICE and SLICE_OFF of the SRC stations. -/
def sliceBlocks (c first : Nat) (k : Nat) : List Station → List (Nat × Nat) → List Block
  | t :: l, (off, n) :: r =>
    (if t.cls = 1 then
      regWrite (16 * c + k) 1 0x0010 [BitVec.ofNat 32 ((first + off) % 8192 * 65536 + n), BitVec.ofNat 32 off] else []) ++
      sliceBlocks c first (k + 1) l r
  | _, _ => []

/-- R670 to R672: COUNT is over: stations, their columns, MISMATCH, SHORT. -/
def State.enumerated (s : State) (c : Nat) : State :=
  let x := s.chain c
  let k := x.stations.length
  let first := getBits x.cfg1 16 13
  let (sh, left) := shares x.stations 0 (getBits x.cfg1 0 13)
  let exp := s.fld (F.LINK_CFG2_EXPECTED c)
  let s1 := ((s.setFld (F.LINK_STATUS_STATIONS c) k).setFld (F.LINK_STATUS_LAST_POS c) (k - 1)).setBit (F.LINK_STATUS_MISMATCH c)
    (exp != 0 && exp != k)
  let s2 := s1.setBit (F.LINK_STATUS_SHORT c) (left != 0)
  let s3 := s2.each (List.range 16) (fun s i =>
    match x.stations[i]? with
    | some t => (((s.setFld (F.LINK_STA_CLASS c i) t.cls).setFld (F.LINK_STA_PRESENT c i) 1).setFld (F.LINK_STA_COL_OFF c i)
        (sh.getD i (0, 0)).1).setFld (F.LINK_STA_COL_N c i) (sh.getD i (0, 0)).2
    | none => s.wr (0x100100 + 0x1000 * c + 4 * i) 0)
  s3.send c (sliceBlocks c first 0 x.stations sh)

/-- The chain is UNFURLED; T_TRAIN holds the attempt's duration in 0.1 ms, free below the tick (log entry 25). -/
def State.trained (s : State) (c : Nat) : State :=
  let (v, s1) := s.draw
  let d := 10 * (s.ticks - (s.chain c).attemptAt) + v % 10
  (s1.setFld (F.LINK_TRAIN_T_TRAIN c) (min 65535 d)).setChainState c chUnfurled

/-- R675: the highest return rate that does not exceed half the forward lane data rate. -/
def returnRate (cfg0 : Word) : Nat :=
  let mbps := getBits cfg0 0 16 * 10 * (if getBits cfg0 31 1 = 1 then 2 else 1)
  if 5000 ≤ mbps then 2 else if 2500 ≤ mbps then 1 else 0

/-- R674, R675: the next RATE block and its countdown. -/
def State.rateStep (s : State) (c : Nat) : State :=
  let x := s.chain c
  let target := getBits x.cfg0 0 16
  let r := min (2 * x.rate) target
  let final := r == target
  let pre := final && getBits x.cfg0 30 1 == 1 && x.stations.all (fun t => getBits t.caps 30 1 == 1)
  let ret := if final then returnRate x.cfg0 else x.ret
  (s.setChain c { x with step := some (r, pre, ret), stateAt := s.ticks }).send c [rateBlock r pre ret 16, rateBlock r pre ret 16]

/-- R626, R634, R674: the countdown has ended: the chain switches, its transmitters load and TS follow. -/
def State.rateSwitch (s : State) (c : Nat) : State :=
  match (s.chain c).step with
  | none => s
  | some (r, pre, ret) =>
    let s1 := (s.setRate c r).setBit (F.LINK_STATUS_PRECODE_ON c) pre
    ((s1.setChain c { s1.chain c with step := none, ret := ret }).loadLanes c).send c [tsBlock chRate 0 0, tsBlock chRate 1 0]

/-- R659, R678: a new EQ round. -/
def State.eqRound (s : State) (c : Nat) : State :=
  let x := s.chain c
  let s1 := s.setChain c { x with round := x.round + 1, stateAt := s.ticks }
  s1.send c [tsBlock chEq 0 ((x.round + 1) % 256), tsBlock chEq 1 ((x.round + 1) % 256)]

/-- R652: READY of station 0 in the present state: what the host does. `allDone`: every hop shows DONE. -/
def State.ready (s : State) (c : Nat) (allDone : Bool) : State :=
  let x := s.chain c
  let st := s.chainState c
  if st = chLock then s.setChainState c chOrient
  else if st = chOrient then
    let s1 := s.setChainState c chCount
    (s1.setChain c { s1.chain c with stations := [] }).send c [enumBlock c, enumBlock c]
  else if st = chRate then
    if x.step.isSome then s
    else if x.rate = getBits x.cfg0 0 16 then (s.setChainState c chEq).eqRound c
    else s.rateStep c
  else if st = chEq then
    if allDone && (x.eqDone || 32 ≤ x.round) then s.trained c else s.eqRound c
  else s

/-- R678, R679: a request of position 0 moves one tap by one step, within its range. -/
def State.eqRequest (s : State) (c tap action : Nat) (done : Bool) : State :=
  let x := s.chain c
  let mv := fun (v hi : Nat) => if action = 1 then min hi (v + 1) else if action = 2 then v - 1 else v
  s.setChain c { x with
    pre := if tap = 0 then mv x.pre 16 else x.pre
    post := if tap = 1 then mv x.post 24 else x.post
    eqDone := done }

/-- R681, R696: positions from `k` on are lost. -/
def State.loseStations (s : State) (c k : Nat) : State :=
  let s1 := ((s.setFld (F.LINK_STATUS_PARTIAL c) 1).setFld (F.LINK_STATUS_STATIONS c) k).setFld (F.LINK_STATUS_LAST_POS c) (k - 1)
  let s2 := s1.each ((List.range 16).filter (fun i => decide (k ≤ i))) (fun s i => s.setFld (F.LINK_STA_PRESENT c i) 0)
  match (s2.chain c).diag with
  | some d => if d.station && decide (k ≤ d.pos) then s2.loseRun c else s2
  | none => s2

/-- R640, R685: chain `c` carries line packets. -/
def State.carries (s : State) (c : Nat) : Bool :=
  s.chainState c == chUnfurled && s.lane c == laneUnfurled && (s.chain c).joined && !(s.chain c).furling.isSome

/-- R672, R682: the columns of chain `c` that its stations drive. -/
def State.drives (s : State) (c x : Nat) : Bool :=
  s.chainState c == chUnfurled && (List.range 16).any (fun i =>
    s.bit (F.LINK_STA_PRESENT c i) && s.fld (F.LINK_STA_CLASS c i) == 1 &&
      (let a := getBits (s.chain c).cfg1 16 13 + s.fld (F.LINK_STA_COL_OFF c i)
       decide (a ≤ x) && decide (x < a + s.fld (F.LINK_STA_COL_N c i))))

/-- R610: HEAD_STATUS.FURLED: the head holds a chain of its own furled. -/
def State.showFurled (s : State) : State :=
  s.each [0, 1, 2, 3] (fun s h =>
    s.setBit (F.HEAD_STATUS_FURLED h) ((s.chainsOf h).any (fun c => (s.chain c).byHead && s.lane c == laneFurled)))

end Sys2Proof.Machine
end

