-- ==== Sys2Proof/Machine/Profiles.lean ====
section
/-! DEFINITION. Panel profile entries (R565 to R570, R687, R688): fields, empty defaults, structural ranges, the ROM profiles,
the PROFILES record. -/

namespace Sys2Proof.Machine

/-- Bits `[lo + w - 1 : lo]` of word `k` of an entry. -/
def ent (e : List Word) (k lo w : Nat) : Nat := getBits (e.getD k 0) lo w

/-- R567: a field that holds 0 takes its empty default. -/
def orElse (v d : Nat) : Nat := if v = 0 then d else v

def entHact (e : List Word) : Nat := ent e 0 16 13
def entVact (e : List Word) : Nat := ent e 0 0 12
def entHtotal (e : List Word) : Nat := ent e 1 16 13
def entVtotal (e : List Word) : Nat := ent e 1 0 13
def entRate (e : List Word) : Nat := ent e 2 0 16
def entRateMin (e : List Word) : Nat := orElse (ent e 2 16 16) (entRate e)
def entHbp (e : List Word) : Nat := orElse (ent e 4 0 13) 16
def entGateOn (e : List Word) : Nat := if e.getD 5 0 = 0 then entHbp e else ent e 5 16 13
def entGateWidth (e : List Word) : Nat := orElse (ent e 5 0 13) (entHact e)
def entGateGap (e : List Word) : Nat := if e.getD 6 0 = 0 then 8 else ent e 6 16 12
def entHoldMax (e : List Word) : Nat := orElse (ent e 6 0 8) 10
def entPeak (e : List Word) : Nat := orElse (ent e 7 0 16) 1000
def entPwmFreq (e : List Word) : Nat := orElse (ent e 9 16 16) 20000
def entChainMap (e : List Word) : Nat := ent e 16 24 8
def entBeacon (e : List Word) : Nat := orElse (ent e 27 0 8) 10

/-- Chain `n` is named. -/
def entNames (e : List Word) (n : Nat) : Bool := bitsOf (entChainMap e) n 1 == 1

/-- R570, R566: pixels per 10 seconds. -/
def entPixels (e : List Word) : Nat := entHtotal e * entVtotal e * entRate e

/-- The bits of word `k` that carry a field (Tables 13-2 and 14-8). -/
def entMask (k : Nat) : Word :=
  if k = 0 then 0x1FFF0FFF else if k = 1 then 0x1FFF1FFF else if k = 2 then 0xFFFFFFFF else if k = 3 then 0xFF3F3FFF
  else if k = 4 then 0x00001FFF else if k = 5 then 0x9FFF1FFF else if k = 6 then 0x0FFF00FF else if k = 7 then 0x0000FFFF
  else if k = 8 then 0xFF0007FF else if k = 9 then 0xFFFF07FF else if k = 10 then 0x0FFF0FFF else if k = 11 then 0xBB000000
  else if k = 16 then 0xFFE0FFFF else if 17 ≤ k ∧ k ≤ 24 then 0x1FFF1FFF else if k = 25 ∨ k = 26 then 0xFFFFFFFF
  else if k = 27 then 0x801F1FFF else 0

/-- The spans of chains `m` and `n` share a column. -/
def spansMeet (e : List Word) (m n : Nat) : Bool :=
  decide (ent e (17 + m) 16 13 < ent e (17 + n) 16 13 + ent e (17 + n) 0 13) &&
    decide (ent e (17 + n) 16 13 < ent e (17 + m) 16 13 + ent e (17 + m) 0 13)

/-- R566, R687: word `k` of a non-empty entry breaks a range; a relation is charged to the highest word that takes part. -/
def entWordBad (e : List Word) (k : Nat) : Bool :=
  (e.getD k 0 &&& ~~~ entMask k) != 0 ||
  (if k = 0 then
    decide (entHact e < 2) || decide (4096 < entHact e) || entHact e % 2 == 1 || decide (entVact e < 1) || decide (2400 < entVact e)
  else if k = 1 then
    decide (entHtotal e < entHact e + 32) || decide (8190 < entHtotal e) || entHtotal e % 2 == 1 ||
      decide (entVtotal e < entVact e + 2) || decide (4095 < entVtotal e)
  else if k = 2 then
    decide (entRate e < 10) || decide (2400 < entRate e) || decide (entRateMin e < 10) || decide (entRate e < entRateMin e) ||
      decide (6000000000 < entPixels e)
  else if k = 3 then ent e 3 0 2 == 3
  else if k = 4 then decide (entHbp e < 8) || decide (entHtotal e < entHact e + 8 + entHbp e)
  else if k = 5 then
    decide (entHtotal e ≤ entGateOn e) || decide (entGateWidth e < 1) || decide (entHtotal e < entGateOn e + entGateWidth e)
  else if k = 6 then decide (entHtotal e < entGateGap e + entGateWidth e) || decide (60 < entHoldMax e)
  else if k = 7 then decide (10000 < entPeak e)
  else if k = 8 then decide (1024 < ent e 8 0 11)
  else if k = 9 then decide (entPwmFreq e < 100) || decide (50000 < entPwmFreq e) || decide (1024 < ent e 9 0 11)
  else if k = 10 then decide (2399 < ent e 10 0 12)
  else if k = 11 then ent e 11 28 2 == 3
  else if k = 16 then entChainMap e == 0 || !cfg0Ok (BitVec.ofNat 32 (ent e 16 21 3 * 2 ^ 29 + ent e 16 0 16))
  else if 17 ≤ k ∧ k ≤ 24 then
    let n := k - 17
    if entNames e n then
      decide (ent e k 0 13 < 1) || decide (4096 < ent e k 0 13) || decide (entHact e < ent e k 16 13 + ent e k 0 13) ||
        (List.range n).any (fun m => entNames e m && spansMeet e m n)
    else e.getD k 0 != 0
  else if k = 25 ∨ k = 26 then (List.range 4).any (fun m => decide (16 < ent e k (8 * m) 8))
  else if k = 27 then decide (16 < ent e 27 16 5) || decide (24 < ent e 27 8 5) || decide (100 < ent e 27 0 8)
  else false)

/-- R566: the words of an entry that keep it from being applied; an empty entry is charged to word 0. -/
def entFaults (e : List Word) : List Nat :=
  if e.getD 0 0 = 0 then [0] else (List.range 32).filter (entWordBad e)

def entOk (e : List Word) : Bool := e.length == 32 && (entFaults e).isEmpty

/-- R687, R689: configuration words CFG0 to CFG4 that an entry gives chain `n` of head `h`. -/
def entCfg (e : List Word) (h n : Nat) : List Word :=
  [BitVec.ofNat 32 (ent e 16 21 3 * 2 ^ 29 + ent e 16 0 16), e.getD (17 + n) 0,
    BitVec.ofNat 32 (ent e (25 + n / 4) (8 * (n % 4)) 8 * 256 + entBeacon e), BitVec.ofNat 32 (0x80 + h),
    BitVec.ofNat 32 (ent e 27 31 1 * 2 ^ 31 + ent e 27 16 5 * 65536 + ent e 27 8 5 * 256)]

/-- Table 2-2, R568, R688, R76, R91: a ROM profile; its PRE and POST are those of R677's start (log entry 27). -/
def romEntry (ha va ht vt bits : Nat) (map fine blind rate : Nat) : List Word :=
  let n := if map = 3 then 2 else 1
  let span := fun i => if i < n then i * (ha / n) * 65536 + ha / n else 0
  [ha * 65536 + va, ht * 65536 + vt, 600, bits, 0, 0, 0, 0, 0, 20000 * 65536 + 512, 8 * 65536 + 8,
    0x10000000 + 0x03000000, 0, 0, 0, 0, map * 2 ^ 24 + fine * 2 ^ 23 + blind * 2 ^ 21 + rate,
    span 0, span 1, 0, 0, 0, 0, 0, 0, 0, 0, 8 * 256 + 10, 0, 0, 0, 0].map (BitVec.ofNat 32)

def romProfile (n : Nat) : List Word :=
  if n = 1 then romEntry 1920 720 2080 750 2 3 1 0 600
  else if n = 2 then romEntry 1280 320 1440 340 1 1 0 0 250
  else if n = 3 then romEntry 800 480 1000 500 0 1 0 1 125
  else romEntry 1280 480 1440 500 1 1 0 0 250

/-- R565: the PROFILES record, none when it is missing or of another length. -/
def State.profilesRecord (s : State) : Option (List Byte) × State :=
  match s.record 0x2000 with
  | (some p, t) => (if p.length = 1024 then some p else none, t)
  | (none, t) => (none, t)

/-- R565: entry `n` of the record's payload. -/
def recordEntry (p : List Byte) (n : Nat) : List Word :=
  (List.range 32).map (fun k => BitVec.ofNat 32 (leNat ((p.drop (128 * n + 4 * k)).take 4)))

/-- The entry applied to head `h`. -/
def State.entry (s : State) (h : Nat) : List Word := (List.range 32).map (fun k => s.rd (0x80200 + 0x10000 * h + 4 * k))

/-- R561: a profile has been applied to the head since power-on reset. -/
def State.profiled (s : State) (h : Nat) : Bool := s.rd (0x80200 + 0x10000 * h) != 0

/-- Panel width (Table 13-2, BITS). -/
def State.panelBits (s : State) (h : Nat) : Nat := [6, 8, 10].getD (s.prof h 3 0 2) 10

/-- R570: line periods per second, times 10. -/
def State.lineRate (s : State) (h : Nat) : Nat := entVtotal (s.entry h) * entRate (s.entry h)

/-- `n` line periods of head `h` last at least `us` µs. -/
def State.linesLast (s : State) (h n us : Nat) : Bool := decide (us * s.lineRate h ≤ n * 10000000)

/-- ceil(60 µs / line period) (R410, R610). -/
def State.unfurlLines (s : State) (h : Nat) : Nat := (60 * s.lineRate h + 9999999) / 10000000

/-- R569: the entry that head `h` runs with once an entry that waits for its stop is applied. -/
def State.comingEntry (s : State) (h : Nat) : List Word := (s.head h).entry.getD (s.entry h)

/-- R564: the pixel rates of the heads that are not STOPPED, with head `h` running entry `e`, times 10; a head that an entry waits for
counts with the higher of its two rates. -/
def State.pixelSum (s : State) (h : Nat) (e : List Word) : Nat :=
  ((List.range 4).map (fun g =>
    if g = h then entPixels e
    else if s.headState g = 0 then 0 else max (entPixels (s.entry g)) (entPixels (s.comingEntry g)))).sum

/-! ### Gate drive (R571, R572) -/

/-- R571: the events of a DISPLAY line, in pixel clocks after the line start: the first active pixel leaves the link packer, the row's gate
opens and closes, the next row's gate may open. -/
structure LineTiming where
  firstPixel : Nat
  gateOpen : Nat
  gateClose : Nat
  nextGate : Nat
  deriving DecidableEq, Repr

/-- R571, R572: every gate is held closed in lines that are no DISPLAY lines. -/
def lineTiming (e : List Word) (display : Bool) : Option LineTiming :=
  if display then
    some ⟨entHbp e, entGateOn e, entGateOn e + entGateWidth e, entGateOn e + entGateWidth e + entGateGap e⟩
  else none

end Sys2Proof.Machine
end

