-- ==== Sys2Proof/Machine/Heads.lean ====
section
/-! DEFINITION. Heads (R559 to R611, R400 to R412): panel compensation, history planes, tables, the timetable, frame starts and
ends, start, stop and profile application. The rows are in Frames.lean and HeadCommands.lean. -/

namespace Sys2Proof.Machine

/-! ### Table RAM and Hatch (R577 to R580, R600) -/

/-- Table RAM of head `h`: `n` bytes from offset `a`, little-endian. -/
def State.tabNat (s : State) (h a n : Nat) : Nat := leNat (s.tileBytes 6 (h * 0x8000 + a) n)

/-- R579: zone word: (gain, offset) of knee `k`, component `c`, zone row `j`, column `i`. -/
def State.zone (s : State) (h k c j i : Nat) : Int × Int :=
  let w := s.tabNat h (16 + 4 * ((3 * k + c) * 64 + 8 * j + i)) 4
  (signedOf 12 (bitsOf w 16 12), signedOf 12 (bitsOf w 0 12))

/-- R578: position of pixel `x` among zones of size `z`, in units of 1/(2z): clamped to 0 to 7. -/
def zonePos (x z : Nat) : Nat := (clampInt 0 (14 * z) (2 * (x : Int) + 1 - z)).toNat

/-- R578: gain and offset of knee `k` at a pixel, times 4 × ZW × ZH. -/
def State.zoneAt (s : State) (h k c zw zh x y : Nat) : Int × Int :=
  let u := zonePos x zw
  let t := zonePos y zh
  let i0 := u / (2 * zw)
  let j0 := t / (2 * zh)
  let a : Int := (u % (2 * zw) : Nat)
  let b : Int := (t % (2 * zh) : Nat)
  let a' : Int := (2 * zw : Nat) - a
  let b' : Int := (2 * zh : Nat) - b
  let z00 := s.zone h k c j0 i0
  let z01 := s.zone h k c j0 (min (i0 + 1) 7)
  let z10 := s.zone h k c (min (j0 + 1) 7) i0
  let z11 := s.zone h k c (min (j0 + 1) 7) (min (i0 + 1) 7)
  (a' * b' * z00.1 + a * b' * z01.1 + a' * b * z10.1 + a * b * z11.1,
    a' * b' * z00.2 + a * b' * z01.2 + a' * b * z10.2 + a * b * z11.2)

/-- R578: Hatch for component `c`, before the tolerance: numerator and denominator of the real result. -/
def State.hatchReal (s : State) (h c zw zh x y v : Nat) : Int × Nat :=
  let k0 := bitsOf (s.tabNat h 4 4) 0 12
  let k1 := bitsOf (s.tabNat h 4 4) 16 12
  let k2 := bitsOf (s.tabNat h 8 4) 0 12
  let d := 4 * zw * zh
  let (g, o, m) : Int × Int × Nat :=
    if v ≤ k0 then let z := s.zoneAt h 0 c zw zh x y; (z.1, z.2, 1)
    else if k2 ≤ v then let z := s.zoneAt h 2 c zw zh x y; (z.1, z.2, 1)
    else
      let (lo, hi, kl, kh) := if v ≤ k1 then (0, 1, k0, k1) else (1, 2, k1, k2)
      let zl := s.zoneAt h lo c zw zh x y
      let zh' := s.zoneAt h hi c zw zh x y
      let n := kh - kl
      let f : Int := (v - kl : Nat)
      (zl.1 * n + (zh'.1 - zl.1) * f, zl.2 * n + (zh'.2 - zl.2) * f, n)
  let col := s.tabNat h (2320 + 2 * x) 2
  let cg := signedOf 8 (bitsOf col 8 8)
  let co := signedOf 8 (bitsOf col 0 8)
  let dm : Int := (d * m : Nat)
  ((v : Int) * 4096 * dm + v * (g + cg * dm) + 4096 * (o + co * dm), 4096 * d * m)

/-- R578: one component through Hatch, within ±1 of the real result (log entry 19). -/
def State.hatch1 (s : State) (h c zw zh x y v : Nat) : Nat :=
  let (n, d) := s.hatchReal h c zw zh x y v
  (clampInt 0 4095 (rdivInt n d - 1 + Config.hatchError v x y % 3)).toNat

/-- R578, R580: row `y` through Hatch; bypassed while no usable table is loaded. -/
def State.hatchRow (s : State) (h y : Nat) (row : List Pix) : List Pix :=
  let zw := (entHact (s.entry h) + 7) / 8
  let zh := (entVact (s.entry h) + 7) / 8
  row.mapIdx (fun x p => ⟨s.hatch1 h 0 zw zh x y p.r, s.hatch1 h 1 zw zh x y p.g, s.hatch1 h 2 zw zh x y p.b⟩)

/-- R579, R580: a Hatch payload is usable for head `h`. -/
def State.hatchUsable (s : State) (h : Nat) (p : List Byte) : Bool :=
  let w := fun a => leNat ((p.drop a).take 4)
  let ha := entHact (s.entry h)
  p.length == (2320 + 2 * ha + 3) / 4 * 4 && bitsOf (w 0) 16 13 == ha && bitsOf (w 0) 0 12 == entVact (s.entry h) &&
    w 0 / 2 ^ 29 == 0 && bitsOf (w 0) 12 4 == 0 && decide (bitsOf (w 4) 0 12 < bitsOf (w 4) 16 12) &&
    decide (bitsOf (w 4) 16 12 < w 8) && decide (w 8 < 4096) && bitsOf (w 4) 12 4 == 0 && w 4 / 2 ^ 28 == 0 && w 12 == 0 &&
    (List.range 576).all (fun i => bitsOf (w (16 + 4 * i)) 12 4 == 0 && w (16 + 4 * i) / 2 ^ 28 == 0)

/-! ### Overdrive (R581 to R595) -/

/-- R581: q(T). -/
def quant (t : Nat) : Nat := (15 * t + 2047) / 4095

/-- R581: bytes per line of a history plane. -/
def histPitch (ha : Nat) : Nat := (ha * 12 + 255) / 256 * 32

/-- R28, R583: the base of plane `i` as latched at the head's frame start. -/
def State.histBase (s : State) (h i : Nat) : Nat := if i = 0 then (s.head h).fr.hist.1 else (s.head h).fr.hist.2

/-- R582: plane `i` lies wholly inside the Plate outside RSV, on a multiple of 256. -/
def State.planeOk (s : State) (h i : Nat) : Bool :=
  let b := s.histBase h i
  b % 256 == 0 && decide (b + histPitch (entHact (s.entry h)) * entVact (s.entry h) ≤ 0x1F80000)

/-- R585: a usable overdrive payload of set `k`. -/
def odUsable (k : Nat) (p : List Byte) : Bool :=
  p.length == 6540 && leNat (p.take 4) == 0x10000 + k &&
    (List.range 3267).all (fun i => decide ((p.getD (4 + 2 * i + 1) 0).toNat < 16)) && (p.drop 6538) == [0, 0]

/-- The overdrive buffer that holds set `k`. -/
def OdState.bufOf (o : OdState) (k : Nat) : Option Nat := [0, 1, 2].find? (fun b => o.bufs.toList.getD b none == some k)

/-- R600: Table RAM offset of overdrive buffer `b`. -/
def odOffset (b : Nat) : Nat := 0x2A00 + 0x1A00 * b

/-- R585: entry E_c(p, t) of the set in buffer `b`. -/
def State.odEntry (s : State) (h b c p t : Nat) : Nat :=
  bitsOf (s.tabNat h (odOffset b + 4 + 2 * (c * 1089 + 33 * p + t)) 2) 0 12

/-- R586. -/
def State.odSet (s : State) (h b c hl t : Nat) : Nat :=
  let p0 := hl / 128
  let fp := hl % 128
  let p1 := min (p0 + 1) 32
  let t0 := t / 128
  let ft := t % 128
  let t1 := min (t0 + 1) 32
  (s.odEntry h b c p0 t0 * (128 - fp) * (128 - ft) + s.odEntry h b c p1 t0 * fp * (128 - ft) +
    s.odEntry h b c p0 t1 * (128 - fp) * ft + s.odEntry h b c p1 t1 * fp * ft + 8192) / 16384

/-- R587, R589: OD(H, T) with the sets and w in force; T when no set is usable. -/
def State.odValue (s : State) (h c hl t : Nat) : Nat :=
  let o := (s.head h).od
  match o.sets with
  | none => t
  | some (a, b) =>
    let v := fun k => match o.bufOf k with
      | some x => s.odSet h x c hl t
      | none => t
    let lo : Int := v a
    let hi : Int := v b
    (clampInt 0 4095 (lo + ((hi - lo) * o.w + 128) / 256)).toNat

/-- R592: the cold drive of a second frame. -/
def coldDrive (od t k2 : Nat) : Nat := (clampInt 0 4095 ((t : Int) + (((od : Int) - t) * k2 + 128) / 256)).toNat

/-- What a history read gives for a pixel: none where it is refused or where there is no history. -/
structure Hist where
  h1 : Option Nat
  h2 : Option Nat

/-- R590 to R594: one component's drive from its stored nibbles. -/
def State.drive1 (s : State) (h c k2 t : Nat) (h1 h2 : Option Nat) : Nat :=
  match h1 with
  | none => t
  | some v =>
    if quant t ≠ v then s.odValue h c (273 * v) t
    else match h2 with
      | none => t
      | some u => if v ≠ u then coldDrive (s.odValue h c (273 * u) t) t k2 else t

/-- R594, R595: the history read of Plate offset `a` is refused; `age` is 1 for H1 and 2 for H2. -/
def State.histRefused (s : State) (h a age : Nat) : Bool :=
  s.refusedAt 6 a || ((s.head h).od.words.toList.getD age []).contains (plateWordOf a)

/-- R581: the 12 stored bits of pixel `x` in the line that starts at `a`. -/
def State.histBits (s : State) (a x : Nat) : Nat :=
  bitsOf (leNat (s.plateBytes (a + 12 * x / 8) 2)) (12 * x % 8) 12

/-- R590 to R594: the stored value of pixel `x`, row `y`, in plane `i`; none where it may not be used. -/
def State.histPixel (s : State) (h i age x y : Nat) : Option Nat :=
  let o := (s.head h).od
  let a := s.histBase h i + histPitch (entHact (s.entry h)) * y
  let b := a + 12 * x / 8
  if !o.valid.toList.getD i false || o.lost.toList.getD i false || o.skip.toList.getD age false ||
      s.histRefused h b age || s.histRefused h (b + 1) age then none
  else some (s.histBits a x)

/-- R584, R592: overdrive is on in the present frame of head `h`. -/
def State.odOn (s : State) (h : Nat) : Bool := getBits (s.head h).fr.ctrl 30 1 == 1 && !s.standAlone

/-- R591: cold mode is in force. -/
def State.coldOn (s : State) (h : Nat) : Bool := s.bit (F.HEAD_STATUS_COLD h)

/-- The plane that the present frame writes. -/
def State.writePlane (s : State) (h : Nat) : Nat :=
  let p := (s.head h).od.plane
  if s.coldOn h then 1 - p else p

/-- R584 to R594: row `y` through overdrive. -/
def State.odRow (s : State) (h y : Nat) (row : List Pix) : List Pix :=
  if !s.odOn h then row
  else
    let o := (s.head h).od
    let k2 := getBits (s.head h).fr.ctrl 0 8
    row.mapIdx (fun x p =>
      let h1 := s.histPixel h o.plane 1 x y
      let h2 := if s.coldOn h && decide (1 < o.cold) then s.histPixel h (1 - o.plane) 2 x y else none
      ⟨s.drive1 h 0 k2 p.r (h1.map (bitsOf · 8 4)) (h2.map (bitsOf · 8 4)),
        s.drive1 h 1 k2 p.g (h1.map (bitsOf · 4 4)) (h2.map (bitsOf · 4 4)),
        s.drive1 h 2 k2 p.b (h1.map (bitsOf · 0 4)) (h2.map (bitsOf · 0 4))⟩)

/-- R581: the bytes of a history line. -/
def histBytes (row : List Pix) : List Byte :=
  let v := row.foldr (fun p n => n * 4096 + quant p.r * 256 + quant p.g * 16 + quant p.b) 0
  leBytes ((row.length * 12 + 7) / 8) v

/-- R584: row `y` is written into the plane of the present frame. -/
def State.histWrite (s : State) (h y : Nat) (row : List Pix) : State :=
  let i := s.writePlane h
  if s.odOn h && s.planeOk h i then
    let w := lineWords (s.histBase h i + histPitch (entHact (s.entry h)) * y) (histBytes row)
    { s with histBuf := s.histBuf ++ w.map (fun b => (h, b)) }
  else s

/-- R587, R588: Tp in 0.125 °C, and NTC_FAULT. -/
def State.panelTemp (s : State) (h : Nat) : Int × Bool :=
  let n := 1 + s.prof h 3 8 2
  let t := s.scaledOf n
  if s.bit (F.SENSE_CH_FLAGS_OVR n) || t < -400 || 1040 < t then (s.td, true) else (t, false)

/-- R589: set `k` of head `h` has a usable record. -/
def State.odSetOk (s : State) (h k : Nat) : Bool :=
  match (s.record (0x3000 + 8 * h + k)).1 with
  | some p => odUsable k p
  | none => false

/-- R587, R589, R601, R603: the bracket of a frame start. -/
def State.odBracket (s : State) (h : Nat) : State :=
  let (tp, nf) := s.panelTemp h
  let (lo, hi, w) := bracket tp
  let x := s.head h
  let s1 := (s.setFld (F.HEAD_OD_TEMP h) (codeOf 12 tp)).setBit (F.HEAD_OD_NTC_FAULT h) nf
  match nearestSet (s.odSetOk h) lo, nearestSet (s.odSetOk h) hi with
  | some a, some b =>
    let have' := fun k => (x.od.bufOf k).isSome
    let o := if have' a && have' b then { x.od with sets := some (a, b), w := w }
      else
        let due := [a, b].filter (fun k => !have' k && !x.od.due.contains k)
        match x.od.sets with
        | some (c, d) => { x.od with
            w := if (tp - setTemp d).natAbs ≤ (tp - setTemp c).natAbs then 256 else 0, due := x.od.due ++ due }
        | none => { x.od with due := x.od.due ++ due }
    let s2 := s1.setHead h { x with od := o }
    ((s2.setBit (F.HEAD_OD_OD_MISSING h) (a != lo || b != hi)).setFld (F.HEAD_OD_SET_LO h) ((o.sets.getD (lo, hi)).1)).setFld
      (F.HEAD_OD_W h) (min 255 o.w)
  | _, _ => (s1.setHead h { x with od := { x.od with sets := none } }).setFld (F.HEAD_OD_OD_MISSING h) 1

/-- R582, R583: the planes are judged at a frame start with the latched CTRL word in force; R595: the lists of refused words
age by a frame. -/
def State.odJudge (s : State) (h : Nat) : State :=
  let x := s.head h
  let o := x.od
  let on := s.odOn h
  let valid := Vector.ofFn (fun (i : Fin 2) =>
    o.valid[i] && !o.lost[i] && on && o.was && o.base[i] == s.histBase h i.val && s.planeOk h i.val)
  s.setHead h { x with od := { o with
    valid := valid
    lost := Vector.replicate 2 false
    base := Vector.ofFn (fun (i : Fin 2) => s.histBase h i.val)
    was := on
    words := #v[[], o.words[0], o.words[1]]
    skip := #v[false, o.skip[0], o.skip[1]] } }

/-- R590, R591: cold mode at a frame start. -/
def State.odCold (s : State) (h : Nat) : State :=
  let x := s.head h
  let tp := (s.panelTemp h).1
  let en := getBits x.fr.ctrl 27 1 == 1
  let cold := if s.coldOn h then en && tp < -64 else en && tp < -80 && s.planeOk h 1
  (s.setHead h { x with od := { x.od with cold := if cold then x.od.cold + 1 else 0 } }).setBit (F.HEAD_STATUS_COLD h) cold

/-- The overdrive latches of a frame start. -/
def State.odFrame (s : State) (h : Nat) : State :=
  if s.standAlone then s
  else
    let s1 := ((s.odJudge h).odCold h).odBracket h
    s1.setBit (F.HEAD_STATUS_HIST_VALID h) ((s1.head h).od.valid.toList.getD (s1.head h).od.plane false && s1.odOn h)

/-- R583, R591: the frame has written its plane. -/
def State.odFrameEnd (s : State) (h : Nat) : State :=
  let i := s.writePlane h
  if s.odOn h && s.planeOk h i then
    let x := s.head h
    s.setHead h { x with od := { x.od with
      valid := x.od.valid.setIfInBounds i (!x.od.lost.toList.getD i false), plane := i } }
  else s

/-- R583, R590: the head starts, or a profile is applied. -/
def State.odFresh (s : State) (h : Nat) : State :=
  let x := s.head h
  (s.setHead h { x with od := { x.od with lost := Vector.replicate 2 true, plane := 0, cold := 0 } }).setFld (F.HEAD_STATUS_COLD h) 0

/-! ### Stipple (R596 to R598) -/

def stippleM : List Nat := [0, 8, 2, 10, 12, 4, 14, 6, 3, 11, 1, 9, 15, 7, 13, 5]

/-- R596. -/
def stipple1 (seed f n x y c v : Nat) : Nat :=
  let d := 12 - n
  let x' := (x + seed % 4) % 4
  let y' := (y + bitsOf seed 2 2) % 4
  let thr := (4 * stippleM.getD (4 * y' + x') 0 + [0, 2, 3, 1].getD ((f + c + bitsOf seed 4 2) % 4) 0) / 2 ^ (6 - d)
  min ((v + thr) / 2 ^ d) (2 ^ n - 1)

/-- R598. -/
def narrow12 (n v : Nat) : Nat := min (2 ^ n - 1) (rdiv v (2 ^ (12 - n)))

/-- R576, R596, R598: row `y` at panel width. -/
def State.stippleRow (s : State) (h y : Nat) (row : List Pix) : List Pix :=
  let n := s.panelBits h
  let c := (s.head h).fr.ctrl
  if getBits c 28 1 = 1 && !s.standAlone then
    let seed := getBits c 16 6
    let f := s.fld (F.HEAD_STATUS_FPHASE h)
    row.mapIdx (fun x p => ⟨stipple1 seed f n x y 0 p.r, stipple1 seed f n x y 1 p.g, stipple1 seed f n x y 2 p.b⟩)
  else row.map (fun p => ⟨narrow12 n p.r, narrow12 n p.g, narrow12 n p.b⟩)

/-! ### A row of the head (R576) -/

/-- The row before Hatch: composed, scanned out, or black in stand-alone mode with nothing to show. -/
def State.sourceRow (s : State) (h y : Nat) : List Pix :=
  let w := entHact (s.entry h)
  match (s.head h).scan with
  | some (_, b) => s.scanRow (s.head h).scanDesc b w y
  | none => if s.standAlone then List.replicate w ⟨0, 0, 0⟩ else s.composeRow h w y

/-- R309: the Plate words of row `y` of a scanned-out buffer, `w` pixels wide, in the order in which scan-out presents them. -/
def scanWords (d : SurfDesc) (b w y : Nat) : List Nat :=
  if d.height ≤ y ∨ d.width = 0 ∨ w = 0 then [] else rotating (pixelWords d b y 0 (min w d.width - 1))

/-- R384, R388, R485, R576: the head's reads for row `y`: scan-out, or its layers' fetches in rank order. -/
def State.fetchRow (s : State) (h y : Nat) : State :=
  let w := entHact (s.entry h)
  match (s.head h).scan with
  | some (_, b) =>
    let l := scanWords (s.head h).scanDesc b w y
    (s.fetchWords (2 + h) l).dropFetched (2 + h) l
  | none => (s.head h).layers.foldl (fun (s : State) l => s.fetchWords (7 + l.layer) (l.rowWords w y)) s

/-- Row `y` has been composed: the words that no later row uses are done with. -/
def State.doneRow (s : State) (h y : Nat) : State :=
  (s.head h).layers.foldl (fun (s : State) l =>
    if l.reuses then s else s.dropFetched (7 + l.layer) (l.rowWords (entHact (s.entry h)) y)) s

/-- R594: the history words that row `y` reads of plane `i`, in the age `age` of the lists of R595. -/
def State.histWords (s : State) (h i age y : Nat) : List Nat :=
  let o := (s.head h).od
  let n := entHact (s.entry h)
  if !o.valid.toList.getD i false || o.lost.toList.getD i false || o.skip.toList.getD age false || n = 0 then []
  else (wordsFrom (s.histBase h i + histPitch n * y) ((12 * n + 7) / 8)).filter (fun w => !(o.words.toList.getD age []).contains w)

/-- R388, R584, R591, R594, R595: the history reads of row `y`, before it writes. -/
def State.fetchHistory (s : State) (h y : Nat) : State :=
  if !s.odOn h then s
  else
    let o := (s.head h).od
    let s1 := s.fetchWords 6 (s.histWords h o.plane 1 y)
    if s.coldOn h && decide (1 < o.cold) then s1.fetchWords 6 (s1.histWords h (1 - o.plane) 2 y) else s1

/-- The history words of row `y` are done with. -/
def State.doneHistory (s : State) (h y : Nat) : State :=
  (s.dropFetched 6 (s.histWords h 0 1 y ++ s.histWords h 1 1 y ++ s.histWords h 0 2 y ++ s.histWords h 1 2 y))

/-- The row from the Hatch stage to the bunting merge, and the history it writes. -/
def State.panelRow (s : State) (h y : Nat) (row : List Pix) : List Pix × State :=
  let r1 := if getBits (s.head h).fr.ctrl 29 1 = 1 && !s.standAlone && (s.head h).od.hatch then s.hatchRow h y row else row
  let r2 := s.odRow h y r1
  (s.stippleRow h y r2, s.histWrite h y r1)

/-! ### Table loads (R601, R602) -/

/-- R601: a set's load goes into a buffer that holds no set in force, else into the last. -/
def OdState.freeBuf (o : OdState) : Nat :=
  let used := fun b => match o.bufs.toList.getD b none, o.sets with
    | some k, some (x, y) => k == x || k == y
    | _, _ => false
  ([0, 1, 2].find? (fun b => (o.bufs.toList.getD b none).isNone)).getD (([0, 1, 2].find? (fun b => !used b)).getD 2)

/-- R602: the area of set `k` (5: Hatch) that a load writes is in use by the head. -/
def State.areaUsed (s : State) (h k : Nat) : Bool :=
  let o := (s.head h).od
  s.headRunning h && !(s.head h).blank &&
    (if k = 5 then o.hatch
     else match o.bufs.toList.getD (o.bufOf k |>.getD o.freeBuf) none, o.sets with
       | some j, some (x, y) => j == x || j == y
       | _, _ => false)

/-- TABLE_LOAD's effect: the record in force goes into Table RAM, or Hatch is bypassed (R580, R589). -/
def State.loadTable (s : State) (h k : Nat) : State :=
  let (p, s1) := s.record (0x3000 + 8 * h + k)
  let x := s1.head h
  let o := { x.od with due := x.od.due.filter (· != k) }
  let d := p.getD []
  if k = 5 then
    let ok := p.isSome && s1.hatchUsable h d
    let s2 := (s1.setHead h { x with od := { o with hatch := ok } }).setBit (F.HEAD_OD_HATCH_BYPASS h) (!ok)
    if ok then { s2 with tile := s2.tile.put 6 (h * 0x8000) d } else s2
  else if p.isSome && odUsable k d then
    let b := o.bufOf k |>.getD o.freeBuf
    let s2 := s1.setHead h { x with od := { o with bufs := o.bufs.setIfInBounds b (some k) } }
    { s2 with tile := s2.tile.put 6 (h * 0x8000 + odOffset b) d }
  else s1.setHead h { x with od := { o with bufs := o.bufs.map (fun b => if b = some k then none else b) } }

/-- R601: every table of head `h` must be loaded: the Hatch record and the sets of the present bracket. -/
def State.tablesDue (s : State) (h : Nat) : State :=
  let x := s.head h
  let (lo, hi, _) := bracket (s.panelTemp h).1
  let want := ([nearestSet (s.odSetOk h) lo, nearestSet (s.odSetOk h) hi].filterMap id).eraseDups
  s.setHead h { x with od := { x.od with bufs := Vector.replicate 3 none, hatch := false, sets := none, due := 5 :: want } }

/-- R571, R935: the gate start pulse of head `h` goes out in the present line period: the CAL line, or line 0 of a frame that no CAL line
precedes. -/
def State.gateStart (s : State) (h : Nat) : Bool :=
  s.headRunning h && (s.head h).fr.on &&
    (s.fld (F.HEAD_TT_STATUS_KIND h) == 3 || ((s.head h).fr.early && (s.head h).fr.next == 1))

/-! ### The timetable (R400 to R404, R409) -/

/-- R401: legal for `va` active of `vt` lines. -/
def ttLegal (va vt g ts : Nat) : Bool :=
  decide (g ≤ 8) && decide (1 ≤ ts) && decide (ts ≤ 32) && (g == 0 || (decide (g ≤ va) && decide (g * ts + 2 ≤ vt - va)))

def kindDisplay := 0
def kindTouch := 1
def kindBlank := 2
def kindCal := 3

/-- R400: the kind of line `i` of a frame without idle lines. -/
def lineKind (va vt g ts i : Nat) : Nat :=
  if i + 1 = vt then kindCal
  else if g = 0 then (if i < va then kindDisplay else kindBlank)
  else if va + g * ts ≤ i then kindBlank
  else
    if (List.range g).any (fun k =>
        decide ((k + 1) * va / g + k * ts ≤ i) && decide (i < (k + 1) * va / g + (k + 1) * ts)) then kindTouch
    else kindDisplay

/-- R404: the last line before the frame boundary. -/
def boundaryLine (va g ts : Nat) : Nat := if g = 0 then va - 1 else va + (g - 1) * ts - 1

/-- R402, R403, R408: the timetable at a frame start. -/
def State.judgeTimetable (s : State) (h : Nat) : State :=
  let x := s.head h
  let va := entVact (s.entry h)
  let vt := entVtotal (s.entry h)
  if s.standAlone then s.setHead h { x with fr := { x.fr with tt := (0, 1) } }
  else if ttLegal va vt x.fr.ttSeen.1 x.fr.ttSeen.2 then s.setHead h { x with fr := { x.fr with tt := x.fr.ttSeen } }
  else
    let old := x.fr.tt
    (s.setHead h { x with fr := { x.fr with tt := if ttLegal va vt old.1 old.2 then old else (0, 1) } }).setFld
      (F.HEAD_TT_STATUS_TT_REJECT h) 1

/-- The timetable register as it stands, seen at a boundary (R403). -/
def State.seeTimetable (s : State) (h : Nat) : State :=
  let x := s.head h
  s.setHead h { x with fr := { x.fr with ttSeen := (s.fld (F.HEAD_TIMETABLE_GROUPS h), s.fld (F.HEAD_TIMETABLE_TS_LINES h)) } }

/-! ### Refresh modes (R575, R604 to R610, R875) -/

def modeNormal := 0
def modeLowRate := 1
def modeSelf := 2
def modeHold := 3

def State.mode (s : State) (h : Nat) : Nat := s.fld (F.HEAD_STATUS_MODE h)

/-- R575: the ledger takes the line periods of the frame that ends. -/
def State.ledgerAdd (s : State) (h : Nat) : State :=
  let x := s.head h
  let n := x.fr.next
  if s.mode h = modeLowRate ∨ s.mode h = modeHold then
    let l := x.fr.ledger
    let l' := if s.bit (F.HEAD_STATUS_PARITY h) then (l.1, l.2 + n) else (l.1 + n, l.2)
    s.setHead h { x with fr := { x.fr with ledger := l' } }
  else s

/-- A mode takes effect; the ledger is cleared at a change (R575). -/
def State.setMode (s : State) (h m : Nat) : State :=
  if s.mode h = m then s
  else
    let x := s.head h
    (s.setHead h { x with fr := { x.fr with ledger := (0, 0) } }).setFld (F.HEAD_STATUS_MODE h) m

/-- R609: a surface with an eligible buffer. -/
def State.hasFront (s : State) (n : Nat) : Bool := s.bit (F.SURF_STATUS_FRONT_VALID n)

/-- R875: the SELF surface holds an eligible buffer whose frame started at or after stamp `t`, and the write-back engine is
enabled on the head. -/
def State.selfAgain (s : State) (h n t : Nat) : Bool :=
  s.bit F.WB_CTRL_EN && s.fld F.WB_CTRL_HEAD == h &&
    (let b := s.bufs n
     [0, 1, 2].any (fun k => b.elig.toList.getD k false && decide (t ≤ b.began.toList.getD k 0)))

/-- R605, R609, R875, R876: the mode of the frame that starts, and what it scans out. -/
def State.modeFrame (s : State) (h : Nat) : State :=
  let x := s.head h
  let req := s.fld (F.HEAD_REFRESH_MODE h)
  let n := s.fld (F.HEAD_SELF_SURF h)
  let x1 := if x.fr.modeNew then { x with selfEvent := none, fr := { x.fr with modeNew := false, selfOn := false } } else x
  let scanNow := fun (s : State) (y : HeadState) => (s.setHead h { y with
    scan := some (n, s.fld (F.SURF_STATUS_FRONT n)), selfEvent := none, fr := { y.fr with selfOn := true } }).setMode h modeSelf
  let compose := fun (s : State) (y : HeadState) => s.setHead h { y with scan := none }
  if req = modeSelf then
    if !x1.fr.selfOn then (if s.hasFront n then scanNow s x1 else compose s x1)
    else match x1.selfEvent with
      | none => scanNow s x1
      | some t => if s.selfAgain h n t then scanNow s x1 else (compose s x1).setMode h modeNormal
  else
    let x2 := { x1 with selfEvent := none, fr := { x1.fr with selfOn := false, rate := s.fld (F.HEAD_REFRESH_LR_RATE h) } }
    (compose s x2).setMode h req

/-- R80: at head A's frame start an input that has stopped being active is given up, with what was captured of it. -/
def State.saDrop (s : State) : State :=
  if s.boot.saStopped then
    (({ s with boot := { s.boot with saStopped := false } }).setFld F.BOOT_SA_STATUS_INPUT 0).setBufs 63 SurfBufs.reset
  else s

/-- R82, R83: what stand-alone mode scans out: the newest eligible buffer while an input is selected. Frames captured from the other input
before the selection are not among them (State.saTake, log entry 17). -/
def State.saScan (s : State) : State :=
  let s1 := s.saDrop
  let buf := if s1.fld F.BOOT_SA_STATUS_INPUT = 0 || !s1.saFits then none else (s1.bufs 63).newest
  s1.setHead 0 { s1.head 0 with scan := buf.map (fun b => (63, b)) }

/-- From the commit instant head A goes on scanning out Burin's last buffer, until a layer of its own is enabled or SELF takes
over. -/
def State.holdScan (s : State) (h : Nat) : State :=
  match s.boot.hold with
  | none => s
  | some b =>
    if h ≠ 0 then s
    else if s.fld (F.HEAD_REFRESH_MODE 0) = modeSelf ∨
        (List.range 8).any (fun l => s.bit (F.LAYER_W0_EN l) && s.fld (F.LAYER_W0_HEAD l) == 0) then
      { s with boot := { s.boot with hold := none } }
    else s.setHead 0 { s.head 0 with scan := some (63, b) }

/-- A profile applied to head A, or its stop, ends the hold of Burin's buffer. -/
def State.endHold (s : State) (h : Nat) : State := if h = 0 then { s with boot := { s.boot with hold := none } } else s

/-- R78, R82: Burin selects input `i`; the other input's frame in capture is given up, and so are frames captured from it (log entry
17). -/
def State.saTake (s : State) (i : Nat) : State :=
  let j := 2 - i
  let x := s.input j
  let b := s.bufs 63
  let s1 := s.setInput j { x with vc0 := { x.vc0 with cap := none } }
  let s2 := s1.setBufs 63 { b with
    elig := Vector.ofFn (fun (k : Fin 3) => b.elig[k] && (s.boot.saBuf.toList.getD k.val (i, 8, 8, 8)).1 == i) }
  s2.setFld F.BOOT_SA_STATUS_INPUT (saCode i)

/-- R78: Burin's selection at head A's frame boundary; it selects also while black is shown for R57 or R86 (log entry 98). -/
def State.saSelect (s : State) : State :=
  if s.fld F.BOOT_SA_STATUS_INPUT != 0 then s
  else if s.saActive 2 then s.saTake 2
  else if s.saActive 0 then s.saTake 0
  else s

/-- R575, R606, R608: idle lines planned at a frame start; none for a hold. -/
def State.plannedIdle (s : State) (h : Nat) : Option Nat :=
  let e := s.entry h
  let l := (s.head h).fr.ledger
  let (mine, other) := if s.bit (F.HEAD_STATUS_PARITY h) then (l.2, l.1) else (l.1, l.2)
  if other + entVtotal e < mine then some 0
  else if s.mode h = modeHold then none
  else if s.mode h = modeLowRate then
    some (rdiv (entVtotal e * entRate e) (max 1 (s.head h).fr.rate) - entVtotal e)
  else some 0

/-- R597, R605: the frame phase that follows, in the mode of the frame that it opens. -/
def State.nextPhase (s : State) (h : Nat) : Nat :=
  let f := s.fld (F.HEAD_STATUS_FPHASE h)
  let t := if s.standAlone then s else s.modeFrame h
  if !(s.head h).fr.sent then 0
  else if t.mode h = modeHold ∨ (t.mode h = modeLowRate ∧ (t.head h).fr.rate < 400) then f
  else (f + 1) % 4

/-- R573: the parity that follows. -/
def State.nextParity (s : State) (h : Nat) : Nat :=
  if (s.head h).fr.sent then 1 - s.fld (F.HEAD_STATUS_PARITY h) else 0

/-! ### Frame starts and ends -/

/-- The column spans of the head's ABSENT chains, and the columns lost with stations (R682), for the LINK fault. -/
def State.absentSpans (s : State) (h : Nat) : List (Nat × Nat) :=
  (s.chainsOf h).flatMap (fun c =>
    let w := (s.chain c).cfg1
    let first := getBits w 16 13
    if s.chainState c = chAbsent then [(first, getBits w 0 13)]
    else if s.bit (F.LINK_STATUS_PARTIAL c) then
      (List.range 16).filterMap (fun k =>
        if s.fld (F.LINK_STA_CLASS c k) = 1 ∧ !s.bit (F.LINK_STA_PRESENT c k) then
          some (first + s.fld (F.LINK_STA_COL_OFF c k), s.fld (F.LINK_STA_COL_N c k)) else none)
    else [])

/-- R445, R489, R536, R573, R597, R605, R685: what a head latches at a frame start; `early` when no CAL line preceded. -/
def State.startFrame (s : State) (h : Nat) (early : Bool) : State :=
  let x0 := s.head h
  let s0 := if x0.fr.on then s.ledgerAdd h else s
  let s1 := s0.applyStages h
  let x := s1.head h
  let par := s1.nextParity h
  let s2 := s1.setHead h { x with
    blank := false, event := false, layers := []
    fr := { x.fr with
      on := true, sent := true, next := 0, shown := 0, idle := 0, holdOver := false, slotAt := 0, slotLeft := 0, slotIndex := 0
      at_ := s.ticks, early := early, count := (x.fr.count + 1) % 65536, last := if x.fr.on then x.fr.next else x.fr.last,
      ctrl := s.rd (0x80000 + 0x10000 * h), hist := (s.fld (F.HEAD_HIST0_BASE h), s.fld (F.HEAD_HIST1_BASE h)) } }
  let s2' := if s2.standAlone then s2.saScan else (s2.modeFrame h).holdScan h
  let s3 := s2'.setHead h { s2'.head h with
    scanDesc := match (s2'.head h).scan with
      | some (n, _) => s2'.desc n
      | none => SurfDesc.none }
  let s4 := s3.setFld (F.HEAD_STATUS_PARITY h) par
  let s5 := (s4.setFld (F.HEAD_STATUS_FPHASE h) (s1.nextPhase h)).judgeTimetable h
  let s6 := if (s5.head h).scan.isNone && !s5.standAlone then s5.latchHead h else s5
  let s7 := (s6.wbFrameStart h ((s6.head h).scan.isNone && !s6.standAlone)).odFrame h
  let s8 := s7.each (s7.chainsOf h) (fun s c =>
    if s.chainState c = chUnfurled then s.setChain c { s.chain c with joined := true } else s)
  let s9 := s8.latchSlots h (s8.panelBits h) (entVact (s8.entry h)) (s8.absentSpans h)
  let s10 := s9.setHead h { s9.head h with fr := { (s9.head h).fr with planned := s9.plannedIdle h } }
  ((s10.setFld (F.HEAD_STATUS_IDLE h) 0).setFld (F.HEAD_TT_STATUS_LINE h) 0).setFld (F.HEAD_TT_STATUS_KIND h) kindDisplay

/-! ### Start, stop, profiles (R560 to R564, R569, R734) -/

/-- R734: the chains that CHAIN_FURL holds in SLACK or FURLED unfurl as part of STARTING. -/
def State.unfurlFor (s : State) (h : Nat) : State :=
  s.each (s.chainsOf h) (fun s c =>
    if s.fld (F.LINK_PWR_REQ c) != laneUnfurled then
      let t := s.setFld (F.LINK_PWR_REQ c) laneUnfurled
      if t.chainState c = chUnfurled then t.aim c laneUnfurled else t
    else s)

/-- R560: a STOPPED head with RUN set starts. -/
def State.startHead (s : State) (h : Nat) : State :=
  let s1 := (s.setFld (F.HEAD_STATUS_STATE h) 1).odFresh h
  let s2 := s1.setHead h { s1.head h with fr := { (s1.head h).fr with on := false, count := 0 }, blSent := none }
  s2.unfurlFor h

/-- R689: chains named by the entry take its link part and are trained; the others that were bound to the head go DARK. -/
def State.bindChains (s : State) (h : Nat) (e : List Word) : State :=
  let s1 := s.each (List.range 8) (fun s c =>
    if s.boundTo c h && !entNames e c then
      ((s.setFld (F.LINK_CFG3_BOUND c) 0).setFld (F.LINK_PWR_BOUND_NOW c) 0).darken c
    else s)
  s1.each (List.range 8) (fun s c =>
    if entNames e c then
      (s.each [0, 1, 2, 3, 4] (fun s k => s.wr (cfgReg c k) ((entCfg e h c).getD k 0))).trainChain c
    else s)

/-- R616: the backlight registers take the profile's level. -/
def State.backlightFromProfile (s : State) (h : Nat) : State :=
  let lv := if s.prof h 8 31 1 = 1 then s.prof h 8 0 11 else s.prof h 9 0 11
  ((s.setFld (F.HEAD_BL_MODE h) 0).setFld (F.HEAD_BL_REG h) 0).setFld (F.HEAD_BL_LEVEL h) lv

/-- R569: an entry is applied to a STOPPED head. -/
def State.applyProfile (s : State) (h : Nat) (e : List Word) : State :=
  let s1 := s.each (List.range 32) (fun s k => s.wr (0x80200 + 0x10000 * h + 4 * k) (e.getD k 0))
  let s2 := (((((s1.setFld (F.HEAD_CTRL_OD_EN h) (ent e 3 11 1)).setFld (F.HEAD_CTRL_HATCH_EN h) (ent e 3 12 1)).setFld
    (F.HEAD_CTRL_STIPPLE_EN h) (ent e 3 13 1)).setFld (F.HEAD_CTRL_COLD_EN h) (ent e 3 10 1)).setFld (F.HEAD_CTRL_SEED h)
    (ent e 3 16 6)).setFld (F.HEAD_CTRL_COLD_K2 h) (ent e 3 24 8)
  let s3 := ((s2.setFld (F.COMP_W3_PEAK h) (entPeak e)).setFld (F.HEAD_REFRESH_MODE h) 0).setMode h modeNormal
  let x := s3.head h
  let s4 := s3.setHead h { x with selfEvent := none, entry := none, fr := { x.fr with modeNew := true, selfOn := false } }
  let s5 := ((s4.endHold h).odFresh h).backlightFromProfile h
  let s6 := if s5.standAlone then s5 else s5.tablesDue h
  s6.bindChains h e

/-- R562, R563, R569: a STOPPING head has stopped; a waiting entry is applied, and with RUN set it starts again. -/
def State.stopHead (s : State) (h : Nat) : State :=
  let x := s.head h
  let s1 := (if x.fr.on then s.ledgerAdd h else s).setHead h
    { (if x.fr.on then s.ledgerAdd h else s).head h with
      layers := [], scan := none, blank := false, event := false, failing := []
      fr := { ((if x.fr.on then s.ledgerAdd h else s).head h).fr with on := false } }
  let s1' := if s1.fld F.WB_CTRL_HEAD = h then s1.setFld F.WB_STATUS_ACTIVE 0 else s1
  let s2 := (s1'.setFld (F.HEAD_STATUS_STATE h) 0).setFld (F.HEAD_STATUS_IDLE h) 0
  let s3 := match x.entry with
    | some e => s2.applyProfile h e
    | none => s2
  (if s3.bit (F.HEAD_CTRL_RUN h) then s3.startHead h else s3).applyIdle

/-- R562: RUN has been cleared, or a profile takes the head down. -/
def State.haltHead (s : State) (h : Nat) : State :=
  if s.headState h = 1 ∨ s.headState h = 2 then s.setFld (F.HEAD_STATUS_STATE h) 3 else s

/-- R560 to R563: the RUN bit has been written. -/
def State.runWritten (s : State) (h : Nat) : State :=
  if s.bit (F.HEAD_CTRL_RUN h) then
    (if s.headState h = 0 then (if s.profiled h then s.startHead h else s.setFld (F.HEAD_CTRL_RUN h) 0) else s)
  else (s.endHold h).haltHead h

/-- R69, R560: the chains that the head's profile names are all UNFURLED or ABSENT, one of them UNFURLED. What counts is the present state
of a chain, not one that it has left since (log entry 100). -/
def State.chainsReady (s : State) (h : Nat) : Bool :=
  let e := s.entry h
  let named := (List.range 8).filter (entNames e)
  let up := fun c => s.chainState c == chUnfurled && s.lane c == laneUnfurled && !(s.chain c).unfurling
  named.all (fun c => up c || s.chainState c == chAbsent) && named.any up

/-- R612: the head's BL station takes the level in force, when it has changed, behind the blocks `pre` of the same sending step. -/
def State.sendLevelAfter (s : State) (h : Nat) (pre : List Block) : State :=
  let e := s.entry h
  let lv := s.fld (F.HEAD_BL_STATUS_BL_NOW h)
  let a := ent e 8 24 7
  let c := a / 16
  if ent e 8 31 1 = 1 && !s.runtimeDead && (s.head h).blSent != some lv && s.chainState c == chUnfurled && s.lane c == laneUnfurled then
    (s.send c (pre ++ regWrite a 1 0x0013 [BitVec.ofNat 32 lv])).setHead h { s.head h with blSent := some lv }
  else s

def State.sendLevel (s : State) (h : Nat) : State := s.sendLevelAfter h []

/-- R94: in stand-alone mode the BL station of head A takes its level once its chain, which `c` has just become, is UNFURLED. -/
def State.bootLevel (s : State) (c : Nat) : State :=
  if s.standAlone && ent (s.entry 0) 8 28 3 == c then s.sendLevelAfter 0 (s.chain c).sent else s

/-- R268, R611, R783: SOFT_RESET stops heads B, C and D at once and gives head A its profile's level and NORMAL mode. -/
def State.headsSoftReset (s : State) : State :=
  let s1 := s.each [1, 2, 3] (fun s h =>
    let x := s.head h
    let fr : FrameState := { x.fr with on := false, selfOn := false, modeNew := true }
    let t := s.setHead h { x with layers := [], scan := none, blank := false, event := false, failing := [], entry := none, selfEvent := none, fr := fr }
    let t1 := ((t.setFld (F.HEAD_CTRL_RUN h) 0).setFld (F.HEAD_STATUS_STATE h) 0).setFld (F.HEAD_STATUS_IDLE h) 0
    ((t1.setFld (F.HEAD_STATUS_MODE h) 0).setFld (F.HEAD_STATUS_COLD h) 0).setFld (F.HEAD_STATUS_HIST_VALID h) 0)
  let x := s1.head 0
  let s2 := s1.setHead 0 { x with selfEvent := none, fr := { x.fr with modeNew := true } }
  ((((s2.setFld (F.HEAD_REFRESH_MODE 0) 0).setFld (F.HEAD_CTRL_OD_EN 0) 0).setFld (F.HEAD_CTRL_HATCH_EN 0) 0).setFld
    (F.HEAD_CTRL_STIPPLE_EN 0) 0).backlightFromProfile 0

end Sys2Proof.Machine
end

