-- ==== Sys2Proof/Machine/Touch.lean ====
section
/-! DEFINITION. The touch engine (R742 to R787): configuration, states, scan sets, contacts, baselines, the report, and the rows of
family TOUCH. -/

namespace Sys2Proof.Machine

/-! ### Codes and accessors -/

def toOff := 0
def toHeld := 1
def toStarting := 2
def toRunning := 3
def toStopping := 4

def State.touchOf (s : State) (h : Nat) : TouchState := s.touch.toList.getD h TouchState.reset
def State.setTouch (s : State) (h : Nat) (x : TouchState) : State := { s with touch := s.touch.setIfInBounds h x }
def State.touchState (s : State) (h : Nat) : Nat := s.fld (F.TOUCH_STATUS_STATE h)

/-- The configuration words of head `h`. -/
def State.touchCfg (s : State) (h : Nat) : List Word := (List.range 10).map (fun k => s.rd (0x140000 + 0x100 * h + 4 * k))

/-- Bits `[lo + n - 1 : lo]` of configuration word `k`. -/
def tc (cfg : List Word) (k lo n : Nat) : Nat := getBits (cfg.getD k 0) lo n

/-- The used TAFEs 0 to 3. -/
def usedTafes (cfg : List Word) : List Nat := [0, 1, 2, 3].filter (fun k => tc cfg (k + 1) 31 1 == 1)
def tafeAddr (cfg : List Word) (k : Nat) : Nat := tc cfg (k + 1) 24 7
def tafeFirst (cfg : List Word) (k : Nat) : Nat := tc cfg (k + 1) 16 6
def tafeCount (cfg : List Word) (k : Nat) : Nat := tc cfg (k + 1) 0 6

/-- S: the sum of the used TAFEs' counts; D. -/
def senseLines (cfg : List Word) : Nat := ((usedTafes cfg).map (tafeCount cfg)).sum
def driveLines (cfg : List Word) : Nat := tc cfg 5 16 7

/-- R762: THR. -/
def touchThr (cfg : List Word) : Nat := if tc cfg 0 30 1 = 1 then tc cfg 6 0 16 else tc cfg 6 16 16
def moveMax (cfg : List Word) : Nat := tc cfg 7 0 16

/-- R742: the used bands are disjoint and together cover sense lines 0 to S − 1; S is 1 to 40. -/
def bandsOk (cfg : List Word) : Bool :=
  let n := senseLines cfg
  decide (1 ≤ n) && decide (n ≤ 40) &&
    (List.range n).all (fun j =>
      ((usedTafes cfg).filter (fun k => decide (tafeFirst cfg k ≤ j) && decide (j < tafeFirst cfg k + tafeCount cfg k))).length == 1)

/-- The bits of configuration word `k` that carry a field (Table 16-6). -/
def touchMask (k : Nat) : Nat :=
  if k = 0 then 0xFE000000 else if k ≤ 4 then 0xFF3F003F else if k = 5 then 0x007F0000 else if k = 6 then 0xFFFFFFFF
  else if k = 7 then 0x00FFFFFF else if k = 8 then 0x03FF000F else 0x0000FFFF

/-- R752: word `k` of a configuration has a field outside its range. -/
def touchWordBad (cfg : List Word) (k : Nat) : Bool :=
  if k = 5 then tc cfg 0 31 1 == 1 && (driveLines cfg == 0 || decide (64 < driveLines cfg))
  else if k = 6 then
    tc cfg 6 16 16 == 0 || decide (32767 < tc cfg 6 16 16) || tc cfg 6 0 16 == 0 || decide (32767 < tc cfg 6 0 16) ||
      decide (tc cfg 6 16 16 < tc cfg 6 0 16)
  else if k = 7 then decide (tc cfg 7 16 8 < 4) || moveMax cfg == 0 || decide (4096 < moveMax cfg)
  else if k = 8 then decide (720 < tc cfg 8 16 10) || decide (tc cfg 8 0 4 < 2) || decide (10 < tc cfg 8 0 4)
  else false

/-- R752: the relations among CFG0 to CFG4 break. -/
def touchRelationBad (cfg : List Word) : Bool :=
  (!(usedTafes cfg).isEmpty && !bandsOk cfg) || ((usedTafes cfg).isEmpty && tc cfg 0 31 1 == 1) ||
    (tc cfg 0 31 1 == 1 && (driveLines cfg == 0 || decide (64 < driveLines cfg)))

/-- The configuration after words `ws` from CFG`first` on. -/
def newTouchCfg (cfg : List Word) (first : Nat) (ws : List Word) : List Word :=
  cfg.mapIdx (fun k w => if first ≤ k ∧ k < first + ws.length then ws.getD (k - first) 0 else w)

/-- R249, R752: the parameter words of a TOUCH_CONFIG that fail; a relation is charged to the highest written word of CFG0 to CFG4, which
take part in it. -/
def touchConfigFails (cfg : List Word) (first : Nat) (ws : List Word) : List Nat :=
  let new := newTouchCfg cfg first ws
  let ranges := (List.range ws.length).filter (fun i =>
    decide (9 < first + i) || ((ws.getD i 0).toNat &&& (0xFFFFFFFF - touchMask (first + i)) != 0) || touchWordBad new (first + i))
  let part := (List.range ws.length).filter (fun i => decide (first + i ≤ 4))
  (ranges ++ (if touchRelationBad new then part.reverse.take 1 else [])).map (· + 1)

/-! ### Stations (R749, R750, R755) -/

/-- R750: the drive time in 10 ns. -/
def State.driveTime (s : State) (h : Nat) (cfg : List Word) : Nat :=
  (s.head h).fr.tt.2 * 1000000000 / (s.lineRate h * driveLines cfg)

/-- R755: a used TAFE is PRESENT with class TAFE on a chain bound to the head. -/
def State.tafeOk (s : State) (h a : Nat) : Bool :=
  s.boundTo (a / 16) h && s.bit (F.LINK_STA_PRESENT (a / 16) (a % 16)) && s.fld (F.LINK_STA_CLASS (a / 16) (a % 16)) == 4

/-- The blocks go to chain `c`'s stations, or wait until its lanes are UNFURLED. -/
def State.sendTo (s : State) (c : Nat) (b : List Block) : State :=
  if s.lane c = laneUnfurled then s.setChain c { s.chain c with sent := (s.chain c).sent ++ b }
  else s.setChain c { s.chain c with access := (s.chain c).access ++ b }

/-- R750: the registers of the used TAFEs. -/
def State.writeTafes (s : State) (h : Nat) (cfg : List Word) : State :=
  (s.setTouch h { s.touchOf h with drive := s.driveTime h cfg }).each (usedTafes cfg) (fun s k =>
    let a := tafeAddr cfg k
    s.sendTo (a / 16) (regWrite a 1 0x0041 [BitVec.ofNat 32 (tafeCount cfg k),
      BitVec.ofNat 32 (driveLines cfg * 65536 + s.driveTime h cfg % 65536),
      if tc cfg 0 30 1 = 1 then 9 else 4, 0x80000000]))

/-- R754: TAFE_CTRL.EN of the used TAFEs is cleared. -/
def State.stopTafes (s : State) (cfg : List Word) : State :=
  s.each (usedTafes cfg) (fun s k =>
    let a := tafeAddr cfg k
    if s.chainState (a / 16) = chUnfurled then s.sendTo (a / 16) (regWrite a 1 0x0044 [0]) else s)

/-- R755: the first condition that holds, 0 for none. -/
def State.holdCause (s : State) (h : Nat) : Nat :=
  let cfg := s.touchCfg h
  let u := usedTafes cfg
  if s.headState h != 2 then 1
  else if (s.head h).fr.tt.1 = 0 then 2
  else if u.any (fun k => !s.tafeOk h (tafeAddr cfg k)) then 3
  else if u.any (fun k =>
      let a := tafeAddr cfg k
      match ((s.chain (a / 16)).stations)[a % 16]? with
      | some t => decide (s.driveTime h cfg < t.minDrive)
      | none => false) then 4
  else 0

/-! ### States (R751 to R757) -/

/-- A contact ends with UP_EVT; R774 follows its PROVISIONAL nodes. -/
def TouchState.endContact (x : TouchState) (now : Nat) (k : Contact) : TouchState :=
  { x with
    contacts := x.contacts.filter (fun c => c.id != k.id)
    ended := x.ended ++ [{ k with dur := now - k.born, anchors := [] }]
    nodes := x.nodes.mapIdx (fun n d => if d.prov && k.blob.contains n then { d with up := 2 } else d) }

def TouchState.endAll (x : TouchState) (now : Nat) : TouchState := x.contacts.foldl (fun x k => x.endContact now k) x

/-- A rebase in progress ends; a factory capture fails. A record that is already being written stays. -/
def TouchState.dropRebase (x : TouchState) : TouchState :=
  if x.writing.isSome then x
  else { x with rebase := 0, news := if x.rebase = 16 then some false else x.news }

def TouchNode.fresh : TouchNode := ⟨0, 0, 0, false, 0, 0, none, false⟩

def State.showProv (s : State) (h : Nat) : State :=
  s.setBit (F.TOUCH_STATUS_PROVISIONAL_ANY h) ((s.touchOf h).nodes.any (·.prov))

/-- R769: the payload of a usable BASELINE record of head `h`; BASELINE_MISSING shows whether there is one. -/
def State.baseline (s : State) (h : Nat) (cfg : List Word) : Option (List Byte) × State :=
  let (p, s1) := s.record (0x5000 + h)
  let d := driveLines cfg
  let n := senseLines cfg
  let use := match p with
    | some b => b.length == 8 + 4 * d * n && leNat (b.take 4) == d * 65536 + n
    | none => false
  (if use then p else none, s1.setBit (F.TOUCH_STATUS_BASELINE_MISSING h) (!use))

/-- R756, R757: the engine enters STARTING: contacts have ended, the comparison begins anew. -/
def State.enterStarting (s : State) (h : Nat) : State :=
  let cfg := s.touchCfg h
  let x := ((s.touchOf h).endAll s.ticks).dropRebase
  let n := driveLines cfg * senseLines cfg
  let y := { x with
    nodes := List.replicate n TouchNode.fresh, set := none, ready := [], sums := List.replicate n 0, count := 0
    due := false, cands := [] }
  let s1 := (((s.setTouch h y).setFld (F.TOUCH_STATUS_STATE h) toStarting).setFld (F.TOUCH_STATUS_HOLD_CAUSE h) 0).showProv h
  ((s1.baseline h cfg).2).writeTafes h cfg

/-- R756: the engine enters HELD. -/
def State.enterHeld (s : State) (h cause : Nat) : State :=
  let x := ((s.touchOf h).endAll s.ticks).dropRebase
  (((s.setTouch h { x with set := none, ready := [], due := false, cands := [] }).setFld (F.TOUCH_STATUS_STATE h) toHeld).setFld
    (F.TOUCH_STATUS_HOLD_CAUSE h) cause).showProv h

/-- R750, R755, R756: the engine of head `h` follows the conditions; a scanning engine's TAFEs follow a change of the slot length. -/
def State.touchJudge (s : State) (h : Nat) : State :=
  let st := s.touchState h
  let cause := s.holdCause h
  if st = toHeld ∨ st = toStarting ∨ st = toRunning then
    (if cause = 0 then
      (if st = toHeld then s.enterStarting h
       else if s.driveTime h (s.touchCfg h) ≠ (s.touchOf h).drive then s.writeTafes h (s.touchCfg h) else s)
     else if st = toHeld then s.setFld (F.TOUCH_STATUS_HOLD_CAUSE h) cause
     else s.enterHeld h cause)
  else s

/-- Every engine, after a change of heads or chains. -/
def State.touchJudgeAll (s : State) : State := s.each [0, 1, 2, 3] State.touchJudge

/-- R754: an OFF engine whose EN is 1 becomes HELD or STARTING. -/
def State.touchOn (s : State) (h : Nat) : State :=
  let cause := s.holdCause h
  if cause = 0 then s.enterStarting h else s.enterHeld h cause

/-- R754: the engine becomes OFF; contacts end without an event. With EN set meanwhile, it powers up again (R255). -/
def State.touchOff (s : State) (h : Nat) : State :=
  let x := (s.touchOf h).dropRebase
  let y := { x with contacts := [], set := none, ready := [], nodes := [], due := false, cands := [] }
  let s1 := (((s.setTouch h y).setFld (F.TOUCH_STATUS_STATE h) toOff).setFld (F.TOUCH_STATUS_HOLD_CAUSE h) 0).showProv h
  let s2 := s1.stopTafes (s.touchCfg h)
  if s2.bit (F.TOUCH_CFG0_EN h) then s2.touchOn h else s2

/-- The engine holds no scan set. -/
def TouchState.empty (x : TouchState) : Bool := x.set.isNone && x.ready.isEmpty

/-- R754: a STOPPING engine that holds no set any more becomes OFF. -/
def State.touchSettle (s : State) (h : Nat) : State :=
  if s.touchState h = toStopping ∧ (s.touchOf h).empty then s.touchOff h else s

/-! ### Slots and sets (R405, R744 to R748, R758) -/

/-- R758: a set is discarded and counted. -/
def State.discardSet (s : State) (h : Nat) : State :=
  let x := s.touchOf h
  ((s.setTouch h { x with set := none, flags := { x.flags with cut := true } }).satAdd (F.TOUCH_COUNT_CUT_CNT h) 1).touchSettle h

/-- R744: the slot with index `k` opens; the packets of a STARTING or RUNNING engine are collected. -/
def State.slotOpened (s : State) (h k : Nat) : State :=
  let st := s.touchState h
  if st = toStarting ∨ st = toRunning then
    let s1 := if (s.touchOf h).set.isSome then s.discardSet h else s
    s1.setTouch h { s1.touchOf h with set := some ⟨(s.head h).fr.count, k, s.touchCfg h, [], []⟩ }
  else s

/-- The TAFE chains of head `h`: chains bound to it with a PRESENT TAFE. -/
def State.tafeChains (s : State) (h : Nat) : List Nat :=
  (s.chainsOf h).filter (fun c => s.chainState c == chUnfurled &&
    (List.range 16).any (fun k => s.bit (F.LINK_STA_PRESENT c k) && s.fld (F.LINK_STA_CLASS c k) == 4))

/-- R748, Table 16-1: a SCAN packet's payload, taken apart: frame count, slot, LAST, CUT, and per node (drive line, sense line of the
station) its value and whether it is neither OVR nor SETTLING. None when the length does not agree with the counts. -/
structure ScanPacket where
  frame : Nat
  slot : Nat
  last : Bool
  cut : Bool
  vals : List (Nat × Nat × Int × Bool)
  deriving DecidableEq, Repr

/-- Bit `i` of a bitmap, bit 7 of the first byte first. -/
def mapBit (b : List Byte) (i : Nat) : Bool := bitsOf (b.getD (i / 8) 0).toNat (7 - i % 8) 1 == 1

def parseScan (b : List Byte) : Option ScanPacket :=
  let n := (b.getD 5 0).toNat
  let w := (b.getD 6 0).toNat
  let ovr := b.drop (8 + 2 * n * w)
  let set := ovr.drop ((n * w + 7) / 8)
  if b.length = 8 + 2 * n * w + (n * w + 7) / 8 + (w + 7) / 8 then
    some {
      frame := beNat (b.take 2), slot := (b.getD 2 0).toNat
      last := bitsOf (b.getD 3 0).toNat 0 1 == 1, cut := bitsOf (b.getD 3 0).toNat 1 1 == 1
      vals := (List.range (n * w)).map (fun i =>
        ((b.getD 4 0).toNat + i / w, i % w, signedOf 16 (beNat ((b.drop (8 + 2 * i)).take 2)), !mapBit ovr i && !mapBit set (i % w))) }
  else none

/-- R748, R758: a packet of TAFE `k` joins the set of head `h`. -/
def State.collect (s : State) (h k : Nat) (p : ScanPacket) : State :=
  let x := s.touchOf h
  match x.set with
  | none => s
  | some g =>
    if g.frame != p.frame || g.slot != p.slot then s
    else if p.cut then s.discardSet h
    else
      let n := senseLines g.cfg
      let vs := p.vals.filterMap (fun v =>
        if v.1 < driveLines g.cfg ∧ v.2.1 < tafeCount g.cfg k then
          some (v.1 * n + tafeFirst g.cfg k + v.2.1, v.2.2.1, v.2.2.2) else none)
      let g1 := { g with vals := g.vals ++ vs, done := if p.last && !g.done.contains k then k :: g.done else g.done }
      if (usedTafes g.cfg).all (fun j => g1.done.contains j) then
        s.setTouch h { x with set := none, ready := x.ready ++ [g1] }
      else s.setTouch h { x with set := some g1 }

/-- R748: a SCAN packet of a station that a head's touch engine uses. -/
def State.scanIn (s : State) (c : Nat) (p : RetPacket) : State :=
  match parseScan p.payload with
  | none => s
  | some q =>
    s.each [0, 1, 2, 3] (fun s h =>
      let cfg := match (s.touchOf h).set with | some g => g.cfg | none => []
      match (usedTafes cfg).find? (fun k => tafeAddr cfg k == p.src) with
      | some k => if s.boundTo c h then s.collect h k q else s
      | none => s)

/-- SCAN_PACKET (R648, R748, R758). -/
def execScanPacket (c : Fin 8) (pkt : List Byte) (s : State) : Host.Outcome State Fault Refusal :=
  .next (s.ifLive (if s.chainState c != chUnfurled then s else s.packetIn c 0x05 pkt (s.scanIn c)))

/-- SCAN_SET_TIMEOUT (R758): 500 µs after TOUCH_CLOSE the set of head `h` is not complete. -/
def execScanSetTimeout (h : Fin 4) (s : State) : Host.Outcome State Fault Refusal :=
  .next (s.ifLive (if (s.touchOf h).set.isSome && (s.head h).fr.slotLeft == 0 then s.discardSet h else s))

/-! ### Blobs and candidates (R761 to R764) -/

/-- The 4-neighbours of node `n` in a grid of `d` drive and `w` sense lines. -/
def neighbours (d w n : Nat) : List Nat :=
  (if w ≤ n then [n - w] else []) ++ (if 0 < n % w then [n - 1] else []) ++
    (if n % w + 1 < w then [n + 1] else []) ++ (if n + w < d * w then [n + w] else [])

/-- A node lies in the list or next to one of it. -/
def besideBlob (d w : Nat) (b : List Nat) (n : Nat) : Bool := b.contains n || (neighbours d w n).any (fun m => b.contains m)

/-- The 4-connected set within `e` that holds the list `b`. -/
def growBlob (d w : Nat) (e : List Nat) : Nat → List Nat → List Nat
  | 0, b => b
  | n + 1, b =>
    let more := e.filter (fun m => !b.contains m && (neighbours d w m).any (fun k => b.contains k))
    if more.isEmpty then b else growBlob d w e n (b ++ more)

/-- R762: the blobs: 4-connected sets of the eligible nodes. -/
def blobsOf (d w : Nat) (e : List Nat) : List (List Nat) :=
  e.foldl (fun l n => if l.any (fun b => b.contains n) then l else l ++ [growBlob d w e e.length [n]]) []

structure Candidate where
  peak : Nat
  x : Nat
  y : Nat
  strength : Nat
  blob : List Nat
  deriving DecidableEq

/-- A node's delta. -/
def deltaOf (nodes : List TouchNode) (n : Nat) : Int := match nodes[n]? with | some k => k.last | none => 0

/-- The node with the greatest delta, the lowest one of equals. -/
def peakOf (nodes : List TouchNode) (b : List Nat) : Nat :=
  b.foldl (fun p n =>
    if deltaOf nodes p < deltaOf nodes n ∨ (deltaOf nodes p = deltaOf nodes n ∧ n < p) then n else p) (b.headD 0)

/-- R763: the blob is WATER. -/
def isWater (cfg : List Word) (nodes : List TouchNode) (b : List Nat) : Bool :=
  tc cfg 0 29 1 == 1 && decide (tc cfg 7 16 8 ≤ b.length) &&
    decide (2 * deltaOf nodes (peakOf nodes b) * b.length < 3 * (b.map (deltaOf nodes)).foldl (· + ·) 0)

/-- R743, R764: a coordinate in 1/16 pixel from the weighted index sum: `size` pixels, `lines` lines, mirrored or not. -/
def coordinate (size lines wsum isum : Nat) (flip : Bool) : Nat :=
  let den := 2 * lines * wsum
  let num := 2 * isum + wsum
  if den = 0 then 0 else rdiv (16 * size * (if flip then den - num else num)) den

/-- R764: the candidate of a blob. -/
def candidateOf (cfg : List Word) (ha va : Nat) (nodes : List TouchNode) (b : List Nat) : Candidate :=
  let d := driveLines cfg
  let w := senseLines cfg
  let p := peakOf nodes b
  let near := (List.range (d * w)).filter (fun n =>
    decide (n / w ≤ p / w + 1) && decide (p / w ≤ n / w + 1) && decide (n % w ≤ p % w + 1) && decide (p % w ≤ n % w + 1))
  let wt := fun n => (deltaOf nodes n).toNat
  let sum := (near.map wt).sum
  let si := (near.map (fun n => wt n * (n / w))).sum
  let sj := (near.map (fun n => wt n * (n % w))).sum
  let fx := tc cfg 0 26 1 == 1
  let fy := tc cfg 0 25 1 == 1
  let axis := tc cfg 0 27 1
  { peak := p, strength := (deltaOf nodes p).toNat, blob := b
    x := if axis = 0 then coordinate ha d sum si fx else coordinate ha w sum sj fx
    y := if axis = 0 then coordinate va w sum sj fy else coordinate va d sum si fy }

/-- The square of the distance of two positions, in (1/16 pixel)². -/
def dist2 (x1 y1 x2 y2 : Nat) : Nat := ((x1 : Int) - x2).natAbs ^ 2 + ((y1 : Int) - y2).natAbs ^ 2

def within (cfg : List Word) (x1 y1 x2 y2 : Nat) : Bool := decide (dist2 x1 y1 x2 y2 ≤ (16 * moveMax cfg) ^ 2)

/-- R765: the nearest pair first; of equals the lowest ID, then the lowest peak. -/
def matchPairs (cfg : List Word) : Nat → List Contact → List Candidate → List (Contact × Candidate)
  | 0, _, _ => []
  | n + 1, ks, cs =>
    let pairs := (ks.flatMap (fun k => cs.map (fun c => (k, c)))).filter (fun p => within cfg p.1.x p.1.y p.2.x p.2.y)
    let key := fun (p : Contact × Candidate) => dist2 p.1.x p.1.y p.2.x p.2.y
    match pairs with
    | [] => []
    | q :: t =>
      let (k, c) := t.foldl (fun best p => if key p < key best then p else best) q
      (k, c) :: matchPairs cfg n (ks.filter (fun j => j.id != k.id)) (cs.filter (fun b => b.peak != c.peak))

/-! ### A complete set in RUNNING (R761 to R782) -/

/-- The engine's clock, which stops while a CAL_RUN measures (R782). -/
def State.touchClock (s : State) : Nat := s.ticks - s.cal.busyMs

/-- R761: raw values, deltas of the clean nodes, and which nodes are clean. -/
def takeRaw (nodes : List TouchNode) (g : ScanSet) : List (TouchNode × Bool) :=
  nodes.mapIdx (fun n k =>
    match g.vals.find? (fun v => v.1 == n) with
    | some (_, v, true) => ({ k with raw := v, last := clampInt (-32768) 32767 (v - k.base) }, true)
    | some (_, v, false) => ({ k with raw := v }, false)
    | none => (k, false))

/-- Deltas again after a change of baselines. -/
def redelta (l : List (TouchNode × Bool)) : List (TouchNode × Bool) :=
  l.map (fun (k, c) => if c then ({ k with last := clampInt (-32768) 32767 (k.raw - k.base) }, c) else (k, c))

/-- R774, R777: baselines taken from raw values before the contacts are judged. -/
def takeBases (x : TouchState) (l : List (TouchNode × Bool)) : List (TouchNode × Bool) :=
  l.mapIdx (fun n (k, c) =>
    let inBlob := x.contacts.any (fun t => t.blob.contains n)
    let k1 := if k.up = 0 then k
      else if k.up = 1 ∧ c then { k with base := k.raw, prov := false, up := 0 }
      else { k with up := max 1 (k.up - 1) }
    if x.due && !inBlob then ({ k1 with base := if c then k.raw else k.base, prov := false, up := 0, neg := none }, c) else (k1, c))

/-- R765, R767, R768: a candidate begins a contact. -/
def TouchState.begin (x : TouchState) (now clock : Nat) (glove : Bool) (c : Candidate) : TouchState :=
  let used := fun i => x.contacts.any (fun k => k.id == i)
  let heldUp := fun i => x.ended.any (fun k => k.id == i)
  let mk := fun (i : Nat) => ({
    id := i, x := c.x, y := c.y, strength := c.strength, area := c.blob.length, born := now, dur := 0, down := true
    glove := glove, covered := false, prov := false, absorbed := false, missed := 0, blob := c.blob
    anchors := [⟨c.x, c.y, c.strength, clock⟩] } : Contact)
  match (List.range 16).find? (fun i => !used i && !heldUp i) with
  | some i => { x with contacts := x.contacts ++ [mk i] }
  | none =>
    match (List.range 16).find? (fun i => !used i) with
    | some i => { x with
        contacts := x.contacts ++ [mk i], ended := x.ended.filter (fun k => k.id != i), flags := { x.flags with lost := true } }
    | none => x

/-- R778: the instants since which the contact has stayed still. -/
def keepAnchors (cfg : List Word) (clock x y st : Nat) (l : List Anchor) : List Anchor :=
  let l1 := l.filter (fun a => within cfg a.x a.y x y && decide (3 * a.strength ≤ 4 * st) && decide (4 * st ≤ 5 * a.strength))
  if l1.any (fun a => a.x == x && a.y == y && a.strength == st) then l1 else l1 ++ [⟨x, y, st, clock⟩]

/-- R765, R766: a present contact with its candidate, or without one. -/
def carryContact (cfg : List Word) (clock : Nat) (ms : List (Contact × Candidate)) (k : Contact) : Contact :=
  match ms.find? (fun p => p.1.id == k.id) with
  | some (_, c) => { k with
      x := c.x, y := c.y, strength := c.strength, area := c.blob.length, blob := c.blob, missed := 0
      anchors := keepAnchors cfg clock c.x c.y c.strength k.anchors }
  | none => { k with missed := k.missed + 1 }

/-- R765 to R768: the contacts after a set with candidates `cs`. -/
def TouchState.contactsStep (x : TouchState) (cfg : List Word) (now clock : Nat) (cs : List Candidate) : TouchState :=
  let ms := matchPairs cfg x.contacts.length x.contacts cs
  let x1 := { x with contacts := x.contacts.map (carryContact cfg clock ms) }
  let x2 := x1.contacts.foldl (fun (x : TouchState) k => if 2 ≤ k.missed then x.endContact now k else x) x1
  let glove := tc cfg 0 30 1 == 1
  let free := cs.filter (fun c => !ms.any (fun p => p.2.peak == c.peak) &&
    !(match x.nodes[c.peak]? with | some k => k.held | none => false))
  let ripe := if glove then free.filter (fun c => x.cands.any (fun p => within cfg p.1 p.2 c.x c.y)) else free
  let sorted := ripe.mergeSort (fun a b => decide (b.strength ≤ a.strength))
  let room := 10 - x2.contacts.length
  let x3 := (sorted.take room).foldl (fun (x : TouchState) c => x.begin now clock glove c) x2
  { x3 with
    cands := free.map (fun c => (c.x, c.y))
    flags := if room < sorted.length then { x3.flags with overflow := true } else x3.flags }

/-- R773: COVERED and PROVISIONAL of the present contacts. -/
def TouchState.markCovered (x : TouchState) : TouchState :=
  { x with contacts := x.contacts.map (fun k =>
      let p := k.blob.any (fun n => match x.nodes[n]? with | some d => d.prov | none => false)
      { k with covered := k.covered || p, prov := p }) }

/-- R778: still contacts are absorbed. Their nodes are held until a later set finds them below THR / 2 (log entry 122). -/
def TouchState.absorb (x : TouchState) (cfg : List Word) (now clock : Nat) : TouchState :=
  let n := tc cfg 8 16 10
  if n = 0 then x
  else
    (x.contacts.filter (fun k => k.anchors.any (fun a => decide (10000 * n ≤ clock - a.at_)))).foldl (fun (x : TouchState) k =>
      let y := x.endContact now { k with absorbed := true }
      { y with nodes := y.nodes.mapIdx (fun i d =>
          if k.blob.contains i then { d with base := d.raw, last := 0, held := true, prov := false, up := 0 } else d) }) x

/-- R776, R777, R778: drift, the timers of nodes far below their baseline, release of absorbed nodes. -/
def TouchState.drift (x : TouchState) (cfg : List Word) (clock : Nat) (clean : List Bool) : TouchState :=
  let d := driveLines cfg
  let w := senseLines cfg
  let thr : Int := touchThr cfg
  { x with nodes := x.nodes.mapIdx (fun n k =>
      let touched := x.contacts.any (fun t => besideBlob d w t.blob n)
      let k1 := if clean.getD n false && !touched && decide (2 * k.last.natAbs < touchThr cfg) then
          { k with base := k.base + (k.raw - k.base).tdiv (2 ^ tc cfg 8 0 4) } else k
      { k1 with
        neg := if k.last ≤ -thr then some (k.neg.getD clock) else none
        held := k.held && decide (thr ≤ 2 * k.last) }) }

/-- R775: PROVISIONAL baselines become final after 20 s near their start values. -/
def TouchState.settleProv (x : TouchState) (cfg : List Word) (clock : Nat) : TouchState :=
  let near := x.nodes.all (fun k => !k.prov || decide (4 * (k.raw - k.start).natAbs ≤ touchThr cfg))
  if !near then { x with still := clock }
  else if 20000 ≤ clock - x.still then { x with nodes := x.nodes.map (fun k => { k with prov := false }) }
  else x

/-- R781: the sticky flags with the end of a factory capture. -/
def TouchState.newFlags (x : TouchState) : TouchFlags :=
  match x.news with
  | none => x.flags
  | some true => { x.flags with factDone := true }
  | some false => { x.flags with factFail := true }

/-- R781, R786: a report is posted; the first one after a factory capture says how it ended. -/
def State.postReport (s : State) (h : Nat) (cfg : List Word) (old new : TouchState) : State :=
  let f := new.newFlags
  let cause := new.contacts.any (·.down) || !new.ended.isEmpty || f != TouchFlags.none || old.stale != new.stale ||
    old.water != new.water || old.covered != new.covered || tc cfg 0 28 1 == 1
  let s1 := s.setTouch h { new with flags := f, news := none, seq := (new.seq + 1) % 65536, at_ := s.ticks }
  if cause then s1.raise causeTouch else s1

/-- R780, R781: sums of a rebase with the set in hand; the sets counted. -/
def TouchState.addSums (x : TouchState) (l : List (TouchNode × Bool)) : TouchState :=
  { x with sums := l.mapIdx (fun n k => x.sums.getD n 0 + k.1.raw), count := x.count + 1 }

/-- The averages, rounded. -/
def TouchState.means (x : TouchState) : List Int := x.sums.map (fun v => rdivInt v (max 1 x.count))

/-- R781: the payload of a captured BASELINE record. -/
def baselinePayload (cfg : List Word) (t : Int) (f : List Int) (old : Option (List Byte)) : List Byte :=
  let d := driveLines cfg
  let w := senseLines cfg
  leBytes 4 (d * 65536 + w) ++ leBytes 2 (codeOf 16 t) ++ leBytes 2 0 ++ f.flatMap (fun v => leBytes 2 (codeOf 16 v)) ++
    (match old with
     | some b => b.drop (8 + 2 * d * w)
     | none => (List.range (d * w)).flatMap (fun _ => leBytes 2 0x8000))

/-- R780, R781: a rebase in progress takes the set. -/
def State.rebaseStep (s : State) (h : Nat) (cfg : List Word) (x : TouchState) (l : List (TouchNode × Bool)) (bad : Bool) :
    State × TouchState :=
  if x.rebase = 0 ∨ x.writing.isSome then (s, x)
  else if x.rebase = 16 ∧ bad then (s, { x with rebase := 0, news := some false })
  else
    let y := x.addSums l
    if y.count < y.rebase then (s, y)
    else
      let m := y.means
      let z := { y with nodes := y.nodes.mapIdx (fun n (k : TouchNode) =>
        { k with
          base := m.getD n 0, prov := false, up := 0
          last := match l[n]? with | some (_, true) => clampInt (-32768) 32767 (k.raw - m.getD n 0) | _ => k.last }) }
      if y.rebase = 2 then (s, { z with rebase := 0, flags := { z.flags with rebased := true } })
      else
        let (old, s1) := s.baseline h cfg
        let ahead := (s1.etch.jobs.filter (fun j => match j.kind with | .record t _ _ => t == 0x5000 + h | _ => false)).length
        (s1.queueUpdate (0x5000 + h) 0 (baselinePayload cfg (s.panelTemp h).1 m old), { z with writing := some ahead })

/-- R761 to R782: a complete set in RUNNING: contacts, baselines, timers, report. -/
def State.runSet (s : State) (h : Nat) (g : ScanSet) : State :=
  let cfg := g.cfg
  let x0 := s.touchOf h
  let e := s.entry h
  let d := driveLines cfg
  let w := senseLines cfg
  let clock := s.touchClock
  let thr : Int := touchThr cfg
  let l := redelta (takeBases x0 (takeRaw x0.nodes g))
  let nodes := l.map (·.1)
  let clean := l.map (·.2)
  let rebased := x0.due
  let x1 := { x0 with nodes := nodes, due := false, flags := if rebased then { x0.flags with rebased := true } else x0.flags }
  let (s1, x2) := if x1.rebase = 2 then s.rebaseStep h cfg x1 l false else (s, x1)
  let el := (List.range (d * w)).filter (fun n =>
    decide (thr ≤ deltaOf x2.nodes n) ||
      (decide (3 * thr ≤ 4 * deltaOf x2.nodes n) && x2.contacts.any (fun k => besideBlob d w k.blob n)))
  let blobs := blobsOf d w el
  let wet := blobs.filter (isWater cfg x2.nodes)
  let cs := (blobs.filter (fun b => !isWater cfg x2.nodes b)).map (candidateOf cfg (entHact e) (entVact e) x2.nodes)
  let x3 := ((x2.contactsStep cfg s.ticks clock cs).markCovered).drift cfg clock clean
  let x4 := (x3.absorb cfg s.ticks clock).settleProv cfg clock
  let due := x4.nodes.any (fun k => match k.neg with | some t => decide (1000 ≤ clock - t) | none => false)
  let bad := !x4.contacts.isEmpty || !wet.isEmpty || clean.any (fun c => !c)
  let (s2, x5) := if x4.rebase = 16 then s1.rebaseStep h cfg x4 l bad else (s1, x4)
  let x6 := ({ x5 with
    due := due, stale := false, covered := x5.nodes.any (·.prov), water := !wet.isEmpty, waterNodes := (wet.map List.length).sum
    ovrNodes := (clean.filter (fun c => !c)).length, temp := (s.panelTemp h).1
    nodes := if due then x5.nodes.map (fun (k : TouchNode) => { k with neg := none }) else x5.nodes }).markCovered
  let s3 := if rebased then s2.satAdd (F.TOUCH_COUNT_REBASE_CNT h) 1 else s2
  (s3.postReport h cfg x0 x6).showProv h

/-- R770: the corrected factory baseline of node `n`. -/
def factoryBase (cfg : List Word) (t : Int) (b : List Byte) (n : Nat) : Int :=
  let v := fun a => signedOf 16 (leNat ((b.drop a).take 2))
  let at' := 8 + 2 * driveLines cfg * senseLines cfg + 2 * n
  let k := if leNat ((b.drop at').take 2) = 0x8000 then signedOf 16 (tc cfg 9 0 16) else v at'
  v (8 + 2 * n) + rdivInt (k * (t - v 4)) 128

/-- R771, R772: the power-up comparison takes a set; after the 8th the engine is RUNNING and that set makes its first report. No node has
a clean delta before it (log entry 122). -/
def State.startSet (s : State) (h : Nat) (g : ScanSet) : State :=
  let x := s.touchOf h
  let l := takeRaw x.nodes g
  let x1 : TouchState := { x with nodes := l.map (·.1) }
  let y := x1.addSums l
  if y.count < 8 then s.setTouch h y
  else
    let cfg := g.cfg
    let (factory, s1) := s.baseline h cfg
    let t := (s.panelTemp h).1
    let m := y.means
    let nodes := y.nodes.mapIdx (fun n d =>
      let a := m.getD n 0
      let k := { d with last := 0 }
      match factory with
      | some b =>
        let f := factoryBase cfg t b n
        if (touchThr cfg : Int) ≤ a - f then { k with base := f, prov := true, start := k.raw } else { k with base := a }
      | none => { k with base := a })
    let z := { y with nodes := nodes, still := s.touchClock, sums := [], count := 0 }
    ((s1.setTouch h z).setFld (F.TOUCH_STATUS_STATE h) toRunning).runSet h g

/-- R782: a set while a CAL_RUN measures: the previous report's contacts again, as they stood then, STALE, no new events. -/
def State.staleSet (s : State) (h : Nat) (g : ScanSet) : State :=
  let x := s.touchOf h
  let s1 := s.postReport h g.cfg x { x with stale := true }
  s1.setTouch h { s1.touchOf h with at_ := x.at_ }

/-- SCAN_SET_PROCESSED (R754, R758, R759, R771, R782): processing of the oldest complete set of head `h` ends. -/
def execScanSetProcessed (h : Fin 4) (s : State) : Host.Outcome State Fault Refusal :=
  .next (s.ifLive (match (s.touchOf h).ready with
    | [] => s
    | g :: t =>
      let s1 := (s.setTouch h { s.touchOf h with ready := t }).wrapAdd (F.TOUCH_COUNT_SETS h) 1
      let st := s1.touchState h
      if st = toStarting then (if s1.cal.measuring.isSome then s1 else s1.startSet h g)
      else if st = toRunning then (if s1.cal.measuring.isSome then s1.staleSet h g else s1.runSet h g)
      else s1.touchSettle h))

/-! ### Commands (R752 to R754, R779 to R786) -/

/-- R754, R757: what a new configuration does to the engine. -/
def State.touchApply (s : State) (h : Nat) (old : List Word) : State :=
  let new := s.touchCfg h
  let st := s.touchState h
  let grid := (List.range 5).any (fun k => old.getD (k + 1) 0 != new.getD (k + 1) 0) || tc old 0 25 3 != tc new 0 25 3
  if tc new 0 31 1 = 0 then
    (if st = toOff ∨ st = toStopping then s
     else (s.setFld (F.TOUCH_STATUS_STATE h) toStopping |>.setFld (F.TOUCH_STATUS_HOLD_CAUSE h) 0).touchSettle h)
  else if st = toOff then s.touchOn h
  else if st = toStopping then s
  else if grid ∧ (st = toStarting ∨ st = toRunning) then (s.enterStarting h).touchJudge h
  else
    let s1 := if tc old 0 30 1 != tc new 0 30 1 ∧ (st = toStarting ∨ st = toRunning) then s.writeTafes h new else s
    s1.touchJudge h

/-- TOUCH_CONFIG (R752 to R757). -/
def execTouchConfig (s : State) : Host.Outcome State Fault Refusal :=
  .next (startCmd s (isOp 0x90) (fun s e =>
    let p := e.params
    let h := parUnit p
    let first := parBits p 0 0 4
    let ws := p.drop 1
    runtimeCmd s (decide (1 ≤ p.length) && decide (p.length ≤ 16)) (failAt 0 (decide (3 < h)))
      (failAt 0 (strayBits p 0 0xFF00000F || decide (9 < first)) ++ touchConfigFails (s.touchCfg h) first ws) true
      (let on := tc (newTouchCfg (s.touchCfg h) first ws) 0 31 1 == 1 && first == 0 && !ws.isEmpty
       if s.fld F.CAPS1_TOUCH = 0 then Res.stat s 0x05
       else if on && !s.bit F.BOOT_STATUS_STYLUS_RUN then Res.refuse s.draw.2 0x0D 0 (s.draw.1 % 256)
       else
         let old := s.touchCfg h
         let s1 := s.each (List.range ws.length) (fun s i => s.wr (0x140000 + 0x100 * h + 4 * (first + i)) (ws.getD i 0))
         let deferred := on && s.touchState h == toStopping
         Res.stat (s1.touchApply h old) (if deferred then stDeferred else stOk))))

/-- Table 16-5: an entry. -/
def entryWords (now : Nat) (touching : Bool) (k : Contact) : List Word :=
  let b := fun (v : Bool) (n : Nat) => if v then 2 ^ n else 0
  let ms := if touching then now - k.born else k.dur
  [BitVec.ofNat 32 (k.id * 2 ^ 28 + b touching 27 + b k.down 26 + b (!touching) 25 + b k.glove 24 + b k.covered 23 + b k.prov 22 +
      b k.absorbed 21 + min 65535 k.strength),
    BitVec.ofNat 32 (k.x % 65536 * 65536 + k.y % 65536),
    BitVec.ofNat 32 (min 255 k.area * 2 ^ 24 + min 0xFFFFFF (ms / 10))]

def byId (l : List Contact) : List Contact := l.mergeSort (fun a b => decide (a.id ≤ b.id))

/-- Table 16-5: the report of head `h`. -/
def State.reportWords (s : State) (h : Nat) : List Word :=
  let x := s.touchOf h
  let f := x.flags
  let b := fun (v : Bool) (n : Nat) => if v then 2 ^ n else 0
  [BitVec.ofNat 32 (h * 2 ^ 30 + (x.contacts.length + x.ended.length) * 2 ^ 25 + b x.stale 24 + b x.covered 23 + b f.overflow 22 +
      b f.lost 21 + b x.water 20 + b f.rebased 19 + b f.factDone 18 + b f.factFail 17 + b f.cut 16 + x.seq),
    BitVec.ofNat 32 (min 255 x.waterNodes * 2 ^ 24 + min 255 x.ovrNodes * 2 ^ 16 + codeOf 8 (rdivInt x.temp 8) * 256 + s.touchState h)] ++
    (byId x.contacts).flatMap (entryWords x.at_ true) ++ (byId x.ended).flatMap (entryWords x.at_ false)

/-- R785: a read frees ended IDs and clears events and sticky flags. -/
def State.reportRead (s : State) (h : Nat) : State :=
  let x := s.touchOf h
  s.setTouch h { x with contacts := x.contacts.map (fun k => { k with down := false }), ended := [], flags := TouchFlags.none }

/-- TOUCH_READ (R784 to R786). -/
def execTouchRead (s : State) : Host.Outcome State Fault Refusal :=
  .next (startCmd s (isOp 0x91) (fun s e =>
    runtimeCmd s e.params.isEmpty [] [] true
      (let on := [0, 1, 2, 3].filter (fun h => s.touchState h != toOff)
       .done ((s.each on State.reportRead).setFld F.CW_IRQ_STATUS_TOUCH 0) stOk (on.flatMap s.reportWords))))

/-- R780: a host rebase begins. -/
def State.hostRebase (s : State) (h : Nat) : State :=
  let x := (s.touchOf h).endAll s.ticks
  (s.setTouch h { x with rebase := 2, sums := [], count := 0 })

/-- TOUCH_REBASE (R779 to R781). -/
def execTouchRebase (s : State) : Host.Outcome State Fault Refusal :=
  .next (startCmd s (isOp 0x92) (fun s e =>
    let p := e.params
    let h := parUnit p
    let factory := parBits p 0 0 1 == 1
    runtimeCmd s (p.length == 1) (failAt 0 (decide (3 < h))) (failAt 0 (strayBits p 0 0xFF000001)) true
      (if s.touchState h != toRunning then Res.refuse s 0x06 h (s.touchState h)
       else if factory && !s.p1Present then Res.stat s stPresenceRequired
       else if (s.touchOf h).rebase != 0 then Res.stat s stBusy
       else .done (if factory then s.setTouch h { s.touchOf h with rebase := 16, sums := [], count := 0 } else s.hostRebase h)
         stAccepted [])))

/-- R783: SOFT_RESET. A record that is being written goes on without a report. -/
def State.touchSoftReset (s : State) : State :=
  s.each [0, 1, 2, 3] (fun s h =>
    let x := { TouchState.reset with seq := (s.touchOf h).seq }
    ((((s.setTouch h x).setFld (F.TOUCH_STATUS_STATE h) toOff).setFld (F.TOUCH_STATUS_HOLD_CAUSE h) 0).setFld
      (F.TOUCH_STATUS_PROVISIONAL_ANY h) 0))

end Sys2Proof.Machine
end

