-- ==== Sys2Proof/Machine/Entry.lean ====
section
/-! DEFINITION. Operations of the power chapter that other rows share: the levels in force (R613, R856), the suspension of Etch
writes (R359 to R362, R857), domains that come up and shut down (R842 to R849), the steps of an entry (R825 to R829). -/

namespace Sys2Proof.Machine

def State.setPwr (s : State) (p : PowerState) : State := { s with pwr := p }

/-! ### Backlight levels (R613, R856) -/

/-- R856, R859: crank ride-through or parking limits the levels. -/
def State.blLimited (s : State) : Bool := s.bit F.PWR_STATE_RIDE || s.bit F.PWR_STATE_PARKED

/-- R615: head `h` regulates its backlight current: REG is set and permitted. -/
def State.regOn (s : State) (h : Nat) : Bool :=
  s.bit (F.HEAD_BL_REG h) && s.fld (F.HEAD_BL_REG_I_FULL h) != 0 && s.prof h 8 31 1 == 0

/-- BL_NOW shows the level in force; without regulation DUTY is the level (R614). -/
def State.showLevel (s : State) (h : Nat) : State :=
  let own := (s.head h).level
  let lv := if s.blLimited then min own (s.fld F.PWR_BL_FLOOR_LEVEL) else own
  let s1 := s.setFld (F.HEAD_BL_STATUS_BL_NOW h) lv
  if s1.regOn h then s1 else s1.setFld (F.HEAD_BL_STATUS_DUTY h) lv

/-- Every level, once a limit begins or ends; the stations are told (R856). -/
def State.showLevels (s : State) : State :=
  s.each [0, 1, 2, 3] (fun s h => if s.headState h = 0 then s.showLevel h else (s.showLevel h).sendLevel h)

/-! ### The suspension of Etch writes (R359 to R362, R857) -/

/-- ETCH_STATUS.SUSPENDED: parked, crank ride-through, or DUMP. -/
def State.resuspend (s : State) : State :=
  s.setBit F.ETCH_STATUS_SUSPENDED
    (s.bit F.PWR_STATE_PARKED || s.bit F.PWR_STATE_RIDE || s.fld F.PWR_STATE_SUPPLY == 3)

/-- R359: a failed attempt under parking is not retried: its word holds no defined content (log entry 15). -/
def State.tearNext (s : State) (log : Bool) : State :=
  if log then
    (match s.etch.log with
     | some j => (match j.words with | w :: _ => s.tearWord w.addr | [] => s)
     | none => s)
  else match s.headJob with
    | some (j, t) =>
      (match j.words with
       | w :: _ => { t.tearWord w.addr with etch := { (t.tearWord w.addr).etch with jobs := j :: t.etch.jobs.tail } }
       | [] => s)
    | none => s

/-- R359: the attempt that was in progress at parking completes. -/
def State.parkedWord (s : State) (log ok : Bool) : State :=
  let s0 := s.setPwr { s.pwr with wordLeft := false }
  let s1 := if ok then s0.wordAttempt log true else (s0.tearNext log).wordEnds
  if s1.etch.jobs.length < s.etch.jobs.length then s1.setPwr { s1.pwr with cut := false } else s1

/-- R361: the update at the head of the queue is dropped; its record's winner is chosen afresh. -/
def State.dropUpdate (s : State) : State :=
  match s.etch.jobs with
  | [] => s
  | j :: t =>
    let mine := match s.etch.attempt with | some w => !w.log | none => false
    let s0 := { s with etch := { s.etch with jobs := t } }
    let s1 := (if mine then s0.wordEnds else s0).refreshBusy
    match j.kind with
    | .record type _ _ => ((s1.dropChoice type).baselineDone type false).2
    | _ => s1

/-- R361, R164: what parking cut is not resumed: the update in progress, a window write; an append starts again. -/
def State.dropCut (s : State) : State :=
  let s1 := match s.etch.log with
    | some j =>
      (match j.kind with
       | .log c was => s.endLog c (was && !s.etch.cellValid c) false
       | _ => s)
    | none => s
  let begun := match s1.etch.jobs with
    | j :: _ => j.todo.isNone && (match j.kind with | .retire _ => false | _ => true)
    | [] => false
  (if begun || (s1.pwr.cut && !s1.etch.jobs.isEmpty) then s1.dropUpdate else s1).wordEnds

/-! ### Domains (R842 to R849) -/

/-- What a domain that has come up does: analogue trims take their targets (R800), inputs restart (R435), icons return
(R530), the tables of its heads are due again (R601). -/
def State.domainUp (s : State) (n : Nat) (repair : Word) : State :=
  if s.pdState n = 2 then s
  else
    let s1 := (s.powerUp n repair).loadTrims (domainTrims n)
    if n = 10 then (s1.inputUp 0).inputUp 1
    else if n = 11 then (s1.inputUp 2).inputUp 3
    else if n = 17 then s1.iconsRestore
    else if (n = 15 ∨ n = 16) ∧ s1.runtime then
      s1.each [2 * (n - 15), 2 * (n - 15) + 1] (fun s h => if s.profiled h then s.tablesDue h else s)
    else s1

/-- R843, R849: a domain has switched off, or is retained, and what goes with it. -/
def State.domainDown (s : State) (n : Nat) : State :=
  let retain := (n == 4 || n == 5) && s.pwr.target.isSome
  let s1 := if retain then s.markDown n 5 else s.powerDown n
  if n = 10 then (s1.inputDown 0).inputDown 1
  else if n = 11 then (s1.inputDown 2).inputDown 3
  else if n = 17 then s1.iconsLost
  else if 18 ≤ n ∧ n ≤ 21 then (((s1.darken (2 * (n - 18))).darken (2 * (n - 18) + 1)).showFurled).touchJudgeAll
  else s1

/-- A domain is to go off: ON drains; WAKING waits until it is ON (R847); a deferred power-up is withdrawn. -/
def State.shutDown (s : State) (n : Nat) : State :=
  let st := s.pdState n
  if st = 2 then s.setFld (F.PWR_PD_STATE n) 3
  else if st = 1 then s.setPwr { s.pwr with offAfter := n :: s.pwr.offAfter.filter (· != n) }
  else if st = 3 ∨ st = 4 then s.setFld (F.PWR_PD_PENDING n) 0
  else s

/-- A domain is to come up: OFF starts its wake order; DRAINING or SHUTTING defers it (R847). -/
def State.wakeDomain (s : State) (n : Nat) : State :=
  let st := s.pdState n
  let s1 := s.setPwr { s.pwr with offAfter := s.pwr.offAfter.filter (· != n) }
  if st = 3 ∨ st = 4 then s1.setFld (F.PWR_PD_PENDING n) 1
  else if st = 0 ∨ st = 5 then s1.setFld (F.PWR_PD_STATE n) 1
  else s1

/-! ### The RSV copy (R323) -/

def rsvBase : Nat := 0x1F80000

/-- A Tile RAM of `n` bytes laid out at Plate offset `a`; with `d`, the value of unlisted bytes, where it is not zero. -/
def laidOut (m : List Host.Cell) (a n : Nat) (d : Option (Nat → Byte)) : List Host.Cell :=
  match d with
  | none => (m.filter (fun e => decide (e.1 < n))).map (fun e => (e.1 + a, e.2))
  | some f => ((List.range n).map (fun i => (i + a, assocGet f m i))).filter (fun e => e.2 != 0)

/-- R323, R387: the 15,872 Plate words of the RSV copy, or of its return. -/
def State.rsvCharge (s : State) : State := s.chargeLong 18 15872

/-- R315: what the copy leaves alone in RSV does not survive DEEP: its words hold nothing defined (a free value, log entry 70). -/
def State.rsvTail (s : State) : State :=
  let lost := (List.range 512).map (fun i => (rsvBase + 0x7C000 + 32 * i, s.free + 1))
  { s with
    free := s.free + 1
    plate := { s.plate with
      mem := s.plate.mem.filter (fun e => decide (e.1 < rsvBase + 0x7C000))
      flips := s.plate.flips.filter (fun e => decide (e.1 < rsvBase + 0x7C000))
      gone := s.plate.gone.filter (fun e => decide (e.1 < rsvBase)) ++ lost } }

/-- R323: Stylus RAM, LUT RAM, Coefficient RAM and Table RAM go to RSV, 496 KiB in all. -/
def State.rsvCopy (s : State) : State :=
  let t := s.tile
  let new := laidOut t.stylus rsvBase 0x40000 none ++ laidOut t.lut (rsvBase + 0x40000) 0x18000 none ++
    laidOut t.coeff (rsvBase + 0x58000) 0x4000 (if t.coeffGen = 0 then none else some t.coeffDefault) ++
    laidOut t.table (rsvBase + 0x5C000) 0x20000 (if t.tableGen = 0 then none else some t.tableDefault)
  let keep := fun a : Nat => decide (a < rsvBase) || decide (rsvBase + 0x7C000 ≤ a)
  { s with plate := { s.plate with
      mem := s.plate.mem.filter (fun e => decide (e.1 < rsvBase)) ++ new ++
        s.plate.mem.filter (fun e => decide (rsvBase + 0x7C000 ≤ e.1))
      flips := s.plate.flips.filter (fun e => keep e.1) } }

/-- The part of RSV from `a`, `n` bytes, as read (R305), by RAM offset. -/
def State.rsvPart (s : State) (a n : Nat) : List Host.Cell :=
  let bad := s.plate.flips.filter (fun e => decide (a ≤ e.1) && decide (e.1 < a + n) && !correctable (s.wrongBits e.1))
  bad.foldl (fun m e => memPut m (e.1 - a) (s.plateBytes e.1 32))
    ((s.plate.mem.filter (fun e => decide (a ≤ e.1) && decide (e.1 < a + n))).map (fun e => (e.1 - a, e.2)))

/-- R305: the ECC events of the words that the return reads as client 18. -/
def State.rsvRead (s : State) : State :=
  (s.plate.flips.filter (fun e => decide (rsvBase ≤ e.1) && decide (e.1 < rsvBase + 0x7C000))).foldl
    (fun (s : State) e => (s.plateRead 18 e.1).2) s

/-- R323: the copies go back; a RAM whose domain stays off takes none. -/
def State.rsvRestore (s0 : State) : State :=
  let s := s0.rsvRead.rsvCharge
  let t := s.tile
  let table := s.rsvPart (rsvBase + 0x5C000) 0x20000
  { s with tile := { t with
      stylus := s.rsvPart rsvBase 0x40000
      lut := s.rsvPart (rsvBase + 0x40000) 0x18000
      coeff := if s.pdOn 13 then s.rsvPart (rsvBase + 0x58000) 0x4000 else t.coeff
      coeffGen := if s.pdOn 13 then 0 else t.coeffGen
      table := if s.pdOn 16 then table else table.filter (fun e => decide (e.1 < 0x10000)) ++ t.table.filter (fun e => decide (0x10000 ≤ e.1))
      tableGen := if s.pdOn 16 then 0 else t.tableGen } }

/-! ### Entry (R825 to R829) -/

/-- Table 18-3: the domains that are off in SLEEP; in DEEP, with the two that are retained. -/
def sleepOff : List Nat := [9, 10, 11, 14, 22, 24]
def deepOff : List Nat := [1, 2, 3, 4, 5, 9, 10, 11, 12, 13, 14, 15, 16, 17, 18, 19, 20, 21, 22, 24]

/-- A chain that SLEEP entry furls (step 4 of R827). -/
def State.entryChain (s : State) (c : Nat) : Bool :=
  s.chainState c == chUnfurled && s.pdOn (laneDomain c) && s.lane c != laneFurled

/-- R617: every BL station takes level 0 before the heads stop. -/
def State.levelsOff (s : State) : State :=
  s.each [0, 1, 2, 3] (fun s h =>
    let e := s.entry h
    let a := ent e 8 24 7
    let c := a / 16
    if s.profiled h && ent e 8 31 1 == 1 && s.chainState c == chUnfurled && s.lane c == laneUnfurled then
      (s.send c (regWrite a 1 0x0013 [0])).setHead h { s.head h with blSent := some 0 }
    else s)

/-- R825, R827, R834, R837: an entry starts: WAKE_CAUSE is cleared, the configuration of the wake is latched, the run that
measures ends, the heads stop. -/
def State.startEntry (s : State) (t : Nat) : State :=
  let live := [0, 1, 2, 3].filter (fun h => s.headState h != 0)
  let s1 := ((s.setFld F.PWR_STATE_ENTERING 1).wr 0x1000C 0).setPwr
    { s.pwr with
      target := some t, step := 0, heads := live, latched := false, waking := false, digest := s.pdOn 24
      cfg := some (s.fld F.PWR_WAKE_CFG_EN, s.fld F.PWR_WAKE_CFG_TT_MASK, s.fld F.PWR_WAKE_TIMER_TIMER) }
  let s2 := (s1.calAbort 2).levelsOff
  (s2.each live (fun s h => (s.setFld (F.HEAD_CTRL_RUN h) 0).haltHead h)).touchJudgeAll

/-- One move of the entry in progress, when what it waits for has come about. -/
def State.entryStep (s : State) : State :=
  match s.pwr.target with
  | none => s
  | some t =>
    if s.pwr.step = 0 then
      (if [0, 1, 2, 3].all (fun h => s.headState h == 0) && (!s.bit F.ETCH_STATUS_BUSY || s.bit F.PWR_STATE_PARKED) then
        let s1 := s.setPwr { s.pwr with step := 1 }
        if t = 2 then
          (s1.each ((List.range 8).filter s1.entryChain) (fun s c => s.aim c laneFurled)).each (List.range 8) State.pauseRun
        else if s1.pdOn 8 then s1 else s1.wakeDomain 8
       else s)
    else if s.pwr.step = 1 then
      (if t = 2 then
        (if (List.range 8).any s.entryChain then
          s.each ((List.range 8).filter (fun c => s.entryChain c && (s.chain c).goal != some laneFurled)) (fun s c => s.aim c laneFurled)
         else (s.setPwr { s.pwr with step := 2 }).each sleepOff State.shutDown)
       else if s.pdOn 8 then (s.rsvCharge.rsvCopy.rsvTail.setPwr { s.pwr with step := 2 }).each deepOff State.shutDown
       else s)
    else if s.pwr.step = 2 then
      (if (if t = 2 then sleepOff else deepOff).all (fun n => s.pdState n == 0 || s.pdState n == 5) then
        s.setPwr { s.pwr with step := 3 } else s)
    else s

/-- Every move that is due now. -/
def State.entryProgress (s : State) : State := s.entryStep.entryStep.entryStep

/-! ### Etch word attempts -/

/-- ETCH_WORD_WRITE (R332, R333, R356, R359): an attempt completes its verify with result `ok`; `log` says that the word belongs
to the log append. -/
def execEtchWordWrite (log ok : Bool) (s : State) : Host.Outcome State Fault Refusal :=
  .next (s.ifLive (
    if s.bit F.PWR_STATE_PARKED then (if s.pwr.wordLeft && s.pdOn 9 && s.canAttempt log then s.parkedWord log ok else s)
    else if s.mayWrite then (s.wordAttempt log ok).entryProgress
    else s))

end Sys2Proof.Machine
end

