-- ==== Sys2Proof/Machine/Link.lean ====
section
/-! DEFINITION. The rows of family LINK: training, enumeration, station access, lane power, return packets (R648 to R690, R724 to
R736, R934). -/

namespace Sys2Proof.Machine

/-- The chain is in one of the states BEACON to EQ. -/
def State.training (s : State) (c : Nat) : Bool := decide (1 ≤ s.chainState c) && decide (s.chainState c ≤ 6)

/-! ### Training (R658 to R684) -/

/-- RETURN_ACTIVITY (R658, R662): 32 consecutive valid characters on the return lane of chain `c`. -/
def execReturnActivity (c : Fin 8) (s : State) : Host.Outcome State Fault Refusal :=
  .next (s.ifLive (
    if s.chainState c = chBeacon then s.setChainState c chLock
    else if s.chainState c = chAbsent ∧ (s.chain c).window then s.startAttempt c 1 chLock
    else s))

/-- TRAINING_SET (R651, R652, R668): a return training set of station 0: its character after K28.5, D21.5 or, inverted, D10.2, then S0
and S1 as corrected. `allDone`: every hop shows DONE (R679). -/
def execTrainingSet (c : Fin 8) (lead s0 s1 : Byte) (allDone : Bool) (s : State) : Host.Outcome State Fault Refusal :=
  .next (s.ifLive (if !s.training c || (lead.toNat != 0xB5 && lead.toNat != 0x4A) then s
    else
      let t := s.setBit (F.LINK_STATUS_RET_INV c) (lead.toNat == 0x4A)
      let st := s.chainState c
      if s0.toNat / 8 % 2 == 1 && s0.toNat / 16 == st && (st != chEq || (s.chain c).round % 16 == s1.toNat % 16) then
        (((t.ready c allDone).bootLevel c)).touchJudgeAll else t))

/-- A station at position `k` of a list, positions that have not answered read class 0. -/
def putStation (l : List Station) (k : Nat) (t : Station) : List Station :=
  (l ++ List.replicate (k + 1 - l.length) (⟨0, 0, 0, 0, 0⟩ : Station)).set k t

/-- R670 to R672, R680: the ENUM_ACK with END has arrived: stations, columns; then RATE, or UNFURLED in a blind start. -/
def State.counted (s : State) (c n : Nat) : State :=
  let s2 := (s.setChain c { s.chain c with stations := (s.chain c).stations.take n }).enumerated c
  (if getBits (s.chain c).cfg0 29 1 = 1 then (s2.trained c).bootLevel c else (s2.setChainState c chRate).rateStep c).touchJudgeAll

/-- R669 to R672: an ENUM_ACK: byte 0 the position, byte 1 class and END, then ID and CAPS; and what the runtime reads of CAPS2 and
TAFE_CAPS [15:0]. -/
def State.enumAck (s : State) (c : Nat) (p : RetPacket) (caps2 : Word) (minDrive : Nat) : State :=
  let pos := p.byte 0
  if pos = 0xFF then s.failAttempt c chCount failCount
  else if 16 ≤ pos then s
  else
    let w := p.words 2 2
    let s1 := s.setChain c { s.chain c with
      stations := putStation (s.chain c).stations pos ⟨p.byte 1 % 16, w.getD 0 0, w.getD 1 0, caps2, minDrive⟩ }
    if p.byte 1 / 16 % 2 = 1 then s1.counted c (pos + 1) else s1

/-- ENUM_ACK (R669 to R672, R680). The source address of a station that has no position yet is not looked at. -/
def execEnumAck (c : Fin 8) (pkt : List Byte) (caps2 : Word) (minDrive : Fin 65536) (s : State) : Host.Outcome State Fault Refusal :=
  .next (s.ifLive (if s.chainState c != chCount then s
    else match returnPacket pkt with
      | none => s.badReturn c
      | some p => if p.type = 0x02 then s.enumAck c p caps2 minDrive.val else s))

/-- RATE_SWITCH (R674): the countdown of the RATE block has ended. -/
def execRateSwitch (c : Fin 8) (s : State) : Host.Outcome State Fault Refusal :=
  .next (s.ifLive (if s.chainState c = chRate then s.rateSwitch c else s))

/-- EQ_REQ (R678, R679): a packet of position 0: tap 0 PRE or 1 POST, action 0 hold, 1 increase, 2 decrease, DONE. -/
def execEqReq (c : Fin 8) (pkt : List Byte) (s : State) : Host.Outcome State Fault Refusal :=
  .next (s.ifLive (if s.chainState c != chEq then s
    else s.packetIn c 0x04 pkt (fun p =>
      if p.src % 16 = 0 then s.eqRequest c (p.byte 0) (p.byte 1) (p.byte 2 % 2 == 1) else s)))

/-- TRAINING_STATE_TIMEOUT (R659): 10 ms in a state of BEACON to EQ. -/
def execTrainingStateTimeout (c : Fin 8) (s : State) : Host.Outcome State Fault Refusal :=
  .next (s.ifLive (if s.training c && decide ((s.chain c).stateAt + 10 ≤ s.ticks) then
    s.failAttempt c (s.chainState c) failTimeout else s))

/-- SEQUENCE_LIMIT (R660): 200 ms since the attempt began. -/
def execSequenceLimit (c : Fin 8) (s : State) : Host.Outcome State Fault Refusal :=
  .next (s.ifLive (if s.training c && decide ((s.chain c).attemptAt + 200 ≤ s.ticks) then
    s.failAttempt c (s.chainState c) failSequence else s))

/-- TRAINING_RETURN_SILENT (R660): 2 ms without a valid return character from LOCK on. -/
def execTrainingReturnSilent (c : Fin 8) (s : State) : Host.Outcome State Fault Refusal :=
  .next (s.ifLive (if s.training c && s.chainState c != chBeacon then s.failAttempt c (s.chainState c) failReturn else s))

/-- BACKOFF_EXPIRY (R661, R684). -/
def execBackoffExpiry (c : Fin 8) (s : State) : Host.Outcome State Fault Refusal :=
  .next (s.ifLive (match (s.chain c).backoff with
    | some (t, n) =>
      if s.chainState c = chDark ∧ t + n ≤ s.ticks ∧ s.pdOn (laneDomain c) then
        (if (s.chain c).next = 0 then s.becomeAbsent c else s.startAttempt c (s.chain c).next chBeacon)
      else s
    | none => s))

/-- A near-end loopback of chain `c` runs or is paused (R713). -/
def State.nearEnd (s : State) (c : Nat) : Bool :=
  s.runBusy c && (match (s.chain c).diag with | some d => d.loop && !d.station | none => false)

/-- BEACON_WINDOW_OPEN (R662, R690, R713). -/
def execBeaconWindowOpen (c : Fin 8) (s : State) : Host.Outcome State Fault Refusal :=
  .next (s.ifLive (
    let x := s.chain c
    if s.chainState c = chAbsent ∧ !x.window ∧ x.windowAt + x.beacon ≤ s.ticks ∧ !s.nearEnd c then
      ((s.setChain c { x with window := true, windowAt := s.ticks, beacon := s.beaconMs c }).loadLanes c).send c [tsBlock chBeacon 0 0, tsBlock chBeacon 1 0]
    else s))

/-- BEACON_WINDOW_CLOSE (R662): 10 ms after the window's start. -/
def execBeaconWindowClose (c : Fin 8) (s : State) : Host.Outcome State Fault Refusal :=
  .next (s.ifLive (
    let x := s.chain c
    if x.window ∧ x.windowAt + 10 ≤ s.ticks then (s.send c []).setChain c { (s.send c []).chain c with window := false } else s))

/-- RETURN_LOST (R684, R729): 2 ms without a valid return character on an UNFURLED chain that is not FURLED. -/
def execReturnLost (c : Fin 8) (s : State) : Host.Outcome State Fault Refusal :=
  .next (s.ifLive (if s.chainState c = chUnfurled ∧ s.lane c ≠ laneFurled ∧ !(s.chain c).unfurling then s.loseReturn c else s))

/-! ### Return packets of a running chain (R650, R655, R681) -/

/-- R650, R681: a STATUS packet of position `pos`: byte 1 [2] END, bytes 2 to 3 line errors, byte 4 lock losses. -/
def State.statusIn (s : State) (c : Nat) (p : RetPacket) : State :=
  let s1 := (s.satAdd (F.LINK_ERR_LINE_ERR c) (p.bytes 2 2)).satAdd (F.LINK_ERR_LOCK_LOSS c) (p.byte 4)
  if p.byte 1 / 4 % 2 = 1 ∧ p.src % 16 < s1.fld (F.LINK_STATUS_LAST_POS c) then (s1.loseStations c (p.src % 16 + 1)).touchJudgeAll else s1

/-- STATUS_PACKET (R637, R648, R650, R681). -/
def execStatusPacket (c : Fin 8) (pkt : List Byte) (s : State) : Host.Outcome State Fault Refusal :=
  .next (s.ifLive (if s.chainState c != chUnfurled then s else s.packetIn c 0x03 pkt (s.statusIn c)))

/-- The tag of the REG block that starts a station-side eye scan. -/
def eyeTag := 2

/-- R655, R711: a REG_REPLY: byte 0 the tag, byte 1 the status, then the words read. Tag 0 is the executing command's; a register that the
station does not know reads 0 (R657). -/
def State.regReplyIn (s : State) (c : Nat) (p : RetPacket) : State :=
  if p.byte 0 = 0 then
    (match s.cw.running with
     | some ⟨_, .station ch k n⟩ =>
       if ch = c ∧ k = p.src % 16 ∧ (s.chain c).access.isEmpty then
         s.finishRunning stOk (if p.byte 1 = 0 then p.words 2 n else List.replicate n 0)
       else s
     | _ => s)
  else if p.byte 0 = eyeTag then
    (match (s.chain c).diag with
     | some d => if d.station && !d.loop && d.asked && d.pos == p.src % 16 then s.setDiag c { d with asked := false, last := s.ticks } else s
     | none => s)
  else s

/-- REG_REPLY (R648, R655, R711). -/
def execRegReply (c : Fin 8) (pkt : List Byte) (s : State) : Host.Outcome State Fault Refusal :=
  .next (s.ifLive (if s.chainState c != chUnfurled then s else s.packetIn c 0x01 pkt (s.regReplyIn c)))

/-- STATION_TIMEOUT (R655, R934, R711): 2 ms since the sending of a REG block of chain `c` without its reply; `command` says whether it
was the executing command's or the eye scan's. -/
def execStationTimeout (c : Fin 8) (command : Bool) (s : State) : Host.Outcome State Fault Refusal :=
  .next (s.ifLive (
    if command then
      (match s.cw.running with
       | some ⟨_, .station ch k _⟩ =>
         if ch = c.val ∧ k < 16 ∧ (s.chain c).access.isEmpty then s.finishRunning stTimeout [] else s
       | _ => s)
    else
      (match (s.chain c).diag with
       | some d => if d.station && !d.loop && d.asked && s.runBusy c then s.endRun c runLost else s
       | none => s)))

/-! ### Commands (R663, R664, R690, R730 to R734, R934) -/

/-- R690: the bits of configuration word `k` that carry a field. -/
def chainMask (k : Nat) : Nat :=
  if k = 0 then 0xE000FFFF else if k = 1 then 0x1FFF1FFF else if k = 2 then 0x00001FFF else if k = 3 then 0x00000083
  else if k = 4 then 0x801F1F00 else 0

/-- R690: word `w` for CFG`k` fails. -/
def chainWordBad (k : Nat) (w : Word) : Bool :=
  decide (6 < k) || (w.toNat &&& (0xFFFFFFFF - chainMask k) != 0) ||
    (k == 0 && !cfg0Ok w) || (k == 1 && !cfg1Ok w) || (k == 2 && !cfg2Ok w) || (k == 4 && !cfg4Ok w)

/-- CHAIN_CONFIG (R690). -/
def execChainConfig (s : State) : Host.Outcome State Fault Refusal :=
  .next (startCmd s (isOp 0x80) (fun s e =>
    let p := e.params
    let c := parUnit p
    let first := parBits p 0 0 4
    let ws := p.drop 1
    runtimeCmd s (decide (1 ≤ p.length) && decide (p.length ≤ 8)) (failAt 0 (decide (7 < c)))
      (failAt 0 (strayBits p 0 0xFF00000F || decide (6 < first)) ++
        ((List.range ws.length).filter (fun i => chainWordBad (first + i) (ws.getD i 0))).map (· + 1)) true
      (Res.ok (s.each (List.range ws.length) (fun s i => s.wr (cfgReg c (first + i)) (ws.getD i 0))))))

/-- The chains of a mask. -/
def maskChains (m : Nat) : List Nat := (List.range 8).filter (fun c => bitsOf m c 1 == 1)

/-- CHAIN_TRAIN (R663, R664). -/
def execChainTrain (s : State) : Host.Outcome State Fault Refusal :=
  .next (startCmd s (isOp 0x81) (fun s e =>
    let p := e.params
    let l := maskChains (parUnit p)
    runtimeCmd s (p.length == 1) [] (failAt 0 (strayBits p 0 0xFF000000)) true
      (match firstOf l (fun c => !s.pdOn (laneDomain c)) with
       | some c => Res.domainOff s (laneDomain c)
       | none =>
         if l.any s.training then Res.stat s stBusy
         else .done ((s.each l State.trainChain).showFurled) stAccepted [])))

/-- R934: chain `c` can be addressed: UNFURLED, or furled by its head. -/
def State.reachable (s : State) (c : Nat) : Bool :=
  s.chainState c == chUnfurled && (s.lane c == laneUnfurled || (s.lane c == laneFurled && (s.chain c).byHead))

/-- R934: the blocks of a command go out now, or once the chain is unfurled for them. -/
def State.accessChain (s : State) (c : Nat) (b : List Block) : State :=
  let x := s.chain c
  if s.lane c = laneUnfurled ∧ x.furling.isNone then s.send c b
  else
    let s1 := s.setChain c { x with access := x.access ++ b }
    if s.lane c = laneFurled ∧ !x.unfurling then s1.startUnfurl c else s1

/-- STATION_READ (R283, R654, R655, R934). -/
def execStationRead (s : State) : Host.Outcome State Fault Refusal :=
  .next (startCmd s (isOp 0x82) (fun s e =>
    let p := e.params
    let a := parUnit p
    let n := (par p 1).toNat
    runtimeCmd s (p.length == 2) (failAt 0 (decide (0x80 ≤ a)))
      (failAt 0 (strayBits p 0 0xFF00FFFF) ++ failAt 1 (n == 0 || decide (64 < n))) true
      (if s.reachable (a / 16) then
        .wait (s.accessChain (a / 16) [regBlock a false 0 (parBits p 0 0 16) n]) (.station (a / 16) (a % 16) n)
       else Res.chainRefused s (a / 16))))

/-- STATION_WRITE (R283, R654 to R656, R934). -/
def execStationWrite (s : State) : Host.Outcome State Fault Refusal :=
  .next (startCmd s (isOp 0x83) (fun s e =>
    let p := e.params
    let a := parUnit p
    let ch := parBits p 0 20 4
    let blocks := regWrite a 0 (parBits p 0 0 16) (p.drop 1)
    runtimeCmd s (decide (2 ≤ p.length) && decide (p.length ≤ 65))
      (failAt 0 ((decide (0x80 ≤ a) && decide (a < 0xFE)) || (a == 0xFE && decide (7 < ch))))
      (failAt 0 (strayBits p 0 (if a = 0xFE then 0xFFF0FFFF else 0xFF00FFFF))) true
      (if a < 0x80 then
        (if s.reachable (a / 16) then .wait (s.accessChain (a / 16) blocks) (.station (a / 16) (a % 16) 0)
         else Res.chainRefused s (a / 16))
       else if a = 0xFE ∧ !s.reachable ch then Res.chainRefused s ch
       else
         let l := if a = 0xFE then [ch] else (List.range 8).filter s.reachable
         let s1 := s.each l (fun s c => s.accessChain c blocks)
         if s1.chains.all (fun x => x.access.isEmpty) then Res.ok s1 else .wait s1 (.station ch a 0))))

/-- R730: the lane code of CHAIN_FURL's [1:0]. -/
def furlCode (n : Nat) : Nat := n + 2

/-- R730: chain `c` keeps CHAIN_FURL with target `t` from acting. -/
def State.furlOffends (s : State) (t c : Nat) : Bool :=
  s.chainState c != chUnfurled ||
    (t != laneUnfurled && (List.range 4).any (fun h => s.boundTo c h && s.headState h != 0))

/-- CHAIN_FURL (R730 to R734). -/
def execChainFurl (s : State) : Host.Outcome State Fault Refusal :=
  .next (startCmd s (isOp 0x84) (fun s e =>
    let p := e.params
    let l := maskChains (parUnit p)
    let t := furlCode (parBits p 0 0 2)
    runtimeCmd s (p.length == 1) [] (failAt 0 (strayBits p 0 0xFF000003 || parBits p 0 0 2 == 3)) true
      (match firstOf l (s.furlOffends t) with
       | some c => Res.chainRefused s c
       | none =>
         let late := l.filter (fun c => t == laneUnfurled && (s.chain c).furling == some laneFurled)
         let s1 := s.each l (fun s c => (s.setFld (F.LINK_PWR_REQ c) t).aim c t)
         let s2 := s1.each late (fun s c => s.setFld (F.LINK_PWR_PENDING c) 1)
         if !late.isEmpty then Res.stat s2 stDeferred
         else if l.all (fun c => (s2.chain c).goal.isNone) then Res.ok s2
         else .wait s2 (.furl (parUnit p)))))

/-! ### Lane power (R724, R727, R731 to R736) -/

/-- FURL_COMPLETE (R724, R732, R736): the countdown of chain `c` has ended. -/
def execFurlComplete (c : Fin 8) (s : State) : Host.Outcome State Fault Refusal :=
  .next (s.ifLive (match (s.chain c).furling with
    | none => s
    | some t =>
      let s0 := s.send c []
      let s1 := (s0.setChain c { s0.chain c with furling := none }).setFld (F.LINK_STATUS_LANE c) t
      let s2 := if t = laneFurled then s1.satAdd (F.LINK_FURLS_COUNT c) 1 else s1
      let s3 := (s2.pauseRun c).towardGoal c
      let s4 := if !(s3.chain c).access.isEmpty ∧ t = laneFurled ∧ !(s3.chain c).unfurling then s3.startUnfurl c else s3
      ((s4.settleFurl).showFurled).entryProgress))

/-- UNFURL_COMPLETE (R727, R733, R934): 60 µs since the unfurl of chain `c` began; `tReturn` is the time to the return lock in
0.5 µs. -/
def execUnfurlComplete (c : Fin 8) (tReturn : Fin 256) (s : State) : Host.Outcome State Fault Refusal :=
  .next (s.ifLive (
    let x := s.chain c
    if !x.unfurling then s
    else
      let s0 := s.send c x.access
      let s1 := s0.setChain c { s0.chain c with unfurling := false, byHead := false, access := [] }
      let s2 := ((s1.setFld (F.LINK_STATUS_LANE c) laneUnfurled).setFld (F.LINK_PWR_T_RETURN c) tReturn.val).pauseRun c
      ((((s2.towardGoal c).settleFurl).settleBroadcast).showFurled).entryProgress))

end Sys2Proof.Machine
end

