-- ==== Sys2Proof/Machine/Diagnostics.lean ====
section
/-! DEFINITION. The rows of family DIAG: eye scans and loopbacks (R691 to R720, R741). -/

namespace Sys2Proof.Machine

/-- Sub-operation `k` of EYE_SCAN or LOOPBACK. -/
def diagSub (op k : Nat) (e : CmdEntry) : Bool := isSubOp op 16 8 k e

/-- START, and every sub-operation that does not exist (BAD_PARAM). -/
def diagStart (op : Nat) (e : CmdEntry) : Bool := isOp op e && !diagSub op 1 e && !diagSub op 2 e

/-- R692: a new run replaces the chain's previous one. -/
def State.newRun (s : State) (c : Nat) (d : DiagRun) : State :=
  let kind := if d.loop then 1 else 0
  let s1 := (((((s.setFld (F.LINK_DIAG_STATUS_KIND c) kind).setFld (F.LINK_DIAG_STATUS_STALE c) 0).setFld
    (F.LINK_DIAG_STATUS_OVERRUN c) 0).setFld (F.LINK_DIAG_STATUS_DONE_CNT c) 0).setFld (F.LINK_DIAG_STATUS_RUN_STATE c)
    runRunning).setDiag c d
  s1.pauseRun c

/-- A run that has measured nothing. -/
def DiagRun.fresh (s : State) : DiagRun :=
  { loop := false, station := false, pos := 0, sel := 0, e := 0, sp := 1, sv := 1, n := 0, recs := [], moved := false, asked := false,
    last := s.ticks, pattern := 0, target := 0, blocks := 0, check := none, errors := 0, bits := 0, sync := 0, interval := 0 }

/-! ### Eye scans (R700 to R711) -/

/-- Table 15-2: a selector that START accepts on chain `c`. -/
def State.eyeSelectorOk (s : State) (c sel : Nat) : Bool :=
  let lane := bitsOf sel 14 2
  let pos := bitsOf sel 8 4
  let side := bitsOf sel 7 1
  let n := s.fld (F.LINK_STATUS_STATIONS c)
  let fine := getBits (s.chain c).cfg0 31 1 == 1
  lane != 3 && bitsOf sel 0 7 == 0 && (bitsOf sel 12 2 == 0 || (fine && lane != 2 && bitsOf sel 12 2 != 3)) &&
    (if side = 0 then pos == 0 && lane == 2 else if lane = 2 then decide (pos + 1 < n) else decide (pos < n))

/-- R702: N. -/
def eyePoints (sp sv : Nat) : Nat := (2 * (63 / sp) + 1) * (2 * (63 / sv) + 1)

/-- EYE_SCAN_START (R691, R692, R704, R708). -/
def execEyeScanStart (s : State) : Host.Outcome State Fault Refusal :=
  .next (startCmd s (diagStart 0xB0) (fun s e =>
    let p := e.params
    let c := parUnit p
    let sel := parBits p 0 0 16
    let x := (par p 1).toNat
    runtimeCmd s (p.length == 2) (failAt 0 (decide (7 < c)))
      (failAt 0 (parBits p 0 16 8 != 0 || !s.eyeSelectorOk c sel) ++ failAt 1 (decide (x < 6) || decide (10 < x))) true
      (if s.chainState c != chUnfurled then Res.chainRefused s c
       else if s.runBusy c then Res.stat s stBusy
       else
         let sp := max 1 (s.fld (F.LINK_EYE_CFG_PHASE_STEP c))
         let sv := max 1 (s.fld (F.LINK_EYE_CFG_OFFSET_STEP c))
         let st := bitsOf sel 7 1 == 1
         let pos := bitsOf sel 8 4
         let s1 := s.newRun c { DiagRun.fresh s with
           station := st, pos := pos, sel := sel, e := x, sp := sp, sv := sv, n := eyePoints sp sv, asked := st }
         let s2 := if st then s1.sendTo c (regWrite (16 * c + pos) eyeTag 0x0020
             [BitVec.ofNat 32 (0x80000000 + bitsOf sel 14 2 * 2 ^ 28 + bitsOf sel 12 2 * 2 ^ 26 + x * 2 ^ 20 + sp * 256 + sv)]) else s1
         .done s2 stAccepted [])))

/-- R703: a record joins the Plate word being filled. -/
def State.pushRec (s : State) (c : Nat) (r : Word) : State :=
  match (s.chain c).diag with
  | none => s
  | some d =>
    let n := s.fld (F.LINK_DIAG_STATUS_DONE_CNT c) + 1
    let s1 := (s.setFld (F.LINK_DIAG_STATUS_DONE_CNT c) n).setDiag c { d with recs := d.recs ++ [r] }
    if n % 8 = 0 then s1.flushRecs c { d with recs := d.recs ++ [r] } n else s1

/-- R703: the record of a count. -/
def eyeRecord (errors : Nat) (moved : Bool) : Word :=
  BitVec.ofNat 32 ((if 0x0FFFFFFF < errors then 2 ^ 31 else 0) + (if moved then 2 ^ 30 else 0) + min 0x0FFFFFFF errors)

/-- The point of a grid: phase and offset of index `i` (R702). -/
def eyePoint (sp sv i : Nat) : Int × Int :=
  let w := 2 * (63 / sp) + 1
  (sp * (((i % w : Nat) : Int) - (63 / sp : Nat)), sv * (((i / w : Nat) : Int) - (63 / sv : Nat)))

/-- EYE_POINT_DONE (R701 to R703, R741): the present point of the host's scan completes with `errors` disagreements. -/
def execEyePointDone (c : Fin 8) (errors : Nat) (s : State) : Host.Outcome State Fault Refusal :=
  .next (s.ifLive (match (s.chain c).diag with
    | some d =>
      if d.loop || d.station || s.runState c != runRunning then s
      else
        let s1 := (s.setDiag c { d with moved := false }).pushRec c (eyeRecord errors d.moved)
        if d.n ≤ s1.fld (F.LINK_DIAG_STATUS_DONE_CNT c) then s1.endRun c runDone else s1
    | none => s))

/-- R709, Table 15-3: an EYE packet: bytes 0 to 1 the first record's index, byte 2 their number, byte 3 [0] LAST, then the records of the
scanning station; points that never arrived read as never measured (R706). -/
def State.eyeIn (s : State) (c : Nat) (p : RetPacket) : State :=
  match (s.chain c).diag with
  | some d =>
    if d.loop || !d.station || d.pos != p.src % 16 || !s.runBusy c then s
    else
      let first := p.bytes 0 2
      let done := s.fld (F.LINK_DIAG_STATUS_DONE_CNT c)
      let fresh := ((p.words 4 (p.byte 2)).drop (done - first)).take (d.n - max first done)
      let s1 := s.setDiag c { d with asked := false, last := s.ticks }
      let s2 := (List.replicate (min d.n first - done) (0xFFFFFFFF : Word) ++ fresh).foldl (fun (s : State) r => s.pushRec c r) s1
      if p.byte 3 % 2 = 1 then s2.endRun c runDone else s2
  | none => s

/-- EYE_PACKET (R648, R709). -/
def execEyePacket (c : Fin 8) (pkt : List Byte) (s : State) : Host.Outcome State Fault Refusal :=
  .next (s.ifLive (if s.chainState c != chUnfurled then s else s.packetIn c 0x06 pkt (s.eyeIn c)))

/-- EYE_PACKET_TIMEOUT (R711): no EYE packet for 2 s. -/
def execEyePacketTimeout (c : Fin 8) (s : State) : Host.Outcome State Fault Refusal :=
  .next (s.ifLive (match (s.chain c).diag with
    | some d =>
      if d.station && !d.loop && s.runState c == runRunning && decide (d.last + 2000 ≤ s.ticks) then s.endRun c runLost else s
    | none => s))

/-- R706: record `i` as RESULT returns it; a half that is off reads as zeros (R295). -/
def State.eyeResult (s : State) (c i : Nat) : Word :=
  if s.fld (F.LINK_DIAG_STATUS_DONE_CNT c) ≤ i then 0xFFFFFFFF
  else BitVec.ofNat 32 (leNat (s.plateBytes (s.fld (F.LINK_DIAG_BASE c) + 4 * i) 4))

/-- EYE_SCAN_RESULT (R285, R697, R698, R705 to R707). Where the chain's latest run is no eye scan, R285 states no reply: STATE_REFUSED (log
entry 119). -/
def execEyeScanResult (s : State) : Host.Outcome State Fault Refusal :=
  .next (startCmd s (diagSub 0xB0 1) (fun s e =>
    let p := e.params
    let c := parUnit p
    let first := parBits p 1 16 13
    let run := match (s.chain c).diag with | some d => if d.loop then none else some d | none => none
    let n := match run with | some d => d.n | none => 8192
    runtimeCmd s (p.length == 2) (failAt 0 (decide (7 < c))) (failAt 0 (parBits p 0 0 7 != 0) ++ failAt 1 (strayBits p 1 0x1FFF000F || decide (n ≤ first))) true
      (match run with
       | none => Res.chainRefused s c
       | some d =>
         if s.runBusy c then Res.stat s stBusy
         else if s.bit (F.LINK_DIAG_STATUS_OVERRUN c) then Res.stat s stOverrun
         else
           let w0 := s.runState c * 2 ^ 28 + s.fld (F.LINK_DIAG_STATUS_STALE c) * 2 ^ 27 + d.e * 2 ^ 16 + d.n
           let w1 := d.sp * 2 ^ 24 + d.sv * 2 ^ 16 + first
           let n := min d.n (first + 1022) - first
           .done (s.readLong 18 (s.fld (F.LINK_DIAG_BASE c) + 4 * first) (4 * n)) stOk ([BitVec.ofNat 32 w0, BitVec.ofNat 32 w1] ++
             (List.range n).map (fun i => s.eyeResult c (first + i))))))

/-- R285: ABORT ends the chain's run; a station is told to stop (R708). -/
def State.abortRun (s : State) (c : Nat) : State :=
  if s.runBusy c then
    let s1 := match (s.chain c).diag with
      | some d => if d.station && !d.loop then s.sendTo c (regWrite (16 * c + d.pos) 1 0x0020 [0x40000000])
        else if d.station then s.sendTo c (regWrite (16 * c + d.pos) 1 0x0022 [0]) else s
      | none => s
    s1.endRun c runAborted
  else s

/-- EYE_SCAN_ABORT (R285, R694). -/
def execEyeScanAbort (s : State) : Host.Outcome State Fault Refusal :=
  .next (startCmd s (diagSub 0xB0 2) (fun s e =>
    let p := e.params
    runtimeCmd s (p.length == 2) (failAt 0 (decide (7 < parUnit p))) (failAt 0 (parBits p 0 0 7 != 0) ++ failAt 1 (strayBits p 1 0x0000000F)) true
      (Res.ok (s.abortRun (parUnit p)))))

/-! ### Loopbacks (R712 to R720) -/

/-- Tables 15-4 and 15-5, R714: the failing words of a START. -/
def loopFails (p : List Word) : List Nat :=
  let kind := parBits p 0 12 4
  failAt 0 (parBits p 0 16 8 != 0 || decide (2 < kind) || parBits p 0 0 8 != 0 || (kind != 2 && parBits p 0 8 4 != 0)) ++
    failAt 1 (strayBits p 1 0x0000FF0F || decide (3 < parBits p 1 0 4) || decide (parBits p 1 8 4 < 6) || decide (13 < parBits p 1 8 4) ||
      parBits p 1 12 4 == 0 || decide (9 < parBits p 1 12 4))

/-- LOOPBACK_START (R691, R692, R712 to R715, R718). -/
def execLoopbackStart (s : State) : Host.Outcome State Fault Refusal :=
  .next (startCmd s (diagStart 0xB1) (fun s e =>
    let p := e.params
    let c := parUnit p
    let kind := parBits p 0 12 4
    let pos := parBits p 0 8 4
    let pat := parBits p 1 0 4
    let st := s.chainState c
    runtimeCmd s (p.length == 2) (failAt 0 (decide (7 < c))) (loopFails p) true
      (if !s.pdOn (laneDomain c) then Res.domainOff s (laneDomain c)
       else if kind = 2 ∧ !(st = chUnfurled ∧ pos < s.fld (F.LINK_STATUS_STATIONS c)) then Res.chainRefused s c
       else if kind ≠ 2 ∧ !(st = chDark ∨ st = chAbsent) then Res.chainRefused s c
       else if s.runBusy c then Res.stat s stBusy
       else
         let d := { DiagRun.fresh s with
           loop := true, station := kind == 2, pos := pos, sel := kind, pattern := pat
           target := parBits p 1 12 4 * 10 ^ parBits p 1 8 4 }
         let s1 := s.newRun c d
         .done (if kind = 2 then s1.sendTo c (regWrite (16 * c + pos) 1 0x0022 [BitVec.ofNat 32 (0x80000000 + pat)])
           else s1.setChain c { s1.chain c with window := false }) stAccepted [])))

/-- R716, R720: the blocks that the host's checker has received since the last look; each checks 64 bits. -/
def State.checkBlocks (s : State) (c : Nat) (rx : List (BitVec 64)) : State :=
  rx.foldl (fun (s : State) w =>
    match (s.chain c).diag with
    | some d =>
      let (e, y, g) := checkPattern d.pattern d.check w
      s.setDiag c { d with errors := d.errors + e, bits := d.bits + 64, sync := d.sync + y, check := g }
    | none => s) s

/-- R719: the errors of the run so far. -/
def State.loopErrors (s : State) (c : Nat) : Nat := match (s.chain c).diag with | some d => d.errors | none => 0

/-- R719: the record of an interval in which `n` errors occurred. -/
def State.logInterval (s : State) (c interval n : Nat) : State :=
  let k := s.fld (F.LINK_DIAG_STATUS_DONE_CNT c)
  if n = 0 ∨ 8192 ≤ k then s
  else (s.capture c (s.fld (F.LINK_DIAG_BASE c) + 8 * k) (leBytes 4 interval ++ leBytes 4 (min 0xFFFFFFFF n))).setFld
    (F.LINK_DIAG_STATUS_DONE_CNT c) (k + 1)

/-- LOOPBACK_LOG_INTERVAL (R716, R719): 1 ms of a running loopback ends. `rx`: the pattern blocks that the host's checker received in it;
`err`: LOOP_ERR as a far-end run reads it from its station. -/
def execLoopbackLogInterval (c : Fin 8) (rx : List (BitVec 64)) (err : Word) (s : State) : Host.Outcome State Fault Refusal :=
  .next (s.ifLive (match (s.chain c).diag with
    | some d =>
      if !d.loop || s.runState c != runRunning then s
      else
        let s1 := if d.station then (s.sendTo c [regBlock (16 * c.val + d.pos) false 1 0x0023 1]).setDiag c { d with errors := err.toNat }
          else s.checkBlocks c rx
        let s2 := s1.setDiag c { (s1.chain c).diag.getD d with interval := d.interval + 1 }
        s2.logInterval c d.interval (s2.loopErrors c - d.errors)
    | none => s))

/-- LOOPBACK_TARGET_REACHED (R713, R716, R718): the bit target is reached: by the blocks `rx` that the host's checker received last, or, of a
far-end run, by what its station's LOOP_ERR, LOOP_BITS_HI, LOOP_BITS_LO and LOOP_SYNC read. -/
def execLoopbackTargetReached (c : Fin 8) (rx : List (BitVec 64)) (err hi lo sync : Word) (s : State) :
    Host.Outcome State Fault Refusal :=
  .next (s.ifLive (match (s.chain c).diag with
    | some d =>
      if !d.loop || s.runState c != runRunning || (!d.station && decide (d.bits + 64 * rx.length < d.target)) then s
      else
        let a := 16 * c.val + d.pos
        let s1 := if d.station then (s.sendTo c (regBlock a false 1 0x0023 4 :: regWrite a 1 0x0022 [0])).setDiag c { d with
            errors := err.toNat, bits := hi.toNat * 2 ^ 32 + lo.toNat, sync := sync.toNat % 2 ^ 16 }
          else s.checkBlocks c rx
        s1.setFld (F.LINK_DIAG_STATUS_RUN_STATE c) runDone
    | none => s))

/-- LOOPBACK_RESULT (R285, R697, R698, R720). Where the chain's latest run is no loopback, R285 states no reply: STATE_REFUSED (log entry
119). -/
def execLoopbackResult (s : State) : Host.Outcome State Fault Refusal :=
  .next (startCmd s (diagSub 0xB1 1) (fun s e =>
    let p := e.params
    let c := parUnit p
    runtimeCmd s (p.length == 2) (failAt 0 (decide (7 < c))) (failAt 0 (parBits p 0 0 8 != 0) ++ failAt 1 (strayBits p 1 0x0000FF0F)) true
      (match (s.chain c).diag with
       | none => Res.chainRefused s c
       | some d =>
         if !d.loop then Res.chainRefused s c
         else if s.runBusy c then Res.stat s stBusy
         else if s.bit (F.LINK_DIAG_STATUS_OVERRUN c) then Res.stat s stOverrun
         else .done s stOk ([s.runState c * 2 ^ 28 + s.fld (F.LINK_DIAG_STATUS_DONE_CNT c), min 0xFFFFFFFF d.errors,
           d.bits / 2 ^ 32, d.bits, min 0xFFFFFFFF d.sync].map (BitVec.ofNat 32)))))

/-- LOOPBACK_ABORT (R285, R694). -/
def execLoopbackAbort (s : State) : Host.Outcome State Fault Refusal :=
  .next (startCmd s (diagSub 0xB1 2) (fun s e =>
    let p := e.params
    runtimeCmd s (p.length == 2) (failAt 0 (decide (7 < parUnit p))) (failAt 0 (parBits p 0 0 8 != 0) ++ failAt 1 (strayBits p 1 0x0000FF0F)) true
      (Res.ok (s.abortRun (parUnit p)))))

/-- R699: SOFT_RESET ends every run without a report. -/
def State.diagSoftReset (s : State) : State :=
  s.each (List.range 8) (fun s c =>
    (s.setChain c { s.chain c with diag := none }).setFld (F.LINK_DIAG_STATUS_RUN_STATE c) runNone)

end Sys2Proof.Machine
end

