-- ==== Sys2Proof/Machine/Frames.lean ====
section
/-! DEFINITION. The rows of family FRAME: first counted frames, line periods, frame boundaries, frame starts, urgent frames, the end of
a hold, table loads (R27, R69 to R78, R400 to R412, R571 to R576, R597 to R610, R640 to R647, R737, R935, R936). -/

namespace Sys2Proof.Machine

/-! ### Blocks of a line -/

/-- The head's chains that take blocks now: UNFURLED, and part of the present frame (R640, R685). -/
def State.carriers (s : State) (h : Nat) : List Nat := (s.chainsOf h).filter s.carries

/-- What the head's chains sent in the step before is over. -/
def State.quiet (s : State) (h : Nat) : State := s.each (s.chainsOf h) (fun s c => s.send c [])

/-- Append blocks to a chain's stream. -/
def State.emit (s : State) (c : Nat) (b : List Block) : State := s.setChain c { s.chain c with sent := (s.chain c).sent ++ b }

def State.emitAll (s : State) (h : Nat) (b : List Block) : State := s.each (s.carriers h) (fun s c => s.emit c b)

/-- Table 14-3: FRAME_START. -/
def frameStartBlock (parity phase count : Nat) : Block := ctlBlock 0x33 [parity % 2 + 2 * (phase % 4), hi8 count, count % 256]

/-- R641, R690: the columns of chain `c` within a row. -/
def State.columnsOf (s : State) (c : Nat) (row : List Pix) : List Pix :=
  (row.drop (getBits (s.chain c).cfg1 16 13)).take (getBits (s.chain c).cfg1 0 13)

/-- R640 to R642: every carrier sends the packet of line `n`; `row` is its row number and pixels, none outside DISPLAY lines. -/
def State.sendLine (s : State) (h n : Nat) (row : Option (Nat × List Pix)) : State :=
  let p := s.fld (F.HEAD_STATUS_PARITY h)
  let inv := s.prof h 3 2 2
  s.each (s.carriers h) (fun s c =>
    s.emit c (match row with
      | some (y, px) => linePacket n p inv y (pixelBlocks (s.panelBits h) (s.columnsOf c px))
      | none => linePacket n p inv 0xFFF []))

/-! ### TOUCH slots (R405, R409 to R411) -/

def State.frameOf (s : State) (h : Nat) : FrameState := (s.head h).fr
def State.setFrame (s : State) (h : Nat) (f : FrameState) : State := s.setHead h { s.head h with fr := f }

/-- R409: the line at which idle lines begin. -/
def State.idleFrom (s : State) (h : Nat) : Nat := entVtotal (s.entry h) - 1

/-- R606, R608: the line at which idle lines are planned to end; a hold ends HOLD_MAX seconds after the frame start. -/
def State.idleTo (s : State) (h : Nat) : Nat :=
  match (s.frameOf h).planned with
  | some k => s.idleFrom h + k
  | none => max (s.idleFrom h) ((entHoldMax (s.entry h) * s.lineRate h + 9) / 10)

/-- R409: the line, `n` or later, at which the next slot of the idle lines begins. -/
def State.nextSlot (s : State) (h n : Nat) : Option Nat :=
  let f := s.frameOf h
  let (g, ts) := f.tt
  if g = 0 then none
  else
    let p := max n (max (s.idleFrom h) (f.slotAt + entVtotal (s.entry h) / g))
    if p + ts < s.idleTo h then some p else none

/-- R405: a slot opens at line `n`. -/
def State.openSlot (s : State) (h n : Nat) : State :=
  let f := s.frameOf h
  let ts := f.tt.2
  let k := f.slotIndex % 256
  let s1 := s.setFrame h { f with slotAt := n, slotLeft := ts, slotIndex := k + 1 }
  let s2 := s1.each (s1.tafeChains h) (fun s c =>
    if s.lane c = laneUnfurled then s.emit c [ctlBlock 0x66 [k, hi8 ts, ts % 256]] else s)
  s2.slotOpened h k

/-- R405: the present slot closes. -/
def State.closeSlot (s : State) (h : Nat) : State :=
  let f := s.frameOf h
  (s.setFrame h { f with slotLeft := 0 }).each (s.tafeChains h) (fun s c =>
    if s.lane c = laneUnfurled then s.emit c [ctlBlock 0x78 [f.slotIndex + 255]] else s)

/-- A line period has passed: a slot whose last line it was closes; true when that happened. -/
def State.passSlot (s : State) (h : Nat) : Bool × State :=
  let f := s.frameOf h
  if f.slotLeft = 0 then (false, s)
  else if f.slotLeft = 1 then (true, s.closeSlot h)
  else (false, s.setFrame h { f with slotLeft := f.slotLeft - 1 })

/-! ### Furling between frames (R410, R411, R610) -/

def State.furlOk (s : State) (h : Nat) : Bool :=
  s.prof h 3 7 1 == 1 && (s.mode h == modeLowRate || s.mode h == modeHold)

/-- R610: the line at which unfurling for the CAL line begins. -/
def State.calUnfurl (s : State) (h : Nat) : Nat := s.idleTo h - 1 - s.unfurlLines h

/-- R410, R411: the line at which a chain with a TAFE is next unfurled, for the next slot from line `n` on or for the CAL line. -/
def State.tafeUnfurl (s : State) (h n : Nat) : Nat :=
  match s.nextSlot h n with
  | some p => min (p - s.unfurlLines h) (s.calUnfurl h)
  | none => s.calUnfurl h

/-- R610: the first idle line, `n`. A chain with a TAFE whose unfurl is due already stays UNFURLED (R410). -/
def State.idleFurl (s : State) (h n : Nat) : State :=
  if s.furlOk h && (s.mode h == modeHold || s.linesLast h (s.idleTo h - n) 500) then
    s.each (s.chainsOf h) (fun s c => if (s.tafeChains h).contains c && decide (s.tafeUnfurl h n ≤ n) then s else s.headFurl c)
  else s

/-- R410: chain `c` is unfurled for a slot. -/
def State.slotUnfurl (s : State) (c : Nat) : State :=
  let x := s.chain c
  if s.chainState c = chUnfurled ∧ x.byHead ∧ s.lane c = laneFurled ∧ !x.unfurling then
    (s.setChain c { x with forSlot := true }).headUnfurl c
  else s

/-- R411: a slot has closed at line `n`: the chains that were unfurled for it are furled again where that is worth it. -/
def State.slotFurl (s : State) (h n : Nat) : State :=
  let u := s.tafeUnfurl h n
  let worth := s.furlOk h && (s.mode h == modeHold || (decide (n < u) && s.linesLast h (u - n) 500))
  s.each ((s.tafeChains h).filter (fun c => (s.chain c).forSlot)) (fun s c =>
    let s1 := s.setChain c { s.chain c with forSlot := false }
    if worth then s1.headFurl c else s1)

/-- R410, R610: unfurls that are due at idle line `n`. -/
def State.idleUnfurl (s : State) (h n : Nat) : State :=
  let s1 := if s.calUnfurl h ≤ n then s.each (s.chainsOf h) State.headUnfurl else s
  match s1.nextSlot h n with
  | some p => if p ≤ n + s1.unfurlLines h then s1.each (s1.tafeChains h) State.slotUnfurl else s1
  | none => s1

/-- A chain of the head is furled by it, or on its way into or out of FURLED. -/
def State.headFurled (s : State) (h : Nat) : Bool :=
  (s.chainsOf h).any (fun c =>
    s.chainState c == chUnfurled && ((s.chain c).unfurling || (s.chain c).furling.isSome || (s.chain c).byHead && s.lane c == laneFurled))

/-! ### DISPLAY lines (R450 to R452, R571, R576) -/

/-- R451, R452: the direct-route lines that row `y` has used are dropped; one that has not arrived sets VC1_LATE. -/
def State.useDirect (s : State) (h y : Nat) (up : Bool) : State :=
  (s.head h).layers.foldl (fun (s : State) l =>
    match l.direct.bind (fun p => (s.input p).directOn.map (fun n => (p, n))) with
    | none => s
    | some (p, n) =>
      let k : Int := (y : Int) - l.posY
      if !l.shown || k < 0 || (l.dstH : Int) ≤ k then s
      else
        let x := s.input p
        let got := x.direct.any (fun e => e.1 == n && (e.2.1 : Int) == k)
        let used := fun (e : Nat × Nat × List Pix) => e.1 == n && (if up then (e.2.1 : Int) == k else decide ((e.2.1 : Int) ≤ k))
        let s1 := s.setInput p { x with direct := x.direct.filter (fun e => !used e) }
        if got then s1 else s1.setFld (F.IN_STATUS_VC1_LATE p) 1) s

/-- R571: the row of DISPLAY line `k`. -/
def displayRow (va k : Nat) (up : Bool) : Nat := if up then va - 1 - k else k

/-- R550: bits of the icon store that an upset flipped: icon, image, word, mask. -/
def State.upset (s : State) (l : List (Fin 32 × Fin 2 × Nat × Word)) : State :=
  l.foldl (fun (s : State) (u : Fin 32 × Fin 2 × Nat × Word) =>
    let (k, b, i, m) := u
    let x := s.icon k.val
    let img := x.imgs.toList.getD b.val []
    s.setIcon k.val { x with imgs := x.imgs.setIfInBounds b.val (img.mapIdx (fun j w => if j = i then w ^^^ m else w)) }) s

/-- R571, R576: DISPLAY line `n`: the row goes through the head, the bunting plane and the link packer. -/
def State.displayLine (s : State) (h n : Nat) (wrong : List Nat) : State :=
  let e := s.entry h
  let va := entVact e
  let up := ent e 5 31 1 == 1
  let y := displayRow va (s.frameOf h).shown up
  let bits := s.panelBits h
  let s0 := (s.fetchRow h y).fetchHistory h y
  let src := s0.sourceRow h y
  let s1 := ((s0.doneRow h y).wbRow h y src)
  let (row, s2) := s1.panelRow h y src
  let s3 := ((s2.doneHistory h y).useDirect h y up).sampleRow h va y up (s2.absentSpans h)
  let out := mergeRow (s3.head h).slots bits y row
  let s4 := (s3.sendLine h n (some (y, out))).checkRow h bits (entHact e) va y up wrong
  s4.setFrame h { s4.frameOf h with shown := (s4.frameOf h).shown + 1 }

/-! ### The CAL line (R406, R646, R737 to R741) -/

/-- R737, R741: the trims of chain `c` move one tap; a scan of the host's receiver that saw one move marks its point. -/
def State.moveTrims (s : State) (c : Nat) : State :=
  let s1 := if s.runtimeWorks then s.stepTrims (laneTrims c) else s
  let moved := [48 + c, 56 + c, 64 + c, 72 + c].any (fun e => s.applied e != s1.applied e)
  match (s1.chain c).diag with
  | some d => if moved && !d.loop && !d.station && s1.runState c == runRunning then s1.setDiag c { d with moved := true } else s1
  | none => s1

/-- R646: the CAL line: CAL first, FRAME_START of the coming frame last, the trims between them. -/
def State.calLine (s : State) (h n : Nat) : State :=
  let s1 := (s.emitAll h [ctlBlock 0x87 []]).sendLine h n none
  let s2 := s1.each (s1.carriers h) State.moveTrims
  s2.emitAll h [frameStartBlock (s2.nextParity h) (s2.nextPhase h) ((s2.frameOf h).count + 1)]

/-! ### Line periods -/

/-- Table of HEAD_x_TT_STATUS: the present line and its kind; idle lines show as BLANK. -/
def State.showLine (s : State) (h n kind : Nat) (idle : Bool) : State :=
  ((s.setFld (F.HEAD_TT_STATUS_LINE h) (min n 65535)).setFld (F.HEAD_TT_STATUS_KIND h) kind).setBit (F.HEAD_STATUS_IDLE h) idle

/-- A line of kind DISPLAY, TOUCH or BLANK of the frame's own layout. -/
def State.layoutLine (s : State) (h n : Nat) (wrong : List Nat) : State :=
  let e := s.entry h
  let (g, ts) := (s.frameOf h).tt
  let kind := lineKind (entVact e) (entVtotal e) g ts n
  let s1 := s.showLine h n kind false
  if kind = kindDisplay then s1.displayLine h n wrong
  else
    let s2 := if kind = kindTouch ∧ (s1.frameOf h).slotLeft = 0 then s1.openSlot h n else s1
    s2.sendLine h n none

/-- R409, R410, R610: idle line `n`; `closed` says that a slot has just closed (R411). -/
def State.idleLine (s : State) (h n : Nat) (closed : Bool) : State :=
  let f := s.frameOf h
  let s0 := (s.showLine h n kindBlank true).setFrame h { f with idle := f.idle + 1 }
  let s1 := if f.idle = 0 then s0.idleFurl h n else s0
  let s2 := if closed then s1.slotFurl h n else s1
  let s3 := s2.idleUnfurl h n
  let s4 := if (s3.frameOf h).slotLeft = 0 ∧ s3.nextSlot h n = some n then (s3.openSlot h n).setFld (F.HEAD_TT_STATUS_KIND h) kindTouch
    else if (s3.frameOf h).slotLeft ≠ 0 then s3.setFld (F.HEAD_TT_STATUS_KIND h) kindTouch else s3
  s4.sendLine h n none

/-- R606, R608, R936: another idle line follows before the CAL line. -/
def State.moreIdle (s : State) (h : Nat) : Bool :=
  let x := s.head h
  if x.fr.idle = 0 && x.event then false
  else match x.fr.planned with
    | some k => decide (x.fr.idle < k)
    | none => !x.fr.holdOver

/-- The next line period of the present frame. -/
def State.nextLine (s : State) (h : Nat) (wrong : List Nat) : State :=
  let n := (s.frameOf h).next
  let (closed, s1) := (s.quiet h).passSlot h
  let s2 := if (s1.frameOf h).early && n == 0 then
      s1.emitAll h [frameStartBlock (s1.fld (F.HEAD_STATUS_PARITY h)) (s1.fld (F.HEAD_STATUS_FPHASE h)) (s1.frameOf h).count] else s1
  let s3 := s2.setFrame h { s2.frameOf h with next := n + 1 }
  if n < s3.idleFrom h then s3.layoutLine h n wrong
  else if s3.moreIdle h then s3.idleLine h n closed
  else if s3.headFurled h then (s3.idleLine h n closed).each (s3.chainsOf h) State.headUnfurl
  else (s3.showLine h n kindCal false).calLine h n

/-- The CAL line of the present frame has begun. -/
def State.calBegun (s : State) (h : Nat) : Bool := s.fld (F.HEAD_TT_STATUS_KIND h) == kindCal

/-- The line at whose end the frame boundary falls (R404). -/
def State.lastActive (s : State) (h : Nat) : Nat := boundaryLine (entVact (s.entry h)) (s.frameOf h).tt.1 (s.frameOf h).tt.2

/-- R562: the head stops; the line that it was in is its last. -/
def State.stopNow (s : State) (h : Nat) : State :=
  let s1 := if (s.frameOf h).slotLeft = 0 then s.quiet h else (s.quiet h).closeSlot h
  (((s1.stopHead h).showFurled).touchJudge h).entryProgress

/-- LINE_PERIOD (R400): head `h` begins its next line period. `wrong` lists the slots whose merged output came out wrong, `upsets` the
bits of the icon store that flipped (R550). During idle lines, an urgent request ends them instead (R412), and a STOPPING head
stops (R562). -/
def execLinePeriod (h : Fin 4) (wrong : List Nat) (upsets : List (Fin 32 × Fin 2 × Nat × Word)) (s : State) :
    Host.Outcome State Fault Refusal :=
  .next (s.ifLive (
    let f := s.frameOf h
    if !s.headRunning h || !f.on || s.calBegun h || (!(s.head h).blank && decide (s.lastActive h < f.next)) then s
    else if s.bit (F.HEAD_STATUS_IDLE h) && s.headState h == 3 then s.stopNow h
    else if s.bit (F.HEAD_STATUS_IDLE h) && (s.head h).event then
      (if s.headFurled h then
        let (closed, s1) := (s.quiet h).passSlot h
        ((s1.setFrame h { s1.frameOf h with next := f.next + 1 }).idleLine h f.next closed).each (s1.chainsOf h) State.headUnfurl
       else s)
    else (s.upset upsets).nextLine h wrong))

/-! ### Frame boundaries and frame starts -/

/-- R71: the first stand-alone frame has reached its boundary; T_US is free below the tick (log entry 1). -/
def State.firstFrame (s : State) (h : Nat) : State :=
  if h = 0 ∧ s.standAlone ∧ !s.bit F.BOOT_SA_STATUS_FIRST_FRAME then
    let (v, s1) := s.draw
    (s1.setFld F.BOOT_SA_STATUS_FIRST_FRAME 1).setFld F.BOOT_T_FIRST_FRAME_T_US (max 1 (1000 * s.ticks + v % 1000))
  else s

/-- R388: the refusals of the frame just sent no longer matter, nor what was read for it: its layers' fetches, its history reads, its
scan-out. -/
def State.dropRefused (s : State) (h : Nat) : State :=
  let size := histPitch (entHact (s.entry h)) * entVact (s.entry h)
  let mine := fun (c a : Nat) =>
    c == 2 + h || (s.head h).layers.any (fun l => c == 7 + l.layer) ||
      (c == 6 && [0, 1].any (fun i => decide (s.histBase h i ≤ a + 31) && decide (a < s.histBase h i + size)))
  { s with pba := { s.pba with
      refused := s.pba.refused.filter (fun r => !mine r.1 r.2)
      fetched := s.pba.fetched.filter (fun r => !mine r.1 r.2) } }

/-- R27, R28: what happens at a boundary of a counted frame. -/
def State.boundary (s : State) (h : Nat) : State :=
  let s1 := ((((s.setHead h { s.head h with blank := true }).seeTimetable h).wbFrameEnd h).odFrameEnd h).dropRefused h
  (if h = 0 then s1.faultReady else s1).firstFrame h

/-- R80: an uncounted frame of head A starts right behind its boundary. -/
def State.saUncounted (s : State) : State := if s.headState 0 = 1 then s.saDrop else s

/-- R28, R29, R562: what happens at any boundary, counted or not. -/
def State.anyBoundary (s : State) (h : Nat) : State :=
  let s0 := if h = 0 then s.edge else s
  let s1 := if h = 0 ∧ s0.standAlone then s0.saSelect.saUncounted else s0
  if s1.headState h = 3 then s1.stopNow h else s1.touchJudge h

/-- FRAME_BOUNDARY (R27, R70): the last active line of head `h` has left, or its uncounted frame ends. -/
def execFrameBoundary (h : Fin 4) (s : State) : Host.Outcome State Fault Refusal :=
  .next (s.ifLive (
    let f := s.frameOf h
    if s.headRunning h && f.on then
      (if (s.head h).blank || f.next != s.lastActive h + 1 then s else (s.boundary h).anyBoundary h)
    else if s.headState h = 1 ∨ s.headState h = 3 then s.anyBoundary h
    else s))

/-- FIRST_COUNTED_FRAME (R69, R403, R560, R569, R935): head `h` is STARTING, its chains are ready, its tables are loaded. -/
def execFirstCountedFrame (h : Fin 4) (s : State) : Host.Outcome State Fault Refusal :=
  .next (s.ifLive (
    if s.headState h = 1 ∧ s.chainsReady h ∧ (s.head h).od.due.isEmpty then
      (((((s.setFld (F.HEAD_STATUS_STATE h) 2).quiet h).seeTimetable h).startFrame h true).sendLevel h).touchJudge h
    else s))

/-- FRAME_START (R445, R489, R573, R597): the CAL line of head `h` ends and the next frame begins. -/
def execFrameStart (h : Fin 4) (s : State) : Host.Outcome State Fault Refusal :=
  .next (s.ifLive (
    if s.headRunning h ∧ (s.frameOf h).on ∧ s.calBegun h then
      (((s.quiet h).startFrame h false).sendLevel h).touchJudge h
    else s))

/-- URGENT_FRAME_START (R412, R607, R935): idle lines end at a line-period boundary; furled lanes unfurl first. -/
def execUrgentFrameStart (h : Fin 4) (s : State) : Host.Outcome State Fault Refusal :=
  .next (s.ifLive (
    if s.headState h != 2 || !(s.frameOf h).on || !s.bit (F.HEAD_STATUS_IDLE h) || !(s.head h).event then s
    else if s.headFurled h then s.each (s.chainsOf h) State.headUnfurl
    else
      let s1 := if (s.frameOf h).slotLeft = 0 then s.quiet h else (s.quiet h).closeSlot h
      ((s1.startFrame h true).sendLevel h).touchJudge h))

/-- HOLD_MAX_EXPIRY (R608): HOLD_MAX seconds since the frame start of head `h` in HOLD. -/
def execHoldMaxExpiry (h : Fin 4) (s : State) : Host.Outcome State Fault Refusal :=
  .next (s.ifLive (
    let f := s.frameOf h
    if s.headRunning h ∧ f.on ∧ f.planned.isNone ∧ f.at_ + 1000 * entHoldMax (s.entry h) ≤ s.ticks then
      s.setFrame h { f with holdOver := true }
    else s))

/-- TABLE_LOAD (R601 to R603): a load of head `h` that is due: sets 0 to 4, or 5 for Hatch. -/
def execTableLoad (h : Fin 4) (k : Fin 6) (s : State) : Host.Outcome State Fault Refusal :=
  .next (s.ifLive (
    if s.runtimeWorks ∧ (s.head h).od.due.contains k.val ∧ !s.areaUsed h k ∧ s.pdOn (15 + h.val / 2) ∧ s.pdOn 9 then
      s.loadTable h k
    else s))

end Sys2Proof.Machine
end

