-- ==== Sys2Proof/Machine/HeadCommands.lean ====
section
/-! DEFINITION. HEAD_CONFIG, PANEL_PROFILE and REFRESH_MODE (R401, R560 to R569, R582, R604, R615, R937). -/

namespace Sys2Proof.Machine

/-- Config word `k` of HEAD_CONFIG: its register's offset, and the bits that carry a field. -/
def headWord (k : Nat) : Nat × Nat :=
  [(0x00, 0xF83F00FF), (0x100, 0x00000F3F), (0x10, 0x01FFFFFF), (0x14, 0x01FFFFFF), (0x24, 0x0000003F), (0x28, 0xE7FF07FF),
    (0x2C, 0xFFFFFFFF), (0x30, 0x0000FFFF)].getD k (0, 0)

def headReg (h k : Nat) : Nat := 0x80000 + 0x10000 * h + (headWord k).1

/-- R312, R401, R582, R615: config word `k` with value `w` fails by itself. -/
def State.headWordBad (s : State) (h k : Nat) (w : Word) : Bool :=
  decide (7 < k) || (w.toNat &&& (0xFFFFFFFF - (headWord k).2) != 0) ||
    (if k = 1 then
      let g := getBits w 8 4
      let ts := getBits w 0 6
      decide (8 < g) || ts == 0 || decide (32 < ts) || (s.profiled h && !ttLegal (entVact (s.entry h)) (entVtotal (s.entry h)) g ts)
    else if k = 2 ∨ k = 3 then w.toNat % 256 != 0 || decide (0x1F80000 ≤ w.toNat)
    else if k = 4 then s.surfBreaks (getBits w 0 6)
    else if k = 5 then
      decide (1024 < getBits w 16 11) || decide (1024 < getBits w 0 11) || (getBits w 30 1 == 1 && s.prof h 8 31 1 == 1)
    else false)

/-- R615: relations of words 5, 6 and 7, each charged to the highest written word that takes part. -/
def State.headRelations (s : State) (h : Nat) (p : List Word) (first : Nat) : List Nat :=
  let w := fun k => if first ≤ k ∧ k - first + 1 < p.length then par p (k - first + 1) else s.rd (headReg h k)
  let charge := fun (a b : Nat) (bad : Bool) =>
    let i := max (wordIndex p first a) (wordIndex p first b)
    if bad && i != 0 then [i] else []
  charge 5 6 (getBits (w 5) 31 1 == 1 && decide (getBits (w 6) 16 16 < getBits (w 6) 0 16)) ++
    charge 5 7 (getBits (w 5) 30 1 == 1 && getBits (w 7) 0 16 == 0)

/-- HEAD_CONFIG (R401, R560 to R564, R582, R615). -/
def execHeadConfig (s : State) : Host.Outcome State Fault Refusal :=
  .next (startCmd s (isOp 0x30) (fun s e =>
    let p := e.params
    let h := parUnit p
    let first := parBits p 0 0 4
    runtimeCmd s (decide (1 ≤ p.length) && decide (p.length ≤ 16)) (failAt 0 (decide (3 < h)))
      (failAt 0 (strayBits p 0 0xFF00000F || decide (7 < first)) ++ badWords p first (s.headWordBad h) ++ s.headRelations h p first) true
      (let ctrl := first == 0 && decide (1 < p.length)
       let run := ctrl && getBits (par p 1) 31 1 == 1
       if !s.pdOn (headDomain h) then Res.domainOff s (headDomain h)
       else if run && !s.profiled h then Res.refuse s 0x01 h 0
       else if run && decide (10000000000 < s.pixelSum h (s.comingEntry h)) then Res.stat s stOvercommit
       else
         let late := run && s.headState h == 3
         let s1 := s.each (List.range (p.length - 1)) (fun s i => s.wr (headReg h (first + i)) (par p (i + 1)))
         Res.stat ((if ctrl then s1.runWritten h else s1).touchJudge h) (if late then stDeferred else stOk))))

/-- PANEL_PROFILE's sources: an entry, none for a PROFILES record that is missing (R565). -/
def State.profileSource (s : State) (p : List Word) : Option (List Word) × State :=
  let src := parBits p 0 0 8
  if src = 0xFF then (some p.tail, s)
  else if 0x80 ≤ src then (some (romProfile (src - 0x80)), s)
  else
    let (r, s1) := s.profilesRecord
    (r.map (fun b => recordEntry b src), s1)

/-- R569: the entry goes to a STOPPED head at once, to another once it has stopped. -/
def State.takeProfile (s : State) (h : Nat) (e : List Word) : State :=
  let s1 := if s.headState h = 0 then s.applyProfile h e else (s.setHead h { s.head h with entry := some e }).haltHead h
  (s1.showFurled).touchJudgeAll

/-- PANEL_PROFILE (R239, R564 to R569, R937). -/
def execPanelProfile (s : State) : Host.Outcome State Fault Refusal :=
  .next (startCmd s (isOp 0x31) (fun s e =>
    let p := e.params
    let h := parUnit p
    let src := parBits p 0 0 8
    let inline' := src == 0xFF
    runtimeCmd s (p.length == (if src = 0xFF then 33 else 1)) (failAt 0 (decide (3 < h)))
      (failAt 0 (strayBits p 0 0xFF0000FF || !(src ≤ 7 || (decide (0x80 ≤ src) && decide (src ≤ 0x83)) || inline')) ++
        (if inline' then (entFaults p.tail).map (· + 1) else [])) true
      (let (entry, s1) := if decide (src ≤ 7) && !s.pdOn 9 then (none, s) else s.profileSource p
       if (entry.map entOk).getD true == false then Res.bad s1 0
       else if !s1.pdOn (headDomain h) then Res.domainOff s1 (headDomain h)
       else if decide (src ≤ 7) && !s1.pdOn 9 then Res.domainOff s1 9
       else match entry with
       | none => Res.refuse s1 0x08 2 2
       | some w =>
         match firstOf (List.range 8) (fun c => entNames w c && !s1.pdOn (laneDomain c)) with
         | some c => Res.domainOff s1 (laneDomain c)
         | none =>
           if s1.headState h != 0 && decide (10000000000 < s1.pixelSum h w) then Res.stat s1 stOvercommit
           else Res.ok (s1.takeProfile h w))))

/-- R604: SELF's surface fits head `h`. -/
def State.selfSurfOk (s : State) (h : Nat) : Bool :=
  let d := s.regDesc (s.fld (F.HEAD_SELF_SURF h))
  d.valid && [0, 1, 2, 3, 5].contains d.fmt && d.width == entHact (s.entry h) && d.height == entVact (s.entry h)

/-- REFRESH_MODE (R254, R604, R605, R607). -/
def execRefreshMode (s : State) : Host.Outcome State Fault Refusal :=
  .next (startCmd s (isOp 0x32) (fun s e =>
    let p := e.params
    let h := parUnit p
    let m := parBits p 0 0 2
    let rate := parBits p 1 0 16
    let known := s.profiled h
    let low := m == modeLowRate
    runtimeCmd s (p.length == 2) (failAt 0 (decide (3 < h)))
      (failAt 0 (strayBits p 0 0xFF000003 || (m == modeSelf && known && !s.selfSurfOk h)) ++
        failAt 1 (strayBits p 1 0x0000FFFF || (!low && rate != 0) ||
          (low && known && (decide (rate < entRateMin (s.entry h)) || decide (entRate (s.entry h) < rate))))) true
      (let permitted := m == modeNormal ||
         (known && s.prof h 3 (if m = modeLowRate then 5 else if m = modeSelf then 6 else 4) 1 == 1)
       if !s.pdOn (headDomain h) then Res.domainOff s (headDomain h)
       else if !permitted then Res.refuse s 0x01 h (s.headState h)
       else
         let x := s.head h
         let s1 := (s.setFld (F.HEAD_REFRESH_MODE h) m).setFld (F.HEAD_REFRESH_LR_RATE h) rate
         let s2 := s1.setHead h { x with fr := { x.fr with modeNew := true } }
         Res.ok (if s.mode h = m then s2 else s2.headEvent h))))

end Sys2Proof.Machine
end

