-- ==== Sys2Proof/Machine/Regions.lean ====
section
/-! DEFINITION. Regions and fences (R460 to R475): REGION_OPEN, REGION_CLOSE, REGION_CANCEL, FENCE and the steps of a commit. -/

namespace Sys2Proof.Machine

/-! ### The pool (R461, R462, R475) -/

def State.region (s : State) (r : Nat) : Region := s.regions.toList.getD r Region.free
def State.setRegion (s : State) (r : Nat) (g : Region) : State := { s with regions := s.regions.setIfInBounds r g }

/-- R462: a region's staging, rounded up to 256 bytes. -/
def Region.block (g : Region) : Nat × Nat := (g.addr, (g.len + 255) / 256 * 256)

/-- The blocks held: of handles in use, and of committed regions whose catch-up copy is still to be made. -/
def State.heldBlocks (s : State) : List (Nat × Nat) :=
  ((s.regions.toList.filter (fun g => g.st != 0)) ++ s.fences.flatMap (fun f => f.regs)).map Region.block

/-- R475: base and end of the pool, none when it breaks a rule. -/
def State.pool (s : State) : Option (Nat × Nat) :=
  let b := s.fld F.REGION_POOL_BASE_BASE
  let n := s.fld F.REGION_POOL_SIZE_SIZE * 256
  if n = 0 ∨ b % 256 ≠ 0 ∨ rsvBase < b + n then none else some (b, b + n)

/-- The free blocks, each from the end of a held block or the pool's base to the next held block: address and length. -/
def State.freeBlocks (s : State) : List (Nat × Nat) :=
  match s.pool with
  | none => []
  | some (b, e) =>
    let held := s.heldBlocks
    let starts := (b :: held.map (fun k => k.1 + k.2)).filter (fun a => a < e && held.all (fun k => a < k.1 || k.1 + k.2 ≤ a))
    starts.map (fun a => (a, (held.foldl (fun m k => if a ≤ k.1 then min m k.1 else m) e) - a))

/-- R462: first-fit: the lowest block that holds `n` bytes. -/
def State.firstFit (s : State) (n : Nat) : Option Nat :=
  s.freeBlocks.foldl (fun best k =>
    if k.2 < n then best else match best with
      | none => some k.1
      | some a => some (min a k.1)) none

/-- REGION_STATUS: handles in use, and the largest free block in units of 256 bytes. -/
def State.showRegions (s : State) : State :=
  (s.setFld F.REGION_STATUS_IN_USE (s.regions.toList.filter (fun g => g.st != 0)).length).setFld F.REGION_STATUS_FREE_MAX
    (s.freeBlocks.foldl (fun m k => max m (k.2 / 256)) 0)

/-- R475: the pool registers can be written. -/
def State.poolIdle (s : State) : Bool := s.regions.all (fun g => g.st == 0) && s.fences.isEmpty

/-- R468: the USE of a region's surface returns to 0 with its last handle and its last copy. -/
def State.settleUse (s : State) (n : Nat) : State :=
  if s.fld (F.SURF_STATUS_USE n) = 1 ∧ !s.regions.any (fun g => g.st != 0 && g.surf == n) ∧
      !s.fences.any (fun f => f.regs.any (fun g => g.surf == n)) then
    s.setFld (F.SURF_STATUS_USE n) 0
  else s

/-! ### REGION_OPEN, REGION_CLOSE, REGION_CANCEL -/

/-- R474: the region's handle and staging are freed; bytes still on their way to it go nowhere. -/
def State.cancelRegion (s : State) (r : Nat) : State :=
  let n := (s.region r).surf
  let s1 := s.setRegion r Region.free
  ({ s1 with
      cancelled := true
      cw := { s1.cw with pushBuf := s1.cw.pushBuf.filter (fun i => i.region != r) } }).settleUse n

/-- R227: every push accepted for region `r` before the command was queued has left the push buffer. -/
def State.drained (s : State) (e : CmdEntry) (r : Nat) : Bool :=
  s.cw.pushBuf.all (fun i => i.region != r || decide (e.atPush ≤ i.serial))

/-- R460: the failing words of REGION_OPEN for surface `n`. -/
def State.openFails (s : State) (p : List Word) (n : Nat) : List Nat :=
  let d := s.regDesc n
  let x := parBits p 1 16 16
  let y := parBits p 1 0 16
  let w := parBits p 2 16 16
  let h := parBits p 2 0 16
  failAt 0 (strayBits p 0 0xFF000001 || !d.valid || d.nbuf != 2 || decide (2 ≤ s.fld (F.SURF_STATUS_USE n))) ++
    failAt 1 (d.fmt == 8 && x % 2 == 1) ++
    failAt 2 (w == 0 || h == 0 || decide (d.width < x + w) || decide (d.height < y + h) || (d.fmt == 8 && w % 2 == 1))

/-- R462: surface `n` becomes a region target; its FRONT buffer is shown. -/
def State.takeSurface (s : State) (n : Nat) : State :=
  let s1 := s.setFld (F.SURF_STATUS_USE n) 1
  if s1.bit (F.SURF_STATUS_FRONT_VALID n) then s1 else s1.completeBuf n (s1.fld (F.SURF_STATUS_FRONT n) % 2)

/-- R461, R462: open a region, or BUSY. -/
def State.openRegion (s : State) (n x y w h : Nat) : Res :=
  let len := w * h * fmtBytes (s.regDesc n).fmt
  match (List.range 32).find? (fun r => (s.region r).st == 0) with
  | none => .done s stBusy [0]
  | some r =>
    match s.firstFit ((len + 255) / 256 * 256) with
    | none => .done s stBusy [1]
    | some a =>
      let g : Region :=
        { st := 1, surf := n, x := x, y := y, w := w, h := h, addr := a, len := len, next := 0, order := s.openCount, fence := 0 }
      let s1 := ({ s with openCount := s.openCount + 1 }.setRegion r g).takeSurface n
      .done s1.showRegions stOk [BitVec.ofNat 32 (r * 2 ^ 24)]

/-- R473: the regions that SUPERSEDE cancels. -/
def State.superseded (s : State) (n x y w h : Nat) : List Nat :=
  (List.range 32).filter (fun r =>
    let g := s.region r
    (g.st == 1 || g.st == 2) && g.surf == n && g.x == x && g.y == y && g.w == w && g.h == h)

/-- REGION_OPEN (R460 to R462, R473). -/
def execRegionOpen (s : State) : Host.Outcome State Fault Refusal :=
  let args := fun (p : List Word) => (parUnit p, parBits p 1 16 16, parBits p 1 0 16, parBits p 2 16 16, parBits p 2 0 16)
  .next (startCmd s (fun e =>
      let (n, x, y, w, h) := args e.params
      isOp 0x50 e && (parBits e.params 0 0 1 == 0 || (s.superseded n x y w h).all (s.drained e))) (fun s e =>
    let p := e.params
    let (n, x, y, w, h) := args p
    runtimeCmd s (p.length == 3) (failAt 0 (decide (63 < n))) (s.openFails p n) true
      (let s1 := if parBits p 0 0 1 = 1 then s.each (s.superseded n x y w h) State.cancelRegion else s
       s1.openRegion n x y w h)))

/-- The command's handle is drained, or is no handle. -/
def State.handleDrained (s : State) (op : Nat) (e : CmdEntry) : Bool := isOp op e && s.drained e (parUnit e.params)

/-- REGION_CLOSE (R227, R465, R466). -/
def execRegionClose (s : State) : Host.Outcome State Fault Refusal :=
  .next (startCmd s (s.handleDrained 0x52) (fun s e =>
    let p := e.params
    let r := parUnit p
    let g := s.region r
    runtimeCmd s (p.length == 1) (failAt 0 (decide (31 < r))) (failAt 0 (strayBits p 0 0xFF000000)) true
      (if g.st != 1 then Res.refuse s 0x05 r g.st
       else if g.next < g.len then .done s stBadParam [BitVec.ofNat 32 g.next]
       else Res.ok (s.setRegion r { g with st := 2 }))))

/-- REGION_CANCEL (R227, R466, R474). -/
def execRegionCancel (s : State) : Host.Outcome State Fault Refusal :=
  .next (startCmd s (s.handleDrained 0x54) (fun s e =>
    let p := e.params
    let r := parUnit p
    let g := s.region r
    runtimeCmd s (p.length == 1) (failAt 0 (decide (31 < r))) (failAt 0 (strayBits p 0 0xFF000000)) true
      (if g.st = 1 ∨ g.st = 2 then Res.ok (s.cancelRegion r).showRegions else Res.refuse s 0x05 r g.st)))

/-! ### FENCE (R467 to R472) -/

def overlap (a b : Region) : Bool :=
  a.surf == b.surf && decide (a.x < b.x + b.w) && decide (b.x < a.x + a.w) && decide (a.y < b.y + b.h) && decide (b.y < a.y + a.h)

/-- Handles in open order. -/
def State.openOrder (s : State) : List Nat :=
  ((List.range 32).filter (fun r => (s.region r).st != 0)).mergeSort (fun a b => decide ((s.region a).order ≤ (s.region b).order))

/-- R467: the handles that a fence covers, in open order. -/
def State.coveredBy (s : State) : List Nat :=
  (s.openOrder.foldl (fun (acc : List Nat × List Region) r =>
    let g := s.region r
    if g.st = 2 ∧ acc.2.all (fun k => !overlap g k) then (acc.1 ++ [r], acc.2) else (acc.1, acc.2 ++ [g])) ([], [])).1

/-- Heads between a frame boundary and their next frame start, with their frame counts. -/
def State.blankHeads (s : State) : List (Nat × Nat) :=
  ((List.range 4).filter (fun h => s.headRunning h && (s.head h).blank)).map (fun h => (h, (s.head h).fr.count))

/-- R467, R472: the fence starts. One that covers nothing waits for the flip instant. -/
def State.startFence (s : State) : State :=
  let l := s.coveredBy
  let num := s.fenceCount + 1
  let regs := l.map (fun r => { s.region r with st := 3, fence := num })
  let s1 := (l.zip regs).foldl (fun s k => s.setRegion k.1 k.2) s
  { s1 with
    fenceCount := num, cancelled := false
    fences := s1.fences ++ [⟨num, regs, if regs.isEmpty then 1 else 0, if regs.isEmpty then s.blankHeads else [], s.cancelled, s.boot.edges, none, []⟩] }

/-- FENCE (R227, R281, R467): it starts once every push accepted before it has left the push buffer. -/
def execFence (s : State) : Host.Outcome State Fault Refusal :=
  .next (startCmd s (fun e => isOp 0x53 e && s.cw.pushBuf.all (fun i => decide (e.atPush ≤ i.serial))) (fun s e =>
    runtimeCmd s e.params.isEmpty [] [] true (.wait s.startFence (.fence (s.fenceCount + 1)))))

/-! ### Copies (R463, R468, R470) -/

/-- The back buffer of surface `n`: the one other than FRONT. -/
def State.backBuf (s : State) (n : Nat) : Nat := 1 - s.fld (F.SURF_STATUS_FRONT n) % 2

/-- R463, R292: the Plate requests that take row `y` of a region from its staging into the back buffer of its surface. -/
def State.copyRow (s : State) (g : Region) (y : Nat) : List CopyOp :=
  let d := s.regDesc g.surf
  let n := g.w * fmtBytes d.fmt
  let a := g.addr + y * n
  let b := d.lineAt (s.backBuf g.surf) (g.y + y) + g.x * fmtBytes d.fmt
  (wordsFrom a n).mapIdx (fun i w => .read w (i == 0)) ++
    (cutWords (n + 1) b (List.replicate n 0)).map (fun w => .write w.addr (a % 32 + (w.addr - b)) w.data.length)

/-- Every request of a region's copy, row by row. -/
def State.copyOps (s : State) (g : Region) : List CopyOp := (List.range g.h).flatMap (s.copyRow g)

/-- The request that a copy makes, for its cost and its Plate word. -/
def CopyOp.req : CopyOp → ReqBody
  | .read a _ => .read a
  | .write a _ n => .write a (List.replicate n 0)

/-- R292, R295, R470: one admitted request of a copy as client 17; `line` holds the staging bytes of its row read so far. -/
def State.copyStep (s : State) (line : List Byte) : CopyOp → State × List Byte
  | .read a first =>
    let old := if first then [] else line
    if s.halfOn a then
      let s1 := (s.flush 17).setCredit 17 (s.credit 17 - 1)
      ((s1.plateRead 17 a).2, old ++ (s1.plateRead 17 a).1)
    else (s.countOff, old ++ List.replicate 32 0)
  | .write a skip n =>
    if s.halfOn a then (s.serve 17 (.write a ((line.drop skip).take n)), line) else (s.countOff, line)

/-- R385, R387: request `a` of client 17 need not wait. -/
def State.goesOn (s : State) (a : ReqBody) : Bool := (s.waitingOf 17).isEmpty && (!s.halfOn (reqAddr a) || s.affords 17 a)

/-- The copy goes on while its requests need not wait. -/
def copyLoop : State → List Byte → List CopyOp → State × List Byte × List CopyOp
  | s, line, [] => (s, line, [])
  | s, line, k :: t =>
    if s.goesOn k.req then copyLoop (s.copyStep line k).1 (s.copyStep line k).2 t else (s, line, k :: t)

def FenceRun.surfs (f : FenceRun) : List Nat := (f.regs.map (fun g => g.surf)).eraseDups

def State.putFence (s : State) (f : FenceRun) : State :=
  { s with fences := s.fences.map (fun g => if g.num = f.num then f else g) }

/-- R468: step 2 has ended, and the fence waits for its flip; or step 5, and step 6 frees the staging. -/
def State.endCopy (s : State) (f : FenceRun) : State :=
  if f.step = 0 then s.putFence { f with step := 1, heads := s.blankHeads, edge := s.boot.edges, copy := none, line := [] }
  else ({ s with fences := s.fences.filter (fun g => g.num != f.num) }.each f.surfs State.settleUse).showRegions

/-- R387, R470: the copy of fence `f` goes on with the requests `l`, and waits where client 17's credit ends. -/
def State.copyFrom (s : State) (f : FenceRun) (line : List Byte) (l : List CopyOp) : State :=
  match copyLoop s line l with
  | (t, _, []) => t.endCopy f
  | (t, line', l') => (t.putFence { f with copy := some l', line := line' }).setWaiting 17 (t.waitingOf 17 ++ [.copy f.num])

/-- R387: the waiting request of the copy of fence `num`, client 17's oldest, is admitted once the credit covers it; `l` are the requests
behind it. -/
def State.copyOn (s : State) (num : Nat) (l : List ReqBody) : State :=
  match s.fences.find? (fun f => f.num == num) with
  | none => s.setWaiting 17 l
  | some f => match f.copy with
    | some (k :: t) =>
      if !s.halfOn (reqAddr k.req) || s.affords 17 k.req then
        let s1 := (s.setWaiting 17 l).copyStep f.line k
        s1.1.copyFrom f s1.2 t
      else s
    | _ => s.setWaiting 17 l

/-- The row of a copy in progress: its waiting request, where it is client 17's oldest. -/
def State.copyResume (s : State) (f : FenceRun) : State :=
  match s.waitingOf 17 with
  | .copy n :: l => if n = f.num then s.copyOn n l else s
  | _ => s

/-- FENCE_COMMIT_COPY (R468 steps 1 and 2, R470): earlier fences on the same surfaces have made their catch-up copies. -/
def execFenceCommitCopy (s : State) : Host.Outcome State Fault Refusal :=
  .next (s.ifLive (match s.fences.find? (fun f => f.step == 0) with
    | none => s
    | some f =>
      if f.copy.isSome then s.copyResume f
      else if !s.pbaRunning || s.fences.any (fun g => decide (g.num < f.num) && g.surfs.any (fun n => f.surfs.contains n)) then s
      else
        let s1 := s.each f.surfs (fun s n => s.startBuf n (s.backBuf n))
        s1.copyFrom f [] (f.regs.flatMap s1.copyOps)))

/-- R469, R29: the head whose frame boundary is the flip instant: the lowest running head that reads a covered surface, else
head A while it produces frames; none for the next system tick (R30). -/
def State.flipHead (s : State) (f : FenceRun) : Option Nat :=
  match (List.range 4).find? (fun h => s.headRunning h && f.surfs.any (s.headReads h)) with
  | some h => some h
  | none => if s.headFrames 0 then some 0 else none

/-- The flip instant has come: a boundary of the head after step 2; where that head sends no counted frames, and where there is none, the
first of the instants of R29 and R30 after step 2. -/
def State.flipDue (s : State) (f : FenceRun) : Bool :=
  match s.flipHead f with
  | none => decide (f.edge < s.boot.edges)
  | some h =>
    if s.headRunning h then (s.head h).blank && !f.heads.contains (h, (s.head h).fr.count) else decide (f.edge < s.boot.edges)

/-- R468 steps 3 and 4, R472: FRONT of every covered surface flips, the handles are free, the fence signals. -/
def State.flipFence (s : State) (f : FenceRun) : State :=
  let readers := ((List.range 4).filter (fun h => s.headRunning h && f.surfs.any (s.headShows h))).map
    (fun h => (h, (s.head h).fr.count))
  let s1 := s.each f.surfs (fun s n => s.completeBuf n (s.backBuf n))
  let s2 := s1.each (List.range 32) (fun s r => if (s.region r).st = 3 ∧ (s.region r).fence = f.num then s.setRegion r Region.free else s)
  let s3 := if f.regs.isEmpty then { s2 with fences := s2.fences.filter (fun g => g.num != f.num) }
    else s2.putFence { f with step := 2, heads := readers }
  let s4 := (s3.setFld F.REGION_FENCE_LAST f.num).showRegions
  if s4.waitsFor (.fence f.num) then
    s4.finishRunning (if f.cancelled then stCancelled else stOk) [BitVec.ofNat 32 f.num] else s4

/-- FENCE_FLIP (R468, R469, R471, R472). -/
def execFenceFlip (s : State) : Host.Outcome State Fault Refusal :=
  .next (s.ifLive (match s.fences.find? (fun f => f.step == 1) with
    | none => s
    | some f => if s.flipDue f then s.flipFence f else s))

/-- R468 step 5: every head that read a covered surface at the flip has started a frame since, or runs no longer. -/
def State.catchUpDue (s : State) (f : FenceRun) : Bool :=
  f.step == 2 && f.heads.all (fun k => !s.headRunning k.1 || (s.head k.1).fr.count != k.2)

/-- FENCE_CATCHUP_COPY (R468 steps 5 and 6, R470). -/
def execFenceCatchupCopy (s : State) : Host.Outcome State Fault Refusal :=
  .next (s.ifLive (match s.fences.find? s.catchUpDue with
    | none => s
    | some f =>
      if f.copy.isSome then s.copyResume f
      else if !s.pbaRunning then s
      else s.copyFrom f [] (f.regs.flatMap s.copyOps)))

/-- A waiting request that is no copy's. -/
def notCopy : ReqBody → Bool
  | .copy _ => false
  | _ => true

/-- R236, R269, R476: SOFT_RESET closes every region without committing it and leaves the push buffer as it is; the pool size is
0. -/
def State.regionsSoftReset (s : State) : State :=
  let used := (s.regions.toList.map (fun g => g.surf)) ++ s.fences.flatMap FenceRun.surfs
  let s1 := { s.setWaiting 17 ((s.waitingOf 17).filter notCopy) with
    regions := Vector.replicate 32 Region.free, fences := [], cancelled := false }
  ((s1.each used State.settleUse).setFld F.REGION_POOL_SIZE_SIZE 0).showRegions

end Sys2Proof.Machine
end

