-- ==== Sys2Proof/Machine/Power.lean ====
section
/-! DEFINITION. The rows of the power chapter: power states and wakes (R823 to R838), domains (R839 to R849), the vehicle supply,
crank ride-through and parking (R850 to R862), backlights (R612 to R614). -/

namespace Sys2Proof.Machine

/-! ### Crank ride-through (R854 to R857) -/

def State.rideBegin (s : State) : State :=
  let s1 := ((s.setFld F.PWR_STATE_RIDE 1).satAdd F.PWR_SUPPLY_STATUS_CRANKS 1).setPwr { s.pwr with clear := none }
  ((s1.calAbort 1).resuspend).showLevels

def State.rideEnd (s : State) : State :=
  ((s.setFld F.PWR_STATE_RIDE 0).setPwr { s.pwr with clear := none }).resuspend.showLevels

/-- CRANK_END (R854): 50 ms of conversions at or above CRANK + HYST. -/
def execCrankEnd (s : State) : Host.Outcome State Fault Refusal :=
  .next (s.ifLive (match s.pwr.clear with
    | some t => if s.bit F.PWR_STATE_RIDE && decide (t + 50 ≤ s.ticks) then s.rideEnd else s
    | none => s))

/-! ### The supply state (R851 to R853) -/

/-- R851: HYST in mV. -/
def hyst : Int := 250

/-- A conversion in mV: code 0x000 is below every threshold, 0xFFF above. -/
def supplyValue (code : Nat) (mv : Int) : Int := if code = 0 then -1000000 else if code = 0xFFF then 1000000 else mv

/-- The bands of Table 18-7 in rising order, 0 CRANK to 4 DUMP, with the lower pair of thresholds raised by `lo` and the upper pair
lowered by `hi`. -/
def State.bandOf (s : State) (v lo hi : Int) : Nat :=
  (if (s.fld F.PWR_THR0_CRANK : Int) + lo ≤ v then 1 else 0) + (if (s.fld F.PWR_THR0_LOW : Int) + lo ≤ v then 1 else 0) +
    (if (s.fld F.PWR_THR1_HIGH : Int) - hi ≤ v then 1 else 0) + (if (s.fld F.PWR_THR1_DUMP : Int) - hi ≤ v then 1 else 0)

/-- Table 18-7: the code of a band, and the band of a code. -/
def bandCode (b : Nat) : Nat := [4, 1, 0, 2, 3].getD b 0
def codeBand (c : Nat) : Nat := [2, 1, 3, 4, 0].getD c 2

/-- R851: the supply state that a conversion points to: its band when that lies further from NORMAL or beyond it, and on the way
back only what the thresholds passed by at least HYST give: a value of threshold − HYST is past it. -/
def State.supplyTarget (s : State) (v : Int) : Nat :=
  let now := codeBand (s.fld F.PWR_STATE_SUPPLY)
  let p := s.bandOf v 0 0
  if now = 2 ∨ p = now then bandCode p
  else if now < 2 then
    (if p < now ∨ 2 < p then bandCode p else bandCode (max now (s.bandOf v hyst 0)))
  else if now < p ∨ p < 2 then bandCode p
  else bandCode (min now (s.bandOf v 0 (hyst - 1)))

/-- R852: a change of supply state. -/
def State.setSupply (s : State) (c : Nat) : State :=
  let s1 := (((s.setFld F.PWR_STATE_SUPPLY c).satAdd F.PWR_SUPPLY_STATUS_CHANGES 1).raise causeSupply).resuspend
  if c = 4 ∧ s.fld F.PWR_STATE_STATE ≤ 1 ∧ !s.bit F.PWR_STATE_RIDE then s1.rideBegin else s1

/-- R851: one conversion of channel 0: four in a row that point to one state move to it. -/
def State.supplyStep (s : State) (v : Int) : State :=
  let t := s.supplyTarget v
  if t = s.fld F.PWR_STATE_SUPPLY then s.setPwr { s.pwr with cand := (0, 0) }
  else
    let n := if s.pwr.cand.1 = t then s.pwr.cand.2 + 1 else 1
    if 4 ≤ n then (s.setPwr { s.pwr with cand := (0, 0) }).setSupply t else s.setPwr { s.pwr with cand := (t, n) }

/-- R854: since when the conversions have stayed at or above CRANK + HYST. -/
def State.rideStep (s : State) (v : Int) : State :=
  if !s.bit F.PWR_STATE_RIDE then s
  else if v < (s.fld F.PWR_THR0_CRANK : Int) + hyst then s.setPwr { s.pwr with clear := none }
  else match s.pwr.clear with
    | some _ => s
    | none => s.setPwr { s.pwr with clear := some s.ticks }

/-- ADC_CONVERSION (R814 to R816, R820, R851, R852): the next channel converts to `code`. -/
def execAdcConversion (code : Fin 4096) (s : State) : Host.Outcome State Fault Refusal :=
  .next (s.ifLive (
    if !s.pdOn 23 then s
    else
      let n := s.nextChan
      let s1 := s.convert code.val
      if n != 0 then s1
      else
        let mv := s.scaled 0 (16 * code.val)
        let v := supplyValue code.val mv
        let s2 := s1.setFld F.PWR_SUPPLY_STATUS_MIN_MV (min (s1.fld F.PWR_SUPPLY_STATUS_MIN_MV) mv.toNat)
        (s2.supplyStep v).rideStep v))

/-- R853: the range of threshold `i`. -/
def thrRange (i : Nat) : Nat × Nat := [(5000, 9000), (6000, 12000), (13000, 20000), (16000, 27000)].getD i (0, 0)

/-- R853: the failing words of SUPPLY_CONFIG; a threshold too close to the one below fails in the higher word. -/
def supplyFails (p : List Word) : List Nat :=
  let v := fun i => parBits p i 0 16
  (List.range 4).filter (fun i =>
    strayBits p i 0x0000FFFF || decide (v i < (thrRange i).1) || decide ((thrRange i).2 < v i) ||
      (i != 0 && decide (v i < v (i - 1) + 500)))

/-- SUPPLY_CONFIG (R853). -/
def execSupplyConfig (s : State) : Host.Outcome State Fault Refusal :=
  .next (startCmd s (isOp 0x23) (fun s e =>
    let p := e.params
    runtimeCmd s (p.length == 4) [] (supplyFails p) false
      (Res.ok ((((s.setFld F.PWR_THR0_CRANK (parBits p 0 0 16)).setFld F.PWR_THR0_LOW (parBits p 1 0 16)).setFld
        F.PWR_THR1_HIGH (parBits p 2 0 16)).setFld F.PWR_THR1_DUMP (parBits p 3 0 16)))))

/-! ### Wakes (R832 to R838) -/

/-- WAKE_CONFIG (R832). -/
def execWakeConfig (s : State) : Host.Outcome State Fault Refusal :=
  .next (startCmd s (isOp 0x22) (fun s e =>
    let p := e.params
    runtimeCmd s (p.length == 2) [] (failAt 0 (strayBits p 0 0xFF || parBits p 0 0 1 == 0)) true
      (Res.ok (((s.setFld F.PWR_WAKE_CFG_EN (parBits p 0 0 8)).setFld F.PWR_WAKE_CFG_TT_MASK (parBits p 1 16 16)).setFld
        F.PWR_WAKE_TIMER_TIMER (parBits p 1 0 16)))))

/-- R832: the configuration in force: as latched at the entry, else the registers. -/
def State.wakeCfg (s : State) : Nat × Nat × Nat :=
  match s.pwr.cfg with
  | some c => c
  | none => (s.fld F.PWR_WAKE_CFG_EN, s.fld F.PWR_WAKE_CFG_TT_MASK, s.fld F.PWR_WAKE_TIMER_TIMER)

/-- R831, R834, R835, R837, R862: an event of source `k`. -/
def State.wakeEvent (s : State) (k : Nat) : State :=
  let st := s.fld F.PWR_STATE_STATE
  let asleep := s.pwr.target.isSome || decide (2 ≤ st)
  if k != 0 && bitsOf s.wakeCfg.1 k 1 == 0 then s
  else if !asleep && st != 1 then s
  else
    let s1 := s.setFld F.WAKE_CAUSE_SOURCES (s.fld F.WAKE_CAUSE_SOURCES ||| 2 ^ k)
    if !asleep || s.pwr.waking then s1
    else if s.pwr.target.isSome || s.bit F.PWR_STATE_PARKED then s1.setPwr { s1.pwr with latched := true }
    else s1.setPwr { s1.pwr with waking := true }

/-- WAKE_EVENT (R832, R834): source `k` of Table 18-2; for TT, the pin. The timer has its own row. -/
def execWakeEvent (k : Fin 8) (pin : Fin 16) (s : State) : Host.Outcome State Fault Refusal :=
  .next (s.ifLive (
    if k.val = 6 ∨ (k.val = 2 ∧ bitsOf s.wakeCfg.2.1 pin.val 1 = 0) then s else s.wakeEvent k.val))

/-- WAKE_TIMER_EXPIRY (R832): TIMER seconds since the entry completed, within the 5 % of the ring oscillator. -/
def execWakeTimerExpiry (s : State) : Host.Outcome State Fault Refusal :=
  .next (s.ifLive (
    if s.pwr.target.isNone ∧ 2 ≤ s.fld F.PWR_STATE_STATE ∧ s.wakeCfg.2.2 ≠ 0 ∧ s.pwr.slept + 950 * s.wakeCfg.2.2 ≤ s.ticks then
      s.wakeEvent 6 else s))

/-- R834, R862: a latched wake is replayed. -/
def State.replay (s : State) : State :=
  if s.pwr.latched && !s.bit F.PWR_STATE_PARKED then
    (s.setFld F.WAKE_CAUSE_REPLAYED 1).setPwr { s.pwr with latched := false, waking := true }
  else s

/-- Table 18-3: the domains that are always on in RUN. -/
def runOn : List Nat := [1, 2, 3, 4, 5, 6, 7, 9, 12, 15, 17, 23]

/-- The domains that DOMAIN_CTRL may switch. -/
def switchable : List Nat := [8, 10, 11, 13, 14, 16, 18, 19, 20, 21, 22]

/-- R836: a head that was not STOPPED at entry starts again; its chains unfurl after SLEEP and retrain after DEEP. -/
def State.restart (s : State) (deep : Bool) (h : Nat) : State :=
  let s1 := s.each (s.chainsOf h) (fun s c =>
    if deep then (if s.pdOn (laneDomain c) then s.trainChain c else s)
    else if s.chainState c = chUnfurled then s.aim c laneUnfurled else s)
  let s2 := s1.setFld (F.HEAD_CTRL_RUN h) 1
  if s2.headState h = 0 ∧ s2.profiled h then s2.startHead h else s2

/-- WAKE_COMPLETE (R301, R323, R530, R835 to R837, R870, R872, R873): the exit steps end in RUN. -/
def execWakeComplete (s : State) : Host.Outcome State Fault Refusal :=
  .next (s.ifLive (
    if !s.pwr.waking then s
    else
      let from' := s.fld F.PWR_STATE_STATE
      let deep := from' == 3
      let p := s.pwr
      let on := runOn ++ switchable.filter (fun n => s.bit (F.PWR_PD_HOST_ON n)) ++ (if p.digest then [24] else []) ++
        (if deep then [8] else [])
      let s1 := s.each on (fun s n => s.domainUp n 0)
      let s2 := if deep then (if s1.pbaRunning then s1 else s1.sweepAll.pbaStart).rsvRestore else s1
      let s3 := (((s2.setFld F.PWR_STATE_STATE 0).setFld F.WAKE_CAUSE_FROM from').setPwr
        { s2.pwr with waking := false, latched := false, cfg := none, heads := [] }).raise causeWake
      let s4 := if deep && !s3.bit (F.PWR_PD_HOST_ON 8) then s3.shutDown 8 else s3
      let s5 := if s4.fld F.PWR_STATE_SUPPLY = 4 ∧ !s4.bit F.PWR_STATE_RIDE then s4.rideBegin else s4
      ((s5.each p.heads (fun s h => s.restart deep h)).each (List.range 8) State.pauseRun).showFurled.touchJudgeAll))

/-! ### Power states (R825 to R830) -/

/-- POWER_STATE (R825, R826). -/
def execPowerState (s : State) : Host.Outcome State Fault Refusal :=
  .next (startCmd s (isOp 0x20) (fun s e =>
    let p := e.params
    let t := parBits p 0 0 4
    runtimeCmd s (p.length == 1) [] (failAt 0 (strayBits p 0 0xF || decide (4 < t))) true
      (if t = s.fld F.PWR_STATE_STATE then Res.ok s
       else if t ≤ 1 then Res.ok (s.setFld F.PWR_STATE_STATE t)
       else .done (s.startEntry t).entryProgress stAccepted [])))

/-- R829, R833: the AO domain is down: all contents are lost but the fuses and the Etch store. -/
def State.switchedOff (s : State) : State :=
  { State.reset with
    off := true, pending := s.pending, free := s.free, fuses := s.fuses
    etch := { EtchState.reset with mem := s.etch.mem, flips := s.etch.flips } }

/-- POWER_ENTRY_COMPLETE (R827 to R830, R834): the last step is over. Crank ride-through belongs to RUN and IDLE and ends here; in
DEEP the PBA stops (R381), every row is refreshed (R301) and the band of self-refresh is chosen (R300). -/
def execPowerEntryComplete (s : State) : Host.Outcome State Fault Refusal :=
  .next (s.ifLive (
    let s0 := s.entryProgress
    match s0.pwr.target with
    | none => s0
    | some t =>
      if s0.pwr.step != 3 then s0
      else if t = 4 then s0.switchedOff
      else
        let s1 := ((s0.setFld F.PWR_STATE_STATE t).setFld F.PWR_STATE_ENTERING 0).setPwr { s0.pwr with target := none, step := 0, slept := s0.ticks }
        let s2 := if s1.bit F.PWR_STATE_RIDE then s1.rideEnd else s1
        let s3 := if t = 3 ∧ s2.pbaRunning then s2.pbaStop.sweepAll.enterBand else s2
        s3.replay))

/-! ### DOMAIN_CTRL and domains (R842 to R849) -/

/-- R846: domain PDn holds a unit in use. Of the layers, L4 to L7 ignore DST (R484) and use no scaler (log entry 115). -/
def State.domainInUse (s : State) (n : Nat) : Bool :=
  if n = 16 then s.headState 2 != 0 || s.headState 3 != 0
  else if 18 ≤ n ∧ n ≤ 21 then
    [2 * (n - 18), 2 * (n - 18) + 1].any (fun c => (List.range 4).any (fun h => s.boundTo c h && s.headState h != 0))
  else if n = 13 then s.needsScaler (List.range 8)
  else if n = 14 then (List.range 4).any (fun h => s.bit (F.COMP_W2_TM_EN h) && s.headState h != 0)
  else if n = 22 then (List.range 4).any (fun h => s.touchState h != toOff)
  else false

/-- DOMAIN_CTRL (R255, R845 to R848). -/
def execDomainCtrl (s : State) : Host.Outcome State Fault Refusal :=
  .next (startCmd s (isOp 0x21) (fun s e =>
    let p := e.params
    let n := parUnit p
    let st := s.pdState n
    runtimeCmd s (p.length == 1) (failAt 0 (n == 0 || decide (24 < n)))
      (failAt 0 (strayBits p 0 0xFF000001 || !switchable.contains n)) true
      (if parBits p 0 0 1 = 1 then
        let s1 := (s.setFld (F.PWR_PD_HOST_ON n) 1).wakeDomain n
        if st = 2 then Res.ok s1
        else if st = 3 ∨ st = 4 then Res.stat s1 stDeferred
        else .wait s1 (.domainOn n)
       else if st = 0 then Res.ok (s.setFld (F.PWR_PD_HOST_ON n) 0)
       else if s.domainInUse n then Res.refuse s 0x04 n 2
       else .wait ((s.setFld (F.PWR_PD_HOST_ON n) 0).shutDown n) (.domainOff n))))

/-- DOMAIN_POWER_UP_DONE (R842, R847, R848): WAKING domain `n` is ON. `repair`: the repair codes that the first self-test
of its Tile RAM finds. -/
def execDomainPowerUpDone (n : Fin 25) (repair : Word) (s : State) : Host.Outcome State Fault Refusal :=
  .next (s.ifLive (
    if s.pdState n != 1 then s
    else
      let s1 := s.domainUp n repair
      let s2 := if s1.waitsFor (.domainOn n) then s1.finishRunning stOk [] else s1
      let s3 := if s2.pwr.offAfter.contains n.val then
          (s2.setPwr { s2.pwr with offAfter := s2.pwr.offAfter.filter (· != n.val) }).shutDown n else s2
      s3.entryProgress))

/-- The record type of an update. -/
def EtchJob.type (j : EtchJob) : Option Nat :=
  match j.todo, j.kind with
  | some (t, _, _), _ => some t
  | none, .record t _ _ => some t
  | _, _ => none

/-- The executing command writes the Etch store: it ends without a reply (R859), and its own update is dropped, at once or, when it
is the first of the queue, once the attempt in progress is over. -/
def State.cutCommand (s : State) : State :=
  let drop := fun (mine : EtchJob → Bool) =>
    let jobs := s.etch.jobs
    let k := jobs.length - 1 - ((jobs.reverse.findIdx? mine).getD 0)
    let s1 := { s with cw := { s.cw with running := none } }
    if !jobs.any mine then s1
    else if k = 0 then s1.setPwr { s1.pwr with cut := true }
    else { s1 with etch := { s1.etch with jobs := jobs.eraseIdx k } }
  match s.cw.running with
  | some ⟨_, .record t⟩ => drop (fun j => j.type == some t)
  | some ⟨_, .etchWindow⟩ => drop (fun j => j.kind == .window)
  | _ => s

/-- The executing command moves words into the Etch store. -/
def State.etchRunning (s : State) : Bool :=
  match s.cw.running with
  | some ⟨_, .record _⟩ => true
  | some ⟨_, .etchWindow⟩ => true
  | _ => false

/-- R336: the executing command waits for a read of the Etch store. -/
def State.etchReading (s : State) : Bool :=
  match s.cw.running with
  | some ⟨_, .etchRead _⟩ => true
  | _ => false

/-- R278: the executing command still has Plate words to come in the half of domain PDn. -/
def State.windowIn (s : State) (n : Nat) : Bool :=
  match s.cw.running with
  | some ⟨_, .plate r⟩ => r.todo.any (fun w => plateDomain w.addr == n)
  | _ => false

/-- R256, R844: a command whose Etch words are under way when PD09 has drained ends with DOMAIN_LOST, its update dropped; so does a
REG_READ or REG_WRITE whose Plate words wait when the domain of a half that they lie in has drained (log entry 94). -/
def State.drainCut (s : State) (n : Nat) : State :=
  match s.cw.running with
  | none => s
  | some r =>
    if n = 9 && s.etchRunning then
      let s1 := s.cutCommand
      ((if s1.pwr.cut && !s.pwr.cut then (s1.setPwr { s1.pwr with cut := false }).dropUpdate else s1).post r.cmd stDomainLost [])
    else if s.windowIn n || (n = 9 && s.etchReading) then s.dropWindow.finishRunning stDomainLost []
    else s

/-- R844: a region copy that still has words to move in the half of domain PDn is cut and counted; its fence goes on without the rest
(log entry 94). -/
def State.cutCopies (s : State) (n : Nat) : State :=
  match s.waitingOf 17 with
  | .copy num :: l =>
    (match s.fences.find? (fun f => f.num == num) with
     | some f =>
       if (f.copy.getD []).any (fun k => plateDomain (reqAddr k.req) == n) then
         ((s.setWaiting 17 l).endCopy f).satAdd F.PWR_DRAIN_LOST_CNT 1
       else s
     | none => s)
  | _ => s

/-- DRAIN_TIMEOUT (R843, R844): the transfers still running are cut; `lost` of them are the device's own beside a region copy. -/
def execDrainTimeout (n : Fin 25) (lost : Nat) (s : State) : Host.Outcome State Fault Refusal :=
  .next (s.ifLive (
    if s.pdState n = 3 then (((s.setFld (F.PWR_PD_STATE n) 4).satAdd F.PWR_DRAIN_LOST_CNT lost).cutCopies n).drainCut n else s))

/-- DOMAIN_OFF (R843, R847 to R849): a domain in DRAINING without transfers, or in SHUTTING, switches off. -/
def execDomainOff (n : Fin 25) (s : State) : Host.Outcome State Fault Refusal :=
  .next (s.ifLive (
    if s.pdState n != 3 && s.pdState n != 4 then s
    else
      let again := s.bit (F.PWR_PD_PENDING n)
      let s1 := (s.domainDown n).setFld (F.PWR_PD_PENDING n) 0
      let s2 := if again then s1.setFld (F.PWR_PD_STATE n) 1 else s1
      let s3 := if s2.waitsFor (.domainOff n) then s2.finishRunning stOk [] else s2
      s3.entryProgress))

/-! ### Parking (R358 to R361, R858 to R862) -/

/-- PWR_FAIL_N_FALL (R359, R858, R859): the device is parked. -/
def execPwrFailNFall (s : State) : Host.Outcome State Fault Refusal :=
  .next (s.ifLive (
    if s.bit F.PWR_STATE_PARKED then s
    else
      let left := s.mayWrite && (s.canAttempt true || s.canAttempt false)
      let s1 := (s.setPwr { s.pwr with wordLeft := left, cut := false }).cutCommand.setFld F.PWR_STATE_PARKED 1
      (s1.resuspend.showLevels).entryProgress))

/-- UNPARK (R861, R862): PWR_FAIL_N has stayed high for 10 ms. -/
def execUnpark (s : State) : Host.Outcome State Fault Refusal :=
  .next (s.ifLive (
    if !s.bit F.PWR_STATE_PARKED then s
    else
      let s1 := (s.dropCut.setFld F.PWR_STATE_PARKED 0)
      let s2 := (s1.setPwr { s1.pwr with wordLeft := false, cut := false }).resuspend.showLevels
      if 2 ≤ s2.fld F.PWR_STATE_STATE ∧ s2.pwr.target.isNone then s2.replay else s2.entryProgress))

/-! ### Backlights (R612 to R616) -/

/-- R613, R615: the target level of head `h`. -/
def State.blTarget (s : State) (h : Nat) : Nat :=
  let hi := min 1024 (s.fld (F.HEAD_BL_LEVEL h))
  if s.fld (F.HEAD_BL_MODE h) = 0 then hi
  else
    let lo := min 1024 (s.fld (F.HEAD_BL_LEVEL_DARK h))
    let bright := s.fld (F.HEAD_BL_AMB_LUX_HI h)
    let dark := min bright (s.fld (F.HEAD_BL_AMB_LUX_LO h))
    let a := (s.scaledOf (5 + s.fld (F.HEAD_BL_ALS h))).toNat
    if a ≤ dark then lo
    else if bright ≤ a then hi
    else rdiv (lo * (bright - a) + hi * (a - dark)) (bright - dark)

/-- R613: at most 16 towards the target. -/
def stepLevel (now target : Nat) : Nat := if now < target then min target (now + 16) else max target (now - 16)

/-- BACKLIGHT_LEVEL_COMPUTE (R613): every 10 ms from the commit instant. -/
def execBacklightLevelCompute (s : State) : Host.Outcome State Fault Refusal :=
  .next (s.ifLive (
    if s.runtimeWorks ∧ s.ticks % 10 = 0 ∧ s.fld F.PWR_STATE_STATE ≤ 1 then
      s.each [0, 1, 2, 3] (fun s h =>
        let x := s.head h
        (s.setHead h { x with level := stepLevel x.level (s.blTarget h) }).showLevel h)
    else s))

/-- R614: one step of the regulation of head `h`. -/
def State.regulate (s : State) (h : Nat) : State :=
  if !s.regOn h then s.showLevel h
  else
    let i := (s.scaled (7 + h) (s.fld (F.SENSE_CH_AVG_1MS_AVG_1MS (7 + h)))).toNat
    let full := s.fld (F.HEAD_BL_REG_I_FULL h)
    let bl := s.fld (F.HEAD_BL_STATUS_BL_NOW h)
    let d := s.fld (F.HEAD_BL_STATUS_DUTY h)
    let low := decide (1024 * i + 4 * full < full * bl)
    let high := decide (full * bl + 4 * full < 1024 * i)
    let d' := if low then min 1024 (d + 1) else if high then d - 1 else d
    let s1 := s.setFld (F.HEAD_BL_STATUS_DUTY h) d'
    if (low || high) && (d' == 0 || d' == 1024) then s1.setFld (F.HEAD_BL_STATUS_REG_LIMIT h) 1 else s1

/-- BL_CURRENT_REGULATION (R614): every 1 ms; DUTY holds while a CAL_RUN measures. -/
def execBlCurrentRegulation (s : State) : Host.Outcome State Fault Refusal :=
  .next (s.ifLive (
    if s.runtime ∧ s.fld F.PWR_STATE_STATE ≤ 1 ∧ s.cal.measuring.isNone then s.each [0, 1, 2, 3] State.regulate else s))

/-- R612, R617: the pins BL_PWMh and BL_ENh: the duty they take and the enable. A head with a BL station drives neither (R95). -/
def State.blDuty (s : State) (h : Nat) : Nat :=
  if s.headState h = 0 ∨ s.prof h 8 31 1 = 1 then 0 else s.fld (F.HEAD_BL_STATUS_DUTY h)

def State.blEnable (s : State) (h : Nat) : Bool :=
  s.headState h != 0 && s.prof h 8 31 1 == 0 && s.fld (F.HEAD_BL_STATUS_BL_NOW h) != 0

/-- R612, R617, R850, Table 18-6: what the pins BL_ENh and BL_PWMh carry, the enable and the duty of the present period; none while PD15
is off, when they float. -/
def State.blPins (s : State) (h : Nat) : Option (Bool × Nat) :=
  if s.off || !s.pdOn 15 then none else some (s.blEnable h, (s.head h).pwm)

/-- PWM_PERIOD_START (R612): a new duty takes effect. -/
def execPwmPeriodStart (h : Fin 4) (s : State) : Host.Outcome State Fault Refusal :=
  .next (s.ifLive (s.setHead h { s.head h with pwm := s.blDuty h }))

end Sys2Proof.Machine
end

