-- ==== Sys2Proof/Machine/Gpio.lean ====
section
/-! DEFINITION. GPIO pins and the tearing-effect outputs (R458, R904 to R907), and the register file as software reads it. -/

namespace Sys2Proof.Machine

/-! ### GPIO (R904 to R907) -/

/-- R458: the level of DSI port `i`'s TE. -/
def State.teLevel (s : State) (i : Nat) : Bool :=
  let h := s.fld (F.IN_DSI_TE_TE_HEAD i)
  s.headRunning h && (s.head h).blank

/-- R906: the TE of port `i` drives GPIO `n`. -/
def State.teDrives (s : State) (i n : Nat) : Bool :=
  s.bit (F.IN_DSI_TE_TE_EN i) && s.bit (F.IN_DSI_TE_TE_PIN_EN i) && s.fld (F.IN_DSI_TE_TE_GPIO i) == n

/-- R904, R906: the level that the 9840 drives on GPIO `n`, none for an input. -/
def State.gpioDrive (s : State) (n : Nat) : Option Bool :=
  if !s.runtime then none
  else if s.teDrives 0 n then some (s.teLevel 0)
  else if s.teDrives 1 n then some (s.teLevel 1)
  else if bitsOf (s.fld F.GPIO_DIR_DIR) n 1 = 1 then some (bitsOf (s.fld F.GPIO_OUT_OUT) n 1 == 1)
  else none

/-- The sampled levels, with `pins` on the inputs. -/
def State.gpioLevels (s : State) (pins : BitVec 8) : Nat :=
  ((List.range 8).map (fun n =>
    if (match s.gpioDrive n with | some b => b | none => pins.toNat.testBit n) then 2 ^ n else 0)).sum

/-- GPIO_EDGE (R905): the pins are sampled; `pins` holds the levels that the board drives on the inputs. -/
def execGpioEdge (pins : BitVec 8) (s : State) : Host.Outcome State Fault Refusal :=
  .next (s.ifLive (
    let old := s.fld F.GPIO_IN_IN
    let new := s.gpioLevels pins
    let rise := new &&& (255 - old) &&& s.fld F.GPIO_EDGE_EN_RISE_EN
    let fall := old &&& (255 - new) &&& s.fld F.GPIO_EDGE_EN_FALL_EN
    let r := s.fld F.GPIO_EVENT_RISE
    let f := s.fld F.GPIO_EVENT_FALL
    let s1 := ((s.setFld F.GPIO_IN_IN new).setFld F.GPIO_EVENT_RISE (r ||| rise)).setFld F.GPIO_EVENT_FALL (f ||| fall)
    if r ||| rise != r || f ||| fall != f then s1.raise causeGpio else s1))

/-! ### Windows (R271, R272, Table 6-5) -/

/-- What stands behind a window. -/
inductive WindowKind where
  | regs
  | boot
  | cw
  | code
  | data
  | stylus
  | lut
  | etch
  | plate
  deriving DecidableEq, Repr

/-- Table 6-5: first address, last address, kind. -/
def windows : List (Nat × Nat × WindowKind) := [
  (0x00000000, 0x0000FFFF, .regs), (0x00010000, 0x0001FFFF, .regs), (0x00020000, 0x0002FFFF, .boot),
  (0x00030000, 0x0003FFFF, .cw), (0x00040000, 0x0005FFFF, .regs), (0x00060000, 0x0007FFFF, .regs),
  (0x00080000, 0x000BFFFF, .regs), (0x000C0000, 0x000CFFFF, .regs), (0x00100000, 0x00107FFF, .regs),
  (0x00140000, 0x0014FFFF, .regs), (0x00180000, 0x0019FFFF, .regs), (0x001C0000, 0x001CFFFF, .regs),
  (0x00200000, 0x0020FFFF, .regs), (0x10000000, 0x100FFFFF, .code), (0x11000000, 0x1107FFFF, .data),
  (0x12000000, 0x1203FFFF, .stylus), (0x13000000, 0x13017FFF, .lut), (0x60000000, 0x603FFFFF, .etch),
  (0x80000000, 0x81FFFFFF, .plate)]

def windowOf (a : Nat) : Option (Nat × Nat × WindowKind) := windows.find? (fun w => decide (w.1 ≤ a) && decide (a ≤ w.2.1))

def WindowKind.memory (k : WindowKind) : Bool := !(k == .regs || k == .boot || k == .cw)

/-- R271: the Tile RAM windows never take a write. -/
def WindowKind.readOnly (k : WindowKind) : Bool := k == .code || k == .data || k == .stylus || k == .lut

/-- BOOT_SA_CHAINS: per chain of the profile 0b01 training, 0b10 UNFURLED, 0b11 ABSENT. -/
def State.saChains (s : State) : Nat :=
  ((List.range 8).map (fun c =>
    if bitsOf (s.fld F.BOOT_SA_STATUS_CHAIN_MAP) c 1 = 0 then 0
    else 4 ^ c * (if s.chainState c = chUnfurled then 2 else if s.chainState c = chAbsent then 3 else 1))).sum

/-- A register as REG_READ returns it: with TT_FAULT (R554), the calibration entries (Table 17-4), and the chains of stand-alone
mode, whose last states stay after it (R100). -/
def State.readAll (s : State) (a : Nat) : Word :=
  if a = 0x20014 ∧ s.standAlone then BitVec.ofNat 32 s.saChains
  else if a = 0xC1090 then putBits (s.readReg a) 9 1 (if s.ttFault then 1 else 0)
  else if 0x181000 ≤ a ∧ a < 0x181000 + 0x10 * 190 ∧ a % 16 < 12 then
    (s.calWords ((a - 0x181000) / 16)).getD (a % 16 / 4) 0
  else s.readReg a

/-- R12: little-endian words of a byte memory. -/
def memWords (f : Nat → Byte) (a n : Nat) : List Word :=
  (List.range n).map (fun i => BitVec.ofNat 32 (leNat ((List.range 4).map (fun j => f (a + 4 * i + j)))))

end Sys2Proof.Machine
end

