-- ==== Sys2Proof/Machine/Registers.lean ====
section
/-! DEFINITION. REG_READ, and REG_WRITE with the rows that name what some of its words do (R271 to R279). -/

namespace Sys2Proof.Machine

/-! ### REG_READ -/

/-- R271: the failing words of an access of `n` words at `a`. -/
def accessFails (a n : Nat) (write : Bool) : List Nat :=
  match windowOf a with
  | none => [0]
  | some (_, hi, k) =>
    failAt 0 (a % 4 != 0 || (write && k.readOnly)) ++
      (if hi + 1 < a + 4 * n then [if write then (hi + 1 - a) / 4 + 1 else 1] else [])

/-- R296: the first half that the access touches while it is off. -/
def State.halfOff (s : State) (off n : Nat) : Option Nat :=
  if off < 0x1000000 && !s.pdOn 7 then some 7
  else if decide (0x1000000 < off + 4 * n) && !s.pdOn 8 then some 8
  else none

/-! ### The Plate words of a REG_READ or REG_WRITE (R278, R397) -/

/-- The request for the next Plate word. -/
def PlateRun.req (r : PlateRun) : Option ReqBody :=
  match r.todo with
  | [] => none
  | w :: _ => some (if r.write then .write w.addr w.data else .read w.addr)

/-- The words of the reply: those read, none for a write. -/
def PlateRun.payload (r : PlateRun) : List Word :=
  if r.write then [] else memWords (fun i => (r.got.drop (r.off % 32)).getD i 0) 0 r.words

/-- R278: the payload of BUSY: for a write, the data words that are in the Plate. -/
def PlateRun.busy (r : PlateRun) : List Word :=
  if r.write then [BitVec.ofNat 32 (r.words - bufBytes r.todo / 4)] else []

/-- The admitted Plate word is read or written as client 17; the next one is ready to be judged. -/
def State.windowStep (s : State) (r : PlateRun) : State × PlateRun :=
  match r.todo with
  | [] => (s, r)
  | w :: t =>
    let next := { r with todo := t, age := 0 }
    if !s.halfOn w.addr then (s.countOff, { next with got := r.got ++ List.replicate 32 0 })
    else if r.write then (s.serve 17 (.write w.addr w.data), next)
    else
      let s1 := (s.flush 17).setCredit 17 (s.credit 17 - 1)
      ((s1.plateRead 17 w.addr).2, { next with got := r.got ++ (s1.plateRead 17 w.addr).1 })

/-- The command goes on while its Plate words need not wait. -/
def windowLoop : Nat → State → PlateRun → State × PlateRun
  | 0, s, r => (s, r)
  | n + 1, s, r =>
    match r.req with
    | none => (s, r)
    | some a => if s.goesOn a then windowLoop n (s.windowStep r).1 (s.windowStep r).2 else (s, r)

/-- R278: the command starts on its Plate words: a reply at once, or it waits as client 17 does. -/
def State.startWindow (s : State) (r : PlateRun) : Res :=
  let (t, q) := windowLoop r.todo.length s r
  if q.todo.isEmpty then .done t stOk q.payload
  else .wait (t.setWaiting 17 (t.waitingOf 17 ++ [.window])) (.plate q)

/-- R278, R296: a read of the Plate window. -/
def State.readPlate (s : State) (off n : Nat) : Res :=
  match s.halfOff off n with
  | some d => Res.domainOff s d
  | none => s.startWindow ⟨false, off, n, (wordsFrom off (4 * n)).map (fun w => ⟨w, []⟩), [], 0⟩

/-- A command whose Plate words are done replies; one with more to come waits again. -/
def State.windowEnd (s : State) (e : CmdEntry) (r : PlateRun) : State :=
  if r.todo.isEmpty then s.finishRunning stOk r.payload
  else { s.setWaiting 17 (s.waitingOf 17 ++ [.window]) with cw := { s.cw with running := some ⟨e, .plate r⟩ } }

/-- R387: the waiting Plate word of the executing command, client 17's oldest, is admitted once the credit covers it; `l` are the
requests behind it. -/
def State.windowOn (s : State) (l : List ReqBody) : State :=
  match s.cw.running with
  | some ⟨e, .plate r⟩ =>
    (match r.req with
     | none => s.setWaiting 17 l
     | some a =>
       if !s.halfOn (reqAddr a) || s.affords 17 a then
         let k := (s.setWaiting 17 l).windowStep r
         let (t, q) := windowLoop k.2.todo.length k.1 k.2
         t.windowEnd e q
       else s)
  | _ => s.setWaiting 17 l

/-- R278, R397: a period has started while a Plate word of the executing command waits; with the 126th the wait is longer than 1 ms. -/
def State.windowAge (s : State) : State :=
  match s.cw.running with
  | some ⟨e, .plate r⟩ =>
    if 125 ≤ r.age then s.dropWindow.finishRunning stBusy r.busy
    else { s with cw := { s.cw with running := some ⟨e, .plate { r with age := r.age + 1 }⟩ } }
  | _ => s

/-- PERIOD_START (R278, R298, R380, R395). -/
def execPeriodStart (s : State) : Host.Outcome State Fault Refusal :=
  .next (s.ifLive (if s.pbaRunning then s.periodStart.windowAge else s))

/-- WAITING_REQUEST_ADMITTED (R387): the client's oldest waiting request, once its credit covers it. -/
def execWaitingRequestAdmitted (c : Fin 20) (s : State) : Host.Outcome State Fault Refusal :=
  .next (s.ifLive (match s.waitingOf (c.val + 1) with
    | [] => s
    | .window :: l => s.windowOn l
    | .copy n :: l => s.copyOn n l
    | r :: l => s.admitOldest (c.val + 1) r l))

/-- The words of a window. -/
def State.readWindow (s : State) (k : WindowKind) (a n : Nat) : Res :=
  let ram := fun (t base : Nat) => Res.done s stOk (memWords (s.tileByte t) (a - base) n)
  match k with
  | .code => ram 1 0x10000000
  | .data => ram 2 0x11000000
  | .stylus => ram 3 0x12000000
  | .lut => ram 4 0x13000000
  | .etch =>
    if !s.pdOn 9 then Res.domainOff s 9
    else s.etchQuery (.words (a - 0x60000000) n)
  | .plate => s.readPlate (a - 0x80000000) n
  | _ => .done s stOk ((List.range n).map (fun i => s.readAll (a + 4 * i)))

/-- REG_READ (R271, R272, R275, R278, R296). -/
def execRegRead (s : State) : Host.Outcome State Fault Refusal :=
  .next (startCmd s (isOp 0x0A) (fun s e =>
    let p := e.params
    let a := (par p 0).toNat
    let n := (par p 1).toNat
    match badIndex (p.length == 2) (accessFails a n false ++ failAt 1 (n == 0 || decide (1024 < n))) with
    | some i => Res.bad s i
    | none =>
      match windowOf a with
      | none => Res.bad s 0
      | some (_, _, k) => if k.memory && !s.runtime then Res.refuse s 0 0 0 else s.readWindow k a n))

/-! ### One register word (R14 to R16, R272, R274) -/

/-- Table 0-2: `w` written to the register at `a`; bits of `hw` are set by hardware in the same cycle. -/
def State.writeBits (s : State) (a : Nat) (w hw : Word) : State :=
  let i := regInfo a
  let rw := BitVec.ofNat 32 i.rw
  let c := BitVec.ofNat 32 i.w1c
  let old := s.rd a
  s.wr a ((((old &&& ~~~ rw) ||| (w &&& rw)) &&& ~~~ (w &&& c)) ||| (hw &&& c))

/-- R274, R693, Table of EYE_CFG: `w` as it takes effect in the register at `a`. -/
def State.acceptedBits (s : State) (a : Nat) (w : Word) : Word :=
  let o := a % 0x1000
  if 0x100000 ≤ a ∧ a < 0x108000 ∧ o = 0x48 then
    let w1 := if getBits w 24 6 = 0 then putBits w 24 6 (getBits (s.rd a) 24 6) else w
    if getBits w1 16 6 = 0 then putBits w1 16 6 (getBits (s.rd a) 16 6) else w1
  else if 0x100000 ≤ a ∧ a < 0x108000 ∧ o = 0x4C then
    let b := getBits w 0 25
    if b % 256 ≠ 0 ∨ rsvBase < b + 0x10000 then s.rd a else w
  else if a = 0x190000 then w ||| 0xF801
  else if a = 0x10004 then w ||| 1
  else if 0x80000 ≤ a ∧ a < 0xC0000 ∧ a % 0x10000 = 0x20 then s.rd a
  else w

/-- R516: EN of WB_CTRL cleared by a write lets the frame in progress finish, as a disable does. -/
def State.writeWb (s : State) (w : Word) : State :=
  if s.bit F.WB_CTRL_EN && getBits w 31 1 == 0 then s.wbDisable else s.writeBits 0x60504 w 0

/-- R273: one word of a REG_WRITE into a register block. -/
def State.writeWord (s : State) (a : Nat) (w hw : Word) : State :=
  if a = 0x30000 then s
  else if a = 0x10028 then (if getBits w 0 1 = 1 then s.setFld F.PWR_SUPPLY_STATUS_MIN_MV 0xFFFF else s)
  else if a = 0x50000 ∨ a = 0x50040 ∨ a = 0x50080 ∨ a = 0x500C0 then
    s.writeInCtrl ((a - 0x50000) / 0x40) w (BitVec.ofNat 32 (regInfo a).rw)
  else if a = 0x50100 ∨ a = 0x50104 then (if s.poolIdle then (s.writeBits a w 0).showRegions else s)
  else if 0x51000 ≤ a ∧ a < 0x51800 ∧ a % 0x20 < 0x14 then
    s.writeSurf ((a - 0x51000) / 0x20) (a % 0x20) w (BitVec.ofNat 32 (regInfo a).rw)
  else if a = 0x60504 then s.writeWb w
  else if 0x80000 ≤ a ∧ a < 0xC0000 ∧ a % 0x10000 = 0 then (s.writeBits a w hw).runWritten ((a - 0x80000) / 0x10000)
  else s.writeBits a (s.acceptedBits a w) hw

/-! ### What follows the last word -/

/-- A word of the command lies within `[lo, hi)`. -/
def spans (a n lo hi : Nat) : Bool := decide (a < hi) && decide (lo < a + 4 * n)

/-- R607: the heads whose layers or tone mapping the words change. -/
def State.compWritten (s t : State) (a n : Nat) : State :=
  let l := t.each ((List.range 8).filter (fun l => spans a n (0x60000 + 0x40 * l) (0x60020 + 0x40 * l))) (fun u l =>
    let u1 := u.recorded (t.fld (F.LAYER_W0_HEAD l))
    if s.fld (F.LAYER_W0_HEAD l) = t.fld (F.LAYER_W0_HEAD l) then u1 else u1.recorded (s.fld (F.LAYER_W0_HEAD l)))
  l.each ((List.range 4).filter (fun h => spans a n (0x60400 + 0x20 * h) (0x60420 + 0x20 * h))) (fun u h => u.recorded h)

/-- Effects of the whole command: pins and slots, touch engines, levels, picture changes. `s` is the state before. -/
def State.settleWrite (s t : State) (a n : Nat) : State :=
  let t1 := if spans a n 0xC0000 0xD0000 then telltaleChange s t.showPins else t
  let t2 := t1.each ((List.range 4).filter (fun h => spans a n (0x140000 + 0x100 * h) (0x140028 + 0x100 * h))) (fun u h =>
    u.touchApply h (s.touchCfg h))
  let t3 := if spans a n 0x1001C 0x10020 then t2.showLevels else t2
  ((s.compWritten t3 a n).showFurled).touchJudgeAll

/-- R273: the words of a REG_WRITE into a register block. -/
def State.writeRegs (s : State) (a : Nat) (ws hw : List Word) : State :=
  let t := s.each (List.range ws.length) (fun u i => u.writeWord (a + 4 * i) (ws.getD i 0) (hw.getD i 0))
  s.settleWrite t a ws.length

/-! ### The other writers of the register space: the runtime and the debug port (R199, R316 to R321, R930) -/

/-- R930: a word written to a register block by a path other than a host REG_WRITE: WIDTH takes effect at once, since every transaction
of this model ends within its own step. -/
def State.storeReg (s : State) (a : Nat) (w : Word) : State :=
  if a = 0x30000 then s.setFld F.CW_MODE_WIDTH (getBits w 0 1) else s.writeRegs a [w] []

/-- R122: a write of `n` bytes at offset `off` through port B of the RAM with TARGET code `t` is refused with BANK_EXECUTING. -/
def State.bankExecuting (s : State) (t off n : Nat) : Bool :=
  t == 1 && s.bit F.BOOT_STATUS_SCRIBE_RUN && touchesBank off n s.fetchBank

/-- A write through port B of the RAM with TARGET code `t`, while port A does `a`. A refused write is never presented to the port. -/
def State.portB (s : State) (t off : Nat) (d : List Byte) (a : Option PortOp) : State :=
  let refused := s.bankExecuting t off d.length
  (({ s with boot := { s.boot with dmaRefused := refused } }).portCycle t a (if refused then none else some (.write off d))).2.2

/-- The Tile RAM behind a memory window: TARGET code and first address. -/
def WindowKind.ram : WindowKind → Option (Nat × Nat)
  | .code => some (1, 0x10000000)
  | .data => some (2, 0x11000000)
  | .stylus => some (3, 0x12000000)
  | .lut => some (4, 0x13000000)
  | _ => none

/-- R199: the open debug port reaches the Tile RAMs and every register block but BOOT. -/
def WindowKind.debugged : WindowKind → Bool
  | .boot | .plate | .etch => false
  | _ => true

/-- R196, R199: a word read through the debug port; none where the port is locked or does not reach. -/
def State.debugRead (s : State) (a : Nat) : Option Word :=
  match windowOf a with
  | some (_, _, k) =>
    if !s.debugOpen || !k.debugged then none
    else match k.ram with
      | some (t, base) => some (BitVec.ofNat 32 (leNat (s.tileBytes t (a - base) 4)))
      | none => some (s.readAll a)
  | none => none

/-- R196, R199, R318: a word written through the debug port, by port B of a Tile RAM. -/
def State.debugWrite (s : State) (a : Nat) (w : Word) : State :=
  match windowOf a with
  | some (_, _, k) =>
    if !s.debugOpen || !k.debugged then s
    else match k.ram with
      | some (t, base) => s.portB t (a - base) (leBytes 4 w.toNat) none
      | none => s.storeReg a w
  | none => s

/-! ### Writes into the Plate and Etch windows (R277 to R279, R374) -/

/-- R278, R296: a write of the Plate window. -/
def State.writePlate (s : State) (off : Nat) (ws : List Word) : Res :=
  match s.halfOff off ws.length with
  | some d => Res.domainOff s d
  | none =>
    let b := ws.flatMap (fun w => leBytes 4 w.toNat)
    s.startWindow ⟨true, off, ws.length, cutWords (b.length + 1) off b, [], 0⟩

/-- R277: the words of the Etch window, low half first. -/
def etchPairs : Nat → List Word → List EtchWrite
  | a, lo :: hi :: t => ⟨a, lo.toNat + hi.toNat * 2 ^ 32, 0⟩ :: etchPairs (a + 8) t
  | _, _ => []

/-- Table 4-2, R168: a USER write that creates, replaces or retires a PROTECTED record: a header of the pair has the flag, or the
word written is a header with it. -/
def State.protectedWrite (s : State) (w : EtchWrite) : Bool :=
  let pair := 0x280000 + (w.addr - 0x280000) / 16384 * 16384
  let flag := fun a => (s.etch.header a).flags % 2 == 1
  flag pair || flag (pair + 8192) || (w.addr % 8192 == 0 && w.val / 2 ^ 24 % 2 == 1)

/-- Table 4-2, R168: the presence class of the words: 0 none, 1 P1, 2 P2. -/
def State.windowClass (s : State) (l : List EtchWrite) : Nat :=
  l.foldl (fun c w =>
    let r := regionOfEtch w.addr
    max c (if r = 0 then 2 else if r = 1 ∨ r = 5 then 1 else if r = 7 && s.protectedWrite w then 1 else 0)) 0

/-- R169, R277: the failing words of a write into the Etch window at Etch address `e`. -/
def etchFails (e n : Nat) : List Nat :=
  failAt 0 (e % 8 != 0 || (decide (e < 0x280000) && decide (0x240000 < e + 4 * n))) ++ failAt 0xFFFF (n % 2 != 0)

/-- R374: the words wait for updates and appends, then go in ascending order. -/
def State.writeEtch (s : State) (e : Nat) (ws : List Word) : Res :=
  let l := etchPairs e ws
  if s.bit F.PWR_STATE_RIDE then Res.refuse s 0 0 0
  else if !s.pdOn 9 then Res.domainOff s 9
  else if !s.presenceMet (s.windowClass l) then Res.stat s stPresenceRequired
  else .wait { s with etch := { s.etch with jobs := s.etch.jobs ++ [⟨.window, l, none⟩] } } .etchWindow

/-! ### REG_WRITE and its rows -/

/-- R312: the words that give a surface a definition which breaks the placement rules, each surface charged to the last of its words. A
descriptor in use takes no write (R440), and one whose NBUF is still 0 defines nothing yet (log entry 107). -/
def State.defineFails (s : State) (a : Nat) (ws : List Word) : List Nat :=
  let t := s.writeRegs a ws []
  ((List.range 64).filter (fun n =>
      spans a ws.length (0x51000 + 0x20 * n) (0x51014 + 0x20 * n) && s.fld (F.SURF_STATUS_USE n) == 0 && t.surfBreaks n)).map
    (fun n => min ws.length ((0x51014 + 0x20 * n - a) / 4))

/-- The legal effect of a REG_WRITE on window kind `k` (Table 6-1). -/
def State.writeWindow (s : State) (k : WindowKind) (a : Nat) (ws hw : List Word) : Res :=
  match k with
  | .boot => Res.ok s
  | .cw => Res.ok (s.writeRegs a ws hw)
  | .etch =>
    if !s.runtime then Res.refuse s 0 0 0
    else match minIndex (etchFails (a - 0x60000000) ws.length) with
      | some i => Res.bad s i
      | none => s.writeEtch (a - 0x60000000) ws
  | .plate => if s.runtime then s.writePlate (a - 0x80000000) ws else Res.refuse s 0 0 0
  | _ =>
    if !s.runtime then Res.refuse s 0 0 0
    else match minIndex (s.defineFails a ws) with
      | some i => Res.bad s i
      | none => Res.ok (s.writeRegs a ws hw)

/-- REG_WRITE, whichever of its rows runs it. -/
def State.regWrite (s : State) (e : CmdEntry) (hw : List Word) : Res :=
  let p := e.params
  let a := (par p 0).toNat
  let n := p.length - 1
  judged s (decide (2 ≤ p.length) && decide (p.length ≤ 1025)) (accessFails a n true)
    (match windowOf a with
     | none => Res.bad s 0
     | some (_, _, k) => s.writeWindow k a (p.drop 1) hw)

/-- The words of the command reach a register that `f` picks. -/
def writesTo (e : CmdEntry) (f : Nat → Word → Bool) : Bool :=
  (List.range (e.params.length - 1)).any (fun i => f ((par e.params 0).toNat + 4 * i) (par e.params (i + 1)))

/-- Which row runs a REG_WRITE: 0 REG_WRITE, 1 ETCH_WINDOW_WRITE, 2 CW_MODE_WRITE, 3 MIN_RESET, 4 IN_CTRL_WRITE, 5 W1C_CLEAR; the
first that its words call for. -/
def writeRow (e : CmdEntry) : Nat :=
  if writesTo e (fun a _ => decide (0x60000000 ≤ a) && decide (a < 0x60400000)) then 1
  else if writesTo e (fun a _ => a == 0x30000) then 2
  else if writesTo e (fun a w => a == 0x10028 && getBits w 0 1 == 1) then 3
  else if writesTo e (fun a _ => a == 0x50000 || a == 0x50040 || a == 0x50080 || a == 0x500C0) then 4
  else if writesTo e (fun a w => w &&& BitVec.ofNat 32 (regInfo a).w1c != 0) then 5
  else 0

/-- The head command is a REG_WRITE that row `k` runs. -/
def isWrite (k : Nat) (e : CmdEntry) : Bool := isOp 0x0B e && writeRow e == k

/-- REG_WRITE (R272 to R274, R276 to R278). -/
def execRegWrite (s : State) : Host.Outcome State Fault Refusal :=
  .next (startCmd s (isWrite 0) (fun s e => s.regWrite e []))

/-- ETCH_WINDOW_WRITE (R277, R374). -/
def execEtchWindowWrite (s : State) : Host.Outcome State Fault Refusal :=
  .next (startCmd s (isWrite 1) (fun s e => s.regWrite e []))

/-- R207: the reply just posted carries the new width; it replaces a pending one. -/
def State.pendWidth (s : State) (w : Nat) : State :=
  { s with cw := { s.cw with
      replyQ := s.cw.replyQ.mapIdx (fun i r => { r with width := if i + 1 = s.cw.replyQ.length then some w else none }) } }

/-- The value of WIDTH that the command writes. -/
def widthWritten (e : CmdEntry) : Nat := getBits (par e.params ((0x30000 - (par e.params 0).toNat) / 4 + 1)) 0 1

/-- CW_MODE_WRITE (R206, R207, R258): legal in every phase. -/
def execCwModeWrite (s : State) : Host.Outcome State Fault Refusal :=
  .next (
    let t := startCmd s (isWrite 2) (fun s e => s.regWrite e [])
    match s.cw.cmdQ with
    | [] => t
    | e :: _ =>
      if t.cw.replyQ.length = s.cw.replyQ.length + 1 && (t.cw.replyQ.getLast?.map (fun r => r.status.toNat == stOk)).getD false then
        t.pendWidth (widthWritten e)
      else t)

/-- MIN_RESET (R16): MIN_MV becomes 0xFFFF. -/
def execMinReset (s : State) : Host.Outcome State Fault Refusal :=
  .next (startCmd s (isWrite 3) (fun s e => s.regWrite e []))

/-- IN_CTRL_WRITE (R434, R436). -/
def execInCtrlWrite (s : State) : Host.Outcome State Fault Refusal :=
  .next (startCmd s (isWrite 4) (fun s e => s.regWrite e []))

/-- W1C_CLEAR (R16, R275): a write of 1 clears a flag; `hw` holds, per data word, the bits that hardware sets in the same cycle. -/
def execW1cClear (hw : List Word) (s : State) : Host.Outcome State Fault Refusal :=
  .next (startCmd s (isWrite 5) (fun s e => s.regWrite e hw))

end Sys2Proof.Machine
end

