-- ==== Sys2Proof/Machine/System.lean ====
section
/-! DEFINITION. The system commands NOP, GET_INFO, GET_DETAIL and COUNTERS (R263 to R265, R399, R723, R787, R822), and the 1 kHz
system tick (R927). -/

namespace Sys2Proof.Machine

/-- NOP (R263): legal in every phase. -/
def execNop (s : State) : Host.Outcome State Fault Refusal :=
  .next (startCmd s (isOp 0x00) (fun s e => judged s e.params.isEmpty [] (Res.ok s)))

/-! ### GET_INFO and GET_DETAIL -/

/-- Table 6-3, word 5: the ROM release and build of step C0. -/
def romVersion : Word := 0x03010017

/-- DEVICE_ID, high word and low word. -/
def idWords : List Word := wordsOf (beBytes 8 Config.deviceId.toNat)

/-- GET_INFO (R264). -/
def execGetInfo (s : State) : Host.Outcome State Fault Refusal :=
  .next (startCmd s (isOp 0x01) (fun s e =>
    judged s e.params.isEmpty []
      (.done s stOk ([s.rd 0x10, s.rd 0x14] ++ idWords ++ [s.rd 0x2000C, romVersion, s.stateWord 0 0 0, s.readReg 0x20000]))))

/-- Table 6-4, POWER word 0: the domains that are on. -/
def State.domainBits (s : State) : Nat := ((List.range 25).map (fun n => if s.pdOn n then 2 ^ n else 0)).sum

/-- Table 6-4, CHAINS word `c`. -/
def State.chainWord (s : State) (c : Nat) : Word :=
  BitVec.ofNat 32 (s.chainState c * 2 ^ 24 + s.fld (F.LINK_STATUS_STATIONS c) * 2 ^ 16 + s.fld (F.LINK_STATUS_LAST_POS c) * 2 ^ 8 +
    s.lane c)

/-- Table 6-4, HEADS word `h`: the rate of the latest completed counted frame in 0.1 Hz, at least 1; before the first one is
complete the manual states none (log entry 1). -/
def State.headDetail (s : State) (h : Nat) : Word × State :=
  let last := (s.head h).fr.last
  let (v, s1) := if s.headRunning h && last == 0 then s.draw else (0, s)
  let rate := if !s.headRunning h then 0 else if last = 0 then max 1 (v % 4096) else max 1 (rdiv (s.lineRate h) last)
  (BitVec.ofNat 32 (s.mode h * 2 ^ 28 + rate % 4096 * 2 ^ 16 + (s.head h).fr.count % 65536), s1)

def State.headDetails (s : State) : List Word × State :=
  [0, 1, 2, 3].foldl (fun (acc : List Word × State) h => let (w, t) := acc.2.headDetail h; (acc.1 ++ [w], t)) ([], s)

/-- R265: the payload of selector `k`. UPTIME is free below the tick (log entry 1). -/
def State.detail (s : State) (k : Nat) : Res :=
  let h := s.boot.hdr
  if k = 0 then
    .done s stOk [romVersion, BitVec.ofNat 32 (hdrField h 0x18 2 * 65536 + hdrField h 0x1A 1), s.rd 0x48, idWords.headD 0]
  else if k = 1 then .done s stOk [BitVec.ofNat 32 s.domainBits, BitVec.ofNat 32 (s.powerCode * 2 ^ 28)]
  else if k = 2 then
    .done s stOk ([11, 12, 13, 14, 1, 2, 3, 4].map (fun n => BitVec.ofNat 32 (s.fld (F.SENSE_CH_SCALED_SCALED n))))
  else if k = 3 then
    let (v, s1) := s.draw
    .done s1 stOk (wordsOf (beBytes 8 (1000 * s.ticks + v % 1000)))
  else if !s.runtime then Res.refuse s 0 0 0
  else if k = 4 then .done s stOk ((List.range 8).map s.chainWord)
  else
    let (l, s1) := s.headDetails
    .done s1 stOk l

/-- GET_DETAIL (R265). -/
def execGetDetail (s : State) : Host.Outcome State Fault Refusal :=
  .next (startCmd s (isOp 0x02) (fun s e =>
    let p := e.params
    let k := parBits p 0 0 8
    judged s (p.length == 1) (failAt 0 (strayBits p 0 0xFF || decide (5 < k))) (s.detail k)))

/-! ### COUNTERS -/

/-- The registers of a counter group (Table 9-2, R723, R787, R822). -/
def counterRegs (g : Nat) : List Nat :=
  if g = 1 then (List.range 20).flatMap (fun i => [0x40114 + 0x10 * i, 0x40118 + 0x10 * i, 0x4011C + 0x10 * i])
  else if g = 2 then [0x200004, 0x200008, 0x20000C]
  else if g = 3 then (List.range 8).flatMap (fun n => [0x10000C + 0x1000 * n, 0x100044 + 0x1000 * n])
  else if g = 4 then (List.range 4).map (fun h => 0x140044 + 0x100 * h)
  else (List.range 4).map (fun k => 0x190040 + 4 * k)

/-- R399: clear-after-read; in group 2 the sticky bits and the address stay. -/
def State.clearCounters (s : State) (g : Nat) : State :=
  if g = 2 then ((s.setFld F.PLATE_ECC_CE_CNT 0).setFld F.PLATE_ECC_UE_CNT 0).setFld F.PLATE_OFF_HIT_COUNT 0
  else s.each (counterRegs g) (fun s a => s.wr a 0)

/-- COUNTERS (R399, R723, R787, R822). -/
def execCounters (s : State) : Host.Outcome State Fault Refusal :=
  .next (startCmd s (isOp 0xB2) (fun s e =>
    let p := e.params
    let g := parUnit p
    runtimeCmd s (p.length == 1) [] (failAt 0 (strayBits p 0 0xFF000001 || g == 0 || decide (5 < g))) true
      (.done (if parBits p 0 0 1 = 1 then s.clearCounters g else s) stOk ((counterRegs g).map s.rd))))

/-! ### The system tick -/

/-- R863: the zone of Td: up at a threshold, down 5 °C below it; Td in 0.125 °C, thresholds in °C. -/
def State.thermalZone (s : State) : Nat :=
  let td := s.td
  let warn := 8 * signedOf 8 (s.fld F.PWR_THERM_WARN)
  let crit := 8 * signedOf 8 (s.fld F.PWR_THERM_CRIT)
  let z := s.fld F.PWR_THERM_ZONE
  let up := if crit ≤ td then 2 else if warn ≤ td then 1 else 0
  let down := if crit - 40 < td then 2 else if warn - 40 < td then 1 else 0
  if z < up then up else min z down

/-- THERMAL_EVENT (R863); Burin does not evaluate the thresholds (R245). -/
def State.thermalStep (s : State) : State :=
  let z := s.thermalZone
  if !s.runtime || z = s.fld F.PWR_THERM_ZONE then s else (s.setFld F.PWR_THERM_ZONE z).raise causeThermal

/-- SYSTEM_TICK (R30, R927): the count advances; SVC_HELD and the P1 window (R150, R151), the sense averages and Td (R795, R817), analogue
trims (R799), the thermal zone (R863), the time that a run measures (R782); events tied to no head while head A is stopped. `rx`: what the
pins of the inputs carry (Table 2-4, Table 10-4). -/
def execSystemTick (rx : List InSignal) (s : State) : Host.Outcome State Fault Refusal :=
  .next (s.ifLive (
    let s0 := ({ s with ticks := s.ticks + 1 }).hearAll rx
    let s1 := (if s0.headState 0 = 0 then s0.edge else s0).presenceMs
    let s2 := if s1.cal.measuring.isSome then { s1 with cal := { s1.cal with busyMs := s1.cal.busyMs + 1 } } else s1
    s2.senseTick.trimTick.thermalStep))

end Sys2Proof.Machine
end

