-- ==== Sys2Proof/Machine/Commit.lean ====
section
/-! DEFINITION. The runtime's provisional execution and the commit instant (R122, R127 to R144, R339, R340, R448, R496, R532). -/

namespace Sys2Proof.Machine

/-! ### Scribe before the commit instant (R122, R127, R129 to R134) -/

/-- The IN block. -/
def isInBlock (a : Nat) : Bool := decide (0x50000 ≤ a) && decide (a < 0x60000)

/-- Table 7-6: a store of Scribe through port A: into Code or Data RAM. -/
def State.scribePortA (s : State) (k : WindowKind) (a : Nat) (w : Word) : State :=
  match k.ram with
  | some (t, base) =>
    if t ≤ 2 && (targetDomains t).all s.pdOn then (s.portCycle t (some (.write (a - base) (leBytes 4 w.toNat))) none).2.2 else s
  | none => s

/-- A write of Scribe before the commit instant: queued (R129, R130), dropped (R132), discarded (R134) or done at once (R131). None is
made to the IN block (R449): one that the sender asks for does nothing. -/
def State.scribeWrite (s : State) (a : Nat) (w : Word) : State :=
  if isGated a then s.gateWrite a w
  else if isInBlock a then s
  else match windowOf a with
    | some (_, _, .plate) => s.plateDrop
    | some (_, _, .regs) => s.writeRegs a [w] []
    | some (_, _, k) => s.scribePortA k a w
    | none => s

/-- A write of Scribe from the commit instant, which takes effect at once: the commit queue was applied with that instant, so a write
made meanwhile comes after it (R137). A Plate word goes by client 18; an Etch word is no single store (R277). -/
def State.scribeStore (s : State) (a : Nat) (w : Word) : State :=
  match windowOf a with
  | some (_, _, .plate) => s.requestE 18 (.write (a - 0x80000000) (leBytes 4 w.toNat))
  | some (_, _, .regs) => s.storeReg a w
  | some (_, _, .cw) => s.storeReg a w
  | some (_, _, k) => s.scribePortA k a w
  | none => s

/-- SCRIBE_GATED_WRITE (R129 to R132, R134, R137): Scribe writes `w` at address `a`. -/
def execScribeGatedWrite (a : Nat) (w : Word) (s : State) : Host.Outcome State Fault Refusal :=
  .next (s.ifLive (
    if s.scribeActive ∧ a % 4 = 0 then (if s.phase ≤ 4 then s.scribeWrite a w else if s.runtime then s.scribeStore a w else s) else s))

/-- A Scribe DMA transfer into the Plate: discarded before the commit instant (R132), where the model counts one drop per transfer (DESIGN
CHOICE, log entry 101); from then on a request of client 18 for each Plate word (R385, R387). -/
def State.dmaPlate (s : State) (off : Nat) (d : List Byte) : State :=
  if !s.runtime then s.plateDrop
  else if off + d.length ≤ 0x2000000 then (spanWrites off d).foldl (fun s r => s.requestE 18 r) s
  else s

/-- SCRIBE_DMA_WRITE (R122, R132, R318): a DMA write of `d` to offset `off` of the RAM with TARGET code 1 to 4, or of the Plate
(target 7); Coefficient and Table RAM give Scribe DMA no port. `fetch`: where Scribe's fetch address has come to. -/
def execScribeDmaWrite (target : Fin 8) (off : Nat) (d : List Byte) (fetch : Option (Fin 1048576)) (portA : Option PortOp) (s : State) :
    Host.Outcome State Fault Refusal :=
  .next (s.ifLive (
    let s1 := s.fetched fetch
    if !s.bit F.BOOT_STATUS_SCRIBE_RUN || s.boot.halted || d.isEmpty then s
    else if target.val = 7 then s1.dmaPlate off d
    else match targetSize target.val with
      | none => s1
      | some n =>
        if 4 < target.val || n < off + d.length || !(targetDomains target.val).all s.pdOn then s1
        else s1.portB target.val off d (if target.val ≤ 3 then portA else none)))

/-- SCRIBE_FAULT (R127): Scribe or Stylus faults. -/
def execScribeFault (s : State) : Host.Outcome State Fault Refusal := .next (s.ifLive s.coreFault)

/-- ETCH_FETCH_FAULT (R339, R340): Scribe fetches an instruction from the Etch window and halts. -/
def execEtchFetchFault (s : State) : Host.Outcome State Fault Refusal :=
  .next (s.ifLive (
    if !s.scribeActive then s
    else
      let t := s.setFld F.ETCH_STATUS_FETCH_FAULT 1
      if t.runtime then { t with boot := { t.boot with halted := true } } else t.coreFault))

/-! ### The commit instant (R135 to R144) -/

/-- R29, R30, R140: an instant for events tied to no head has come since PASS: a frame boundary of head A, counted or not (R70), or a
system tick while it produces no frames. A head that sends counted frames is still between that boundary and its next frame start. -/
def State.atCommitPoint (s : State) : Bool :=
  decide (s.boot.passAt < s.boot.edges) && (!s.headRunning 0 || (s.head 0).blank)

/-- R839, R840: every domain of Table 18-3 that is on in RUN, and those that the runtime sets, come up; DOMAIN_CTRL's record says
so. -/
def State.commitDomains (s : State) (repair : List Word) : State :=
  let s1 := s.each (runOn ++ switchable) (fun s n =>
    s.domainUp n (repair.getD ((ramOfDomain n).getD 0) 0))
  s1.each switchable (fun s n => s.setFld (F.PWR_PD_HOST_ON n) 1)

/-- R448: surface 63 as Burin used it; `sel` is the selected input, `front` the buffer that head A scans out. -/
def State.commitSurface (s : State) (sel front : Option Nat) : State :=
  let d := s.saDesc
  let s1 := ((s.setFld (F.SURF_BASE_BASE 63 0) 0).setFld (F.SURF_BASE_BASE 63 1) 0x1000000).setFld (F.SURF_BASE_BASE 63 2) 0
  let s2 := ((s1.setFld (F.SURF_SIZE_WIDTH 63) d.width).setFld (F.SURF_SIZE_HEIGHT 63) d.height).setFld (F.SURF_FMT_FORMAT 63) 0
  let s3 := ((s2.setFld (F.SURF_FMT_NBUF 63) 2).setFld (F.SURF_FMT_PITCH32 63) (d.pitch / 32)).judgeSurf 63
  let s4 := (s3.setFld (F.SURF_STATUS_FRONT 63) (front.getD 0)).setBit (F.SURF_STATUS_FRONT_VALID 63) front.isSome
  match sel with
  | some i => (s4.setInput i { s4.input i with targets := [63] }).setFld (F.SURF_STATUS_USE 63) 2
  | none => s4.setBufs 63 SurfBufs.reset

/-- R448: an input that Burin has not selected is not enabled. -/
def State.dropInput (s : State) (i : Nat) : State :=
  ((s.cutFrames i).setFld (F.IN_DSI_CTRL_EN i) 0).setInState i inOff

/-- R532: icon `k` from its ICONS record. -/
def State.loadIconRecord (s : State) (k : Nat) : State :=
  match s.record (0x4000 + k) with
  | (none, t) => t
  | (some p, t) =>
    let img := memWords (fun i => p.getD i 0) 0 (p.length / 4)
    if imgOk img && img.length == 1 + imgRow img * imgH img && imgCrc img == imgCheck img then
      (t.setIcon k { t.icon k with imgs := (t.icon k).imgs.setIfInBounds (1 - (t.icon k).live) img }).makeLive k
    else t.setFld F.BUNT_CTRL_ICONS_BAD 1

/-- R135, R137: the queue is applied in issue order, then the write that stalled Scribe. -/
def State.applyQueue (s : State) : State :=
  let q := s.boot.commitQ ++ s.boot.stalled.toList
  let s1 := { s.setFld F.BOOT_STATUS_GATE_STALLED 0 with boot := { s.boot with commitQ := [], stalled := none } }
  q.foldl (fun (s : State) (e : Nat × Word) => s.writeRegs e.1 [e.2] []) s1

/-- R100, R141, R144: KEYLOCK, the runtime's version, the end of stand-alone mode. -/
def State.handOver (s : State) : State :=
  let s1 := (s.setFld F.BOOT_STATUS_KEYLOCK 1).wr 0x20014 (BitVec.ofNat 32 s.saChains)
  ((s1.setFld F.BOOT_RUNTIME_VERSION_VERSION (hdrVersion s1.boot.hdr)).setFld F.BOOT_SA_STATUS_SA_ACTIVE 0).setPhase 5

/-- The buffer of surface 63 that head A scans out; where Burin has just selected an input, the one that it would take next. -/
def State.saFront (s : State) (sel : Option Nat) : Option Nat :=
  match (s.head 0).scan with
  | some b => some b.2
  | none => if sel.isSome && s.saFits then (s.bufs 63).newest else none

/-- The commit instant. -/
def State.commit (s : State) (repair : List Word) : State :=
  let code := s.fld F.BOOT_SA_STATUS_INPUT
  let sel := if code = 1 then some 2 else if code = 2 then some 0 else none
  let front := s.saFront sel
  let s1 := (s.commitSurface sel front).handOver
  let s2 := s1.each ([0, 2].filter (fun i => sel != some i)) State.dropInput
  let s3 := { s2 with
    boot := { s2.boot with hold := front }
    etch := { s2.etch with retireDue := true } }
  let s4 := ((s3.commitDomains repair).loadLinear.tablesDue 0).applyQueue
  let s5 := { s4 with commitRegs := s4.regs }
  telltaleChange s5 (s5.each (List.range 32) State.loadIconRecord)

/-- COMMIT_INSTANT (R21, R29, R30, R135 to R144). `repair`: what the self-tests of the domains it powers find (R327). -/
def execCommitInstant (repair : List Word) (s : State) : Host.Outcome State Fault Refusal :=
  .next (s.ifLive (if s.phase = 4 ∧ s.atCommitPoint then s.commit repair else s))

end Sys2Proof.Machine
end

