-- ==== Sys2Proof/Machine/SoftReset.lean ====
section
/-! DEFINITION. SOFT_RESET (R236, R266 to R270, R371, R476, R507, R543, R546, R611, R699, R783, R807, R907). -/

namespace Sys2Proof.Machine

/-- Address `a` holds register `o` of an array of `n` blocks of `step` bytes from `base`. -/
def isReg (a base step n o : Nat) : Bool :=
  decide (base ≤ a) && decide (a < base + step * n) && (a - base) % step == o

/-- R266, R267: the bits of the register at `a` that SOFT_RESET keeps, among them those that follow a state. -/
def softKeep (a : Nat) : Nat :=
  let all := 0xFFFFFFFF
  if a < 0x80 ∨ a = 0x88 then all
  else if a = 0x10000 ∨ a = 0x10018 ∨ isReg a 0x10100 4 25 0 then all
  else if a = 0x10020 then 0x3
  else if 0x20000 ≤ a ∧ a < 0x40000 then all
  else if a = 0x40000 then 0x80000000
  else if a = 0x40004 then all
  else if 0x40100 ≤ a ∧ a < 0x50000 then (if a % 16 = 0 then 0 else all)
  else if isReg a 0x50000 0x40 4 8 then 0xF0000000
  else if isReg a 0x50000 0x40 4 12 ∨ a = 0x5010C then all
  else if isReg a 0x51000 0x20 64 0x14 then 0xF6000000
  else if 0xC0000 ≤ a ∧ a < 0xC1000 ∧ a % 16 = 12 then 0xBFFFFFFF
  else if a = 0xC1040 ∨ a = 0xC1094 then all
  else if a = 0xC1090 then 0x300
  else if isReg a 0x80000 0x10000 4 4 then all
  else if isReg a 0x80000 0x10000 4 8 then 0xFFFFFFDF
  else if isReg a 0x80000 0x10000 4 0x34 then 0x07FF07FF
  else if isReg a 0x80000 0x10000 4 0x104 then 0x3000FFFF
  else if 0x80000 ≤ a ∧ a < 0xC0000 ∧ 0x200 ≤ a % 0x10000 then all
  else if isReg a 0x100000 0x1000 8 4 then all
  else if isReg a 0x100000 0x1000 8 8 then 0x00FF0000
  else if isReg a 0x100000 0x1000 8 0x40 then 0x00700100
  else if 0x100000 ≤ a ∧ a < 0x108000 ∧ 0x100 ≤ a % 0x1000 then all
  else if isReg a 0x140000 0x100 4 0x40 then 0xFE800000
  else if a = 0x180000 then 0x001F0080
  else if a = 0x180004 then all
  else if 0x190100 ≤ a ∧ a < 0x190200 then (if a % 16 = 0 then 0xF7FFFFFF else all)
  else if a = 0x1C0000 then 0xD000FFFF
  else if a = 0x1C0010 ∨ a = 0x1C0014 then all
  else if a = 0x200000 then 0xF800FF00
  else if 0x200010 ≤ a ∧ a < 0x200100 then all
  else 0

/-- R266: the register at `a` after SOFT_RESET: writable fields take their commit-instant values, the others their Reset column
values. LINK_Cn_TRAIN of head A's chains is part of their training. -/
def State.softWord (s : State) (a : Nat) : Word :=
  let mine := (s.chainsOf 0).any (fun c => a == 0x100008 + 0x1000 * c)
  let keep := BitVec.ofNat 32 (if mine then 0xFFFFFFFF else softKeep a)
  let rw := BitVec.ofNat 32 (regInfo a).rw
  (s.rd a &&& keep) ||| (~~~ keep &&& ((assocGet regReset s.commitRegs a &&& rw) ||| (regReset a &&& ~~~ rw)))

/-- Every register that may differ from its Reset column. -/
def State.softRegs (s : State) : State :=
  (s.regs ++ s.commitRegs).foldl (fun (t : State) e => t.wr e.1 (s.softWord e.1)) s

/-- The inputs whose CTRL differs from its commit-instant value. -/
def State.changedInputs (s : State) : List Nat :=
  (List.range 4).filter (fun i => s.rd (0x50000 + 0x40 * i) != assocGet regReset s.commitRegs (0x50000 + 0x40 * i))

/-- R434: an input whose CTRL is about to change stops. -/
def State.stopInput (s : State) (i : Nat) : State :=
  (if s.bit (F.IN_DSI_CTRL_EN i) then s.cutFrames i else s).releaseTargets i

/-- R268: head A shows black and goes on; NORMAL at once. -/
def State.blackHead (s : State) : State :=
  let s1 := if s.mode 0 = modeNormal then s else (s.headEvent 0).setMode 0 modeNormal
  let x := s1.head 0
  let s2 := s1.setHead 0 { x with
    layers := [], scan := none, selfEvent := none, comp := { x.comp with postEn := false, bg := 0, tmEn := false }
    fr := { x.fr with modeNew := true, selfOn := false } }
  ((s2.endHold 0).setFld (F.COMP_W0_POST_LUT_EN 0) 0).setFld (F.COMP_W1_BG 0) 0

/-- Everything that is over: regions, runs, stages, write-back, staging, touch. -/
def State.endWork (s : State) : State :=
  let s1 := ((s.wbStop.regionsSoftReset).calSoftReset).diagSoftReset.touchSoftReset
  { s1 with wb := WriteBack.reset, stages := [], layerHead := Vector.replicate 8 none, etch := { s1.etch with staging := none } }

/-- R268, R783: write-back and the touch engines are stopped, so their enables are clear whatever was committed. -/
def State.clearEnables (s : State) : State :=
  (s.setFld F.WB_CTRL_EN 0).each [0, 1, 2, 3] (fun s h => s.setFld (F.TOUCH_CFG0_EN h) 0)

/-- R268: the chains of heads B, C and D, and those of no head, go DARK; head A's leave SLACK and FURLED. -/
def State.resetChains (s : State) : State :=
  let mine := s.chainsOf 0
  (s.unfurlFor 0).each ((List.range 8).filter (fun c => !mine.contains c)) State.darken

/-- SOFT_RESET. -/
def State.softReset (s : State) : State :=
  let changed := s.changedInputs
  let s1 := (s.each changed State.stopInput).resetChains.endWork
  let s2 := (s1.softRegs.clearEnables.setFld F.PWR_STATE_STATE 0).each (List.range 64) State.judgeSurf
  let s3 := ((s2.each changed State.judgeInput).saSlots.showStages).headsSoftReset.blackHead
  let s4 := (s3.runWritten 0).regionsSoftReset.showPins
  telltaleChange s (s4.showFurled.touchJudgeAll)

/-- SOFT_RESET (R266). -/
def execSoftReset (s : State) : Host.Outcome State Fault Refusal :=
  .next (startCmd s (isOp 0x03) (fun s e =>
    let p := e.params
    runtimeCmd s (p.length == 1) [] (failAt 0 (par p 0 != 0xA55A)) true (Res.ok s.softReset)))

end Sys2Proof.Machine
end

