-- ==== Sys2Proof/Machine/PowerOn.lean ====
section
/-! DEFINITION. Power-on reset and the stand-alone bring-up (R50 to R101, Table 2-1), PORST_N low (R55, R894), the cold boot from
OFF (R56, R838). -/

namespace Sys2Proof.Machine

/-- What survives without power: the fuses and the Etch store; with them the model's own fields. -/
def State.volatileLost (s : State) : State :=
  { State.reset with
    pending := s.pending, free := s.free, fuses := s.fuses
    etch := { EtchState.reset with mem := s.etch.mem, flips := s.etch.flips } }

/-- Step 1 of Table 2-1: the strap is latched (R58) and the fuse shadow loaded (R177). -/
def State.latchStrap (s : State) (prof : Nat) : State :=
  let f := s.fuses
  let s1 := (s.setBit F.FUSE_STATUS_ENROL_LOCK f.enrolLock).setBit F.FUSE_STATUS_DEBUG_LOCK f.debugLock
  (((s1.setBit F.FUSE_STATUS_DK_PRESENT f.dkPresent).setFld F.FUSE_STATUS_ROLLBACK_STEPS f.rollback).setFld
    F.BOOT_SA_STATUS_PROF_STRAP prof).setFld F.BOOT_SA_STATUS_SA_ACTIVE 1

/-- The domains of a list come up. -/
def State.bringUp (s : State) (ds : List Nat) (b : BootFinds) : State :=
  s.each ds (fun s n =>
    let r := (ramOfDomain n).getD 0
    s.domainUp n (b.tileRepair.getD r 0))

/-- Table 7-8: the lowest Plate bank whose code reports a fault beyond repair. -/
def firstBadBank (repair : List Word) : Option Nat :=
  (List.range 64).find? (fun k => getBits (repair.getD (k / 16) 0) (2 * (k % 16)) 2 == 3)

/-- R57, R324, R326, R328: the Plate self-test reports. -/
def State.plateTested (s : State) (b : BootFinds) : State :=
  let s1 := (s.setFld F.PLATE_BIST_DONE 1).setFld F.PLATE_BIST_DURATION b.duration.val
  let s2 := s1.each [0, 1, 2, 3] (fun s r => s.wr (0x200020 + 4 * r) (b.plateRepair.getD r 0))
  match firstBadBank b.plateRepair with
  | none => s2
  | some k => ((s2.setFld F.PLATE_BIST_FAULT 1).setFld F.PLATE_BIST_FIRST_BAD_BANK k).setFld F.BOOT_SA_STATUS_PT_PLATE_FAULT 1

/-- R364, R367: Burin finds the head of the service log. -/
def State.findLog (s : State) : State :=
  (s.touchLog.setFld F.ETCH_LOG_HEAD_HEAD (s.etch.logHead.getD 0)).setFld F.ETCH_LOG_HEAD_VALID s.etch.validCells.length

/-- R60: the ROM profile for strap value `n`. -/
def romMap (n : Nat) : Nat := if n < 4 then n else 0

/-- Table 2-3: a ROM profile stands in. -/
def State.useRom (s : State) (n : Nat) : List Word × State :=
  (romProfile (romMap n), (s.setFld F.BOOT_SA_STATUS_PROF_SOURCE (if n < 4 then 1 else 2)).setFld F.BOOT_SA_STATUS_ROM_PROFILE (romMap n))

/-- R62: an entry that names only chains of PD18 to PD21, at least one, and a rate from 1 Hz to 240 Hz. -/
def saUsable (e : List Word) : Bool :=
  entOk e && entChainMap e != 0 && decide (10 ≤ entRate e) && decide (entRate e ≤ 2400)

/-- R60 to R63: the profile for strap value `n`, with its reported source. -/
def State.pickProfile (s : State) (n : Nat) : List Word × State :=
  let (r, s1) := s.profilesRecord
  match r with
  | none => (s1.setFld F.BOOT_SA_STATUS_PROFILES_MISSING 1).useRom n
  | some p =>
    let e := recordEntry p n
    if saUsable e then (e, s1) else (s1.setFld F.BOOT_SA_STATUS_ENTRY_UNUSABLE 1).useRom n

/-- R76, R81: input `i` (0 or 2) as the profile describes it, captured into surface 63. -/
def State.saInput (s : State) (e : List Word) (i : Nat) : State :=
  let s1 := (s.setFld (F.IN_DSI_CTRL_EN i) 1).setFld (F.IN_DSI_CTRL_SURF0 i) 63
  let s2 := if i = 0 then s1.setFld (F.IN_DSI_CTRL_LANES 0) (ent e 11 24 2)
    else ((s1.setFld (F.IN_LVDS_CTRL_DUAL i) (ent e 11 31 1)).setFld (F.IN_LVDS_CTRL_BITS i) (ent e 11 28 2)).setFld
      (F.IN_LVDS_CTRL_MAP i) (ent e 11 27 1)
  (s2.setInput i InputState.idle).setInState i inSearch

/-- R86, R88, R94: what Burin shows on head A: the size of the profile, the level, the ROM icons. -/
def State.saShow (s : State) (e : List Word) : State :=
  let s1 := (s.setFld F.BOOT_SA_STATUS_CHAIN_MAP (entChainMap e)).setBit F.BOOT_SA_STATUS_PT_OVERSIZE
    (decide (4194304 < entHact e * entVact e))
  let s2 := s1.setHead 0 { s1.head 0 with level := min 1024 (s1.fld (F.HEAD_BL_LEVEL 0)) }
  (s2.showLevel 0).saSlots.showPins

/-- Table 2-1, steps 1 to 6, from the state that power-on reset leaves. -/
def State.standAloneBoot (s : State) (prof : Nat) (b : BootFinds) : State :=
  let s1 := ((s.latchStrap prof).bringUp [1, 6, 7, 8, 9, 23] b).plateTested b
  let s2 := s1.findLog
  let (e, s3) := s2.pickProfile prof
  let s4 := (s3.setFld F.CAL_TEMP_TD (codeOf 16 b.temp)).retarget
  let lanes := ((List.range 8).filter (entNames e)).map laneDomain
  let s5 := ((s4.bringUp ([15, 17, 10, 11] ++ lanes) b).applyProfile 0 e).saShow e
  let s6 := (s5.setFld (F.HEAD_CTRL_RUN 0) 1).startHead 0
  [0, 2].foldl (fun (s : State) i => s.saInput e i) s6

/-- POWER_ON_RESET (R50 to R67, R326): PORST_N rises with the strap at `prof`. -/
def execPowerOnReset (prof : Fin 8) (b : BootFinds) (s : State) : Host.Outcome State Fault Refusal :=
  .next (s.volatileLost.standAloneBoot prof.val b)

/-- R334: the Etch word attempt that loses its power leaves no defined content (log entry 15); `log` says whose word it is. -/
def State.cutWord (s : State) (cut : Option Bool) : State :=
  match cut with
  | some log => if s.mayWrite && s.canAttempt log then s.tearNext log else s
  | none => s

/-- PORST_N_LOW_PULSE (R55, R894): PORST_N goes low, for 10 µs or more if `long`. `cut`: the Etch word attempt that the reset
cuts: the log append's or the update's; none when no attempt is cut. -/
def execPorstNLowPulse (long : Bool) (cut : Option Bool) (s : State) : Host.Outcome State Fault Refusal :=
  .next (if long then { (s.cutWord cut).volatileLost with off := true, porst := true } else s)

/-- WAKE_N_COLD_BOOT (R56, R833, R838): in OFF, WAKE_N has been low for 100 µs. -/
def execWakeNColdBoot (prof : Fin 8) (b : BootFinds) (s : State) : Host.Outcome State Fault Refusal :=
  .next (if s.off ∧ !s.porst then s.volatileLost.standAloneBoot prof.val b else s)

end Sys2Proof.Machine
end

