-- ==== Sys2Proof/Machine/Window.lean ====
section
/-! DEFINITION. The Command Window's transactions (R201 to R237, R928 to R930): COMMAND, REPLY, STATUS, PUSH, width
reset, bad kind, framing. One step is one whole transaction: the latch of R209 at the fall of CW_CS_N and the effects of
R210 at its rise (log entry 5). Its operand holds the lines as sampled at each rising edge of CW_SCK (R201, R202); levels and clocks while
CW_CS_N is high are no part of it (R212), and a line that nothing drives is sampled at any level (R928). -/

namespace Sys2Proof.Machine

/-! ### LAST_ERR codes (Table 5-6) -/

def errNone := 0x0
def errBadKind := 0x1
def errFraming := 0x2
def errCrc := 0x3
def errCmdqFull := 0x4
def errTooLong := 0x5
def errPushCredit := 0x6
def errPushRegion := 0x7
def errReplyEmpty := 0x8
def errShortRead := 0x9
def errWidthReset := 0xA

/-! ### Clocks and bytes (R203, R204) -/

/-- Line CW_IO`n` at a clock. -/
def cwLine (x : CwClock) (n : Nat) : Nat := x.toNat / 2 ^ n % 2

/-- R203: eight clocks of CW_IO0 make a byte, most significant bit first; the clocks that are left. -/
def singleBytes : List CwClock → List Byte × Nat
  | a :: b :: c :: d :: e :: f :: g :: h :: t =>
    let r := singleBytes t
    (BitVec.ofNat 8 ([a, b, c, d, e, f, g, h].foldl (fun n x => 2 * n + cwLine x 0) 0) :: r.1, r.2)
  | l => ([], l.length)

/-- R204: two clocks make a byte, high nibble first, CW_IO3 the most significant bit of each. -/
def quadBytes : List CwClock → List Byte × Nat
  | a :: b :: t =>
    let r := quadBytes t
    (BitVec.ofNat 8 (16 * a.toNat + b.toNat) :: r.1, r.2)
  | l => ([], l.length)

/-- The whole bytes of a transaction, and the clocks of a byte that it cut. -/
def clockBytes (quad : Bool) (t : List CwClock) : List Byte × Nat := if quad then quadBytes t else singleBytes t

/-- Clocks per byte. -/
def byteClocks (quad : Bool) : Nat := if quad then 2 else 8

/-- The clocks of a host that drives bytes `l` in either width; in single width it leaves CW_IO1 to CW_IO3 low. -/
def clocksOf (quad : Bool) (l : List Byte) : List CwClock :=
  l.flatMap (fun b =>
    if quad then [BitVec.ofNat 4 (b.toNat / 16), BitVec.ofNat 4 b.toNat]
    else [7, 6, 5, 4, 3, 2, 1, 0].map (fun k => BitVec.ofNat 4 (b.toNat / 2 ^ k % 2)))

/-- R206: the width in effect. -/
def State.quad (s : State) : Bool := s.bit F.CW_MODE_WIDTH

/-- R205: nothing is driven in this transaction. -/
def State.highZ (s : State) : State := { s with cw := { s.cw with out := [], outClocks := 0 } }

/-- R205, Table 5-1: the port drives bytes `l` from clock `at_` on, for at most `n` clocks; `quad` is the width of the transaction. -/
def State.drive (s : State) (quad : Bool) (at_ n : Nat) (l : List Byte) : State :=
  let k := min n (byteClocks quad * l.length)
  { s with cw := { s.cw with out := l.take ((k + byteClocks quad - 1) / byteClocks quad), outAt := at_, outClocks := k, outQuad := quad } }

/-- R203 to R205: the level that the port drives on CW_IO`n` at clock `k` of the latest transaction; none at high impedance. -/
def State.cwOut (s : State) (k n : Nat) : Option Bool :=
  let c := s.cw
  if k < c.outAt ∨ c.outAt + c.outClocks ≤ k then none
  else
    let i := k - c.outAt
    if c.outQuad then
      let b := (c.out.getD (i / 2) 0).toNat
      if n < 4 then some (bitsOf (if i % 2 = 0 then b / 16 else b) n 1 == 1) else none
    else if n = 1 then some (bitsOf (c.out.getD (i / 8) 0).toNat (7 - i % 8) 1 == 1) else none

/-- R210, R230: a transaction that was not STATUS ends with outcome `err`. -/
def State.endTx (s : State) (err : Nat) : State := { s with cw := { s.cw with lastErr := err, seq := (s.cw.seq + 1) % 16 } }

/-- A FRAMING outcome: counted, nothing driven (R213, R214). -/
def State.framed (s : State) : State := (s.satAdd F.CW_ERR_COUNT_FRAME_CNT 1).endTx errFraming

/-- The length a COMMAND transaction must have after its kind byte (Table 5-1). -/
def cmdTxLen (l : Nat) : Nat := 4 + 4 * l + 2

/-- R216: judge a COMMAND transaction whose bytes after the kind byte are `b`; `stray` says it ended within a byte. -/
def State.commandTx (s : State) (b : List Byte) (stray : Bool) : State :=
  let len := beNat ((b.drop 2).take 2)
  if 4 ≤ b.length ∧ 1026 < len then (s.satAdd F.CW_ERR_COUNT_FRAME_CNT 1).endTx errTooLong
  else if stray ∨ b.length < 4 ∨ b.length ≠ cmdTxLen len then s.framed
  else if 16 ≤ s.cw.cmdQ.length then (s.satAdd F.CW_ERR_COUNT_FULL_CNT 1).endTx errCmdqFull
  else
    let ok := crc16 (b.take (4 + 4 * len)) == beNat (b.drop (4 + 4 * len))
    let e : CmdEntry := ⟨b.getD 0 0, b.getD 1 0, wordsOf ((b.drop 4).take (4 * len)), ok, s.cw.pushCount⟩
    let s' := { s with cw := { s.cw with cmdQ := s.cw.cmdQ ++ [e] } }
    if ok then s'.endTx errNone else (s'.satAdd F.CW_ERR_COUNT_CRC_CNT 1).endTx errCrc

/-- Table 5-3: a reply as it travels. -/
def replyBytes (r : Reply) : List Byte :=
  let h := [r.tag, r.status] ++ beBytes 2 r.payload.length ++ byteString r.payload
  h ++ beBytes 2 (crc16 h)

/-- R221: the empty marker. -/
def emptyMarker : List Byte := [0x00, 0xFF, 0x00, 0x00, 0x4B, 0xA3]

/-- R207: a reply that carries a width change has been delivered; the change takes effect. -/
def State.deliverWidth (s : State) (r : Reply) : State :=
  match r.width with
  | none => s
  | some w => s.setFld F.CW_MODE_WIDTH w

/-- R219, R220: remove the oldest reply and keep it for REPEAT. -/
def State.removeReply (s : State) (r : Reply) : State :=
  { s with cw := { s.cw with replyQ := s.cw.replyQ.tail, lastRemoved := some { r with width := none } } }

/-- R207: the oldest reply stays; its width change has happened. -/
def State.keepReply (s : State) (r : Reply) : State :=
  { s with cw := { s.cw with replyQ := { r with width := none } :: s.cw.replyQ.tail } }

/-- R218 to R221: what a REPLY transaction with REPLY_CTL `ctl` delivers: the bytes, and the reply, none for the empty marker. -/
def State.delivery (s : State) (ctl : Byte) : List Byte × Option Reply :=
  let r := if ctl = 0 then s.cw.replyQ.head? else if ctl = 1 then s.cw.lastRemoved else none
  (r.elim emptyMarker replyBytes, r)

/-- R207, R219 to R221: the effects of a REPLY transaction that clocked out `n` clocks of its output phase. -/
def State.replyTx (s : State) (ctl : Byte) (n : Nat) (quad : Bool) : State :=
  let (b, r) := s.delivery ctl
  let whole := decide (byteClocks quad * b.length ≤ n)
  match r with
  | none => if ctl.toNat ≤ 1 then s.endTx errReplyEmpty else s.framed
  | some r =>
    if ctl = 0 then
      (if whole then ((s.deliverWidth r).removeReply r).endTx errNone else ((s.deliverWidth r).keepReply r).endTx errShortRead)
    else s.endTx (if whole then errNone else errShortRead)

/-- Table 5-1: the turnaround of REPLY and STATUS. -/
def turnaround (quad : Bool) : Nat := if quad then 2 else 0

/-- R929: CW_PUSH_REGION and CW_PUSH_STATE after a push whose header named region byte `r`. -/
def State.pushShow (s : State) (r : Nat) (accepted : Bool) : State :=
  let s1 := (s.setFld F.CW_PUSH_REGION_REGION (r % 32)).setBit F.CW_PUSH_REGION_ACCEPTED accepted
  s1.setFld F.CW_PUSH_STATE_NEXT_OFFSET
    (match s1.regions[r]? with
     | some g => if g.st = 1 then g.next else 0
     | none => 0)

/-- R226, R463: an accepted push enters the push buffer and the region's next expected offset advances. -/
def State.acceptPush (s : State) (r off : Nat) (data : List Byte) : State :=
  match s.regions[r]? with
  | none => s
  | some g =>
    { s with
      regions := s.regions.setIfInBounds r { g with next := g.next + data.length }
      cw := { s.cw with pushBuf := s.cw.pushBuf ++ [⟨s.cw.pushCount, r, g.addr + off, data⟩], pushCount := s.cw.pushCount + 1 } }

/-- R224 rule 3: FLAGS, LENGTH, REGION, OFFSET or the end of the data is wrong. -/
def State.pushBad (s : State) (r flags n off : Nat) : Bool :=
  flags != 0 || n == 0 || 16320 < n ||
    (match s.regions[r]? with
     | none => true
     | some g => g.st != 1 || off != g.next || g.len < off + n)

/-- R224, R929: judge a PUSH transaction whose bytes after the kind byte are `b`. -/
def State.pushTx (s : State) (b : List Byte) (stray : Bool) : State :=
  if b.length < 8 then s.framed
  else
    let r := (b.getD 0 0).toNat
    let n := beNat ((b.drop 2).take 2)
    let off := beNat ((b.drop 4).take 4)
    if stray ∨ b.length ≠ 8 + n + 2 then (s.pushShow r false).framed
    else if s.pushFree < n then ((s.pushShow r false).satAdd F.CW_ERR_COUNT_PUSH_CNT 1).endTx errPushCredit
    else if s.pushBad r (b.getD 1 0).toNat n off then
      ((s.pushShow r false).satAdd F.CW_ERR_COUNT_PUSH_CNT 1).endTx errPushRegion
    else if crc16 (b.take (8 + n)) ≠ beNat (b.drop (8 + n)) then
      ((s.pushShow r false).satAdd F.CW_ERR_COUNT_CRC_CNT 1).endTx errCrc
    else ((s.acceptPush r off ((b.drop 8).take n)).pushShow r true).endTx errNone

/-- R208: cancel every change of WIDTH that still waits for its reply. -/
def State.cancelWidth (s : State) : State :=
  { s with cw := { s.cw with replyQ := s.cw.replyQ.map (fun r => { r with width := none }) } }

/-! ### A transaction (R208, R213, R214) -/

/-- What a transaction is, from its clocks: the part of the byte that it cut and the bytes after the kind byte go with it. -/
inductive CwTx where
  /-- No clock (R213). -/
  | empty
  | widthReset
  /-- It ended inside its kind byte. -/
  | cutKind
  | command (b : List Byte) (stray : Bool)
  /-- `clocks` counts those after the kind byte. -/
  | reply (b : List Byte) (clocks : Nat)
  | status (clocks : Nat)
  | push (b : List Byte) (stray : Bool)
  | badKind
  deriving DecidableEq, Repr

/-- R208, R213: the clocks `t` in the width in effect. -/
def State.transaction (s : State) (t : List CwClock) : CwTx :=
  if t.isEmpty then .empty
  else if t.length = 8 && t.all (fun x => cwLine x 0 == 1) then .widthReset
  else
    let (l, k) := clockBytes s.quad t
    match l with
    | [] => .cutKind
    | kind :: b =>
      if kind = 1 then .command b (k != 0)
      else if kind = 2 then .reply b (t.length - byteClocks s.quad)
      else if kind = 3 then .status (t.length - byteClocks s.quad)
      else if kind = 4 then .push b (k != 0)
      else .badKind

/-! ### The rows -/

/-- COMMAND (R203, R204, R216): clocks that spell another kind of transaction are no COMMAND. -/
def execCommand (t : List CwClock) (s : State) : Host.Outcome State Fault Refusal :=
  .next (s.ifLive (match s.transaction t with
    | .command b stray => s.highZ.commandTx b stray
    | _ => s))

/-- REPLY (R205, R219). -/
def execReply (t : List CwClock) (s : State) : Host.Outcome State Fault Refusal :=
  .next (s.ifLive (match s.transaction t with
    | .reply (ctl :: _) n =>
      let q := s.quad
      let k := n - byteClocks q - turnaround q
      (s.drive q (2 * byteClocks q + turnaround q) k (s.delivery ctl).1).replyTx ctl k q
    | _ => s))

/-- STATUS (R205, R222, R223): only what the port drives changes. -/
def execStatus (t : List CwClock) (s : State) : Host.Outcome State Fault Refusal :=
  .next (s.ifLive (match s.transaction t with
    | .status n =>
      let q := s.quad
      let k := n - turnaround q
      s.drive q (byteClocks q + turnaround q) k
        (beBytes 4 s.snapshot ++ wordBytes s.irqStatus ++ List.replicate (k / byteClocks q + 1) 0)
    | _ => s))

/-- PUSH (R224). -/
def execPush (t : List CwClock) (s : State) : Host.Outcome State Fault Refusal :=
  .next (s.ifLive (match s.transaction t with
    | .push b stray => s.highZ.pushTx b stray
    | _ => s))

/-- WIDTH_RESET (R208). -/
def execWidthReset (t : List CwClock) (s : State) : Host.Outcome State Fault Refusal :=
  .next (s.ifLive (match s.transaction t with
    | .widthReset => ((s.highZ.cancelWidth).setFld F.CW_MODE_WIDTH 0).endTx errWidthReset
    | _ => s))

/-- BAD_KIND (R213): a first byte that is no kind byte. -/
def execBadKind (t : List CwClock) (s : State) : Host.Outcome State Fault Refusal :=
  .next (s.ifLive (match s.transaction t with
    | .badKind => (s.highZ.satAdd F.CW_ERR_COUNT_FRAME_CNT 1).endTx errBadKind
    | _ => s))

/-- FRAMING (R213, R214, R221): the transaction ended inside its kind byte or before REPLY_CTL was complete, or a COMMAND or PUSH ended at
the wrong length. -/
def execFraming (t : List CwClock) (s : State) : Host.Outcome State Fault Refusal :=
  .next (s.ifLive (match s.transaction t with
    | .cutKind => s.highZ.framed
    | .reply [] _ => s.highZ.framed
    | .command b stray => s.highZ.commandTx b stray
    | .push b stray => s.highZ.pushTx b stray
    | _ => s))

/-- CRC_ERROR (R216 rule 4): the entry replies CRC_ERROR and does nothing else. -/
def execCrcError (s : State) : Host.Outcome State Fault Refusal :=
  .next (startCmd s (fun e => !e.crcOk) (fun s _ => Res.stat s stCrcError))

/-- UNKNOWN_OPCODE (R247). -/
def execUnknownOpcode (s : State) : Host.Outcome State Fault Refusal :=
  .next (startCmd s (fun e => e.crcOk && !knownOpcode e.opcode.toNat) (fun s _ => Res.stat s stUnknownOpcode))

end Sys2Proof.Machine
end

