-- ==== Sys2Proof/Machine/Dispatch.lean ====
section
/-! DEFINITION. One arm per command: a direct call of its meaning. -/

namespace Sys2Proof.Machine

def exec (i : Instr) (s : State) : Host.Outcome State Fault Refusal :=
  match i with
  | .powerOnReset prof b => Sys2Proof.Machine.execPowerOnReset prof b s
  | .porstNLowPulse long cut => Sys2Proof.Machine.execPorstNLowPulse long cut s
  | .firstCountedFrame h => Sys2Proof.Machine.execFirstCountedFrame h s
  | .pwrFailNFall => Sys2Proof.Machine.execPwrFailNFall s
  | .unpark => Sys2Proof.Machine.execUnpark s
  | .systemTick rx => Sys2Proof.Machine.execSystemTick rx s
  | .blinkPhaseChange => Sys2Proof.Machine.execBlinkPhaseChange s
  | .backlightLevelCompute => Sys2Proof.Machine.execBacklightLevelCompute s
  | .blCurrentRegulation => Sys2Proof.Machine.execBlCurrentRegulation s
  | .calTargetRecompute => Sys2Proof.Machine.execCalTargetRecompute s
  | .svcDebounceChange samples => Sys2Proof.Machine.execSvcDebounceChange samples s
  | .p1WindowOpen => Sys2Proof.Machine.execP1WindowOpen s
  | .p1WindowClose => Sys2Proof.Machine.execP1WindowClose s
  | .sealPulseSample first second => Sys2Proof.Machine.execSealPulseSample first second s
  | .sealStateChange => Sys2Proof.Machine.execSealStateChange s
  | .logAppend => Sys2Proof.Machine.execLogAppend s
  | .ttDebouncedChange n high stood => Sys2Proof.Machine.execTtDebouncedChange n high stood s
  | .gpioEdge pins => Sys2Proof.Machine.execGpioEdge pins s
  | .vppOkChange ok => Sys2Proof.Machine.execVppOkChange ok s
  | .debugRelock enRose => Sys2Proof.Machine.execDebugRelock enRose s
  | .command t => Sys2Proof.Machine.execCommand t s
  | .reply t => Sys2Proof.Machine.execReply t s
  | .status t => Sys2Proof.Machine.execStatus t s
  | .push t => Sys2Proof.Machine.execPush t s
  | .widthReset t => Sys2Proof.Machine.execWidthReset t s
  | .badKind t => Sys2Proof.Machine.execBadKind t s
  | .framing t => Sys2Proof.Machine.execFraming t s
  | .crcError => Sys2Proof.Machine.execCrcError s
  | .unknownOpcode => Sys2Proof.Machine.execUnknownOpcode s
  | .nop => Sys2Proof.Machine.execNop s
  | .getInfo => Sys2Proof.Machine.execGetInfo s
  | .getDetail => Sys2Proof.Machine.execGetDetail s
  | .softReset => Sys2Proof.Machine.execSoftReset s
  | .regRead => Sys2Proof.Machine.execRegRead s
  | .regWrite => Sys2Proof.Machine.execRegWrite s
  | .cwModeWrite => Sys2Proof.Machine.execCwModeWrite s
  | .w1cClear hw => Sys2Proof.Machine.execW1cClear hw s
  | .minReset => Sys2Proof.Machine.execMinReset s
  | .inCtrlWrite => Sys2Proof.Machine.execInCtrlWrite s
  | .etchWindowWrite => Sys2Proof.Machine.execEtchWindowWrite s
  | .loadBegin repair => Sys2Proof.Machine.execLoadBegin repair s
  | .loadSegment fetch => Sys2Proof.Machine.execLoadSegment fetch s
  | .startEarly => Sys2Proof.Machine.execStartEarly s
  | .scribeRelease => Sys2Proof.Machine.execScribeRelease s
  | .presentTag => Sys2Proof.Machine.execPresentTag s
  | .bootStatus => Sys2Proof.Machine.execBootStatus s
  | .tagTimeout => Sys2Proof.Machine.execTagTimeout s
  | .loadStalled => Sys2Proof.Machine.execLoadStalled s
  | .scribeFault => Sys2Proof.Machine.execScribeFault s
  | .etchFetchFault => Sys2Proof.Machine.execEtchFetchFault s
  | .stylusRelease => Sys2Proof.Machine.execStylusRelease s
  | .scribeGatedWrite a w => Sys2Proof.Machine.execScribeGatedWrite a w s
  | .scribeDmaWrite target off d fetch portA => Sys2Proof.Machine.execScribeDmaWrite target off d fetch portA s
  | .commitInstant repair => Sys2Proof.Machine.execCommitInstant repair s
  | .loserRetirement => Sys2Proof.Machine.execLoserRetirement s
  | .enrolBegin => Sys2Proof.Machine.execEnrolBegin s
  | .enrolData => Sys2Proof.Machine.execEnrolData s
  | .enrolEnd => Sys2Proof.Machine.execEnrolEnd s
  | .enrolAbort => Sys2Proof.Machine.execEnrolAbort s
  | .enrolSessionTimeout => Sys2Proof.Machine.execEnrolSessionTimeout s
  | .presenceStatus => Sys2Proof.Machine.execPresenceStatus s
  | .sealStatus => Sys2Proof.Machine.execSealStatus s
  | .fuseProgram v vpp pwr => Sys2Proof.Machine.execFuseProgram v vpp pwr s
  | .debugUnlock enLow => Sys2Proof.Machine.execDebugUnlock enLow s
  | .powerState => Sys2Proof.Machine.execPowerState s
  | .powerEntryComplete => Sys2Proof.Machine.execPowerEntryComplete s
  | .wakeEvent k pin => Sys2Proof.Machine.execWakeEvent k pin s
  | .wakeTimerExpiry => Sys2Proof.Machine.execWakeTimerExpiry s
  | .wakeNColdBoot prof b => Sys2Proof.Machine.execWakeNColdBoot prof b s
  | .wakeComplete => Sys2Proof.Machine.execWakeComplete s
  | .domainCtrl => Sys2Proof.Machine.execDomainCtrl s
  | .domainPowerUpDone n repair => Sys2Proof.Machine.execDomainPowerUpDone n repair s
  | .drainTimeout n lost => Sys2Proof.Machine.execDrainTimeout n lost s
  | .domainOff n => Sys2Proof.Machine.execDomainOff n s
  | .wakeConfig => Sys2Proof.Machine.execWakeConfig s
  | .supplyConfig => Sys2Proof.Machine.execSupplyConfig s
  | .adcConversion code => Sys2Proof.Machine.execAdcConversion code s
  | .crankEnd => Sys2Proof.Machine.execCrankEnd s
  | .plateTsenseSample t => Sys2Proof.Machine.execPlateTsenseSample t s
  | .refreshHiRelease => Sys2Proof.Machine.execRefreshHiRelease s
  | .deepBandSlower => Sys2Proof.Machine.execDeepBandSlower s
  | .selfRefreshBurst => Sys2Proof.Machine.execSelfRefreshBurst s
  | .periodStart => Sys2Proof.Machine.execPeriodStart s
  | .plateRequest c r => Sys2Proof.Machine.execPlateRequest c r s
  | .waitingRequestAdmitted c => Sys2Proof.Machine.execWaitingRequestAdmitted c s
  | .plateAccess word mask => Sys2Proof.Machine.execPlateAccess word mask s
  | .etchWordWrite log ok => Sys2Proof.Machine.execEtchWordWrite log ok s
  | .etchStagingTimeout => Sys2Proof.Machine.execEtchStagingTimeout s
  | .etchRead word mask => Sys2Proof.Machine.execEtchRead word mask s
  | .etchWriteRecord => Sys2Proof.Machine.execEtchWriteRecord s
  | .etchList => Sys2Proof.Machine.execEtchList s
  | .inputFrameStart n vc1 => Sys2Proof.Machine.execInputFrameStart n vc1 s
  | .inputLine n vc1 l => Sys2Proof.Machine.execInputLine n vc1 l s
  | .inputFrameEnd n vc1 => Sys2Proof.Machine.execInputFrameEnd n vc1 s
  | .dsiPacket p lanes hdr crcOk => Sys2Proof.Machine.execDsiPacket p lanes hdr crcOk s
  | .writeMemoryStart p px => Sys2Proof.Machine.execWriteMemoryStart p px s
  | .writeMemoryContinue p px => Sys2Proof.Machine.execWriteMemoryContinue p px s
  | .setColumnAddress p first last => Sys2Proof.Machine.execSetColumnAddress p first last s
  | .setPageAddress p first last => Sys2Proof.Machine.execSetPageAddress p first last s
  | .setTearOn p => Sys2Proof.Machine.execSetTearOn p s
  | .setTearOff p => Sys2Proof.Machine.execSetTearOff p s
  | .enterSleepMode p => Sys2Proof.Machine.execEnterSleepMode p s
  | .exitSleepMode p => Sys2Proof.Machine.execExitSleepMode p s
  | .getPowerMode p => Sys2Proof.Machine.execGetPowerMode p s
  | .getPixelFormat p => Sys2Proof.Machine.execGetPixelFormat p s
  | .getSignalMode p => Sys2Proof.Machine.execGetSignalMode p s
  | .busTurnaround p => Sys2Proof.Machine.execBusTurnaround p s
  | .ulpsEntry p => Sys2Proof.Machine.execUlpsEntry p s
  | .ulpsExit p => Sys2Proof.Machine.execUlpsExit p s
  | .inputLost n => Sys2Proof.Machine.execInputLost n s
  | .lvdsLock n khz => Sys2Proof.Machine.execLvdsLock n khz s
  | .vc1Line p f packets => Sys2Proof.Machine.execVc1Line p f packets s
  | .regionOpen => Sys2Proof.Machine.execRegionOpen s
  | .regionClose => Sys2Proof.Machine.execRegionClose s
  | .regionCancel => Sys2Proof.Machine.execRegionCancel s
  | .fence => Sys2Proof.Machine.execFence s
  | .fenceCommitCopy => Sys2Proof.Machine.execFenceCommitCopy s
  | .fenceFlip => Sys2Proof.Machine.execFenceFlip s
  | .fenceCatchupCopy => Sys2Proof.Machine.execFenceCatchupCopy s
  | .frameStart h => Sys2Proof.Machine.execFrameStart h s
  | .linePeriod h wrong upsets => Sys2Proof.Machine.execLinePeriod h wrong upsets s
  | .frameBoundary h => Sys2Proof.Machine.execFrameBoundary h s
  | .urgentFrameStart h => Sys2Proof.Machine.execUrgentFrameStart h s
  | .holdMaxExpiry h => Sys2Proof.Machine.execHoldMaxExpiry h s
  | .stageApply h => Sys2Proof.Machine.execStageApply h s
  | .tableLoad h k => Sys2Proof.Machine.execTableLoad h k s
  | .headConfig => Sys2Proof.Machine.execHeadConfig s
  | .panelProfile => Sys2Proof.Machine.execPanelProfile s
  | .refreshMode => Sys2Proof.Machine.execRefreshMode s
  | .layerConfig => Sys2Proof.Machine.execLayerConfig s
  | .layerEnable => Sys2Proof.Machine.execLayerEnable s
  | .lutLoad => Sys2Proof.Machine.execLutLoad s
  | .scalerCoeff => Sys2Proof.Machine.execScalerCoeff s
  | .tonemapConfig => Sys2Proof.Machine.execTonemapConfig s
  | .writeback => Sys2Proof.Machine.execWriteback s
  | .telltaleConfig => Sys2Proof.Machine.execTelltaleConfig s
  | .iconLoad => Sys2Proof.Machine.execIconLoad s
  | .telltaleForce => Sys2Proof.Machine.execTelltaleForce s
  | .chainConfig => Sys2Proof.Machine.execChainConfig s
  | .chainTrain => Sys2Proof.Machine.execChainTrain s
  | .stationRead => Sys2Proof.Machine.execStationRead s
  | .stationWrite => Sys2Proof.Machine.execStationWrite s
  | .stationTimeout c command => Sys2Proof.Machine.execStationTimeout c command s
  | .chainFurl => Sys2Proof.Machine.execChainFurl s
  | .furlComplete c => Sys2Proof.Machine.execFurlComplete c s
  | .unfurlComplete c tReturn => Sys2Proof.Machine.execUnfurlComplete c tReturn s
  | .returnActivity c => Sys2Proof.Machine.execReturnActivity c s
  | .trainingSet c lead s0 s1 allDone => Sys2Proof.Machine.execTrainingSet c lead s0 s1 allDone s
  | .enumAck c pkt caps2 minDrive => Sys2Proof.Machine.execEnumAck c pkt caps2 minDrive s
  | .rateSwitch c => Sys2Proof.Machine.execRateSwitch c s
  | .eqReq c pkt => Sys2Proof.Machine.execEqReq c pkt s
  | .trainingStateTimeout c => Sys2Proof.Machine.execTrainingStateTimeout c s
  | .sequenceLimit c => Sys2Proof.Machine.execSequenceLimit c s
  | .trainingReturnSilent c => Sys2Proof.Machine.execTrainingReturnSilent c s
  | .backoffExpiry c => Sys2Proof.Machine.execBackoffExpiry c s
  | .beaconWindowOpen c => Sys2Proof.Machine.execBeaconWindowOpen c s
  | .beaconWindowClose c => Sys2Proof.Machine.execBeaconWindowClose c s
  | .returnLost c => Sys2Proof.Machine.execReturnLost c s
  | .statusPacket c pkt => Sys2Proof.Machine.execStatusPacket c pkt s
  | .regReply c pkt => Sys2Proof.Machine.execRegReply c pkt s
  | .eyeScanStart => Sys2Proof.Machine.execEyeScanStart s
  | .eyeScanResult => Sys2Proof.Machine.execEyeScanResult s
  | .eyeScanAbort => Sys2Proof.Machine.execEyeScanAbort s
  | .eyePointDone c errors => Sys2Proof.Machine.execEyePointDone c errors s
  | .eyePacket c pkt => Sys2Proof.Machine.execEyePacket c pkt s
  | .eyePacketTimeout c => Sys2Proof.Machine.execEyePacketTimeout c s
  | .loopbackStart => Sys2Proof.Machine.execLoopbackStart s
  | .loopbackResult => Sys2Proof.Machine.execLoopbackResult s
  | .loopbackAbort => Sys2Proof.Machine.execLoopbackAbort s
  | .loopbackLogInterval c rx err => Sys2Proof.Machine.execLoopbackLogInterval c rx err s
  | .loopbackTargetReached c rx err hi lo sync => Sys2Proof.Machine.execLoopbackTargetReached c rx err hi lo sync s
  | .counters => Sys2Proof.Machine.execCounters s
  | .budgetSet => Sys2Proof.Machine.execBudgetSet s
  | .budgetRead => Sys2Proof.Machine.execBudgetRead s
  | .touchConfig => Sys2Proof.Machine.execTouchConfig s
  | .touchRead => Sys2Proof.Machine.execTouchRead s
  | .touchRebase => Sys2Proof.Machine.execTouchRebase s
  | .scanPacket c pkt => Sys2Proof.Machine.execScanPacket c pkt s
  | .scanSetTimeout h => Sys2Proof.Machine.execScanSetTimeout h s
  | .scanSetProcessed h => Sys2Proof.Machine.execScanSetProcessed h s
  | .calRun => Sys2Proof.Machine.execCalRun s
  | .calRunDone found => Sys2Proof.Machine.execCalRunDone found s
  | .calRead => Sys2Proof.Machine.execCalRead s
  | .calStore => Sys2Proof.Machine.execCalStore s
  | .calSelect => Sys2Proof.Machine.execCalSelect s
  | .pwmPeriodStart h => Sys2Proof.Machine.execPwmPeriodStart h s

end Sys2Proof.Machine
end

