-- ==== Sys2Proof/Safety.lean ====
section
/-! DEFINITION. The terms claims use: the invariants of every reachable state, and when a queued command starts. -/

namespace Sys2Proof.Machine

/-! ### Invariants -/

/-- Every sparse list of the state is in canonical form: registers, the Plate, the Tile RAMs, the Etch store and the bit errors of
both arrays. -/
def State.canonical (s : State) : Bool :=
  assocWf regReset s.regs && assocWf regReset s.commitRegs &&
    Memory.wf s.plate.mem && assocWf (fun _ => 0) s.plate.flips && assocWf (fun _ => 0) s.plate.gone &&
    Memory.wf s.tile.code && Memory.wf s.tile.data && Memory.wf s.tile.stylus && Memory.wf s.tile.lut &&
    assocWf s.tile.coeffDefault s.tile.coeff && assocWf s.tile.tableDefault s.tile.table &&
    Memory.wf s.etch.mem && assocWf (fun _ => 0) s.etch.flips

/-- R232: reply entries held or reserved: a command that executes and has not replied reserves one. -/
def State.repliesOwed (s : State) : Nat := s.cw.replyQ.length + (if s.cw.running.isSome then 1 else 0)

/-- Every queue and buffer stays within its size: 16 commands, 16 replies with the reserved one (R231), 16 KiB of pushes (R231), 4,096
gated writes (R130), 15 presence events (R165), 64 KiB of capture and 32 KiB of write-back (R389). -/
def State.bounded (s : State) : Bool :=
  decide (s.cw.cmdQ.length ≤ 16) && decide (s.repliesOwed ≤ 16) &&
    decide ((s.cw.pushBuf.map (fun i => i.data.length)).sum ≤ 16384) && decide (s.boot.commitQ.length ≤ 4096) &&
    decide (s.pres.events.length ≤ 15) && decide (bufBytes s.elastic ≤ 65536) && decide (bufBytes s.wbBuf ≤ 32768)

/-- R176: no fuse of `b` that `a` has blown is whole again. -/
abbrev Fuses.keptBy (a b : Fuses) : Prop :=
  (a.enrolLock = true → b.enrolLock = true) ∧ (a.debugLock = true → b.debugLock = true) ∧ a.rollback ≤ b.rollback ∧
    a.dkPresent = b.dkPresent

/-! ### A command that starts -/

/-- Entry `e` is at the head of the command queue, passed its CRC, carries opcode `op` and can start (R216, R232). -/
abbrev State.starts (s : State) (op : Nat) (e : CmdEntry) : Prop :=
  s.cw.cmdQ.head? = some e ∧ e.crcOk = true ∧ e.opcode.toNat = op ∧ s.canStart = true

/-- The same for a command that only the runtime executes, outside crank ride-through (R259, R853). -/
abbrev State.startsLive (s : State) (op : Nat) (e : CmdEntry) : Prop :=
  s.starts op e ∧ s.runtime = true ∧ s.bit F.PWR_STATE_RIDE = false

/-- R177: the fuse shadow of the AO domain shows the fuses. -/
def State.shadowed (s : State) : Bool :=
  s.bit F.FUSE_STATUS_ENROL_LOCK == s.fuses.enrolLock && s.bit F.FUSE_STATUS_DEBUG_LOCK == s.fuses.debugLock &&
    s.fld F.FUSE_STATUS_ROLLBACK_STEPS == s.fuses.rollback

/-! ### The rows that start commands (chapter 06) -/

/-- The opcode of a row that starts a command of the catalogue. -/
def opcodeOf : Instr → Option Nat
  | .nop => some 0x00
  | .getInfo => some 0x01
  | .getDetail => some 0x02
  | .softReset => some 0x03
  | .regRead => some 0x0A
  | .regWrite => some 0x0B
  | .cwModeWrite => some 0x0B
  | .w1cClear _ => some 0x0B
  | .minReset => some 0x0B
  | .inCtrlWrite => some 0x0B
  | .etchWindowWrite => some 0x0B
  | .loadBegin _ => some 0x10
  | .loadSegment _ => some 0x11
  | .startEarly => some 0x12
  | .presentTag => some 0x13
  | .bootStatus => some 0x14
  | .enrolBegin => some 0x15
  | .enrolData => some 0x15
  | .enrolEnd => some 0x15
  | .enrolAbort => some 0x15
  | .powerState => some 0x20
  | .domainCtrl => some 0x21
  | .wakeConfig => some 0x22
  | .supplyConfig => some 0x23
  | .headConfig => some 0x30
  | .panelProfile => some 0x31
  | .refreshMode => some 0x32
  | .layerConfig => some 0x40
  | .layerEnable => some 0x41
  | .lutLoad => some 0x42
  | .scalerCoeff => some 0x43
  | .tonemapConfig => some 0x44
  | .writeback => some 0x45
  | .regionOpen => some 0x50
  | .regionClose => some 0x52
  | .fence => some 0x53
  | .regionCancel => some 0x54
  | .calRun => some 0x60
  | .calRead => some 0x61
  | .calStore => some 0x62
  | .calSelect => some 0x63
  | .etchRead _ _ => some 0x70
  | .etchWriteRecord => some 0x71
  | .etchList => some 0x72
  | .chainConfig => some 0x80
  | .chainTrain => some 0x81
  | .stationRead => some 0x82
  | .stationWrite => some 0x83
  | .chainFurl => some 0x84
  | .touchConfig => some 0x90
  | .touchRead => some 0x91
  | .touchRebase => some 0x92
  | .telltaleConfig => some 0xA0
  | .iconLoad => some 0xA1
  | .telltaleForce => some 0xA2
  | .eyeScanStart => some 0xB0
  | .eyeScanResult => some 0xB0
  | .eyeScanAbort => some 0xB0
  | .loopbackStart => some 0xB1
  | .loopbackResult => some 0xB1
  | .loopbackAbort => some 0xB1
  | .counters => some 0xB2
  | .budgetSet => some 0xC0
  | .budgetRead => some 0xC1
  | .presenceStatus => some 0xD0
  | .fuseProgram _ _ _ => some 0xD1
  | .debugUnlock _ => some 0xD2
  | .sealStatus => some 0xD3
  | _ => none

/-- Which of the rows that share an opcode runs entry `e`, and when a command on regions may start (R227). -/
def picksEntry (s : State) (c : Instr) (e : CmdEntry) : Bool :=
  match c with
  | .regWrite => writeRow e == 0
  | .etchWindowWrite => writeRow e == 1
  | .cwModeWrite => writeRow e == 2
  | .minReset => writeRow e == 3
  | .inCtrlWrite => writeRow e == 4
  | .w1cClear _ => writeRow e == 5
  | .enrolBegin => parUnit e.params == 0 || decide (3 < parUnit e.params)
  | .enrolData => parUnit e.params == 1
  | .enrolEnd => parUnit e.params == 2
  | .enrolAbort => parUnit e.params == 3
  | .eyeScanStart => parBits e.params 0 16 8 != 1 && parBits e.params 0 16 8 != 2
  | .eyeScanResult => parBits e.params 0 16 8 == 1
  | .eyeScanAbort => parBits e.params 0 16 8 == 2
  | .loopbackStart => parBits e.params 0 16 8 != 1 && parBits e.params 0 16 8 != 2
  | .loopbackResult => parBits e.params 0 16 8 == 1
  | .loopbackAbort => parBits e.params 0 16 8 == 2
  | .regionOpen => s.cw.pushBuf.isEmpty
  | .regionClose => s.cw.pushBuf.isEmpty
  | .regionCancel => s.cw.pushBuf.isEmpty
  | .fence => s.cw.pushBuf.isEmpty
  | _ => true

/-- R248: the lengths that the tables of chapters 03 to 06 give an opcode: lowest, highest and, for SCALER_COEFF and
PANEL_PROFILE, what word 0 adds. -/
def lengthFits (op : Nat) (p : List Word) : Bool :=
  let n := p.length
  let between := fun (a b : Nat) => decide (a ≤ n) && decide (n ≤ b)
  if op = 0x00 ∨ op = 0x01 ∨ op = 0x12 ∨ op = 0x14 ∨ op = 0x53 ∨ op = 0x91 ∨ op = 0xD0 ∨ op = 0xD2 ∨ op = 0xD3 then n == 0
  else if op = 0x0B ∨ op = 0x11 then between 2 1025
  else if op = 0x10 then n == 64
  else if op = 0x13 then n == 8
  else if op = 0x15 then
    (if parUnit p = 0 ∨ 3 < parUnit p then n == 65 else if parUnit p = 1 then between 3 1026 else n == 1)
  else if op = 0x0A ∨ op = 0x22 ∨ op = 0x32 ∨ op = 0x61 ∨ op = 0x70 ∨ op = 0x82 ∨ op = 0xB0 ∨ op = 0xB1 ∨ op = 0xC0 then n == 2
  else if op = 0x23 then n == 4
  else if op = 0x30 ∨ op = 0x40 ∨ op = 0x90 then between 1 16
  else if op = 0x31 then n == (if parBits p 0 0 8 = 0xFF then 33 else 1)
  else if op = 0x42 ∨ op = 0x71 ∨ op = 0xA1 then between 2 1026
  else if op = 0x43 then between 2 1026 && (n - 1) % (if parBits p 0 16 1 = 0 then 4 else 2) == 0
  else if op = 0x44 ∨ op = 0x80 then between 1 8
  else if op = 0x45 ∨ op = 0xA0 then between 1 4
  else if op = 0x50 ∨ op = 0xA2 then n == 3
  else if op = 0x83 then between 2 65
  else n == 1

/-- R259: the unit numbers that Burin judges too. -/
def unitFits (op : Nat) (p : List Word) : Bool :=
  let u := parUnit p
  if op = 0x21 then u != 0 && decide (u ≤ 24)
  else if op = 0x30 ∨ op = 0x31 ∨ op = 0x32 ∨ op = 0x43 ∨ op = 0x44 ∨ op = 0x45 ∨ op = 0x90 ∨ op = 0x92 ∨ op = 0xA0 ∨ op = 0xA2 then
    decide (u ≤ 3)
  else if op = 0x40 ∨ op = 0x80 ∨ op = 0xB0 ∨ op = 0xB1 then decide (u ≤ 7)
  else if op = 0x42 then (lutBank u).isSome
  else if op = 0x50 then decide (u ≤ 63)
  else if op = 0x52 ∨ op = 0x54 ∨ op = 0xA1 then decide (u ≤ 31)
  else if op = 0xC0 ∨ op = 0xC1 then u != 0 && decide (u ≤ 20)
  else if op = 0x82 then decide (u < 0x80)
  else if op = 0x83 then decide (u < 0x80) || (u == 0xFE && decide (parBits p 0 20 4 ≤ 7)) || u == 0xFF
  else true

/-- Table 6-1: the opcodes that only the runtime executes. -/
def runtimeOnly (op : Nat) : Bool :=
  op == 0x03 || (decide (0x20 ≤ op) && decide (op ≤ 0x63)) || op == 0x71 || (decide (0x80 ≤ op) && decide (op ≤ 0xC1))

end Sys2Proof.Machine
end

