-- ==== Sys2Proof/Certificates/Slice0/Obligations.lean ====
section
/-! DEFINITION. The statements for the provers. Every command of the table has a clause that says which next state it answers with
its own effect; `s.starts op e` and `s.startsLive op e` are the conditions under which the command at the head of the command
queue starts (Safety). A statement that rests on a choice of the model names the log entry. -/

open Sys2Proof Sys2Proof.Machine

/-- Log entry 40: a step takes the command at the front of the queue. Log entry 40 (DESIGN CHOICE): with no command waiting
the block idles; and a word of the table spells no command. The model's own choices in it: log entries 4, 10, 40. -/
def Obligations.StepRunsFront : Prop :=
  (∀ (s : State) (c : Instr) (rest : List Instr), s.pending = c :: rest → step s = exec c { s with pending := rest }) ∧
  (∀ s : State, s.pending = [] → step s = .next s) ∧
  (∀ (s : State) (nbits w : Nat), s.withFetchWord nbits w = s)

/-- Every command of the table answers a next state: no meaning faults and none refuses. No command reaches the queue of
waiting commands, and draws of the free value only count up. The model's own choices in it: log entries 1, 10. -/
def Obligations.EveryCommandCompletes : Prop :=
  ∀ (c : Instr) (s : State), ∃ t, exec c s = .next t ∧ t.pending = s.pending ∧ s.free ≤ t.free

/-- R206, R158, R244 and Table 0-2: what the state at reset shows; the register resets are the Reset column of the manual's
tables. The reset state meets every invariant below. The model's own choices in it: log entries 3, 8. -/
def Obligations.ResetState : Prop :=
  (State.reset.phase = 0) ∧
  (State.reset.fld F.CW_MODE_WIDTH = 0) ∧
  (State.reset.fld F.SEAL_STATE_STATE = 0) ∧
  (State.reset.rd 0x10 = 0x20488084) ∧
  (State.reset.rd 0x14 = 0x9840C0FA) ∧
  (State.reset.irqStatus = 0) ∧
  (State.reset.irqLow = false) ∧
  (State.reset.cw = CwState.reset) ∧
  (State.reset.boot.commitQ = []) ∧
  (State.reset.fences = []) ∧
  (State.reset.pending = []) ∧
  (State.reset.fuses = ⟨false, 0, false, true⟩) ∧
  (State.reset.off = false) ∧
  (State.reset.canonical = true) ∧
  (State.reset.bounded = true)

/-- Every step keeps every memory in canonical form: the Plate, the Tile RAMs, the Etch store, and the bit errors of both
arrays. The model's own choices in it: log entries 6, 7. -/
def Obligations.StateStaysCanonical : Prop :=
  ∀ s t : State, s.canonical = true → step s = .next t → t.canonical = true

/-- R130, R165, R231, R389: every step keeps every queue and buffer within its size, counting the reply entry that an
executing command has reserved (R232). -/
def Obligations.QueuesStayBounded : Prop :=
  ∀ s t : State, s.bounded = true → step s = .next t → t.bounded = true

/-- R178: the fuses change only by FUSE_PROGRAM. R177, R191: while the fuse shadow shows the fuses, FUSE_PROGRAM makes no
blown fuse whole again, and the shadow goes on showing them. The model's own choices in it: log entries 1, 3. -/
def Obligations.FusesAreOneWay : Prop :=
  (∀ (c : Instr) (s t : State), (∀ v vpp pwr, c ≠ .fuseProgram v vpp pwr) → exec c s = .next t → t.fuses = s.fuses) ∧
  (∀ (v : List Bool) (vpp pwr : Option Nat) (s t : State), s.shadowed = true → exec (.fuseProgram v vpp pwr) s = .next t →
    s.fuses.keptBy t.fuses ∧ t.shadowed = true)

/-- R332: the stored contents of the Etch store change only when a word write ends, or when a reset cuts one. The model's
own choices in it: log entry 86. -/
def Obligations.OnlyWordWritesChangeEtch : Prop :=
  ∀ (c : Instr) (s t : State), (∀ log ok, c ≠ .etchWordWrite log ok) → (∀ long cut, c ≠ .porstNLowPulse long cut) →
    exec c s = .next t → t.etch.mem = s.etch.mem

/-- R829, R833: in OFF nothing acts but a cold boot and PORST_N: every other command leaves the machine as it is. The
model's own choices in it: log entries 4, 39. -/
def Obligations.OffIsDead : Prop :=
  ∀ (c : Instr) (s t : State), s.off = true → (∀ prof b, c ≠ .powerOnReset prof b) → (∀ prof b, c ≠ .wakeNColdBoot prof b) →
    (∀ long cut, c ≠ .porstNLowPulse long cut) → exec c s = .next t → t = s

/-- R216: a COMMAND transaction is judged in the order of the rule. The bytes `b` after the kind byte are opcode, TAG, LENGTH,
the parameter words and the CRC; `stray` says that it ended within a byte. R205: it drives nothing. -/
def Obligations.CommandIsJudgedInOrder : Prop :=
  ∀ (s : State) (t : List CwClock) (b : List Byte) (stray : Bool), s.off = false → s.transaction t = .command b stray →
    let n := beNat ((b.drop 2).take 2)
    let whole := stray = false ∧ b.length = 4 + 4 * n + 2
    let e : CmdEntry := ⟨b.getD 0 0, b.getD 1 0, wordsOf ((b.drop 4).take (4 * n)), true, s.cw.pushCount⟩
    let good := crc16 (b.take (4 + 4 * n)) = beNat (b.drop (4 + 4 * n))
    let u : State := { s with cw := { s.cw with out := [], outClocks := 0 } }
    (4 ≤ b.length → 1026 < n →
      exec (.command t) s = .next ((u.satAdd F.CW_ERR_COUNT_FRAME_CNT 1).endTx errTooLong)) ∧
    (b.length < 4 ∨ (n ≤ 1026 ∧ ¬ whole) →
      exec (.command t) s = .next ((u.satAdd F.CW_ERR_COUNT_FRAME_CNT 1).endTx errFraming)) ∧
    (n ≤ 1026 → whole → 16 ≤ s.cw.cmdQ.length →
      exec (.command t) s = .next ((u.satAdd F.CW_ERR_COUNT_FULL_CNT 1).endTx errCmdqFull)) ∧
    (n ≤ 1026 → whole → s.cw.cmdQ.length < 16 → ¬ good →
      exec (.command t) s = .next
        (({ u with cw := { u.cw with cmdQ := s.cw.cmdQ ++ [{ e with crcOk := false }] } }.satAdd F.CW_ERR_COUNT_CRC_CNT 1).endTx errCrc)) ∧
    (n ≤ 1026 → whole → s.cw.cmdQ.length < 16 → good →
      exec (.command t) s = .next ({ u with cw := { u.cw with cmdQ := s.cw.cmdQ ++ [e] } }.endTx errNone))

/-- R218 to R221: a REPLY transaction with NEXT, REPEAT or another REPLY_CTL, of a reply that is clocked out whole or not; `n` counts the
clocks after the kind byte, of which REPLY_CTL and the turnaround are no output. R205: what it drives. R207: a pending width takes effect
with the REPLY transaction that first delivers its reply. The model's own choices in it: log entry 45. -/
def Obligations.ReplyIsDelivered : Prop :=
  (∀ (s : State) (t : List CwClock) (ctl : Byte) (l : List Byte) (n : Nat), s.off = false → s.transaction t = .reply (ctl :: l) n →
    let q := s.quad
    let bc := if q then 2 else 8
    let ta := if q then 2 else 0
    let k := n - bc - ta
    let u := fun (b : List Byte) => s.drive q (2 * bc + ta) k b
    let marker : List Byte := [0x00, 0xFF, 0x00, 0x00, 0x4B, 0xA3]
    (ctl = 0 → ∀ r rs, s.cw.replyQ = r :: rs → r.width = none → bc * (replyBytes r).length ≤ k →
      exec (.reply t) s = .next ({ u (replyBytes r) with cw := { (u (replyBytes r)).cw with
        replyQ := rs, lastRemoved := some r } }.endTx errNone)) ∧
    (ctl = 0 → ∀ r rs, s.cw.replyQ = r :: rs → r.width = none → k < bc * (replyBytes r).length →
      exec (.reply t) s = .next ((u (replyBytes r)).endTx errShortRead)) ∧
    (ctl = 0 → s.cw.replyQ = [] → exec (.reply t) s = .next ((u marker).endTx errReplyEmpty)) ∧
    (ctl = 1 → ∀ r, s.cw.lastRemoved = some r →
      exec (.reply t) s = .next ((u (replyBytes r)).endTx (if bc * (replyBytes r).length ≤ k then errNone else errShortRead))) ∧
    (ctl = 1 → s.cw.lastRemoved = none → exec (.reply t) s = .next ((u marker).endTx errReplyEmpty)) ∧
    (1 < ctl.toNat → exec (.reply t) s = .next (((u marker).satAdd F.CW_ERR_COUNT_FRAME_CNT 1).endTx errFraming)) ∧
    (∀ b : List Byte, (u b).cw.outClocks = min k (bc * b.length) ∧ (u b).cw.outAt = 2 * bc + ta ∧
      (bc * b.length ≤ k → (u b).cw.out = b) ∧ ∀ i, i < (u b).cw.out.length → (u b).cw.out.getD i 0 = b.getD i 0)) ∧
  (∀ (s u : State) (t : List CwClock) (l : List Byte) (n w : Nat) (r : Reply) (rs : List Reply), s.off = false →
    s.transaction t = .reply (0 :: l) n → s.cw.replyQ = r :: rs → r.width = some w → w ≤ 1 →
    exec (.reply t) s = .next u → u.fld F.CW_MODE_WIDTH = w ∧ ∀ q ∈ u.cw.replyQ.head?, q ∈ rs.head? ∨ q = { r with width := none })

/-- R222, R223: a STATUS transaction delivers the snapshot, CW_IRQ_STATUS and then zeros, and changes no LAST_ERR, no SEQ
and no queue: nothing but what the port drives. -/
def Obligations.StatusChangesNothing : Prop :=
  ∀ (s : State) (t : List CwClock) (n : Nat), s.off = false → s.transaction t = .status n →
    let bc := if s.quad then 2 else 8
    let k := n - (if s.quad then 2 else 0)
    ∃ u, exec (.status t) s = .next u ∧
      u = { s with cw := { s.cw with out := u.cw.out, outAt := u.cw.outAt, outClocks := k, outQuad := s.quad } } ∧
      u.cw.outAt = bc + (if s.quad then 2 else 0) ∧ u.cw.out.length = (k + bc - 1) / bc ∧
      u.cw.out.take 8 = (beBytes 4 s.snapshot ++ wordBytes s.irqStatus).take u.cw.out.length ∧ ∀ x ∈ u.cw.out.drop 8, x = 0

/-- R224, R929: a PUSH transaction is judged in the order of the rule; an accepted push advances the region's next offset.
R225: a push that is not accepted leaves no data in the push buffer and changes no region state. The model's own choices
in it: log entry 93. -/
def Obligations.PushIsJudgedInOrder : Prop :=
  (∀ (s : State) (t : List CwClock) (b : List Byte) (stray : Bool), s.off = false → s.transaction t = .push b stray →
    let r := (b.getD 0 0).toNat
    let n := beNat ((b.drop 2).take 2)
    let off := beNat ((b.drop 4).take 4)
    let whole := stray = false ∧ b.length = 10 + n
    let legal := (b.getD 1 0).toNat = 0 ∧ 1 ≤ n ∧ n ≤ 16320 ∧ r ≤ 31 ∧ (s.region r).st = 1 ∧ off = (s.region r).next ∧
      off + n ≤ (s.region r).len
    let u : State := { s with cw := { s.cw with out := [], outClocks := 0 } }
    (b.length < 8 → exec (.push t) s = .next ((u.satAdd F.CW_ERR_COUNT_FRAME_CNT 1).endTx errFraming)) ∧
    (8 ≤ b.length → ¬ whole →
      exec (.push t) s = .next (((u.pushShow r false).satAdd F.CW_ERR_COUNT_FRAME_CNT 1).endTx errFraming)) ∧
    (whole → s.pushFree < n →
      exec (.push t) s = .next (((u.pushShow r false).satAdd F.CW_ERR_COUNT_PUSH_CNT 1).endTx errPushCredit)) ∧
    (whole → n ≤ s.pushFree → ¬ legal →
      exec (.push t) s = .next (((u.pushShow r false).satAdd F.CW_ERR_COUNT_PUSH_CNT 1).endTx errPushRegion)) ∧
    (whole → n ≤ s.pushFree → legal → crc16 (b.take (8 + n)) ≠ beNat (b.drop (8 + n)) →
      exec (.push t) s = .next (((u.pushShow r false).satAdd F.CW_ERR_COUNT_CRC_CNT 1).endTx errCrc)) ∧
    (whole → n ≤ s.pushFree → legal → crc16 (b.take (8 + n)) = beNat (b.drop (8 + n)) →
      let g := s.region r
      let v : State := { u.setRegion r { g with next := g.next + n } with
        cw := { u.cw with
          pushBuf := s.cw.pushBuf ++ [⟨s.cw.pushCount, r, g.addr + off, (b.drop 8).take n⟩], pushCount := s.cw.pushCount + 1 } }
      exec (.push t) s = .next ((v.pushShow r true).endTx errNone))) ∧
  (∀ (s u : State) (t : List CwClock), exec (.push t) s = .next u → u.cw.lastErr ≠ errNone ∨ s.off = true →
    u.cw.pushBuf = s.cw.pushBuf ∧ u.cw.pushCount = s.cw.pushCount ∧ u.regions = s.regions)

/-- R208, R213, R214: the transactions that carry nothing. R203, R204, R213: which transaction the clocks of a host spell, in either
width; in single width CW_IO0 alone counts. The model's own choices in it: log entries 4, 5. -/
def Obligations.EmptyTransactions : Prop :=
  (∀ (s : State) (t : List CwClock), s.off = false → s.transaction t = .widthReset →
    let u : State := { s with cw := { s.cw with
      out := [], outClocks := 0, replyQ := s.cw.replyQ.map (fun (r : Reply) => { r with width := none }) } }
    exec (.widthReset t) s = .next ((u.setFld F.CW_MODE_WIDTH 0).endTx errWidthReset)) ∧
  (∀ (s : State) (t : List CwClock), s.off = false →
    let u : State := { s with cw := { s.cw with out := [], outClocks := 0 } }
    (s.transaction t = .badKind → exec (.badKind t) s = .next ((u.satAdd F.CW_ERR_COUNT_FRAME_CNT 1).endTx errBadKind)) ∧
    (s.transaction t = .cutKind ∨ (∃ n, s.transaction t = .reply [] n) →
      exec (.framing t) s = .next ((u.satAdd F.CW_ERR_COUNT_FRAME_CNT 1).endTx errFraming)) ∧
    (∀ b stray, s.transaction t = .command b stray → exec (.framing t) s = exec (.command t) s) ∧
    (∀ b stray, s.transaction t = .push b stray → exec (.framing t) s = exec (.push t) s)) ∧
  (∀ (s : State) (b : List Byte) (cut : List CwClock), cut.length < (if s.quad then 2 else 8) →
    let t := fun (kind : Byte) => clocksOf s.quad (kind :: b) ++ cut
    let n := (if s.quad then 2 else 8) * b.length + cut.length
    s.transaction (t 1) = .command b (!cut.isEmpty) ∧ s.transaction (t 2) = .reply b n ∧ s.transaction (t 3) = .status n ∧
      s.transaction (t 4) = .push b (!cut.isEmpty) ∧
      (∀ kind : Byte, kind.toNat = 0 ∨ 4 < kind.toNat → kind ≠ 0xFF → s.quad = false → s.transaction (t kind) = .badKind) ∧
      (cut ≠ [] → s.transaction cut = .cutKind)) ∧
  (∀ s : State, s.transaction (List.replicate 8 1) = .widthReset ∧ s.transaction [] = .empty) ∧
  (∀ (s : State) (t v : List CwClock), s.quad = false → t.map (fun x => cwLine x 0) = v.map (fun x => cwLine x 0) →
    s.transaction t = s.transaction v)

/-- R217: a transaction changes nothing but the Command Window: its queues and counters, the region a push names, and
registers of the CW block. -/
def Obligations.TransactionFrame : Prop :=
  ∀ (c : Instr) (s t : State),
    (∃ x, c = .command x) ∨ (∃ x, c = .reply x) ∨ (∃ x, c = .status x) ∨ (∃ x, c = .push x) ∨ (∃ x, c = .widthReset x) ∨
      (∃ x, c = .badKind x) ∨ (∃ x, c = .framing x) →
    exec c s = .next t →
      t = { s with cw := t.cw, regions := t.regions, regs := t.regs } ∧
        (∀ a, a < 0x30000 ∨ 0x40000 ≤ a → t.rd a = s.rd a) ∧ t.cw.running = s.cw.running ∧ t.rd 0x30004 = s.rd 0x30004

/-- R216, R247: a CRC-failed entry replies CRC_ERROR and does nothing else; an opcode that no table lists replies
UNKNOWN_OPCODE in every phase. R247: 0x51 and every opcode from 0xD4 to 0xFF reply UNKNOWN_OPCODE in every phase. -/
def Obligations.UnknownCommands : Prop :=
  (∀ (s : State) (e : CmdEntry), s.cw.cmdQ.head? = some e → e.crcOk = false → s.canStart = true →
    exec .crcError s = .next (s.popCmd.post e stCrcError [])) ∧
  (∀ (s : State) (e : CmdEntry), s.cw.cmdQ.head? = some e → e.crcOk = true → knownOpcode e.opcode.toNat = false → s.canStart = true →
    exec .unknownOpcode s = .next (s.popCmd.post e stUnknownOpcode [])) ∧
  (∀ (s : State) (e : CmdEntry), s.starts e.opcode.toNat e → e.opcode.toNat = 0x51 ∨ 0xD4 ≤ e.opcode.toNat →
    exec .unknownOpcode s = .next (s.popCmd.post e stUnknownOpcode []))

/-- R241, R243, R244: CW_IRQ_N, the REPLY cause and the SPACE cause. -/
def Obligations.InterruptLine : Prop :=
  (∀ s : State, s.irqLow = true ↔ ∃ k : Nat, k < 32 ∧ getBits s.irqStatus k 1 = 1 ∧ getBits (s.rd 0x30008) k 1 = 1) ∧
  (∀ s : State, getBits s.irqStatus 0 1 = 1 ↔ s.cw.replyQ ≠ []) ∧
  (∀ s : State, s.cw.cmdQ.length = 16 → getBits (s.popCmd.irqStatus) 1 1 = 1 ∧ s.popCmd.cw.cmdQ.length = 15) ∧
  (∀ s : State, s.cw.cmdQ.length < 16 → s.popCmd.rd 0x30004 = s.rd 0x30004)

/-- R232, R261, R860: while another command executes, while no reply entry is free, outside RUN and IDLE, during an entry
and in parking, no row of the catalogue does anything. (ETCH_READ is left out: the cells that its operands fail do so in
any case.) R232: what keeps a command from starting. The model's own choices in it: log entry 4. -/
def Obligations.CommandsWaitTheirTurn : Prop :=
  (∀ (c : Instr) (op : Nat) (s : State), opcodeOf c = some op → (∀ w m, c ≠ .etchRead w m) →
    s.canStart = false ∨ (∀ e ∈ s.cw.cmdQ.head?, e.crcOk = false ∨ e.opcode.toNat ≠ op) → exec c s = .next s) ∧
  (∀ s : State, s.canStart = true ↔
    s.off = false ∧ s.cw.running = none ∧ s.cw.replyQ.length < 16 ∧ s.fld F.PWR_STATE_STATE ≤ 1 ∧ s.bit F.PWR_STATE_ENTERING = false ∧
      s.bit F.PWR_STATE_PARKED = false ∧ ¬ (s.phase = 5 ∧ s.boot.halted = true))

/-- R233: a command that starts leaves the queue, and either posts exactly one reply, with its own TAG, at the end of the
reply queue, or executes on with a reply entry reserved. The exception is FUSE_PROGRAM cut by PWR_FAIL_N (R194). -/
def Obligations.OneReplyEach : Prop :=
  ∀ (c : Instr) (op : Nat) (s t : State) (e : CmdEntry), opcodeOf c = some op → s.starts op e → picksEntry s c e = true →
    (∀ v vpp pwr, c = .fuseProgram v vpp pwr → pwr = none) → exec c s = .next t →
      t.cw.cmdQ = s.cw.cmdQ.tail ∧
        ((∃ r, t.cw.replyQ.map (fun q => (q.tag, q.status, q.payload)) =
            s.cw.replyQ.map (fun q => (q.tag, q.status, q.payload)) ++ [r] ∧ r.1 = e.tag ∧ t.cw.running = none) ∨
          (∃ w, t.cw.running = some ⟨e, w⟩ ∧ t.cw.replyQ = s.cw.replyQ))

/-- R248: each opcode accepts only the parameter lengths that its entry gives; a command with any other LENGTH replies
BAD_PARAM. -/
def Obligations.WrongLengthIsBadParam : Prop :=
  ∀ (c : Instr) (op : Nat) (s : State) (e : CmdEntry), opcodeOf c = some op → s.starts op e → picksEntry s c e = true →
    lengthFits op e.params = false → ∃ t r, exec c s = .next t ∧ t.cw.replyQ = s.cw.replyQ ++ [r] ∧ r.tag = e.tag ∧
      r.status = 0x04 ∧ t.cw.running = none

/-- R258, R259, R240: before the commit instant and in CHECK_FAILED a command of the runtime with a legal LENGTH and unit
number replies STATE_REFUSED with UNIT_CLASS 0x00, and has no effect. R259: an illegal unit number is judged before that
refusal. -/
def Obligations.EarlyCommandsRefused : Prop :=
  (∀ (c : Instr) (op : Nat) (s : State) (e : CmdEntry), opcodeOf c = some op → runtimeOnly op = true → s.starts op e →
    picksEntry s c e = true → lengthFits op e.params = true → unitFits op e.params = true → s.runtime = false →
      exec c s = .next (s.popCmd.post e stStateRefused
        [BitVec.ofNat 32 (s.popCmd.phase % 16 * 2 ^ 28 + s.popCmd.powerCode % 16 * 2 ^ 24)])) ∧
  (∀ (c : Instr) (op : Nat) (s : State) (e : CmdEntry), opcodeOf c = some op → runtimeOnly op = true → s.starts op e →
    picksEntry s c e = true → lengthFits op e.params = true → unitFits op e.params = false → s.runtime = false →
      exec c s = .next (s.popCmd.post e stBadParam [0]))

/-- R263 to R265, R113, R175, R399: the commands that read status. R399: what the clear of COUNTERS clears: every register
of the groups that hold plain counts, and of group 2 the counts alone. The model's own choices in it: log entries 1, 2,
80. -/
def Obligations.StatusCommands : Prop :=
  (∀ s e, s.starts 0x00 e → e.params = [] → exec .nop s = .next (s.popCmd.post e stOk [])) ∧
  (∀ s e, s.starts 0x01 e → e.params = [] →
    exec .getInfo s = .next (s.popCmd.post e stOk
      ([s.rd 0x10, s.rd 0x14] ++ idWords ++ [s.rd 0x2000C, romVersion, s.popCmd.stateWord 0 0 0, s.readReg 0x20000]))) ∧
  (∀ s e, s.starts 0x02 e → e.params = [0] →
    exec .getDetail s = .next (s.popCmd.post e stOk
      [romVersion, BitVec.ofNat 32 (hdrField s.boot.hdr 0x18 2 * 65536 + hdrField s.boot.hdr 0x1A 1), s.rd 0x48, idWords.headD 0])) ∧
  (∀ s e, s.starts 0x02 e → e.params = [1] →
    exec .getDetail s = .next (s.popCmd.post e stOk
      [BitVec.ofNat 32 s.popCmd.domainBits, BitVec.ofNat 32 (s.popCmd.powerCode * 2 ^ 28)])) ∧
  (∀ s e, s.starts 0x02 e → e.params = [2] →
    exec .getDetail s = .next (s.popCmd.post e stOk
      ([11, 12, 13, 14, 1, 2, 3, 4].map (fun n => BitVec.ofNat 32 (s.popCmd.fld (F.SENSE_CH_SCALED_SCALED n)))))) ∧
  (∀ s e, s.starts 0x02 e → e.params = [3] →
    exec .getDetail s = .next ({ s.popCmd with free := s.free + 1 }.post e stOk
      (wordsOf (beBytes 8 (1000 * s.ticks + Config.freeValue s.free % 1000))))) ∧
  (∀ s e, s.starts 0x02 e → e.params = [4] → s.runtime = true →
    exec .getDetail s = .next (s.popCmd.post e stOk ((List.range 8).map s.popCmd.chainWord))) ∧
  (∀ s e, s.starts 0x02 e → e.params = [5] → s.runtime = true →
    exec .getDetail s = .next (s.popCmd.headDetails.2.post e stOk s.popCmd.headDetails.1)) ∧
  (∀ s e, s.starts 0x14 e → e.params = [] →
    exec .bootStatus s = .next (s.popCmd.post e stOk [s.readReg 0x20000, s.readReg 0x20004, s.readReg 0x20008, s.readReg 0x2000C])) ∧
  (∀ s e, s.starts 0xD0 e → e.params = [] → exec .presenceStatus s = .next (s.popCmd.post e stOk [s.readReg 0x40])) ∧
  (∀ s e, s.starts 0xD3 e → e.params = [] → exec .sealStatus s = .next (s.popCmd.post e stOk [s.readReg 0x44, s.readReg 0x48])) ∧
  (∀ s e, s.starts 0xB2 e → s.runtime = true → e.params.length = 1 → strayBits e.params 0 0xFF000001 = false →
    1 ≤ parUnit e.params → parUnit e.params ≤ 5 →
      exec .counters s = .next ((if parBits e.params 0 0 1 = 1 then s.popCmd.clearCounters (parUnit e.params) else s.popCmd).post e
        stOk ((counterRegs (parUnit e.params)).map s.popCmd.rd))) ∧
  (∀ (s : State) (g a : Nat), g ≠ 2 → a ∈ counterRegs g → (s.clearCounters g).rd a = 0) ∧
  (∀ (s : State) (g a : Nat), g ≠ 2 → a ∉ counterRegs g → (s.clearCounters g).rd a = s.rd a) ∧
  (∀ s : State, (s.clearCounters 2).fld F.PLATE_ECC_CE_CNT = 0 ∧ (s.clearCounters 2).fld F.PLATE_ECC_UE_CNT = 0 ∧
    (s.clearCounters 2).fld F.PLATE_OFF_HIT_COUNT = 0 ∧
    (s.clearCounters 2).fld F.PLATE_ECC_CE_STICKY = s.fld F.PLATE_ECC_CE_STICKY ∧
    (s.clearCounters 2).fld F.PLATE_ECC_UE_STICKY = s.fld F.PLATE_ECC_UE_STICKY ∧
    (s.clearCounters 2).rd F.PLATE_ECC_ADDR_OFFSET.addr = s.rd F.PLATE_ECC_ADDR_OFFSET.addr)

/-- R271 to R275, R277, R278, R312, R336, R374: REG_READ of registers, and of the windows; REG_WRITE into a register block, and into the Etch
window. R16, R275: a W1C flag of a plain register block is cleared by a 1 unless hardware sets it in the same cycle; RW
bits take the value, other bits stay. MIN_RESET sets MIN_MV to 0xFFFF. The model's own choices in it: log entry 78. -/
def Obligations.RegisterAccess : Prop :=
  (∀ s e lo hi k, s.starts 0x0A e → e.params.length = 2 →
    let a := (par e.params 0).toNat
    let n := (par e.params 1).toNat
    windowOf a = some (lo, hi, k) → a % 4 = 0 → 1 ≤ n → n ≤ 1024 → a + 4 * n ≤ hi + 1 → k.memory = false →
      exec .regRead s = .next (s.popCmd.post e stOk ((List.range n).map (fun i => s.popCmd.readAll (a + 4 * i))))) ∧
  (∀ s e lo hi k ram base, s.starts 0x0A e → e.params.length = 2 → s.runtime = true →
    let a := (par e.params 0).toNat
    let n := (par e.params 1).toNat
    windowOf a = some (lo, hi, k) → k.ram = some (ram, base) → a % 4 = 0 → 1 ≤ n → n ≤ 1024 → a + 4 * n ≤ hi + 1 →
      exec .regRead s = .next (s.popCmd.post e stOk (memWords (s.popCmd.tileByte ram) (a - base) n))) ∧
  (∀ s e, s.starts 0x0A e → e.params.length = 2 → s.runtime = true → s.pdOn 9 = true →
    let a := (par e.params 0).toNat
    let n := (par e.params 1).toNat
    let q := EtchQuery.words (a - 0x60000000) n
    0x60000000 ≤ a → a % 4 = 0 → 1 ≤ n → n ≤ 1024 → a + 4 * n ≤ 0x60400000 →
      (s.etchBusy q = false →
        exec .regRead s = .next ((s.popCmd.etchAnswer q).2.post e stOk (s.etch.halves n (a - 0x60000000)))) ∧
      (s.etchBusy q = true → exec .regRead s = .next { s.popCmd with cw := { s.popCmd.cw with running := some ⟨e, .etchRead q⟩ } })) ∧
  (∀ s e, s.starts 0x0A e → e.params.length = 2 → s.runtime = true →
    let a := (par e.params 0).toNat
    let n := (par e.params 1).toNat
    let r : PlateRun := ⟨false, a - 0x80000000, n, (wordsFrom (a - 0x80000000) (4 * n)).map (fun w => ⟨w, []⟩), [], 0⟩
    let x := windowLoop r.todo.length s.popCmd r
    0x80000000 ≤ a → a % 4 = 0 → 1 ≤ n → n ≤ 1024 → a + 4 * n ≤ 0x82000000 →
      (∀ d, s.halfOff (a - 0x80000000) n = some d →
        exec .regRead s = .next (s.popCmd.post e stStateRefused [s.popCmd.stateWord 0x04 d (s.popCmd.pdState d)])) ∧
      (s.halfOff (a - 0x80000000) n = none → x.2.todo = [] → exec .regRead s = .next (x.1.post e stOk x.2.payload)) ∧
      (s.halfOff (a - 0x80000000) n = none → x.2.todo ≠ [] → exec .regRead s = .next
        { x.1.setWaiting 17 (x.1.waitingOf 17 ++ [.window]) with cw := { x.1.cw with running := some ⟨e, .plate x.2⟩ } })) ∧
  (∀ s e lo hi, s.starts 0x0B e → writeRow e = 0 → 2 ≤ e.params.length → e.params.length ≤ 1025 → s.runtime = true →
    let a := (par e.params 0).toNat
    windowOf a = some (lo, hi, .regs) → a % 4 = 0 → a + 4 * (e.params.length - 1) ≤ hi + 1 →
    s.popCmd.defineFails a (e.params.drop 1) = [] →
      exec .regWrite s = .next ((s.popCmd.writeRegs a (e.params.drop 1) []).post e stOk [])) ∧
  (∀ s e lo hi, s.starts 0x0B e → writeRow e = 0 → 2 ≤ e.params.length → e.params.length ≤ 1025 →
    let a := (par e.params 0).toNat
    windowOf a = some (lo, hi, .cw) → a % 4 = 0 → a + 4 * (e.params.length - 1) ≤ hi + 1 →
      exec .regWrite s = .next ((s.popCmd.writeRegs a (e.params.drop 1) []).post e stOk [])) ∧
  (∀ s e lo hi i, s.starts 0x0B e → writeRow e = 0 → 2 ≤ e.params.length → e.params.length ≤ 1025 → s.runtime = true →
    let a := (par e.params 0).toNat
    windowOf a = some (lo, hi, .regs) → a % 4 = 0 → a + 4 * (e.params.length - 1) ≤ hi + 1 →
    minIndex (s.popCmd.defineFails a (e.params.drop 1)) = some i →
      exec .regWrite s = .next (s.popCmd.post e stBadParam [BitVec.ofNat 32 (i * 0x10000)])) ∧
  (∀ s e hw lo hi, s.starts 0x0B e → writeRow e = 5 → 2 ≤ e.params.length → e.params.length ≤ 1025 → s.runtime = true →
    let a := (par e.params 0).toNat
    windowOf a = some (lo, hi, .regs) → a % 4 = 0 → a + 4 * (e.params.length - 1) ≤ hi + 1 →
    s.popCmd.defineFails a (e.params.drop 1) = [] →
      exec (.w1cClear hw) s = .next ((s.popCmd.writeRegs a (e.params.drop 1) hw).post e stOk [])) ∧
  (∀ s e lo hi, s.starts 0x0B e → writeRow e = 3 → 2 ≤ e.params.length → e.params.length ≤ 1025 → s.runtime = true →
    let a := (par e.params 0).toNat
    windowOf a = some (lo, hi, .regs) → a % 4 = 0 → a + 4 * (e.params.length - 1) ≤ hi + 1 →
    s.popCmd.defineFails a (e.params.drop 1) = [] →
      exec .minReset s = .next ((s.popCmd.writeRegs a (e.params.drop 1) []).post e stOk [])) ∧
  (∀ s e lo hi, s.starts 0x0B e → writeRow e = 4 → 2 ≤ e.params.length → e.params.length ≤ 1025 → s.runtime = true →
    let a := (par e.params 0).toNat
    windowOf a = some (lo, hi, .regs) → a % 4 = 0 → a + 4 * (e.params.length - 1) ≤ hi + 1 →
    s.popCmd.defineFails a (e.params.drop 1) = [] →
      exec .inCtrlWrite s = .next ((s.popCmd.writeRegs a (e.params.drop 1) []).post e stOk [])) ∧
  (∀ s e, s.starts 0x0B e → writeRow e = 2 → e.params.length = 2 → par e.params 0 = 0x30000 →
    ∃ t, exec .cwModeWrite s = .next t ∧ t.cw.cmdQ = s.cw.cmdQ.tail ∧ t.fld F.CW_MODE_WIDTH = s.fld F.CW_MODE_WIDTH ∧
      t.cw.replyQ = s.cw.replyQ.map (fun (r : Reply) => { r with width := none }) ++
        [⟨e.tag, 0, [], some (getBits (par e.params 1) 0 1)⟩]) ∧
  (∀ s e, s.startsLive 0x0B e → writeRow e = 1 → 3 ≤ e.params.length → e.params.length ≤ 1025 → s.pdOn 9 = true →
    let a := (par e.params 0).toNat
    0x60000000 ≤ a → a + 4 * (e.params.length - 1) ≤ 0x60400000 → etchFails (a - 0x60000000) (e.params.length - 1) = [] →
    s.presenceMet (s.windowClass (etchPairs (a - 0x60000000) (e.params.drop 1))) = true →
      exec .etchWindowWrite s = .next { s.popCmd with
        cw := { s.popCmd.cw with running := some ⟨e, .etchWindow⟩ },
        etch := { s.etch with jobs := s.etch.jobs ++ [⟨.window, etchPairs (a - 0x60000000) (e.params.drop 1), none⟩] } }) ∧
  (∀ (s : State) (a k : Nat) (w hw : Word), (BitVec.ofNat 32 (regInfo a).w1c).getLsbD k = true →
    (BitVec.ofNat 32 (regInfo a).rw).getLsbD k = false →
      ((s.writeBits a w hw).rd a).getLsbD k = ((s.rd a).getLsbD k && !w.getLsbD k || hw.getLsbD k)) ∧
  (∀ (s : State) (a k : Nat) (w hw : Word), (BitVec.ofNat 32 (regInfo a).w1c).getLsbD k = false →
    ((s.writeBits a w hw).rd a).getLsbD k =
      (if (BitVec.ofNat 32 (regInfo a).rw).getLsbD k then w.getLsbD k else (s.rd a).getLsbD k)) ∧
  (∀ (s : State) (a b : Nat) (w hw : Word), b ≠ a → (s.writeBits a w hw).rd b = s.rd b) ∧
  (∀ (s : State) (w hw : Word), getBits w 0 1 = 1 → (s.writeWord 0x10028 w hw).fld F.PWR_SUPPLY_STATUS_MIN_MV = 0xFFFF) ∧
  (∀ (s : State) (w hw : Word), getBits w 0 1 = 0 → s.writeWord 0x10028 w hw = s)

/-- R266, R267, R268, R236: SOFT_RESET answers OK and leaves the device in RUN, with its regions closed, touch and write-
back stopped; it keeps both queues, WIDTH, SEQ, LAST_ERR, CW_ERR_COUNT and the push buffer, the fuses, presence and the
Etch store. The model's own choices in it: log entries 82, 83. -/
def Obligations.SoftResetKeepsAndClears : Prop :=
  (∀ s e, s.starts 0x03 e → s.runtime = true → e.params = [0xA55A] →
    exec .softReset s = .next (s.popCmd.softReset.post e stOk [])) ∧
  (∀ s t e, s.starts 0x03 e → s.runtime = true → e.params = [0xA55A] → exec .softReset s = .next t →
    t.cw = { s.cw with cmdQ := s.cw.cmdQ.tail, replyQ := s.cw.replyQ ++ [⟨e.tag, 0, [], none⟩] } ∧
      t.fld F.CW_MODE_WIDTH = s.fld F.CW_MODE_WIDTH ∧ t.rd 0x3000C = s.rd 0x3000C ∧ t.pres = s.pres ∧ t.fuses = s.fuses ∧
      t.etch.mem = s.etch.mem ∧ t.phase = 5 ∧ t.fld F.PWR_STATE_STATE = 0 ∧ t.bit F.WB_CTRL_EN = false ∧
      t.regions = Vector.replicate 32 Region.free ∧ t.fences = [] ∧ t.wb = WriteBack.reset ∧ t.stages = [] ∧ t.etch.staging = none ∧
      t.cal.run = none ∧ (∀ h, h < 4 → t.fld (F.TOUCH_STATUS_STATE h) = 0))

/-- R50, R55, R58, R177, R838, R894: power-on reset starts stand-alone mode with the strap latched and the fuses in the
shadow; PORST_N low for 10 µs resets, a shorter pulse has no effect; WAKE_N starts the same sequence from OFF. The
model's own choices in it: log entries 72, 86, 88. -/
def Obligations.PowerOn : Prop :=
  (∀ (s : State) (prof : Fin 8) (b : BootFinds), ∃ t, exec (.powerOnReset prof b) s = .next t ∧ t.off = false ∧ t.porst = false ∧
    t.phase = 0 ∧ t.fld F.BOOT_SA_STATUS_PROF_STRAP = prof.val ∧ t.standAlone = true ∧ t.headState 0 = 1 ∧ t.cw = CwState.reset ∧
    t.fuses = s.fuses ∧ t.etch.mem = s.etch.mem ∧ t.pending = s.pending ∧ t.ticks = 0 ∧
    (s.fuses.rollback ≤ 64 → t.shadowed = true)) ∧
  (∀ (s : State) (cut : Option Bool), exec (.porstNLowPulse false cut) s = .next s) ∧
  (∀ (s : State) (cut : Option Bool), ∃ t, exec (.porstNLowPulse true cut) s = .next t ∧ t.off = true ∧ t.porst = true ∧
    t.fuses = s.fuses ∧ t.cw = CwState.reset ∧ t.phase = 0 ∧ t.plate = PlateState.reset ∧ t.tile = TileState.reset) ∧
  (∀ (s : State) (prof : Fin 8) (b : BootFinds), s.off = true → s.porst = false →
    exec (.wakeNColdBoot prof b) s = .next (s.volatileLost.standAloneBoot prof.val b) ∧
      exec (.wakeNColdBoot prof b) s = exec (.powerOnReset prof b) s)

/-- R106, R108 to R111, R114, R115, R120, R121, R198: LOAD_BEGIN and LOAD_SEGMENT, accepted and refused. R119, R123 to R125,
Table 3-7: START_EARLY, the release of the cores, PRESENT_TAG. The model's own choices in it: log entry 47. -/
def Obligations.LoadCommands : Prop :=
  (∀ s e repair, s.starts 0x10 e → e.params.length = 64 → s.phase ≤ 1 → headerCheck s.popCmd (byteString e.params) = 0 →
    s.bit F.BOOT_STATUS_KEYLOCK = false → s.boot.enrol = none →
      exec (.loadBegin repair) s = .next ((s.popCmd.acceptHeader (byteString e.params) repair).post e stOk [])) ∧
  (∀ s e repair c, s.starts 0x10 e → e.params.length = 64 → s.phase ≤ 1 → headerCheck s.popCmd (byteString e.params) = c → c ≠ 0 →
      exec (.loadBegin repair) s = .next ((s.popCmd.setFld F.BOOT_STATUS_LAST_REJECT c).post e stBadParam
        [BitVec.ofNat 32 (headerCheckWord c * 0x10000)])) ∧
  (∀ s e repair, s.starts 0x10 e → e.params.length = 64 → s.phase = 0 → headerCheck s.popCmd (byteString e.params) = 0 →
    s.bit F.BOOT_STATUS_KEYLOCK = true → exec (.loadBegin repair) s = .next (s.popCmd.post e stLocked [])) ∧
  (∀ s e repair, s.starts 0x10 e → e.params.length = 64 → s.phase ≤ 1 → headerCheck s.popCmd (byteString e.params) = 0 →
    s.bit F.BOOT_STATUS_KEYLOCK = false → s.boot.enrol.isSome = true →
      exec (.loadBegin repair) s = .next (s.popCmd.post e stBusy [])) ∧
  (∀ s e fetch, s.starts 0x11 e → 2 ≤ e.params.length → e.params.length ≤ 1025 → s.phase = 1 ∨ s.phase = 2 →
    let seg := parUnit e.params
    let off := parBits e.params 0 0 24
    let d := byteString (e.params.drop 1)
    let g := hdrSeg s.boot.hdr seg
    let u := s.popCmd.fetched fetch
    chunkFits s.boot.hdr seg off (s.fld F.BOOT_PROGRESS_NEXT_SEG) (s.fld F.BOOT_PROGRESS_NEXT_OFFSET) d.length = true →
    s.bit F.BOOT_STATUS_SCRIBE_RUN = false ∨ g.target ≠ 1 ∨ touchesBank (g.off + off) d.length u.fetchBank = false →
    s.bit F.BOOT_STATUS_STYLUS_RUN = false ∨ g.target ≠ 3 →
      let t := u.acceptChunk g seg off d
      exec (.loadSegment fetch) s = .next (t.post e stOk
        [positionWord (t.fld F.BOOT_PROGRESS_NEXT_SEG) (t.fld F.BOOT_PROGRESS_NEXT_OFFSET)])) ∧
  (∀ s e fetch, s.starts 0x11 e → 2 ≤ e.params.length → e.params.length ≤ 1025 → s.phase = 1 ∨ s.phase = 2 →
    let ns := s.fld F.BOOT_PROGRESS_NEXT_SEG
    let no := s.fld F.BOOT_PROGRESS_NEXT_OFFSET
    chunkFits s.boot.hdr (parUnit e.params) (parBits e.params 0 0 24) ns no (byteString (e.params.drop 1)).length = false →
      exec (.loadSegment fetch) s = .next ((s.popCmd.fetched fetch).post e stBadParam [positionWord ns no])) ∧
  (∀ s e fetch, s.starts 0x11 e → 2 ≤ e.params.length → e.params.length ≤ 1025 → s.phase = 1 ∨ s.phase = 2 →
    let seg := parUnit e.params
    let off := parBits e.params 0 0 24
    let d := byteString (e.params.drop 1)
    let g := hdrSeg s.boot.hdr seg
    let u : State := { s.popCmd.fetched fetch with free := s.free + 1 }
    chunkFits s.boot.hdr seg off (s.fld F.BOOT_PROGRESS_NEXT_SEG) (s.fld F.BOOT_PROGRESS_NEXT_OFFSET) d.length = true →
    s.bit F.BOOT_STATUS_SCRIBE_RUN = true → g.target = 1 → touchesBank (g.off + off) d.length u.fetchBank = true →
      exec (.loadSegment fetch) s = .next (u.post e stStateRefused [u.stateWord 0x0C u.fetchBank (Config.freeValue s.free % 256)])) ∧
  (∀ s e, s.starts 0x12 e → e.params = [] → s.phase = 1 → s.popCmd.entryLoaded = true →
    exec .startEarly s = .next ((s.popCmd.armRelease.setPhase 2).post e stOk [])) ∧
  (∀ s e, s.starts 0x12 e → e.params = [] → s.phase = 3 → s.bit F.BOOT_STATUS_SCRIBE_RUN = false →
    exec .startEarly s = .next (s.popCmd.armRelease.post e stOk [])) ∧
  (∀ s : State, s.off = false → s.boot.releaseDue = true →
    exec .scribeRelease s = .next { s.setFld F.BOOT_STATUS_SCRIBE_RUN 1 with boot := { s.boot with
      releaseDue := false
      fetch := if s.bit F.BOOT_STATUS_SCRIBE_RUN then s.boot.fetch else (hdrEntry s.boot.hdr - 0x10000000) % 0x100000 } }) ∧
  (∀ s : State, s.off = false → s.scribeActive = true → 2 ≤ s.phase → s.phase ≤ 5 →
    exec .stylusRelease s = .next (s.setFld F.BOOT_STATUS_STYLUS_RUN 1)) ∧
  (∀ s e, s.starts 0x13 e → e.params.length = 8 → s.phase = 3 → byteString e.params = deviceTag s.boot.msg →
    ∃ t : State, exec .presentTag s = .next (t.post e stOk []) ∧ t.phase = 4 ∧ t.bit F.BOOT_STATUS_SCRIBE_RUN = true ∧
      t.boot.releaseDue = false ∧ t.boot.commitQ = s.boot.commitQ ∧ t.boot.passAt = s.boot.edges) ∧
  (∀ s e, s.starts 0x13 e → e.params.length = 8 → s.phase = 3 → byteString e.params ≠ deviceTag s.boot.msg →
    exec .presentTag s = .next ((s.popCmd.failDownload 1).post e stCheckFailed []))

/-- R121: while STYLUS_RUN is 1, a chunk aimed at Stylus RAM replies STATE_REFUSED with the current state code, and has no
effect. The model's own choices in it: log entries 1, 48. -/
def Obligations.StylusRamIsHeld : Prop :=
  ∀ s e fetch, s.starts 0x11 e → 2 ≤ e.params.length → e.params.length ≤ 1025 → s.phase = 1 ∨ s.phase = 2 →
    let g := hdrSeg s.boot.hdr (parUnit e.params)
    chunkFits s.boot.hdr (parUnit e.params) (parBits e.params 0 0 24) (s.fld F.BOOT_PROGRESS_NEXT_SEG)
      (s.fld F.BOOT_PROGRESS_NEXT_OFFSET) (byteString (e.params.drop 1)).length = true →
    s.bit F.BOOT_STATUS_STYLUS_RUN = true → g.target = 3 →
      let u : State := { s.popCmd.fetched fetch with free := s.free + 1 }
      exec (.loadSegment fetch) s = .next (u.post e stStateRefused [u.stateWord 0x0D 0 (Config.freeValue s.free % 256)])

/-- R109, R112, R117: what an accepted chunk does: its bytes are written and hashed, the position advances, a loaded segment
is marked, and the last one leads to AWAIT_TAG. -/
def Obligations.ChunkIsWrittenAndHashed : Prop :=
  ∀ (s : State) (g : Seg) (seg off : Nat) (d : List Byte), seg < 16 → off + d.length < 2 ^ 24 → d ≠ [] → g = hdrSeg s.boot.hdr seg →
    off + d.length ≤ g.len → (s.phase = 1 ∨ s.phase = 2) → hdrSegCount s.boot.hdr ≤ 16 → seg < hdrSegCount s.boot.hdr →
      let t := s.acceptChunk g seg off d
      t.tile = s.tile.put g.target (g.off + off) d ∧ t.boot.msg = s.boot.msg ++ d ∧ t.boot.hdr = s.boot.hdr ∧
      (off + d.length < g.len → t.fld F.BOOT_PROGRESS_NEXT_SEG = seg ∧ t.fld F.BOOT_PROGRESS_NEXT_OFFSET = off + d.length ∧
        t.phase = s.phase ∧ t.fld F.BOOT_STATUS_SEG_LOADED = s.fld F.BOOT_STATUS_SEG_LOADED) ∧
      (off + d.length = g.len → t.fld F.BOOT_PROGRESS_NEXT_SEG = seg + 1 ∧ t.fld F.BOOT_PROGRESS_NEXT_OFFSET = 0 ∧
        bitsOf (t.fld F.BOOT_STATUS_SEG_LOADED) seg 1 = 1 ∧
        t.phase = (if seg + 1 = hdrSegCount s.boot.hdr then 3 else s.phase))

/-- R126, R127, R145: the ends of a download, with their causes. R146 to R148: what FAIL does: the cores held, the queue
discarded, three RAMs zeroised, PD02 to PD05 off, the cause recorded; KEYLOCK and the other Tile RAMs stay. The model's
own choices in it: log entry 38. -/
def Obligations.DownloadFails : Prop :=
  (∀ s : State, s.off = false → s.phase = 3 → s.boot.lastSeg + 2000 ≤ s.ticks → s.cw.cmdQ.any (isOp 0x13) = false →
    exec .tagTimeout s = .next (s.failDownload 2)) ∧
  (∀ s : State, s.cw.cmdQ.any (isOp 0x13) = true ∨ s.ticks < s.boot.lastSeg + 2000 → exec .tagTimeout s = .next s) ∧
  (∀ s : State, s.off = false → s.phase = 2 → s.boot.lastChunk + 2000 ≤ s.ticks → exec .loadStalled s = .next (s.failDownload 3)) ∧
  (∀ s : State, s.off = false → 1 ≤ s.phase → s.phase ≤ 4 → s.bit F.BOOT_STATUS_SCRIBE_RUN = true →
    exec .scribeFault s = .next (s.failDownload 4)) ∧
  (∀ s : State, s.off = false → s.scribeActive = true → 1 ≤ s.phase → s.phase ≤ 4 →
    exec .etchFetchFault s = .next ((s.setFld F.ETCH_STATUS_FETCH_FAULT 1).failDownload 4)) ∧
  (∀ s : State, s.off = false → s.scribeActive = true → s.phase = 5 →
    exec .etchFetchFault s = .next { s.setFld F.ETCH_STATUS_FETCH_FAULT 1 with boot := { s.boot with halted := true } }) ∧
  (∀ (s : State) (cause : Nat), cause < 8 →
    let t := s.failDownload cause
    t.phase = 6 ∧ t.fld F.BOOT_STATUS_FAIL_CAUSE = cause ∧ t.bit F.BOOT_STATUS_SCRIBE_RUN = false ∧
      t.bit F.BOOT_STATUS_STYLUS_RUN = false ∧ t.bit F.BOOT_STATUS_ZEROISED = true ∧ t.boot.commitQ = [] ∧ t.boot.stalled = none ∧
      t.tile = { s.tile with code := [], data := [], stylus := [] } ∧ (∀ n, 2 ≤ n → n ≤ 5 → t.pdState n = 0) ∧
      t.bit F.BOOT_STATUS_KEYLOCK = s.bit F.BOOT_STATUS_KEYLOCK ∧ t.plate = s.plate ∧ t.etch = s.etch ∧ t.cw = s.cw)

/-- R122: a Scribe DMA transfer aimed at the bank that holds Scribe's fetch address is refused with BANK_EXECUTING and
writes nothing; another goes to its RAM. R129, R130: before the commit instant a Scribe write to a gated group enters
the commit queue as one entry and does not take effect; one that finds the queue full stalls Scribe. R132: before the
commit instant Scribe writes and Scribe DMA writes to the Plate window are discarded and counted. The model's own
choices in it: log entries 42, 87. -/
def Obligations.ScribeWrites : Prop :=
  (∀ (s : State) (off : Nat) (d : List Byte) (fetch : Option (Fin 1048576)) (portA : Option PortOp), s.off = false →
    s.bit F.BOOT_STATUS_SCRIBE_RUN = true → s.boot.halted = false → d ≠ [] → off + d.length ≤ 0x100000 → s.pdOn 4 = true →
    touchesBank off d.length (s.fetched fetch).fetchBank = true →
      exec (.scribeDmaWrite 1 off d fetch portA) s = .next { s.fetched fetch with
        tile := s.tile.portWrite 1 portA, boot := { (s.fetched fetch).boot with dmaRefused := true } }) ∧
  (∀ (s : State) (off : Nat) (d : List Byte) (fetch : Option (Fin 1048576)) (portA : Option PortOp), s.off = false →
    s.bit F.BOOT_STATUS_SCRIBE_RUN = true → s.boot.halted = false → d ≠ [] → off + d.length ≤ 0x80000 → s.pdOn 5 = true →
      ∃ t, exec (.scribeDmaWrite 2 off d fetch portA) s = .next t ∧
        t = { s.fetched fetch with
          tile := { s.tile with data := t.tile.data }, boot := { (s.fetched fetch).boot with dmaRefused := false } } ∧
        (∀ a, a < off ∨ off + d.length ≤ a → memGet t.tile.data a = memGet (s.tile.portWrite 2 portA).data a) ∧
        (∀ i, i < d.length → memGet t.tile.data (off + i) = d.getD i 0)) ∧
  (∀ (s : State) (a : Nat) (w : Word), s.off = false → s.scribeActive = true → s.phase ≤ 4 → a % 4 = 0 → isGated a = true →
    s.boot.commitQ.length < 4096 →
      ∃ t, exec (.scribeGatedWrite a w) s = .next t ∧ t.boot = { s.boot with commitQ := s.boot.commitQ ++ [(a, w)] } ∧
        t = { s with boot := t.boot, regs := t.regs } ∧ ∀ b, b ≠ F.BOOT_GATE_HIGH_WATER.addr → t.rd b = s.rd b) ∧
  (∀ (s : State) (a : Nat) (w : Word), s.off = false → s.scribeActive = true → s.phase ≤ 4 → a % 4 = 0 → isGated a = true →
    s.boot.commitQ.length = 4096 →
      exec (.scribeGatedWrite a w) s = .next { s.setFld F.BOOT_STATUS_GATE_STALLED 1 with boot := { s.boot with stalled := some (a, w) } }) ∧
  (∀ (s : State) (a : Nat) (w : Word), s.off = false → s.scribeActive = true → s.phase ≤ 4 → a % 4 = 0 → 0x80000000 ≤ a →
    a < 0x82000000 →
      exec (.scribeGatedWrite a w) s = .next (s.setFld F.BOOT_GATE_PLATE_DROPS (min 7 (s.fld F.BOOT_GATE_PLATE_DROPS + 1)))) ∧
  (∀ (s : State) (off : Nat) (d : List Byte) (fetch : Option (Fin 1048576)) (portA : Option PortOp), s.off = false →
    s.bit F.BOOT_STATUS_SCRIBE_RUN = true → s.boot.halted = false → d ≠ [] → s.phase ≤ 4 →
      exec (.scribeDmaWrite 7 off d fetch portA) s =
        .next ((s.fetched fetch).setFld F.BOOT_GATE_PLATE_DROPS (min 7 (s.fld F.BOOT_GATE_PLATE_DROPS + 1)))) ∧
  (∀ (s : State) (a : Nat) (w : Word), s.off = false → s.scribeActive = true → s.phase ≤ 4 → a % 4 = 0 → isInBlock a = true →
    exec (.scribeGatedWrite a w) s = .next s) ∧
  (∀ (s : State) (a : Nat) (w : Word), s.off = false → s.scribeActive = true → s.phase = 5 → a % 4 = 0 → isGated a = true →
    exec (.scribeGatedWrite a w) s = .next (s.writeRegs a [w] []))

/-- R100, R135, R140, R141, R144: the commit instant comes after PASS at head A's boundary, or at once with no frames; it
sets KEYLOCK, empties the commit queue, ends stand-alone mode and hands the Command Window to the runtime. R353: once
after it the losers are retired. The model's own choices in it: log entries 4, 79, 81, 85. -/
def Obligations.CommitInstant : Prop :=
  (∀ (s : State) (repair : List Word), s.off = false → s.phase = 4 → s.atCommitPoint = true →
    ∃ t, exec (.commitInstant repair) s = .next t ∧ t.phase = 5 ∧ t.bit F.BOOT_STATUS_KEYLOCK = true ∧ t.boot.commitQ = [] ∧
      t.boot.stalled = none ∧ t.bit F.BOOT_STATUS_GATE_STALLED = false ∧ t.standAlone = false ∧
      t.fld F.BOOT_RUNTIME_VERSION_VERSION = hdrVersion s.boot.hdr % 2 ^ 32 ∧ t.etch.retireDue = true ∧
      (s.cw.running = none → t.cw = s.cw)) ∧
  (∀ (s : State) (repair : List Word), s.phase ≠ 4 ∨ s.atCommitPoint = false → exec (.commitInstant repair) s = .next s) ∧
  (∀ s : State, s.atCommitPoint = true ↔ s.boot.passAt < s.boot.edges ∧ (s.headRunning 0 = true → (s.head 0).blank = true)) ∧
  (∀ s : State, s.off = false → s.runtime = true → s.boot.halted = false → s.etch.retireDue = true → s.pdOn 9 = true →
    s.bit F.ETCH_STATUS_SUSPENDED = false →
      exec .loserRetirement s = .next { s.touchRecords with etch := { s.etch with
        retireDue := false, jobs := s.etch.jobs ++ s.etch.doubles.map (fun t => ⟨.retire t, [], none⟩) } })

/-- R181 to R187: ENROL under P2 in phase IDLE. R186: DATA, END or ABORT with no open session replies STATE_REFUSED with the
current state code. The model's own choices in it: log entries 1, 38, 47, 48. -/
def Obligations.Enrolment : Prop :=
  (∀ s e, s.starts 0x15 e → e.params.length = 65 → parUnit e.params = 0 → strayBits e.params 0 0xFF000000 = false → s.phase = 0 →
    headerCheck s.popCmd (byteString (e.params.drop 1)) = 0 → s.bit F.BOOT_STATUS_KEYLOCK = false →
    s.bit F.FUSE_STATUS_ENROL_LOCK = false → s.p2Present = true →
      exec .enrolBegin s = .next ((s.popCmd.openEnrol (byteString (e.params.drop 1))).post e stOk [])) ∧
  (∀ s e c, s.starts 0x15 e → e.params.length = 65 → parUnit e.params = 0 → strayBits e.params 0 0xFF000000 = false →
    headerCheck s.popCmd (byteString (e.params.drop 1)) = c → c ≠ 0 →
      exec .enrolBegin s = .next ((s.popCmd.setFld F.BOOT_STATUS_LAST_REJECT c).post e stBadParam
        [BitVec.ofNat 32 ((1 + headerCheckWord c) * 0x10000)])) ∧
  (∀ s e n, s.starts 0x15 e → 3 ≤ e.params.length → e.params.length ≤ 1026 → parUnit e.params = 1 →
    strayBits e.params 0 0xFF000000 = false → s.phase = 0 → s.boot.enrol = some n →
    chunkFits n.hdr (parBits e.params 1 24 8) (parBits e.params 1 0 24) n.seg n.off (byteString (e.params.drop 2)).length = false →
      exec .enrolData s = .next (s.popCmd.post e stBadParam [positionWord n.seg n.off])) ∧
  (∀ s e n, s.starts 0x15 e → 3 ≤ e.params.length → e.params.length ≤ 1026 → parUnit e.params = 1 →
    strayBits e.params 0 0xFF000000 = false → s.phase = 0 → s.boot.enrol = some n → s.bit F.BOOT_STATUS_KEYLOCK = false →
    s.bit F.FUSE_STATUS_ENROL_LOCK = false → s.p2Present = true →
    let seg := parBits e.params 1 24 8
    let off := parBits e.params 1 0 24
    let d := byteString (e.params.drop 2)
    chunkFits n.hdr seg off n.seg n.off d.length = true →
      let q := advance n.hdr seg off d.length
      exec .enrolData s = .next ({ s.popCmd with boot := { s.boot with
        enrol := some ⟨n.hdr, n.msg ++ d, q.1, q.2, s.ticks⟩ } }.post e stOk [positionWord q.1 q.2])) ∧
  (∀ s e n, s.starts 0x15 e → e.params.length = 1 → parUnit e.params = 2 → strayBits e.params 0 0xFF000000 = false → s.phase = 0 →
    s.boot.enrol = some n → s.bit F.BOOT_STATUS_KEYLOCK = false → s.bit F.FUSE_STATUS_ENROL_LOCK = false → s.p2Present = true →
    hdrSegCount n.hdr ≤ n.seg →
      exec .enrolEnd s = .next ((s.popCmd.endEnrol.pushEvent 3 (hdrVersion n.hdr / 0x10000)).post e stOk (wordsOf (deviceTag n.msg)))) ∧
  (∀ s e, s.starts 0x15 e → e.params.length = 1 → parUnit e.params = 3 → strayBits e.params 0 0xFF000000 = false → s.phase = 0 →
    s.boot.enrol.isSome = true → s.bit F.BOOT_STATUS_KEYLOCK = false → s.bit F.FUSE_STATUS_ENROL_LOCK = false → s.p2Present = true →
      exec .enrolAbort s = .next (s.popCmd.endEnrol.post e stOk [])) ∧
  (∀ s n, s.off = false → s.boot.enrol = some n → n.last + 2000 ≤ s.ticks → exec .enrolSessionTimeout s = .next s.endEnrol) ∧
  (∀ s : State, s.boot.enrol.isSome = true →
    s.endEnrol.boot.enrol = none ∧ s.endEnrol.bit F.PRES_STATUS_ENROL_ACTIVE = false ∧ s.endEnrol.pdOn 24 = false) ∧
  (∀ s e, s.starts 0x15 e → s.phase = 0 → s.boot.enrol = none → strayBits e.params 0 0xFF000000 = false →
    let t : State := { s.popCmd with free := s.free + 1 }
    let r := t.post e stStateRefused [t.stateWord 0x0B 0 (Config.freeValue s.free % 256)]
    (parUnit e.params = 1 → 3 ≤ e.params.length → e.params.length ≤ 1026 → exec .enrolData s = .next r) ∧
      (parUnit e.params = 2 → e.params.length = 1 → exec .enrolEnd s = .next r) ∧
      (parUnit e.params = 3 → e.params.length = 1 → exec .enrolAbort s = .next r))

/-- R149 to R153, R192, R200: the press, the P1 window, VPP_OK and the debug port. R151: a P1 window opens at the instant
SVC_HELD reaches 2 s, and closes 60 s after it opened. R157, R158, R162, R163: pulses are good or bad; 3 bad ones in a
row open the seal, 64 good ones close it; an opening is counted, saturating, and one from UNKNOWN sets
FOUND_OPEN_AT_START. The model's own choices in it: log entries 4, 38. -/
def Obligations.Presence : Prop :=
  (∀ (s : State) (b : Bool), s.off = false → b ≠ s.bit F.PRES_STATUS_SVC_LOW →
    let u := (s.setBit F.PRES_STATUS_SVC_LOW b).setFld F.PRES_STATUS_SVC_HELD 0
    exec (.svcDebounceChange (List.replicate 20 b)) s = .next { u with pres := { s.pres with heldMs := 0, reached := false } }.refreshP2) ∧
  (∀ (s : State) (l : List Bool), l.length ≠ 20 ∨ (true ∈ l ∧ false ∈ l) → exec (.svcDebounceChange l) s = .next s) ∧
  (∀ (s : State) (ok : Bool), s.off = false → exec (.vppOkChange ok) s = .next (s.setBit F.FUSE_STATUS_VPP_OK ok)) ∧
  (∀ (s : State) (rose : Bool), s.off = false → s.bit F.PRES_STATUS_DEBUG_UNLOCKED = true → s.pres.relockDue = true ∨ rose = true →
    exec (.debugRelock rose) s = .next { s.setFld F.PRES_STATUS_DEBUG_UNLOCKED 0 with pres := { s.pres with relockDue := false } }) ∧
  (∀ s : State, s.off = false → s.bit F.PRES_STATUS_SVC_LOW = true → 2000 ≤ s.pres.heldMs → s.pres.reached = false →
    ∃ t, exec .p1WindowOpen s = .next t ∧ t.bit F.PRES_STATUS_P1_OPEN = true ∧ t.fld F.PRES_STATUS_P1_REMAIN = 60 ∧
      t.pres.p1Ms = 60000 ∧ t.pres.reached = true ∧ t.bit F.PRES_STATUS_P2 = (s.fld F.SEAL_STATE_STATE == 2)) ∧
  (∀ s : State, s.bit F.PRES_STATUS_SVC_LOW = false ∨ s.pres.heldMs < 2000 → exec .p1WindowOpen s = .next s) ∧
  (∀ s : State, s.off = false → s.bit F.PRES_STATUS_P1_OPEN = true → s.pres.p1Ms = 0 →
    exec .p1WindowClose s = .next (((s.setFld F.PRES_STATUS_P1_OPEN 0).setFld F.PRES_STATUS_P1_REMAIN 0).raise causePresence)) ∧
  (∀ s : State, 0 < s.pres.p1Ms → exec .p1WindowClose s = .next s) ∧
  (∀ s : State, s.off = false →
    exec (.sealPulseSample true false) s = .next { s with pres := { s.pres with good := s.pres.good + 1, bad := 0 } }) ∧
  (∀ (s : State) (a b : Bool), s.off = false → ¬ (a = true ∧ b = false) →
    exec (.sealPulseSample a b) s = .next { s with pres := { s.pres with bad := s.pres.bad + 1, good := 0 } }) ∧
  (∀ s : State, s.off = false → 3 ≤ s.pres.bad → s.fld F.SEAL_STATE_STATE ≠ 2 →
    ∃ t, exec .sealStateChange s = .next t ∧ t.fld F.SEAL_STATE_STATE = 2 ∧
      t.fld F.SEAL_STATE_SEAL_OPEN_COUNT = min 65535 (s.fld F.SEAL_STATE_SEAL_OPEN_COUNT + 1) ∧
      t.fld F.SEAL_STATE_FOUND_OPEN_AT_START = (if s.fld F.SEAL_STATE_STATE = 0 then 1 else s.fld F.SEAL_STATE_FOUND_OPEN_AT_START) ∧
      t.bit F.PRES_STATUS_P2 = s.pres.reached) ∧
  (∀ s : State, s.off = false → s.pres.bad < 3 → 64 ≤ s.pres.good → s.fld F.SEAL_STATE_STATE ≠ 1 →
    ∃ t, exec .sealStateChange s = .next t ∧ t.fld F.SEAL_STATE_STATE = 1 ∧
      t.fld F.SEAL_STATE_SEAL_OPEN_COUNT = s.fld F.SEAL_STATE_SEAL_OPEN_COUNT ∧ t.bit F.PRES_STATUS_P2 = false) ∧
  (∀ s : State, s.pres.bad < 3 → s.pres.good < 64 → exec .sealStateChange s = .next s)

/-- R188 to R191: FUSE_PROGRAM that verifies every bit blows its field and answers with FUSE_STATUS; R190: an illegal field,
lock value or target replies BAD_PARAM. R192, R194: VPP_OK lost, or PWR_FAIL_N, in a bit. R197: DEBUG_UNLOCK sets KEYLOCK and opens
the port. R196, R199: a locked port drives and reaches nothing, and no port reaches BOOT. The model's own choices in
it: log entry 46. -/
def Obligations.FusesAndDebug : Prop :=
  (∀ s e, s.starts 0xD1 e → e.params.length = 1 → fuseBad (parUnit e.params) (parBits e.params 0 0 24) = false →
    s.popCmd.fuseRefusal = none → s.p2Present = true →
      let k := s.bitsToBlow (parUnit e.params) (parBits e.params 0 0 24)
      let t := (s.popCmd.blow (parUnit e.params) k).fuseEvent (parUnit e.params) k
      exec (.fuseProgram [] none none) s = .next (t.post e stOk [t.rd 0x48])) ∧
  (∀ s e j, s.starts 0xD1 e → e.params.length = 1 → fuseBad (parUnit e.params) (parBits e.params 0 0 24) = false →
    s.popCmd.fuseRefusal = none → s.p2Present = true → j ≤ s.bitsToBlow (parUnit e.params) (parBits e.params 0 0 24) →
    0 < s.bitsToBlow (parUnit e.params) (parBits e.params 0 0 24) →
      let u := (s.popCmd.blow (parUnit e.params) j).fuseEvent (parUnit e.params) j
      let t := u.setFld F.FUSE_STATUS_VPP_OK 0
      exec (.fuseProgram [] (some j) none) s = .next (t.post e stCheckFailed [t.rd 0x48]) ∧
        exec (.fuseProgram [] none (some j)) s = .next u) ∧
  (∀ s e v vpp pwr, s.starts 0xD1 e → e.params.length ≠ 1 ∨ fuseBad (parUnit e.params) (parBits e.params 0 0 24) = true →
    exec (.fuseProgram v vpp pwr) s = .next (s.popCmd.post e stBadParam [s.rd 0x48])) ∧
  (∀ s e v vpp pwr, s.starts 0xD1 e → e.params.length = 1 → fuseBad (parUnit e.params) (parBits e.params 0 0 24) = false →
    s.popCmd.fuseRefusal = none → s.p2Present = false →
      exec (.fuseProgram v vpp pwr) s = .next (s.popCmd.post e stPresenceRequired [s.rd 0x48])) ∧
  (∀ s e, s.starts 0xD2 e → e.params = [] → s.phase = 0 ∨ s.phase = 5 ∨ s.phase = 6 → s.bit F.FUSE_STATUS_DEBUG_LOCK = false →
    s.p2Present = true →
      exec (.debugUnlock true) s = .next ((((s.popCmd.setFld F.BOOT_STATUS_KEYLOCK 1).setFld F.PRES_STATUS_DEBUG_UNLOCKED 1).pushEvent
        5 0).post e stOk [])) ∧
  (∀ s e, s.starts 0xD2 e → e.params = [] → s.phase = 0 ∨ s.phase = 5 ∨ s.phase = 6 → s.bit F.FUSE_STATUS_DEBUG_LOCK = true →
    exec (.debugUnlock true) s = .next (s.popCmd.post e stLocked [])) ∧
  (∀ (s : State) (a : Nat) (w : Word) (drive : Option Bool), s.bit F.PRES_STATUS_DEBUG_UNLOCKED = false →
    s.dbgIo drive = none ∧ s.debugRead a = none ∧ s.debugWrite a w = s) ∧
  (∀ (s : State) (a : Nat) (w : Word), 0x20000 ≤ a → a < 0x30000 → s.debugRead a = none ∧ s.debugWrite a w = s)

/-- R380, R381, R394, R395: a period starts: every client's credit is its allotment, the period is counted, and a client
that still holds a waiting request is delayed by one more period. R299, R300: the coarse sensor, the refresh rate and
the self-refresh of DEEP. The model's own choices in it: log entry 4. -/
def Obligations.PlatePeriods : Prop :=
  (∀ s : State, s.off = false → s.pbaRunning = true → ∃ t, exec .periodStart s = .next t ∧
    (∀ k, k ≤ 20 → t.credit k = s.fld (F.PBA_ALLOT_ALLOT k)) ∧
    t.fld F.PBA_PERIOD_COUNT = (s.fld F.PBA_PERIOD_COUNT + 1) % 2 ^ 32 ∧
    (∀ k, 1 ≤ k → k ≤ 20 → t.fld (F.PBA_DELAY_DELAY_CNT k) =
      (if s.waitingOf k = [] then s.fld (F.PBA_DELAY_DELAY_CNT k) else min (2 ^ 32 - 1) (s.fld (F.PBA_DELAY_DELAY_CNT k) + 1))) ∧
    (∀ k, t.presentedOf k = s.presentedOf k) ∧ (∀ k, k ≠ 17 → t.waitingOf k = s.waitingOf k) ∧ t.plate.mem = s.plate.mem ∧
    t.plate.refreshPtr = (s.plate.refreshPtr + s.plate.refreshLeft) % 16384 ∧
    t.plate.refreshLeft = (if s.bit F.PLATE_CTRL_REFRESH_HI then 1024 else 512) ∧
    ((∀ e q, s.cw.running ≠ some ⟨e, .plate q⟩) → t.waitingOf 17 = s.waitingOf 17 ∧ t.cw = s.cw) ∧
    (∀ e q, s.cw.running = some ⟨e, .plate q⟩ → q.age < 125 → t.cw.running = some ⟨e, .plate { q with age := q.age + 1 }⟩) ∧
    (∀ e q, s.cw.running = some ⟨e, .plate q⟩ → 125 ≤ q.age → s.runtimeDead = false →
      t.cw.running = none ∧ t.cw.replyQ = s.cw.replyQ ++ [⟨e.tag, BitVec.ofNat 8 stBusy, q.busy, none⟩])) ∧
  (∀ (s : State) (x : Int), s.off = false → s.pdOn 6 = true → s.fld F.PWR_STATE_STATE ≠ 3 → 80 < x → x < 128 →
    ∃ t, exec (.plateTsenseSample x) s = .next t ∧ t.fld F.PLATE_CTRL_REFRESH_HI = 1 ∧ (t.fld F.PLATE_CTRL_TSENSE : Int) = x ∧
      t.plate.samples = (x :: s.plate.samples).take 10) ∧
  (∀ (s : State) (x : Int), s.off = false → s.pdOn 6 = true → s.fld F.PWR_STATE_STATE ≠ 3 → x ≤ 80 →
    ∃ t, exec (.plateTsenseSample x) s = .next t ∧ t.fld F.PLATE_CTRL_REFRESH_HI = s.fld F.PLATE_CTRL_REFRESH_HI) ∧
  (∀ s : State, s.off = false → s.plate.samples.length = 10 → (∀ x ∈ s.plate.samples, x ≤ 75) →
    exec .refreshHiRelease s = .next (s.setFld F.PLATE_CTRL_REFRESH_HI 0)) ∧
  (∀ s : State, s.off = false → s.plate.samples.length < 10 ∨ (∃ x ∈ s.plate.samples, 75 < x) →
    exec .refreshHiRelease s = .next s) ∧
  (∀ s : State, s.off = false → s.fld F.PWR_STATE_STATE = 3 → s.plate.samples.length = 10 → (∀ x ∈ s.plate.samples, x ≤ 35) →
    exec .deepBandSlower s = .next (s.setFld F.PLATE_CTRL_DEEP_BAND 0)) ∧
  (∀ s : State, s.off = false → s.fld F.PWR_STATE_STATE = 3 →
    exec .selfRefreshBurst s = .next { s with plate := { s.plate with
      burstRow := (s.plate.burstRow + 1) % 256
      refreshed := s.plate.refreshed + (if s.pdOn 7 then 32 else 0) + (if s.pdOn 8 then 32 else 0) } })

/-- R385 to R388, R295, R314: what the PBA does with a request of client `k + 1` that is a read or a write; before the commit instant
it takes those of scan-out and capture alone. R387: a class E client's oldest waiting request is admitted when credit covers it; not
before. The model's own choices in it: log entries 4, 11. -/
def Obligations.RequestsAreJudged : Prop :=
  (∀ (s : State) (k : Fin 20) (r : ReqBody), s.off = false → (∃ a, r = .read a) ∨ (∃ a d, r = .write a d) →
    let c := k.val + 1
    (s.mayUse c = true → s.halfOn (reqAddr r) = true → s.pbaRunning = true → (s.presentedOf c).length < 8 → isClassG c = true →
      exec (.plateRequest k r) s = .next (s.setPresented c (s.presentedOf c ++ [r]))) ∧
    (s.mayUse c = true → s.halfOn (reqAddr r) = true → s.pbaRunning = true → (s.presentedOf c).length < 8 → isClassG c = false →
      (isClassE c = true → s.waitingOf c = []) → reqCost r ≤ s.credit c →
        exec (.plateRequest k r) s = .next ((s.setCredit c (s.credit c - reqCost r)).setPresented c (s.presentedOf c ++ [r]))) ∧
    (s.mayUse c = true → s.halfOn (reqAddr r) = true → s.pbaRunning = true → (s.presentedOf c).length < 8 → isClassE c = true →
      s.waitingOf c ≠ [] ∨ s.credit c < reqCost r →
        exec (.plateRequest k r) s = .next (s.setWaiting c (s.waitingOf c ++ [r]))) ∧
    (s.mayUse c = true → s.halfOn (reqAddr r) = true → s.pbaRunning = true → (s.presentedOf c).length < 8 → isClassE c = false →
      isClassG c = false → s.credit c < reqCost r → ∃ t, exec (.plateRequest k r) s = .next t ∧
        t.fld (F.PBA_REFUSE_REFUSE_CNT c) = min (2 ^ 32 - 1) (s.fld (F.PBA_REFUSE_REFUSE_CNT c) + 1) ∧
        t.bit (F.PBA_FLAGS_REFUSED c) = true ∧ t.pba = { s.pba with refused := s.pba.refused ++ [(c, plateWordOf (reqAddr r))] } ∧
        t.plate = s.plate) ∧
    (s.mayUse c = true → s.halfOn (reqAddr r) = false → s.waitingOf c = [] → ∃ t, exec (.plateRequest k r) s = .next t ∧ t.pba = s.pba ∧
      t.bit F.PLATE_OFF_HIT_STICKY = true ∧ t.plate.mem = s.plate.mem ∧
      (∀ b, b ≠ F.PLATE_OFF_HIT_COUNT.addr → t.rd b = s.rd b) ∧
      (∀ a, r = .read a → t.plate.delivered = [(c, plateWordOf a, List.replicate 32 0)])) ∧
    (s.runtime = false → isClassG c = false → c ≠ 16 → exec (.plateRequest k r) s = .next s)) ∧
  (∀ (s : State) (k : Fin 20) (r : ReqBody) (l : List ReqBody), s.off = false → (∃ a, r = .read a) ∨ (∃ a d, r = .write a d) →
    s.waitingOf (k.val + 1) = r :: l → s.halfOn (reqAddr r) = true →
    let c := k.val + 1
    (s.pbaRunning = true → reqCost r ≤ s.credit c → (s.presentedOf c).length < 8 → isClassG c = false →
      exec (.waitingRequestAdmitted k) s = .next
        (((s.setWaiting c l).setCredit c (s.credit c - reqCost r)).setPresented c (s.presentedOf c ++ [r]))) ∧
    (s.credit c < reqCost r → exec (.waitingRequestAdmitted k) s = .next s))

/-- R286, R288 to R293, R304 to R307: one Plate cycle. It serves at most 4 reads, of different banks. A read delivers the word, corrected and
counted where its error is correctable, and as stored with its error recorded where it is not; a write stores exactly its bytes, a partial
one in two slots. Of two requests to one bank the lower-ranked client's waits; refresh comes before all. The model's own choices in it: log
entries 11, 13. -/
def Obligations.SlotsReadAndWrite : Prop :=
  (∀ (s : State) (c a : Nat) (r : ReqBody) (d : List Byte), s.off = false → 1 ≤ c → c ≤ 20 → s.presentedOf c = [r] →
    (∀ k, 1 ≤ k → k ≤ 20 → k ≠ c → s.presentedOf k = []) → s.pba.merging = [] → s.plate.refreshLeft = 0 →
      let w := plateWordOf a
      (r = .read a → s.wrongBits w = 0 →
        ∃ t, exec (.plateAccess 0 0) s = .next t ∧ t.presentedOf c = [] ∧ t.plate.mem = s.plate.mem ∧ t.regs = s.regs ∧
          t.plate.delivered = [(c, w, (List.range 32).map (fun i => s.storedByte (w + i)))]) ∧
      (r = .read a → s.wrongBits w ≠ 0 → correctable (s.wrongBits w) = true → s.bit F.PLATE_CTRL_SCRUB_EN = false →
        ∃ t, exec (.plateAccess 0 0) s = .next t ∧ t.presentedOf c = [] ∧ t.plate.mem = s.plate.mem ∧
          t.plate.delivered = [(c, w, (List.range 32).map (fun i => s.storedByte (w + i)))] ∧
          t.fld F.PLATE_ECC_CE_CNT = min 65535 (s.fld F.PLATE_ECC_CE_CNT + 1) ∧ t.bit F.PLATE_ECC_CE_STICKY = true) ∧
      (r = .read a → correctable (s.wrongBits w) = false →
        ∃ t, exec (.plateAccess 0 0) s = .next t ∧ t.presentedOf c = [] ∧ t.plate.mem = s.plate.mem ∧
          t.plate.delivered = [(c, w, s.plateBytes w 32)] ∧
          t.fld F.PLATE_ECC_UE_CNT = min 4095 (s.fld F.PLATE_ECC_UE_CNT + 1) ∧ t.bit F.PLATE_ECC_UE_STICKY = true ∧
          (s.bit F.PLATE_ECC_UE_STICKY = false →
            t.fld F.PLATE_ECC_ADDR_OFFSET = w % 2 ^ 25 ∧ t.fld F.PLATE_ECC_ADDR_CLIENT = c) ∧
          getBits t.irqStatus causePlate 1 = 1) ∧
      (r = .write a d → a % 32 = 0 → d.length = 32 →
        ∃ t, exec (.plateAccess 0 0) s = .next t ∧ t.presentedOf c = [] ∧ t.regs = s.regs ∧
          (∀ x, x < a ∨ a + 32 ≤ x → t.storedByte x = s.storedByte x) ∧ (∀ i, i < 32 → t.storedByte (a + i) = d.getD i 0)) ∧
      (r = .write a d → d ≠ [] → d.length < 32 → a % 32 + d.length ≤ 32 → s.wrongBits w = 0 →
        ∃ t u, exec (.plateAccess 0 0) s = .next t ∧ exec (.plateAccess 0 0) t = .next u ∧
          t.presentedOf c = [] ∧ t.plate.mem = s.plate.mem ∧ u.pba.merging = [] ∧
          (∀ x, x < a ∨ a + d.length ≤ x → u.storedByte x = s.storedByte x) ∧
          (∀ i, i < d.length → u.storedByte (a + i) = d.getD i 0))) ∧
  (∀ (s : State) (c k a b : Nat), s.off = false → 1 ≤ c → c < k → k ≤ 20 → s.presentedOf c = [.read a] → s.presentedOf k = [.read b] →
    (∀ j, 1 ≤ j → j ≤ 20 → j ≠ c → j ≠ k → s.presentedOf j = []) → s.pba.merging = [] → s.plate.refreshLeft = 0 →
    s.wrongBits (plateWordOf a) = 0 → s.wrongBits (plateWordOf b) = 0 →
      ∃ t, exec (.plateAccess 0 0) s = .next t ∧ t.presentedOf c = [] ∧
        (plateBank a = plateBank b → t.presentedOf k = [.read b] ∧ t.plate.delivered.map (·.1) = [c]) ∧
        (plateBank a ≠ plateBank b → t.presentedOf k = [] ∧ t.plate.delivered.map (·.1) = [c, k])) ∧
  (∀ (s : State) (c a : Nat), s.off = false → 1 ≤ c → c ≤ 20 → s.presentedOf c = [.read a] →
    (∀ k, 1 ≤ k → k ≤ 20 → k ≠ c → s.presentedOf k = []) → s.pba.merging = [] → s.pbaRunning = true → 0 < s.plate.refreshLeft →
    s.plate.refreshPtr % 64 = plateBank a → s.pdOn (plateDomain a) = true →
      ∃ t, exec (.plateAccess 0 0) s = .next t ∧ t.presentedOf c = [.read a] ∧ t.plate.refreshLeft = s.plate.refreshLeft - 1 ∧
        t.plate.refreshPtr = (s.plate.refreshPtr + 1) % 16384 ∧ t.plate.refreshed = s.plate.refreshed + 1) ∧
  (∀ (s t : State) (word mask : Nat), s.off = false → exec (.plateAccess word mask) s = .next t →
    t.plate.delivered.length ≤ 4 ∧ (t.plate.delivered.map (fun x => plateBank x.2.1)).Nodup)

/-- R392 to R394, R398: BUDGET_SET within the sum succeeds, beyond it replies OVERCOMMIT and nothing changes; BUDGET_READ.
-/
def Obligations.Budgets : Prop :=
  (∀ s e, s.starts 0xC0 e → s.runtime = true → e.params.length = 2 → 6 ≤ parUnit e.params → parUnit e.params ≤ 20 →
    strayBits e.params 0 0xFF000000 = false → (par e.params 1).toNat ≤ 20864 →
    (parUnit e.params = 18 → 1280 ≤ (par e.params 1).toNat) →
      let c := parUnit e.params
      let v := (par e.params 1).toNat
      let sum := 1024 + 608 * 4 + ((List.range 15).map (fun i => if i + 6 = c then v else s.fld (F.PBA_ALLOT_ALLOT (i + 6)))).sum
      (sum ≤ 24320 → exec .budgetSet s = .next
        (((s.popCmd.setFld (F.PBA_ALLOT_ALLOT c) v).setFld F.PBA_STATUS_COMMITTED sum).post e stOk [])) ∧
      (24320 < sum → exec .budgetSet s = .next (s.popCmd.post e stOvercommit []))) ∧
  (∀ s e, s.starts 0xC1 e → s.runtime = true → e.params.length = 1 → 1 ≤ parUnit e.params → parUnit e.params ≤ 20 →
    strayBits e.params 0 0xFF000000 = false →
      let a := 0x40100 + 0x10 * parUnit e.params
      exec .budgetRead s = .next (s.popCmd.post e stOk [s.rd a, s.rd (a + 4), s.rd (a + 8), s.rd (a + 12)]))

/-- R332, R333, R357: an attempt at the next word of the job in progress: verified, it stores the word and nothing else; it is made up to
three times, and then the write fails. R364 to R367: the service log: an append begins with the oldest pending event, and the last word
moves the head. R336: a read that waits for the word is answered when the word ends. The model's own choices in it: log entries 52, 53,
109. -/
def Obligations.EtchWordWrites : Prop :=
  (∀ (s u : State) (j : EtchJob) (w : EtchWrite) (l : List EtchWrite), s.off = false → s.pwr.target = none → s.mayWrite = true →
    s.canAttempt false = true → (∀ e q, s.cw.running ≠ some ⟨e, .etchRead q⟩) → s.headJob = some (j, u) → j.words = w :: l →
    (l ≠ [] → ∃ t, exec (.etchWordWrite false true) s = .next t ∧ t = { u with etch := t.etch } ∧
      t.etch.jobs = { j with words := l } :: u.etch.jobs.tail ∧ t.etch.attempt = none ∧
      (∀ a, a < w.addr ∨ w.addr + 8 ≤ a → memGet t.etch.mem a = memGet s.etch.mem a) ∧
      memBytes t.etch.mem w.addr 8 = leBytes 8 w.val) ∧
    (s.etch.failed < 2 → exec (.etchWordWrite false false) s = .next { u with etch := { u.etch with
      jobs := j :: u.etch.jobs.tail, attempt := some ⟨false, w.addr, s.etch.failed + 1⟩ } }) ∧
    (2 ≤ s.etch.failed → w.addr < 0x400000 → s.cw.running = none → ∃ t, exec (.etchWordWrite false false) s = .next t ∧
      t.bit F.ETCH_STATUS_WRITE_FAIL = true ∧ t.fld F.ETCH_WFAIL_ADDR_ADDR = w.addr ∧ t.etch.attempt = none ∧
      (j.kind ≠ .window ∨ l = [] → t.etch.jobs = u.etch.jobs.tail) ∧
      (j.kind = .window → l ≠ [] → t.etch.jobs = { j with words := l } :: u.etch.jobs.tail) ∧
      (∀ a, a < w.addr ∨ w.addr + 8 ≤ a → memGet t.etch.mem a = memGet s.etch.mem a))) ∧
  (∀ (s : State) (log ok : Bool) (x : WordTry), s.bit F.PWR_STATE_PARKED = false → s.etch.attempt = some x → x.log ≠ log →
    s.pwr.target = none → exec (.etchWordWrite log ok) s = .next s) ∧
  (∀ (s : State) (ev : PresEvent) (l : List PresEvent), s.off = false → s.pres.events = ev :: l → s.etch.log = none → s.pdOn 9 = true →
    s.runtimeDead = false → s.bit F.ETCH_STATUS_SUSPENDED = false → exec .logAppend s = .next (s.startAppend ev)) ∧
  (∀ s : State, s.fld F.ETCH_LOG_HEAD_VALID = 0 → s.nextCell = (0, 1)) ∧
  (∀ (s : State) (j : EtchJob) (w : EtchWrite) (c : Nat), s.off = false → s.pwr.target = none → s.mayWrite = true →
    s.canAttempt true = true → s.etch.log = some j → j.kind = .log c true → j.words = [w] → c < 8192 →
      ∃ t, exec (.etchWordWrite true true) s = .next t ∧ t.etch.log = none ∧ t.pres.events = s.pres.events.tail ∧
        t.fld F.ETCH_LOG_HEAD_HEAD = c ∧ memBytes t.etch.mem w.addr 8 = leBytes 8 w.val) ∧
  (∀ (s : State) (e : CmdEntry) (q : EtchQuery), s.cw.running = some ⟨e, .etchRead q⟩ → s.runtimeDead = false →
    let u : State := { s with etch := { s.etch with attempt := none } }
    s.wordEnds = { (u.etchAnswer q).2 with cw := { s.cw with
      running := none, replyQ := s.cw.replyQ ++ [⟨e.tag, BitVec.ofNat 8 stOk, (u.etchAnswer q).1, none⟩] } })

/-- R336, R368 to R377: ETCH_READ, ETCH_WRITE_RECORD part by part, ETCH_LIST, and a staging that goes stale. A read of a bank in which a
word is being written waits for it. The model's own choices in it: log entries 38, 50, 110. -/
def Obligations.EtchCommands : Prop :=
  (∀ s e w m, s.starts 0x70 e → e.params.length = 2 → s.pdOn 9 = true →
    let a := (par e.params 0).toNat
    let n := (par e.params 1).toNat
    a % 8 = 0 → n % 2 = 0 → 2 ≤ n → n ≤ 1024 → a + 4 * n ≤ 0x400000 →
      let u := (s.etchFlip w m).popCmd
      (s.etchBusy (.words a n) = false →
        exec (.etchRead w m) s = .next ((u.etchTouch a (4 * n)).post e stOk (u.etch.halves n a))) ∧
      (s.etchBusy (.words a n) = true →
        exec (.etchRead w m) s = .next { u with cw := { u.cw with running := some ⟨e, .etchRead (.words a n)⟩ } })) ∧
  (∀ s e, s.starts 0x72 e → e.params.length = 1 → parUnit e.params ≤ 7 → strayBits e.params 0 0xFF000000 = false → s.pdOn 9 = true →
    let r := parUnit e.params
    (s.etchBusy (.list r) = false →
      exec .etchList s = .next ((s.popCmd.etchAnswer (.list r)).2.post e stOk (s.etch.list r))) ∧
    (s.etchBusy (.list r) = true →
      exec .etchList s = .next { s.popCmd with cw := { s.popCmd.cw with running := some ⟨e, .etchRead (.list r)⟩ } })) ∧
  (∀ s e, s.starts 0x71 e → s.runtime = true → 2 ≤ e.params.length → e.params.length ≤ 1026 →
    let type := parBits e.params 0 16 16
    let flags := parBits e.params 0 8 8
    let total := (par e.params 1).toNat
    let more := parBits e.params 0 7 1
    let d := s.staged ++ byteString (e.params.drop 2)
    strayBits e.params 0 0xFFFFFF80 = false → recordParamFails type flags total = [] →
      (s.bit F.PWR_STATE_RIDE = false → s.stagingClash type flags total = false → s.presenceMet (s.recordClass type flags) = true →
        d.length ≤ 16384 → more = 1 →
          exec .etchWriteRecord s = .next ({ s.popCmd with etch := { s.etch with
            staging := some ⟨type, flags, total, d, s.ticks⟩ } }.post e stOk [BitVec.ofNat 32 d.length])) ∧
      (s.bit F.PWR_STATE_RIDE = false → s.stagingClash type flags total = false → s.presenceMet (s.recordClass type flags) = true →
        d.length ≤ 16384 → more = 0 → d.length = total → ∃ t, exec .etchWriteRecord s = .next t ∧
          t.cw.running = some ⟨e, .record type⟩ ∧ t.etch.staging = none ∧
          t.etch.jobs = s.etch.jobs ++ [⟨.record type 0 0, [], some (type, flags, d)⟩] ∧ t.bit F.ETCH_STATUS_BUSY = true) ∧
      (s.stagingClash type flags total = false → d.length ≤ 16384 → more = 0 → d.length < total →
        ∃ t : State, exec .etchWriteRecord s = .next (t.post e stBadParam [0x10000]) ∧ t.etch.staging = none ∧
          t.etch.jobs = s.etch.jobs) ∧
      (s.bit F.PWR_STATE_RIDE = false → s.stagingClash type flags total = true →
        exec .etchWriteRecord s = .next (s.popCmd.post e stStateRefused [s.popCmd.stateWord 0x08 0 1])) ∧
      (s.bit F.PWR_STATE_RIDE = true → s.stagingClash type flags total = false → d.length ≤ 16384 → more = 1 ∨ d.length = total →
        exec .etchWriteRecord s = .next (s.popCmd.post e stStateRefused [s.popCmd.stateWord 0 0 0]))) ∧
  (∀ s g, s.off = false → s.etch.staging = some g → g.last + 2000 ≤ s.ticks →
    exec .etchStagingTimeout s = .next { s with etch := { s.etch with staging := none } }) ∧
  (∀ s : State, (∀ g, s.etch.staging = some g → s.ticks < g.last + 2000) → exec .etchStagingTimeout s = .next s)

/-- R354, R355: the words of a record update. The spare slot's markers go to 0 first; payload and header follow; the valid
marker comes after every one of them; the old slot is retired last. -/
def Obligations.UpdateOrder : Prop :=
  ∀ (type k old seq flags : Nat) (d : List Byte), k ≤ 1 → old = 1 - k ∨ old = 2 →
    let a := (slotAddr type k).1
    let z := (slotAddr type k).2
    let l := updateWords type k old seq flags d
    (l.map (fun w => w.step)).Pairwise (· ≤ ·) ∧
      l.take 2 = [⟨a + z - 16, 0, 1⟩, ⟨a + z - 8, 0, 1⟩] ∧
      (∀ w ∈ l, w.step = 3 → w = ⟨a + z - 16, validMarker, 3⟩) ∧ (∃ w ∈ l, w.step = 3) ∧
      (∀ w ∈ l, w.step = 4 ↔ old ≠ 2 ∧ w = ⟨(slotAddr type old).1 + z - 8, retiredMarker, 4⟩)

/-- R389, R423, R424, R426, R430, R432, R443 to R445, R450 to R452: frames and lines of a video input, and what an input that loses or
regains its signal does. The model's own choices in it: log entries 54, 57, 95. -/
def Obligations.InputFrames : Prop :=
  (∀ (s : State) (i : Fin 4) (vc1 : Bool), s.off = false →
    let b := vc1 && isDsi i.val
    let v : VidIn := { VidIn.idle with inFrame := true, prev := ((s.input i.val).vid b).prev }
    let u := s.heardVsync i.val b
    s.streamOn i.val b = true → ((s.input i.val).vid b).inFrame = false →
      (s.inState i.val = 1 ∨ s.inState i.val = 2 → s.captureSurf i.val b = none →
        exec (.inputFrameStart i vc1) s = .next (u.setVid i.val b v)) ∧
      (∀ n k, s.inState i.val = 1 ∨ s.inState i.val = 2 → s.captureSurf i.val b = some n → s.chooseBuf n = some k →
        exec (.inputFrameStart i vc1) s =
          .next (((u.setVid i.val b { v with cap := some (n, k) }).startBuf n k).noteCapture i.val k (8, 8, 8))) ∧
      (∀ n, s.inState i.val = 1 ∨ s.inState i.val = 2 → s.captureSurf i.val b = some n → s.chooseBuf n = none →
        exec (.inputFrameStart i vc1) s = .next ((u.setVid i.val b v).setFld (F.IN_COUNT_DROPPED i.val)
          (min 255 (s.fld (F.IN_COUNT_DROPPED i.val) + 1)))) ∧
      (s.inState i.val = 4 → isDsi i.val = true → b = false →
        exec (.inputFrameStart i vc1) s = exec (.inputFrameStart i vc1) (s.setFld (F.IN_STATUS_STATE i.val) 1))) ∧
  (∀ (s : State) (i : Nat) (f : PixFmt) (l : List (List Pix)), isDsi i = true → 1 ≤ l.length → l.length ≤ 4 →
    s.arrived i (.dsi f l) = (some (f, l.flatten, true), s)) ∧
  (∀ (s : State) (i : Nat) (l0 l1 : List LvdsClk) (k : Int), isDsi i = false →
    let px := fun (l : List LvdsClk) => l.map (lvdsPx (6 + 2 * s.fld (F.IN_LVDS_CTRL_BITS i)) (s.bit (F.IN_LVDS_CTRL_MAP i)))
    (s.bit (F.IN_LVDS_CTRL_DUAL i) = false → s.arrived i (.lvds l0 l1 k) = (some (.rgb888, px l0, true), s)) ∧
    (s.bit (F.IN_LVDS_CTRL_DUAL i) = true → -3 ≤ k → k ≤ 3 → l0.length = l1.length →
      ∃ l, s.arrived i (.lvds l0 l1 k) = (some (.rgb888, l, true), s) ∧ l.length = 2 * l0.length ∧
        ∀ n, n < l0.length → l[2 * n]? = (px l0)[n]? ∧ l[2 * n + 1]? = (px l1)[n]?)) ∧
  (∀ (s : State) (i : Fin 4) (m : LineIn) (f : PixFmt) (px : List Pix) (n k : Nat), s.off = false →
    let v := (s.input i.val).vc0
    let d := s.desc n
    let c := s.pixWidths i.val f
    let w := lineWords (d.lineAt k v.lines) (px.flatMap (storePixel d.fmt c.1 c.2.1 c.2.2))
    s.streamOn i.val false = true → s.arrived i.val m = (some (f, px, true), s) →
    v.inFrame = true → v.broken = false → v.cap = some (n, k) → isYcc i.val f = (d.fmt == 8) → px.length = d.width →
    v.lines < d.height → v.lines = 0 ∨ v.width = px.length → (s.inState i.val = 2 → ∀ g ∈ v.prev, g.1 = px.length) →
      (bufBytes s.elastic + bufBytes w ≤ 65536 → ∃ t, exec (.inputLine i false m) s = .next t ∧
        t = { s with inputs := t.inputs, boot := t.boot, elastic := s.elastic ++ w } ∧ (s.standAlone = false → t.boot = s.boot) ∧
        (t.input i.val).vc0 = { v with lines := v.lines + 1, width := px.length, packets := [] }) ∧
      (65536 < bufBytes s.elastic + bufBytes w → ∃ t, exec (.inputLine i false m) s = .next t ∧ t.elastic = s.elastic ∧
        (t.input i.val).vc0.torn = true ∧
        t.fld (F.PBA_REFUSE_REFUSE_CNT 16) = min (2 ^ 32 - 1) (s.fld (F.PBA_REFUSE_REFUSE_CNT 16) + 1))) ∧
  (∀ (s : State) (i : Fin 4), s.off = false →
    let v := (s.input i.val).vc0
    let g := (s.setFld (F.IN_GEOM_WIDTH i.val) v.width).setFld (F.IN_GEOM_HEIGHT i.val) v.lines
    let idle : VidIn := { VidIn.idle with prev := some (v.width, v.lines) }
    v.inFrame = true → v.broken = false → v.packets = [] → v.odd = false → v.lines ≠ 0 → v.width ≤ 4096 → v.lines ≤ 2400 →
    v.prev = some (v.width, v.lines) →
      (s.inState i.val = 1 → v.cap = none →
        exec (.inputFrameEnd i false) s = .next ((g.setFld (F.IN_STATUS_STATE i.val) 2).setVid i.val false idle).saWatch) ∧
      (∀ n k, s.inState i.val = 2 → v.cap = some (n, k) → v.torn = false → (s.desc n).height = v.lines →
        exec (.inputFrameEnd i false) s = .next (((g.setVid i.val false idle).setFld (F.IN_COUNT_FRAMES i.val)
          (s.fld (F.IN_COUNT_FRAMES i.val) + 1)).completeBuf n k).saWatch)) ∧
  (∀ (s : State) (i : Fin 4), s.off = false → s.inState i.val = 1 ∨ s.inState i.val = 2 →
    s.cmdMode i.val = false ∨ s.fld (F.IN_DSI_TE_SLEEP_OUT i.val) = 1 →
    s.fld (F.IN_DSI_CTRL_LOST_MS i.val) ≤ (s.input i.val).gone →
      exec (.inputLost i) s = .next (((s.cutFrames i.val).dropDirect i.val).setFld (F.IN_STATUS_STATE i.val) 4).saWatch) ∧
  (∀ (s : State) (i : Fin 4), (s.input i.val).gone < s.fld (F.IN_DSI_CTRL_LOST_MS i.val) → isDsi i.val = false →
    exec (.inputLost i) s = .next s) ∧
  (∀ (s : State) (i : Fin 2) (khz : Nat), s.off = false → s.inState (i.val + 2) = 4 → 20000 ≤ khz → khz ≤ 112000 →
    exec (.lvdsLock i khz) s = .next ((s.setInput (i.val + 2)
      { s.input (i.val + 2) with signal := true, khz := khz, gone := 0 }).setFld (F.IN_STATUS_STATE (i.val + 2)) 1)) ∧
  (∀ (s : State) (p : Fin 2) (f : PixFmt) (l : List (List Pix)), s.off = false → s.vc1Mode p.val = 2 →
    s.inState p.val = 1 ∨ s.inState p.val = 2 → f ≠ .ycc422 → 1 ≤ l.length → l.length ≤ 4 →
      let x := s.input p.val
      (8 ≤ x.direct.length → exec (.vc1Line p f l) s = .next
        ((s.setInput p.val { x with directNext := x.directNext + 1 }).setFld (F.IN_STATUS_VC1_LATE p.val) 1)) ∧
      let c := s.pixWidths p.val f
      (x.direct.length < 8 → exec (.vc1Line p f l) s = .next (s.setInput p.val { x with
        direct := x.direct ++ [(x.directCount, x.directNext,
          (l.flatten.map (fun q => (⟨widen c.1 12 q.r, widen c.2.1 12 q.g, widen c.2.2 12 q.b⟩ : Pix))).take 4096)],
        directNext := x.directNext + 1 })))

/-- R418 to R423, R431 to R433, R451, R454 to R459: DSI packets and the commands of command mode. The model's own choices in
it: log entries 57, 97. -/
def Obligations.DsiPackets : Prop :=
  (∀ (s : State) (p : Fin 2) (lanes : List (List Byte)), s.off = false → s.inState p.val ≠ 0 →
    let b := s.laneBytes p.val lanes
    let vc := bitsOf (b.getD 0 0).toNat 6 2
    let dt := bitsOf (b.getD 0 0).toNat 0 6
    let d := (b.drop 4).take (leNat ((b.drop 1).take 2))
    let dcs := if dt = 0x39 then (d.getD 0 0).toNat else (b.getD 1 0).toNat
    (∀ ok, exec (.dsiPacket p lanes .uncorrectable ok) s = .next ((s.setFld (F.IN_ERR_ECC_UNCORR p.val)
      (min 255 (s.fld (F.IN_ERR_ECC_UNCORR p.val) + 1))).packetLost p.val vc dt dcs)) ∧
    (∀ ok, s.supported p.val vc dt dcs = false → exec (.dsiPacket p lanes .clean ok) s =
      .next (s.setFld (F.IN_ERR_UNSUP p.val) (min 255 (s.fld (F.IN_ERR_UNSUP p.val) + 1)))) ∧
    (s.supported p.val vc dt dcs = true → s.pixelPacket p.val dt dcs = true → exec (.dsiPacket p lanes .clean false) s =
      .next ((s.setFld (F.IN_ERR_CRC_ERR p.val) (min 255 (s.fld (F.IN_ERR_CRC_ERR p.val) + 1))).packetLost p.val vc dt dcs)) ∧
    (s.supported p.val vc dt dcs = true → s.pixelPacket p.val dt dcs = false → exec (.dsiPacket p lanes .clean false) s = .next s) ∧
    (s.supported p.val vc dt dcs = true → s.cmdMode p.val = false → vc = 0 ∨ s.vc1Mode p.val ≠ 0 →
      exec (.dsiPacket p lanes .clean true) s = .next (s.videoPacket p.val (vc == 1) dt d).saWatch ∧
      exec (.dsiPacket p lanes .corrected true) s = .next (((s.setFld (F.IN_ERR_ECC_CORR p.val)
        (min 255 (s.fld (F.IN_ERR_ECC_CORR p.val) + 1))).videoPacket p.val (vc == 1) dt d).saWatch)) ∧
    (s.supported p.val vc dt dcs = true → s.cmdMode p.val = false → vc = 1 → s.vc1Mode p.val = 0 →
      exec (.dsiPacket p lanes .clean true) s = .next s) ∧
    (s.supported p.val vc dt dcs = true → s.cmdMode p.val = true → s.inState p.val = 1 ∨ s.inState p.val = 4 →
      exec (.dsiPacket p lanes .clean true) s = .next (s.setFld (F.IN_STATUS_STATE p.val) 2))) ∧
  (∀ (s : State) (p : Nat) (lanes : List (List Byte)) (m : Nat),
    let n := s.fld (F.IN_DSI_CTRL_LANES p) + 1
    n ≤ lanes.length → (∀ l ∈ lanes.take n, l.length = m) →
      (s.laneBytes p lanes).length = n * m ∧
      ∀ i j, i < n → j < m → (s.laneBytes p lanes).getD (n * j + i) 0 = (lanes.getD i []).getD j 0) ∧
  (∀ (s : State) (p dt : Nat) (vc1 : Bool) (d : List Byte), s.vc1Mode p ≠ 2 ∨ vc1 = false →
    let v := (s.input p).vid vc1
    (isPixelType dt = true → v.inFrame = true → s.videoPacket p vc1 dt d =
      s.setVid p vc1 { v with packets := v.packets ++ [(payloadPixels dt d).2], fmt := (payloadPixels dt d).1 }) ∧
    (dt = 0x21 ∨ dt = 0x11 → s.videoPacket p vc1 dt d = s.closeLine p vc1) ∧
    (dt = 0x01 → s.videoPacket p vc1 dt d = ((s.closeLine p vc1).frameEnd p vc1).frameIn p vc1)) ∧
  (∀ (s : State) (p : Fin 2) (px : List Pix), s.off = false → s.cmdOn p.val = true →
    exec (.writeMemoryStart p px) s = .next (s.writePixels p.val 0 px) ∧
      exec (.writeMemoryContinue p px) s = .next (s.writePixels p.val (s.input p.val).pos px)) ∧
  (∀ (s : State) (p : Fin 2) (px : List Pix), (s.input p.val).cols = none → (s.input p.val).rows = none → px ≠ [] →
    let d := s.desc (s.inSurf p.val false)
    let c := s.cmdWidths p.val
    let w := cutWords (px.length + 1) (d.lineAt 0 0) (px.flatMap (storePixel d.fmt c.1 c.2.1 c.2.2))
    px.length ≤ d.width → bufBytes s.elastic + bufBytes w ≤ 65536 →
      s.writePixels p.val 0 px = { s.setInput p.val { s.input p.val with pos := px.length } with elastic := s.elastic ++ w }) ∧
  (∀ (s : State) (p : Fin 2) (a b : Fin 65536), s.off = false → s.cmdOn p.val = true → (s.input p.val).rows = none →
    let wide := (s.desc (s.inSurf p.val false)).width
    (a.val ≤ b.val → a.val < wide →
      exec (.setColumnAddress p a b) s = .next (s.setInput p.val { s.input p.val with cols := some (a.val, b.val) })) ∧
    (b.val < a.val ∨ wide ≤ a.val → 1 ≤ wide → 0 < a.val →
      exec (.setColumnAddress p a b) s = .next (s.setInput p.val { s.input p.val with cols := none, rows := none }))) ∧
  (∀ (s : State) (p : Fin 2) (a b : Fin 65536), s.off = false → s.cmdOn p.val = true → (s.input p.val).cols = none →
    let high := (s.desc (s.inSurf p.val false)).height
    (a.val ≤ b.val → a.val < high →
      exec (.setPageAddress p a b) s = .next (s.setInput p.val { s.input p.val with rows := some (a.val, b.val) })) ∧
    (b.val < a.val ∨ high ≤ a.val → 1 ≤ high → 0 < a.val →
      exec (.setPageAddress p a b) s = .next (s.setInput p.val { s.input p.val with cols := none, rows := none }))) ∧
  (∀ (s : State) (p : Fin 2), s.off = false → s.cmdOn p.val = true →
    exec (.setTearOn p) s = .next (s.setFld (F.IN_DSI_TE_TE_EN p.val) 1) ∧
      exec (.setTearOff p) s = .next (s.setFld (F.IN_DSI_TE_TE_EN p.val) 0) ∧
      exec (.enterSleepMode p) s = .next ((s.setFld (F.IN_DSI_TE_SLEEP_OUT p.val) 0).setFld (F.IN_STATUS_STATE p.val) 3) ∧
      exec (.exitSleepMode p) s = .next ((s.setFld (F.IN_DSI_TE_SLEEP_OUT p.val) 1).setFld (F.IN_STATUS_STATE p.val) 2)) ∧
  (∀ (s : State) (p : Fin 2), s.off = false → s.inState p.val ≠ 0 →
      exec (.getPowerMode p) s = .next (s.setInput p.val { s.input p.val with out := [BitVec.ofNat 8 (0x08 +
        0x10 * s.fld (F.IN_DSI_TE_SLEEP_OUT p.val) + 0x04 * (if s.headRunning (s.fld (F.IN_DSI_TE_TE_HEAD p.val)) then 1 else 0))] }) ∧
      exec (.getPixelFormat p) s = .next (s.setInput p.val { s.input p.val with
        out := [BitVec.ofNat 8 (0x55 + 0x11 * s.fld (F.IN_DSI_CTRL_CMD_FMT p.val))] }) ∧
      exec (.getSignalMode p) s = .next (s.setInput p.val { s.input p.val with out := [0] })) ∧
  (∀ (s : State) (p : Fin 2), s.off = false →
    exec (.busTurnaround p) s = .next (s.setInput p.val { s.input p.val with out := [] }) ∧
      (s.inState p.val ≠ 0 → exec (.ulpsEntry p) s =
        .next (((s.cutFrames p.val).dropDirect p.val).setFld (F.IN_STATUS_STATE p.val) 3).saWatch) ∧
      (s.inState p.val = 3 → exec (.ulpsExit p) s =
        .next (s.setFld (F.IN_STATUS_STATE p.val) (if s.cmdMode p.val then 2 else 1))))

/-- R227, R460 to R466, R474: REGION_OPEN, REGION_CLOSE and REGION_CANCEL. The model's own choices in it: log entries 4, 73.
-/
def Obligations.RegionCommands : Prop :=
  (∀ s e, s.starts 0x50 e → s.runtime = true → e.params.length = 3 → strayBits e.params 0 0xFF000001 = false →
    parBits e.params 0 0 1 = 0 →
    let n := parUnit e.params
    let x := parBits e.params 1 16 16
    let y := parBits e.params 1 0 16
    let w := parBits e.params 2 16 16
    let h := parBits e.params 2 0 16
    let d := s.regDesc n
    let len := w * h * fmtBytes d.fmt
    n ≤ 63 → d.valid = true → d.nbuf = 2 → s.fld (F.SURF_STATUS_USE n) ≤ 1 → d.fmt ≠ 8 → 1 ≤ w → 1 ≤ h → x + w ≤ d.width →
    y + h ≤ d.height →
      (∀ r a, r < 32 → (s.region r).st = 0 → (∀ q, q < r → (s.region q).st ≠ 0) → s.firstFit ((len + 255) / 256 * 256) = some a →
        ∃ t : State, exec .regionOpen s = .next (t.post e stOk [BitVec.ofNat 32 (r * 2 ^ 24)]) ∧
          t.region r = ⟨1, n, x, y, w, h, a, len, 0, s.openCount, 0⟩ ∧ (∀ q, q ≠ r → t.region q = s.region q) ∧
          t.openCount = s.openCount + 1 ∧ t.fld (F.SURF_STATUS_USE n) = 1 ∧ t.plate = s.plate ∧ t.etch = s.etch ∧ t.fences = s.fences) ∧
      ((∀ q, q < 32 → (s.region q).st ≠ 0) → exec .regionOpen s = .next (s.popCmd.post e stBusy [0])) ∧
      ((∃ q, q < 32 ∧ (s.region q).st = 0) → s.firstFit ((len + 255) / 256 * 256) = none →
        exec .regionOpen s = .next (s.popCmd.post e stBusy [1]))) ∧
  (∀ s e, s.starts 0x52 e → s.runtime = true → e.params.length = 1 → parUnit e.params ≤ 31 → strayBits e.params 0 0xFF000000 = false →
    s.drained e (parUnit e.params) = true →
      let r := parUnit e.params
      let g := s.region r
      (g.st = 1 → g.len ≤ g.next → exec .regionClose s = .next ((s.popCmd.setRegion r { g with st := 2 }).post e stOk [])) ∧
      (g.st = 1 → g.next < g.len → exec .regionClose s = .next (s.popCmd.post e stBadParam [BitVec.ofNat 32 g.next])) ∧
      (g.st ≠ 1 → exec .regionClose s = .next (s.popCmd.post e stStateRefused [s.popCmd.stateWord 0x05 r g.st]))) ∧
  (∀ s e, s.starts 0x54 e → s.runtime = true → e.params.length = 1 → parUnit e.params ≤ 31 → strayBits e.params 0 0xFF000000 = false →
    s.drained e (parUnit e.params) = true →
      let r := parUnit e.params
      let g := s.region r
      (g.st = 1 ∨ g.st = 2 → ∃ t : State, exec .regionCancel s = .next (t.post e stOk []) ∧ t.region r = Region.free ∧
        (∀ q, q ≠ r → t.region q = s.region q) ∧ t.cancelled = true ∧
        t.cw.pushBuf = s.cw.pushBuf.filter (fun i => i.region != r) ∧ t.plate = s.plate ∧ t.fences = s.fences) ∧
      (g.st ≠ 1 → g.st ≠ 2 → exec .regionCancel s = .next (s.popCmd.post e stStateRefused [s.popCmd.stateWord 0x05 r g.st]))) ∧
  (∀ s : State, (∀ e ∈ s.cw.cmdQ.head?, s.drained e (parUnit e.params) = false) →
    exec .regionClose s = .next s ∧ exec .regionCancel s = .next s)

/-- R227, R467 to R472: FENCE covers CLOSED handles alone and executes until it signals; its copies, which wait
where client 17's credit ends, and its flip. The model's own choices in it: log entries 4, 11, 73. -/
def Obligations.Fences : Prop :=
  (∀ (s : State) (r : Nat), r ∈ s.coveredBy → r < 32 ∧ (s.region r).st = 2) ∧
  (∀ s e, s.starts 0x53 e → s.runtime = true → e.params = [] → (∀ i ∈ s.cw.pushBuf, e.atPush ≤ i.serial) →
    ∃ t : State, exec .fence s = .next t ∧ t.cw.running = some ⟨e, .fence (s.fenceCount + 1)⟩ ∧ t.cw.replyQ = s.cw.replyQ ∧
      t.fenceCount = s.fenceCount + 1 ∧ t.cancelled = false ∧ (∀ r, r ∉ s.coveredBy → t.region r = s.region r) ∧
      (∃ f, t.fences = s.fences ++ [f] ∧ f.num = s.fenceCount + 1 ∧ f.cancelled = s.cancelled ∧ f.edge = s.boot.edges ∧ f.copy = none ∧
        f.regs.length = s.coveredBy.length ∧ (s.coveredBy = [] → f.step = 1) ∧ (s.coveredBy ≠ [] → f.step = 0))) ∧
  (∀ (s : State) (f : FenceRun), s.off = false → s.fences.find? (fun f => f.step == 0) = some f → f.copy = none →
    s.pbaRunning = true → (∀ g ∈ s.fences, g.num < f.num → ∀ n ∈ g.surfs, n ∉ f.surfs) →
      let u := s.each f.surfs (fun s n => s.startBuf n (s.backBuf n))
      let x := copyLoop u [] (f.regs.flatMap u.copyOps)
      ∃ t, exec .fenceCommitCopy s = .next t ∧ t.cw = s.cw ∧ t.regions = s.regions ∧ t.etch = s.etch ∧ t.tile = s.tile ∧
        t.plate.mem = x.1.plate.mem ∧
        (x.2.2 = [] → t.fences = s.fences.map (fun (g : FenceRun) => if g.num = f.num then
          { f with step := 1, heads := t.blankHeads, edge := s.boot.edges, copy := none, line := [] } else g)) ∧
        (x.2.2 ≠ [] → t.fences = s.fences.map (fun (g : FenceRun) => if g.num = f.num then
          { f with copy := some x.2.2, line := x.2.1 } else g) ∧ t.waitingOf 17 = x.1.waitingOf 17 ++ [.copy f.num])) ∧
  (∀ (s : State) (f : FenceRun), s.off = false → s.fences.find? (fun f => f.step == 0) = some f → f.copy = none →
    s.pbaRunning = false ∨ (∃ g ∈ s.fences, g.num < f.num ∧ ∃ n ∈ g.surfs, n ∈ f.surfs) → exec .fenceCommitCopy s = .next s) ∧
  (∀ (s : State) (f : FenceRun) (k : CopyOp) (l : List CopyOp) (q : List ReqBody), s.off = false →
    s.fences.find? (fun f => f.step == 0) = some f → s.fences.find? (fun g => g.num == f.num) = some f → f.copy = some (k :: l) →
    s.waitingOf 17 = .copy f.num :: q →
      (s.halfOn (reqAddr k.req) = false ∨ s.affords 17 k.req = true →
        let u := (s.setWaiting 17 q).copyStep f.line k
        exec .fenceCommitCopy s = .next (u.1.copyFrom f u.2 l)) ∧
      (s.halfOn (reqAddr k.req) = true → s.affords 17 k.req = false → exec .fenceCommitCopy s = .next s)) ∧
  (∀ (s : State) (f : FenceRun), s.off = false → s.fences.find? (fun f => f.step == 1) = some f →
    (s.flipDue f = false → exec .fenceFlip s = .next s) ∧
    (s.flipDue f = true → ∃ t, exec .fenceFlip s = .next t ∧ t.fld F.REGION_FENCE_LAST = f.num % 2 ^ 32 ∧ t.plate = s.plate ∧
      (∀ r, r < 32 → (s.region r).st = 3 → (s.region r).fence = f.num → t.region r = Region.free) ∧
      (∀ r, r < 32 → (s.region r).st ≠ 3 ∨ (s.region r).fence ≠ f.num → t.region r = s.region r) ∧
      (∀ c ∈ s.cw.running, c.wait = .fence f.num → s.runtimeDead = false → t.cw = { s.cw with running := none, replyQ := s.cw.replyQ ++
        [⟨c.cmd.tag, BitVec.ofNat 8 (if f.cancelled then stCancelled else stOk), [BitVec.ofNat 32 f.num], none⟩] }))) ∧
  (∀ (s : State) (f : FenceRun), s.off = false → s.fences.find? s.catchUpDue = some f → f.copy = none → s.pbaRunning = true →
    let x := copyLoop s [] (f.regs.flatMap s.copyOps)
    ∃ t, exec .fenceCatchupCopy s = .next t ∧ t.cw = s.cw ∧ t.regions = s.regions ∧ t.etch = s.etch ∧ t.tile = s.tile ∧
      t.plate.mem = x.1.plate.mem ∧ (x.2.2 = [] → t.fences = s.fences.filter (fun g => g.num != f.num)) ∧
      (x.2.2 ≠ [] → t.fences = s.fences.map (fun (g : FenceRun) => if g.num = f.num then
        { f with copy := some x.2.2, line := x.2.1 } else g) ∧ t.waitingOf 17 = x.1.waitingOf 17 ++ [.copy f.num])) ∧
  (∀ (s : State) (f : FenceRun) (k : CopyOp) (l : List CopyOp) (q : List ReqBody), s.off = false →
    s.fences.find? s.catchUpDue = some f → s.fences.find? (fun g => g.num == f.num) = some f → f.copy = some (k :: l) →
    s.waitingOf 17 = .copy f.num :: q → s.halfOn (reqAddr k.req) = false ∨ s.affords 17 k.req = true →
      let u := (s.setWaiting 17 q).copyStep f.line k
      exec .fenceCatchupCopy s = .next (u.1.copyFrom f u.2 l))

/-- R254, R484, R489, R491, R514, R607: LAYER_CONFIG, LAYER_ENABLE and TONEMAP_CONFIG change the fields of the words that
they carry, and no other register. R497 to R507, R514 to R516: LUT_LOAD and SCALER_COEFF change a stage, which applies
with its head; WRITEBACK. The model's own choices in it: log entries 4, 59. -/
def Obligations.LayerWords : Prop :=
  (∀ s e, s.starts 0x40 e → s.runtime = true → 1 ≤ e.params.length → e.params.length ≤ 16 → parUnit e.params ≤ 7 →
    s.popCmd.layerFails e.params = [] →
      let l := parUnit e.params
      let first := parBits e.params 0 0 4
      let u := s.popCmd.writeWords e.params first (0x60000 + 0x40 * l) layerMask
      (s.pdOn 13 = true ∨ u.needsScaler [l] = false → ∃ t : State, exec .layerConfig s = .next (t.post e stOk []) ∧
        t = { s.popCmd with regs := t.regs, heads := t.heads, stampCount := t.stampCount, tile := t.tile, stages := t.stages } ∧
        (s.stages = [] ∨ u.fld (F.LAYER_W0_HEAD l) = s.fld (F.LAYER_W0_HEAD l) → t.tile = s.tile ∧ t.stages = s.stages) ∧
        (∀ k, k < 8 → t.rd (0x60000 + 0x40 * l + 4 * k) =
          if first ≤ k ∧ k < first + (e.params.length - 1) then
            (s.rd (0x60000 + 0x40 * l + 4 * k) &&& ~~~ layerMask k) ||| (par e.params (k - first + 1) &&& layerMask k)
          else s.rd (0x60000 + 0x40 * l + 4 * k)) ∧
        (∀ a, (∀ k, k < 8 → a ≠ 0x60000 + 0x40 * l + 4 * k) → a ≠ 0x60500 → t.rd a = s.popCmd.rd a)) ∧
      (s.pdOn 13 = false → u.needsScaler [l] = true → exec .layerConfig s =
        .next (s.popCmd.post e stStateRefused [s.popCmd.stateWord 0x04 13 (s.popCmd.pdState 13)]))) ∧
  (∀ s e, s.starts 0x41 e → s.runtime = true → e.params.length = 1 → strayBits e.params 0 0xFFFF0000 = false →
    s.pdOn 13 = true ∨ (∀ l, l < 4 → parBits e.params 0 (24 + l) 1 = 1 → parBits e.params 0 (16 + l) 1 = 1 →
      s.fld (F.LAYER_W4_DST_W l) = s.fld (F.LAYER_W2_SRC_W l) ∧ s.fld (F.LAYER_W4_DST_H l) = s.fld (F.LAYER_W2_SRC_H l)) →
    ∃ t : State, exec .layerEnable s = .next (t.post e stOk []) ∧
      t = { s.popCmd with regs := t.regs, heads := t.heads, stampCount := t.stampCount } ∧
      (∀ l, l < 8 → t.fld (F.LAYER_W0_EN l) =
        if parBits e.params 0 (24 + l) 1 = 1 then parBits e.params 0 (16 + l) 1 else s.fld (F.LAYER_W0_EN l)) ∧
      (∀ l, l < 8 → t.fld (F.LAYER_W0_HEAD l) = s.fld (F.LAYER_W0_HEAD l) ∧ t.fld (F.LAYER_W0_SURF l) = s.fld (F.LAYER_W0_SURF l)) ∧
      (∀ a, (∀ l, l < 8 → a ≠ 0x60000 + 0x40 * l) → t.rd a = s.popCmd.rd a)) ∧
  (∀ s e, s.starts 0x44 e → s.runtime = true → 1 ≤ e.params.length → e.params.length ≤ 8 → parUnit e.params ≤ 3 →
    strayBits e.params 0 0xFF00000F = false →
      let h := parUnit e.params
      let first := parBits e.params 0 0 4
      badWords e.params first compWordBad = [] →
      s.pdOn (headDomain h) = true → getBits (s.wordAfter e.params first (0x60400 + 0x20 * h) 2) 31 1 = 0 ∨ s.pdOn 14 = true →
        ∃ t : State, exec .tonemapConfig s = .next (t.post e stOk []) ∧
          t = { s.popCmd with regs := t.regs, heads := t.heads, stampCount := t.stampCount } ∧
          (∀ k, k < 6 → t.rd (0x60400 + 0x20 * h + 4 * k) =
            if first ≤ k ∧ k < first + (e.params.length - 1) then
              (s.rd (0x60400 + 0x20 * h + 4 * k) &&& ~~~ compMask k) ||| (par e.params (k - first + 1) &&& compMask k)
            else s.rd (0x60400 + 0x20 * h + 4 * k)) ∧
          (∀ a, (∀ k, k < 6 → a ≠ 0x60400 + 0x20 * h + 4 * k) → t.rd a = s.popCmd.rd a)) ∧
  (∀ s e b, s.starts 0x42 e → s.runtime = true → 2 ≤ e.params.length → e.params.length ≤ 1026 → lutBank (parUnit e.params) = some b →
    strayBits e.params 0 0xFF1303FF = false →
      let first := parBits e.params 0 0 10
      let c := parBits e.params 0 16 2
      badWords e.params 0 (fun i w => decide (1023 < first + 2 * i + 1) || (w &&& (if c = 3 then 0xFF00FF00 else 0xF000F000)) != 0) = [] →
        let g := s.stageOf false b
        exec .lutLoad s = .next ((s.popCmd.putStage { g with data := putEntries c first e.params.tail g.data }
          (parBits e.params 0 20 1 == 1)).post e stOk [])) ∧
  (∀ s e, s.starts 0x43 e → s.runtime = true → 2 ≤ e.params.length → e.params.length ≤ 1026 → parUnit e.params ≤ 3 →
    strayBits e.params 0 0xFF11003F = false → s.pdOn 13 = true →
      let first := parBits e.params 0 0 6
      let per := if parBits e.params 0 16 1 = 0 then 4 else 2
      (e.params.length - 1) % per = 0 →
      badWords e.params 0 (fun i w => decide (63 < first + i / per) || (w &&& 0xF000F000) != 0) = [] →
        let g := s.stageOf true (parUnit e.params)
        exec .scalerCoeff s = .next ((s.popCmd.putStage { g with
          data := putCoeffs (if parBits e.params 0 16 1 = 0 then 8 * first else 512 + 4 * first) e.params.tail g.data }
          (parBits e.params 0 20 1 == 1)).post e stOk [])) ∧
  (∀ (s : State) (h : Fin 4), s.off = false →
    ((s.head h.val).blank = true → (∃ g ∈ s.stages, g.pending = true ∧ s.stageHead g = h.val) →
      ∃ t, exec (.stageApply h) s = .next t ∧ (∀ g ∈ t.stages, g.pending = false ∨ s.stageHead g ≠ h.val) ∧
        (t.head h.val).event = true ∧ t.cw = s.cw ∧ t.plate = s.plate) ∧
    ((s.head h.val).blank = false ∨ (∀ g ∈ s.stages, g.pending = false ∨ s.stageHead g ≠ h.val) →
      exec (.stageApply h) s = .next s)) ∧
  (∀ s e, s.starts 0x45 e → s.runtime = true → e.params.length = 2 → parUnit e.params ≤ 3 → strayBits e.params 0 0xFF000001 = false →
    parBits e.params 0 0 1 = 1 → strayBits e.params 1 0x13F = false → s.bit F.WB_CTRL_EN = false → s.wb.stopping = none →
    s.pdOn (headDomain (parUnit e.params)) = true →
    s.wbSurfOk (parUnit e.params) (parBits e.params 1 0 6) = true → s.fld (F.SURF_STATUS_USE (parBits e.params 1 0 6)) = 0 →
      ∃ t : State, exec .writeback s = .next (t.post e stOk []) ∧ t.fld F.WB_CTRL_EN = 1 ∧ t.fld F.WB_CTRL_HEAD = parUnit e.params ∧
        t.fld F.WB_CTRL_SURF = parBits e.params 1 0 6 ∧ t.fld F.WB_CTRL_SINGLE = parBits e.params 1 8 1 ∧
        t = { s.popCmd with regs := t.regs, wb := { s.wb with
          last := (parBits e.params 1 0 6, parBits e.params 1 8 1 == 1), deferred := none } } ∧
        (∀ a, a ≠ F.WB_CTRL_EN.addr → t.rd a = s.popCmd.rd a)) ∧
  (∀ s e, s.starts 0x45 e → s.runtime = true → e.params.length = 1 → parUnit e.params ≤ 3 → strayBits e.params 0 0xFF000001 = false →
    parBits e.params 0 0 1 = 0 → (s.bit F.WB_CTRL_EN = false ∨ s.fld F.WB_CTRL_HEAD = parUnit e.params) →
      exec .writeback s = .next (s.popCmd.wbDisable.post e stOk [])) ∧
  (∀ s e, s.starts 0x45 e → s.runtime = true → e.params.length = 1 → parUnit e.params ≤ 3 → strayBits e.params 0 0xFF000001 = false →
    parBits e.params 0 0 1 = 0 → s.bit F.WB_CTRL_EN = true → s.fld F.WB_CTRL_HEAD ≠ parUnit e.params →
      exec .writeback s = .next (s.popCmd.post e stBusy []))

/-- R401, R560 to R569, R582, R604, R605, R607, R615: HEAD_CONFIG, PANEL_PROFILE and REFRESH_MODE. The model's own choices
in it: log entries 64, 89. -/
def Obligations.HeadCommands : Prop :=
  (∀ s e, s.starts 0x30 e → s.runtime = true → 1 ≤ e.params.length → e.params.length ≤ 16 → parUnit e.params ≤ 3 →
    strayBits e.params 0 0xFF00000F = false → parBits e.params 0 0 4 ≤ 7 →
      let h := parUnit e.params
      let first := parBits e.params 0 0 4
      let ctrl := first = 0 ∧ 1 < e.params.length
      let run := ctrl ∧ getBits (par e.params 1) 31 1 = 1
      badWords e.params first (s.popCmd.headWordBad h) = [] → s.popCmd.headRelations h e.params first = [] →
      s.pdOn (headDomain h) = true → (run → s.profiled h = true ∧ s.pixelSum h (s.comingEntry h) ≤ 10000000000) →
        let u := s.popCmd.each (List.range (e.params.length - 1)) (fun s i => s.wr (headReg h (first + i)) (par e.params (i + 1)))
        (ctrl → exec .headConfig s = .next (((u.runWritten h).touchJudge h).post e
          (if getBits (par e.params 1) 31 1 = 1 ∧ s.headState h = 3 then stDeferred else stOk) [])) ∧
        (¬ ctrl → exec .headConfig s = .next ((u.touchJudge h).post e stOk []))) ∧
  (∀ s e, s.starts 0x31 e → s.runtime = true → e.params.length = 1 → parUnit e.params ≤ 3 → strayBits e.params 0 0xFF0000FF = false →
    let h := parUnit e.params
    let src := parBits e.params 0 0 8
    (0x80 ≤ src → src ≤ 0x83 → s.pdOn (headDomain h) = true →
      (s.headState h ≠ 0 → s.pixelSum h (romProfile (src - 0x80)) ≤ 10000000000) →
      (∀ c, c < 8 → entNames (romProfile (src - 0x80)) c = true → s.pdOn (laneDomain c) = true) →
        exec .panelProfile s = .next ((s.popCmd.takeProfile h (romProfile (src - 0x80))).post e stOk [])) ∧
    (∀ b u, src ≤ 7 → s.pdOn 9 = true → s.popCmd.profilesRecord = (some b, u) → entOk (recordEntry b src) = true →
      u.pdOn (headDomain h) = true → u.pdOn 9 = true → (u.headState h ≠ 0 → u.pixelSum h (recordEntry b src) ≤ 10000000000) →
      (∀ c, c < 8 → entNames (recordEntry b src) c = true → u.pdOn (laneDomain c) = true) →
        exec .panelProfile s = .next ((u.takeProfile h (recordEntry b src)).post e stOk []))) ∧
  (∀ s e, s.starts 0x31 e → s.runtime = true → e.params.length = 33 → parUnit e.params ≤ 3 → strayBits e.params 0 0xFF0000FF = false →
    parBits e.params 0 0 8 = 0xFF → entFaults e.params.tail = [] →
    let h := parUnit e.params
    s.pdOn (headDomain h) = true → (s.headState h ≠ 0 → s.pixelSum h e.params.tail ≤ 10000000000) →
      (∀ c, c < 8 → entNames e.params.tail c = true → s.pdOn (laneDomain c) = true) →
        exec .panelProfile s = .next ((s.popCmd.takeProfile h e.params.tail).post e stOk [])) ∧
  (∀ (s : State) (h : Nat) (w : List Word), h < 4 → s.headState h = 1 ∨ s.headState h = 2 →
    (s.takeProfile h w).headState h = 3 ∧ ((s.takeProfile h w).head h).entry = some w) ∧
  (∀ s e, s.starts 0x32 e → s.runtime = true → e.params.length = 2 → parUnit e.params ≤ 3 → strayBits e.params 0 0xFF000003 = false →
    strayBits e.params 1 0x0000FFFF = false →
      let h := parUnit e.params
      let m := parBits e.params 0 0 2
      let rate := parBits e.params 1 0 16
      m = 0 ∨ (s.profiled h = true ∧ s.prof h 3 (if m = 1 then 5 else if m = 2 then 6 else 4) 1 = 1) →
      (m = 1 → entRateMin (s.entry h) ≤ rate ∧ rate ≤ entRate (s.entry h)) → (m ≠ 1 → rate = 0) → (m = 2 → s.selfSurfOk h = true) →
      s.pdOn (headDomain h) = true →
        let u := (s.popCmd.setFld (F.HEAD_REFRESH_MODE h) m).setFld (F.HEAD_REFRESH_LR_RATE h) rate
        let v := u.setHead h { s.head h with fr := { (s.head h).fr with modeNew := true } }
        exec .refreshMode s = .next ((if s.mode h = m then v else v.headEvent h).post e stOk []))

/-- R27, R69, R404, R412, R489, R560, R573, R603, R607, R608: frame starts, line periods and frame boundaries of a head. The
model's own choices in it: log entries 4, 38, 43, 61. -/
def Obligations.FrameEvents : Prop :=
  (∀ (s : State) (h : Fin 4), s.off = false → s.headState h.val = 1 →
    (s.chainsReady h.val = true → (s.head h.val).od.due = [] → ∃ t, exec (.firstCountedFrame h) s = .next t ∧ t.headState h.val = 2 ∧
      (t.frameOf h.val).on = true ∧ (t.frameOf h.val).next = 0 ∧ (t.frameOf h.val).count = ((s.frameOf h.val).count + 1) % 65536 ∧
      (t.head h.val).blank = false ∧ t.cw = s.cw) ∧
    (s.chainsReady h.val = false ∨ (s.head h.val).od.due ≠ [] → exec (.firstCountedFrame h) s = .next s)) ∧
  (∀ (s : State) (h : Fin 4), s.off = false → s.headRunning h.val = true → (s.frameOf h.val).on = true → s.calBegun h.val = true →
    ∃ t, exec (.frameStart h) s = .next t ∧ t.headState h.val = s.headState h.val ∧ (t.frameOf h.val).on = true ∧
      (t.frameOf h.val).next = 0 ∧ (t.frameOf h.val).count = ((s.frameOf h.val).count + 1) % 65536 ∧ (t.head h.val).blank = false ∧ t.cw = s.cw ∧
      ((s.frameOf h.val).sent = true → t.fld (F.HEAD_STATUS_PARITY h.val) = 1 - s.fld (F.HEAD_STATUS_PARITY h.val))) ∧
  (∀ (s : State) (h : Fin 4) (wrong : List Nat) (ups : List (Fin 32 × Fin 2 × Nat × Word)), s.off = false → s.headRunning h.val = true →
    (s.frameOf h.val).on = true → s.calBegun h.val = false → s.bit (F.HEAD_STATUS_IDLE h.val) = false →
    (s.head h.val).blank = true ∨ (s.frameOf h.val).next ≤ s.lastActive h.val →
    let e := s.entry h.val
    let n := (s.frameOf h.val).next
    let kind := lineKind (entVact e) (entVtotal e) (s.frameOf h.val).tt.1 (s.frameOf h.val).tt.2 n
    n < entVtotal e - 1 →
      ∃ t, exec (.linePeriod h wrong ups) s = .next t ∧ (t.frameOf h.val).next = n + 1 ∧
        t.fld (F.HEAD_TT_STATUS_LINE h.val) = n ∧ t.fld (F.HEAD_TT_STATUS_KIND h.val) = kind ∧
        (t.frameOf h.val).shown = (s.frameOf h.val).shown + (if kind = kindDisplay then 1 else 0) ∧ t.headState h.val = s.headState h.val ∧
        t.cw = s.cw ∧ t.plate.mem = s.plate.mem) ∧
  (∀ (s : State) (h : Fin 4), s.off = false → s.headRunning h.val = true → (s.frameOf h.val).on = true →
    ((s.head h.val).blank = false → (s.frameOf h.val).next = s.lastActive h.val + 1 →
      exec (.frameBoundary h) s = .next ((s.boundary h.val).anyBoundary h.val) ∧
        (s.headState h.val = 2 → (((s.boundary h.val).anyBoundary h.val).head h.val).blank = true)) ∧
    ((s.head h.val).blank = true ∨ (s.frameOf h.val).next ≠ s.lastActive h.val + 1 → exec (.frameBoundary h) s = .next s)) ∧
  (∀ (s : State) (h : Fin 4), s.off = false → s.headState h.val = 2 → (s.frameOf h.val).on = true →
    s.bit (F.HEAD_STATUS_IDLE h.val) = true → (s.head h.val).event = true → s.headFurled h.val = false →
      ∃ t, exec (.urgentFrameStart h) s = .next t ∧ (t.frameOf h.val).on = true ∧ (t.frameOf h.val).next = 0 ∧
        (t.frameOf h.val).early = true ∧ (t.frameOf h.val).count = ((s.frameOf h.val).count + 1) % 65536 ∧
        t.fld (F.HEAD_STATUS_IDLE h.val) = 0 ∧ t.cw = s.cw) ∧
  (∀ (s : State) (h : Fin 4), s.off = false → s.headRunning h.val = true → (s.frameOf h.val).on = true →
    (s.frameOf h.val).planned = none →
      ((s.frameOf h.val).at_ + 1000 * entHoldMax (s.entry h.val) ≤ s.ticks →
        exec (.holdMaxExpiry h) s = .next (s.setFrame h.val { s.frameOf h.val with holdOver := true })) ∧
      (s.ticks < (s.frameOf h.val).at_ + 1000 * entHoldMax (s.entry h.val) → exec (.holdMaxExpiry h) s = .next s)) ∧
  (∀ (s : State) (h : Fin 4) (k : Fin 6), s.off = false → s.runtime = true → s.boot.halted = false → k.val ∈ (s.head h.val).od.due →
    s.areaUsed h.val k.val = false → s.pdOn (15 + h.val / 2) = true → s.pdOn 9 = true →
      exec (.tableLoad h k) s = .next (s.loadTable h.val k.val) ∧
        ((s.loadTable h.val k.val).head h.val).od.due = (s.head h.val).od.due.filter (· != k.val))

/-- R523, R524, R535, R540, R544 to R549: pins, blinking, and the three telltale commands. -/
def Obligations.Telltales : Prop :=
  (∀ (s : State) (n : Fin 16) (high : Bool) (stood : Nat), s.off = false → stood < s.debounce n.val →
    exec (.ttDebouncedChange n high stood) s = .next (s.setBit ⟨0xC1040, 16 + n.val, 1⟩ high)) ∧
  (∀ (s : State) (n : Fin 16) (high : Bool) (stood : Nat), s.off = false → s.ttLevel < 65536 → s.debounce n.val ≤ stood →
    ∃ t, exec (.ttDebouncedChange n high stood) s = .next t ∧
      t = { s with ttLevel := t.ttLevel, regs := t.regs, heads := t.heads } ∧
      t.ttAsserted n.val = (high != s.bit (F.BUNT_PIN_POL n.val)) ∧ (∀ m : Fin 16, m ≠ n → t.ttAsserted m.val = s.ttAsserted m.val) ∧
      bitsOf (t.fld F.BUNT_PIN_STATE_ASSERTED) n.val 1 = (if t.ttAsserted n.val then 1 else 0) ∧
      (∀ h, h < 4 → t.head h = { s.head h with event := (s.head h).event || (s.headRunning h &&
        (List.range 32).any (fun k => s.slotShown h k != t.slotShown h k)) })) ∧
  (∀ s : State, s.off = false → 1 ≤ s.ticks →
    ∃ t, exec .blinkPhaseChange s = .next t ∧ t = { s with heads := t.heads } ∧
      (∀ h, h < 4 → t.head h = { s.head h with event := (s.head h).event || (s.headRunning h &&
        (List.range 32).any (fun k => { s with ticks := s.ticks - 1 }.slotShown h k != s.slotShown h k)) })) ∧
  (∀ s e, s.starts 0xA0 e → s.runtime = true → 1 ≤ e.params.length → e.params.length ≤ 4 → parUnit e.params ≤ 3 →
    strayBits e.params 0 0xFF00001F = false → badWords e.params 0 slotWordBad = [] →
      let h := parUnit e.params
      let k := parBits e.params 0 0 5
      let a := 0xC0000 + 0x400 * h + 0x10 * k
      ∃ t : State, exec .telltaleConfig s = .next (t.post e stOk []) ∧ t = { s.popCmd with regs := t.regs, heads := t.heads } ∧
        (e.params.length = 1 → t.regs = (s.popCmd.setFld (F.BUNT_CFG_EN h k) 0).regs) ∧
        (∀ i, i + 1 < e.params.length → t.rd (a + 4 * i) =
          (s.rd (a + 4 * i) &&& ~~~ slotMask i) ||| (par e.params (i + 1) &&& slotMask i)) ∧
        (∀ b, b ≠ a → b ≠ a + 4 → b ≠ a + 8 → t.rd b = s.popCmd.rd b)) ∧
  (∀ s e, s.starts 0xA2 e → s.runtime = true → e.params.length = 3 → parUnit e.params ≤ 3 → strayBits e.params 0 0xFF000000 = false →
    ∃ t : State, exec .telltaleForce s = .next (t.post e stOk []) ∧ t = { s.popCmd with regs := t.regs, heads := t.heads } ∧
      (∀ k, k < 32 → t.fld (F.BUNT_STATUS_FORCED (parUnit e.params) k) =
        if parBits e.params 1 k 1 = 1 then parBits e.params 2 k 1 else s.fld (F.BUNT_STATUS_FORCED (parUnit e.params) k))) ∧
  (∀ s e, s.starts 0xA1 e → s.runtime = true → 2 ≤ e.params.length → e.params.length ≤ 1026 → parUnit e.params ≤ 31 →
    strayBits e.params 0 0xFF10FFFF = false → parBits e.params 0 0 16 + e.params.length ≤ 514 →
      let k := parUnit e.params
      let i := s.icon k
      let base := if i.copied then i.imgs.toList.getD (1 - i.live) [] else i.imgs.toList.getD i.live []
      let img := putImage base (parBits e.params 0 0 16) e.params.tail
      let u := s.popCmd.setIcon k { i with imgs := i.imgs.setIfInBounds (1 - i.live) img, copied := true }
      (s.otherLatched k = true → exec .iconLoad s = .next (s.popCmd.post e stBusy [])) ∧
      (s.otherLatched k = false → parBits e.params 0 20 1 = 1 → exec .iconLoad s = .next (u.post e stOk [])) ∧
      (s.otherLatched k = false → parBits e.params 0 20 1 = 0 → imgOk img = true → imgCrc img ≠ imgCheck img →
        exec .iconLoad s = .next (u.post e stCheckFailed [])) ∧
      (s.otherLatched k = false → parBits e.params 0 20 1 = 0 → imgOk img = true → imgCrc img = imgCheck img → i.live ≤ 1 →
        ∃ t : State, exec .iconLoad s = .next (t.post e stOk []) ∧ t.iconImage k = img ∧ (t.icon k).live = 1 - i.live ∧
          (∀ n, n ≠ k → t.icon n = s.icon n)))

/-- R658, R659, R660, R661, R684: a change of training state is shown and raises LINK; a failed attempt is recorded and
waits in DARK. The model's own choices in it: log entry 61. -/
def Obligations.TrainingStates : Prop :=
  (∀ (s : State) (c st : Nat), c < 8 → st ≤ 8 → s.chainState c ≠ st →
    let t := s.setChainState c st
    t.chainState c = st ∧ t.lane c = laneOf st ∧ getBits (t.rd 0x30004) 5 1 = 1 ∧ (t.chain c).stateAt = s.ticks ∧
      (∀ d, d < 8 → d ≠ c → t.chainState d = s.chainState d ∧ t.lane d = s.lane d)) ∧
  (∀ (s : State) (c st cause next wait : Nat), c < 8 → st ≤ 8 → 1 ≤ cause → cause ≤ 5 →
    let t := s.failTo c st cause next wait
    t.chainState c = 0 ∧ t.fld (F.LINK_TRAIN_FAIL_STATE c) = st ∧ t.fld (F.LINK_TRAIN_FAIL_CAUSE c) = cause ∧
      t.fld (F.LINK_TRAIN_FAILS c) = min (2 ^ (F.LINK_TRAIN_FAILS c).width - 1) (s.fld (F.LINK_TRAIN_FAILS c) + 1) ∧
      (t.chain c).backoff = some (s.ticks, wait) ∧ (t.chain c).next = next) ∧
  (∀ (s : State) (c st cause : Nat),
    (s.fld (F.LINK_STATUS_ATTEMPT c) = 1 → s.failAttempt c st cause = s.failTo c st cause 2 10) ∧
    (s.fld (F.LINK_STATUS_ATTEMPT c) = 2 → s.failAttempt c st cause = s.failTo c st cause 3 40) ∧
    (s.fld (F.LINK_STATUS_ATTEMPT c) = 3 → s.failAttempt c st cause = s.failTo c st cause 0 160))

/-- R651, R652, R658 to R662, R668 to R680, R684: the events of training, each in the state that awaits it. The model's own
choices in it: log entries 4, 25, 38, 65. -/
def Obligations.TrainingEvents : Prop :=
  (∀ (s : State) (c : Fin 8), s.off = false →
    (s.chainState c.val = 1 → exec (.returnActivity c) s = .next (s.setChainState c.val 2)) ∧
    (s.chainState c.val = 8 → (s.chain c.val).window = true → exec (.returnActivity c) s = .next (s.startAttempt c.val 1 2)) ∧
    (s.chainState c.val ≠ 1 → s.chainState c.val ≠ 8 → exec (.returnActivity c) s = .next s)) ∧
  (∀ (s : State) (c : Fin 8) (lead s0 s1 : Byte) (all : Bool), s.off = false → 1 ≤ s.chainState c.val → s.chainState c.val ≤ 6 →
    (lead.toNat ≠ 0xB5 → lead.toNat ≠ 0x4A → exec (.trainingSet c lead s0 s1 all) s = .next s) ∧
    (lead.toNat = 0xB5 ∨ lead.toNat = 0x4A →
      let u := s.setFld (F.LINK_STATUS_RET_INV c.val) (if lead.toNat = 0x4A then 1 else 0)
      let st := s.chainState c.val
      (bitsOf s0.toNat 3 1 = 0 ∨ bitsOf s0.toNat 4 4 ≠ st ∨ (st = 6 ∧ (s.chain c.val).round % 16 ≠ bitsOf s1.toNat 0 4) →
        exec (.trainingSet c lead s0 s1 all) s = .next u) ∧
      (bitsOf s0.toNat 3 1 = 1 → bitsOf s0.toNat 4 4 = st → st ≠ 6 ∨ (s.chain c.val).round % 16 = bitsOf s1.toNat 0 4 →
        exec (.trainingSet c lead s0 s1 all) s = .next ((u.ready c.val all).bootLevel c.val).touchJudgeAll))) ∧
  (∀ (s : State) (c : Nat) (all : Bool), c < 8 →
    (s.chainState c = 2 → (s.ready c all).chainState c = 3) ∧
    (s.chainState c = 3 → (s.ready c all).chainState c = 4 ∧ ((s.ready c all).chain c).stations = []) ∧
    (s.chainState c = 5 → (s.chain c).step = none → (s.chain c).rate = getBits (s.chain c).cfg0 0 16 → (s.ready c all).chainState c = 6) ∧
    (s.chainState c = 6 → all = true → (s.chain c).eqDone = true ∨ 32 ≤ (s.chain c).round →
      (s.ready c all).chainState c = 7 ∧ (s.ready c all).free = s.free + 1)) ∧
  (∀ (s : State) (c : Fin 8) (pkt : List Byte) (caps2 : Word) (md : Fin 65536), s.off = false → s.chainState c.val = 4 →
    (returnPacket pkt = none → exec (.enumAck c pkt caps2 md) s = .next (s.setFld (F.LINK_ERR_RET_CRC c.val)
      (min (2 ^ (F.LINK_ERR_RET_CRC c.val).width - 1) (s.fld (F.LINK_ERR_RET_CRC c.val) + 1)))) ∧
    (∀ p, returnPacket pkt = some p → p.type ≠ 2 → exec (.enumAck c pkt caps2 md) s = .next s) ∧
    (∀ p, returnPacket pkt = some p → p.type = 2 →
      let pos := p.byte 0
      (pos = 255 → exec (.enumAck c pkt caps2 md) s = .next (s.failAttempt c.val 4 4)) ∧
      (pos < 16 → bitsOf (p.byte 1) 4 1 = 0 → exec (.enumAck c pkt caps2 md) s = .next (s.setChain c.val { s.chain c.val with
        stations := putStation (s.chain c.val).stations pos
          ⟨bitsOf (p.byte 1) 0 4, BitVec.ofNat 32 (p.bytes 2 4), BitVec.ofNat 32 (p.bytes 6 4), caps2, md.val⟩ })) ∧
      (pos < 16 → bitsOf (p.byte 1) 4 1 = 1 → ∃ t, exec (.enumAck c pkt caps2 md) s = .next t ∧
        t.chainState c.val = (if getBits (s.chain c.val).cfg0 29 1 = 1 then 7 else 5) ∧
        t.fld (F.LINK_STATUS_LAST_POS c.val) = pos))) ∧
  (∀ (s : State) (c : Fin 8) (r ret : Nat) (pre : Bool), s.off = false → s.chainState c.val = 5 →
    (s.chain c.val).step = some (r, pre, ret) →
      let u := (s.setRate c.val r).setFld (F.LINK_STATUS_PRECODE_ON c.val) (if pre then 1 else 0)
      let v := u.setChain c.val { u.chain c.val with step := none, ret := ret }
      exec (.rateSwitch c) s = .next ((v.loadLanes c.val).send c.val [tsBlock 5 0 0, tsBlock 5 1 0])) ∧
  (∀ (s : State) (c : Nat) (b : List Block), c < 8 →
    (s.loadLanes c).chain c = { s.chain c with
      sent := [], tx0 := ⟨List.replicate 31 true, 0, false⟩, tx1 := ⟨List.replicate 31 true, 0, false⟩, steps := (s.chain c).steps + 1 } ∧
    ((s.send c b).chain c).sent = b ∧ ((s.send c b).chain c).steps = (s.chain c).steps + 1 ∧
    s.send c b = { s with chains := (s.send c b).chains } ∧
    (s.laneDriven c = false → ((s.send c b).chain c).tx0 = (s.chain c).tx0 ∧ ((s.send c b).chain c).tx1 = (s.chain c).tx1)) ∧
  (∀ (st d : List Bool), descramble st (scramble st d).1 = d) ∧
  (∀ (p : Nat) (l : List Nat), p < 4 → (∀ g ∈ l, g < 4) → unprecode p (precode p l) = l) ∧
  (∀ (s : State) (c : Fin 8) (pkt : List Byte) (p : RetPacket), s.off = false → s.chainState c.val = 6 → returnPacket pkt = some p →
    p.type = 4 → p.src / 16 = c.val →
      let x := s.chain c.val
      let move := fun (v hi : Nat) => if p.byte 1 = 1 then min hi (v + 1) else if p.byte 1 = 2 then v - 1 else v
      (p.src % 16 = 0 → exec (.eqReq c pkt) s = .next (s.setChain c.val { x with
        pre := if p.byte 0 = 0 then move x.pre 16 else x.pre, post := if p.byte 0 = 1 then move x.post 24 else x.post,
        eqDone := bitsOf (p.byte 2) 0 1 == 1 })) ∧
      (p.src % 16 ≠ 0 → exec (.eqReq c pkt) s = .next s)) ∧
  (∀ (s : State) (c : Fin 8), s.off = false → 1 ≤ s.chainState c.val → s.chainState c.val ≤ 6 →
    ((s.chain c.val).stateAt + 10 ≤ s.ticks →
      exec (.trainingStateTimeout c) s = .next (s.failAttempt c.val (s.chainState c.val) 1)) ∧
    (s.ticks < (s.chain c.val).stateAt + 10 → exec (.trainingStateTimeout c) s = .next s) ∧
    ((s.chain c.val).attemptAt + 200 ≤ s.ticks → exec (.sequenceLimit c) s = .next (s.failAttempt c.val (s.chainState c.val) 2)) ∧
    (s.chainState c.val ≠ 1 → exec (.trainingReturnSilent c) s = .next (s.failAttempt c.val (s.chainState c.val) 3))) ∧
  (∀ (s : State) (c : Fin 8) (at' n : Nat), s.off = false → s.chainState c.val = 0 → (s.chain c.val).backoff = some (at', n) →
    s.pdOn (laneDomain c.val) = true →
      (at' + n ≤ s.ticks → (s.chain c.val).next = 0 → exec (.backoffExpiry c) s = .next (s.becomeAbsent c.val)) ∧
      (at' + n ≤ s.ticks → (s.chain c.val).next ≠ 0 →
        exec (.backoffExpiry c) s = .next (s.startAttempt c.val (s.chain c.val).next 1)) ∧
      (s.ticks < at' + n → exec (.backoffExpiry c) s = .next s)) ∧
  (∀ (s : State) (c : Fin 8), s.off = false → s.chainState c.val = 8 →
    ((s.chain c.val).window = false → (s.chain c.val).windowAt + (s.chain c.val).beacon ≤ s.ticks → s.nearEnd c.val = false →
      let u := s.setChain c.val { s.chain c.val with window := true, windowAt := s.ticks, beacon := s.beaconMs c.val }
      exec (.beaconWindowOpen c) s = .next ((u.loadLanes c.val).send c.val [tsBlock 1 0 0, tsBlock 1 1 0])) ∧
    ((s.chain c.val).window = true → (s.chain c.val).windowAt + 10 ≤ s.ticks →
      exec (.beaconWindowClose c) s = .next ((s.send c.val []).setChain c.val { (s.send c.val []).chain c.val with window := false }))) ∧
  (∀ (s : State) (c : Fin 8), s.off = false → s.chainState c.val = 7 → s.lane c.val ≠ 4 → (s.chain c.val).unfurling = false →
    exec (.returnLost c) s = .next (s.failTo c.val 7 3 1 10))

/-- R650, R654 to R657, R663, R664, R681, R690, R930, R934: CHAIN_CONFIG, CHAIN_TRAIN, station access and the packets that
answer it. The model's own choices in it: log entries 36, 62. -/
def Obligations.ChainCommands : Prop :=
  (∀ s e, s.starts 0x80 e → s.runtime = true → 1 ≤ e.params.length → e.params.length ≤ 8 → parUnit e.params ≤ 7 →
    strayBits e.params 0 0xFF00000F = false → parBits e.params 0 0 4 ≤ 6 →
    (∀ i, i + 1 < e.params.length → chainWordBad (parBits e.params 0 0 4 + i) (par e.params (i + 1)) = false) →
      ∃ t : State, exec .chainConfig s = .next (t.post e stOk []) ∧ t = { s.popCmd with regs := t.regs } ∧
        (∀ i, i + 1 < e.params.length → t.rd (cfgReg (parUnit e.params) (parBits e.params 0 0 4 + i)) = par e.params (i + 1)) ∧
        (∀ a, (∀ i, i + 1 < e.params.length → a ≠ cfgReg (parUnit e.params) (parBits e.params 0 0 4 + i)) → t.rd a = s.popCmd.rd a)) ∧
  (∀ s e, s.starts 0x81 e → s.runtime = true → e.params.length = 1 → strayBits e.params 0 0xFF000000 = false →
    (∀ c, c ∈ maskChains (parUnit e.params) → (∀ d ∈ maskChains (parUnit e.params), d < c → s.pdOn (laneDomain d) = true) →
      s.pdOn (laneDomain c) = false → exec .chainTrain s = .next (s.popCmd.post e stStateRefused
        [s.popCmd.stateWord 0x04 (laneDomain c) (s.popCmd.pdState (laneDomain c))])) ∧
    ((∀ c ∈ maskChains (parUnit e.params), s.pdOn (laneDomain c) = true) →
      ((∀ c ∈ maskChains (parUnit e.params), s.training c = false) →
        exec .chainTrain s = .next (((s.popCmd.each (maskChains (parUnit e.params)) State.trainChain).showFurled).post e stAccepted [])) ∧
      ((∃ c ∈ maskChains (parUnit e.params), s.training c = true) → exec .chainTrain s = .next (s.popCmd.post e stBusy [])))) ∧
  (∀ s e, s.starts 0x82 e → s.runtime = true → e.params.length = 2 → strayBits e.params 0 0xFF00FFFF = false → parUnit e.params < 0x80 →
    1 ≤ (par e.params 1).toNat → (par e.params 1).toNat ≤ 64 →
      let a := parUnit e.params
      let n := (par e.params 1).toNat
      (s.reachable (a / 16) = true → ∃ t, exec .stationRead s = .next t ∧
        t.cw = { s.popCmd.cw with running := some ⟨e, .station (a / 16) (a % 16) n⟩ } ∧
        (s.lane (a / 16) = 2 → (s.chain (a / 16)).furling = none →
          t.chains = (s.send (a / 16) [regBlock a false 0 (parBits e.params 0 0 16) n]).chains) ∧
        (s.lane (a / 16) = 4 → (t.chain (a / 16)).unfurling = true ∧
          (t.chain (a / 16)).access = (s.chain (a / 16)).access ++ [regBlock a false 0 (parBits e.params 0 0 16) n])) ∧
      (s.reachable (a / 16) = false → exec .stationRead s = .next (s.popCmd.post e stStateRefused
        [s.popCmd.stateWord 0x03 (a / 16) (s.chainState (a / 16) + 16 * s.lane (a / 16))]))) ∧
  (∀ s e, s.starts 0x83 e → s.runtime = true → 2 ≤ e.params.length → e.params.length ≤ 65 → strayBits e.params 0 0xFF00FFFF = false →
    parUnit e.params < 0x80 →
      let a := parUnit e.params
      s.reachable (a / 16) = true → ∃ t, exec .stationWrite s = .next t ∧
        t.cw = { s.popCmd.cw with running := some ⟨e, .station (a / 16) (a % 16) 0⟩ } ∧
        (s.lane (a / 16) = 2 → (s.chain (a / 16)).furling = none →
          t.chains = (s.send (a / 16) (regWrite a 0 (parBits e.params 0 0 16) (e.params.drop 1))).chains) ∧
        (s.lane (a / 16) = 4 → (t.chain (a / 16)).unfurling = true ∧
          (t.chain (a / 16)).access = (s.chain (a / 16)).access ++ regWrite a 0 (parBits e.params 0 0 16) (e.params.drop 1))) ∧
  (∀ s e, s.starts 0x83 e → s.runtime = true → 2 ≤ e.params.length → e.params.length ≤ 65 →
    let a := parUnit e.params
    let b := regWrite a 0 (parBits e.params 0 0 16) (e.params.drop 1)
    (a = 0xFF → strayBits e.params 0 0xFF00FFFF = false → (∀ c, c < 8 → (s.chain c).access = []) →
      (∀ c, c < 8 → s.reachable c = true → s.lane c = 2 ∧ (s.chain c).furling = none) →
        exec .stationWrite s = .next ((s.popCmd.each ((List.range 8).filter s.reachable) (fun s c => s.send c b)).post e stOk [])) ∧
    (a = 0xFE → strayBits e.params 0 0xFFF0FFFF = false → parBits e.params 0 20 4 ≤ 7 →
      let c := parBits e.params 0 20 4
      (s.reachable c = false → exec .stationWrite s = .next (s.popCmd.post e stStateRefused
        [s.popCmd.stateWord 0x03 c (s.chainState c + 16 * s.lane c)])) ∧
      (s.reachable c = true → s.lane c = 2 → (s.chain c).furling = none → (∀ c, c < 8 → (s.chain c).access = []) →
        exec .stationWrite s = .next ((s.popCmd.send c b).post e stOk [])))) ∧
  (∀ s e, s.starts 0x82 e ∨ s.starts 0x83 e → s.runtime = true → 0x80 ≤ parUnit e.params → parUnit e.params < 0xFE →
    e.params.length = 2 → (s.starts 0x82 e → exec .stationRead s = .next (s.popCmd.post e stBadParam [0])) ∧
      (s.starts 0x83 e → exec .stationWrite s = .next (s.popCmd.post e stBadParam [0]))) ∧
  (∀ (src type : Byte) (d : List Byte) (crc : Nat), d.length ≤ 2048 → crc < 65536 →
    let body := src :: type :: BitVec.ofNat 8 (d.length / 256) :: BitVec.ofNat 8 d.length :: d
    let pkt := body ++ [BitVec.ofNat 8 (crc / 256), BitVec.ofNat 8 crc]
    (crc = crc16 body → returnPacket pkt = some ⟨src.toNat, type.toNat, d⟩) ∧ (crc ≠ crc16 body → returnPacket pkt = none)) ∧
  (∀ (s : State) (c : Fin 8) (pkt : List Byte), s.off = false → s.chainState c.val = 7 → returnPacket pkt = none →
    exec (.regReply c pkt) s = .next (s.satAdd (F.LINK_ERR_RET_CRC c.val) 1) ∧
    exec (.statusPacket c pkt) s = .next (s.satAdd (F.LINK_ERR_RET_CRC c.val) 1)) ∧
  (∀ (s : State) (c : Fin 8) (pos : Fin 16) (r : CmdEntry) (n : Nat), s.off = false → s.runtimeDead = false → s.chainState c.val = 7 →
    s.cw.running = some ⟨r, .station c.val pos.val n⟩ → (s.chain c.val).access = [] →
      let free : State := { s with cw := { s.cw with running := none } }
      (∀ pkt p, returnPacket pkt = some p → p.type = 1 → p.src = 16 * c.val + pos.val → p.byte 0 = 0 →
        exec (.regReply c pkt) s = .next (free.post r stOk
          (if p.byte 1 = 0 then (List.range n).map (fun i => BitVec.ofNat 32 (p.bytes (2 + 4 * i) 4)) else List.replicate n 0))) ∧
      exec (.stationTimeout c true) s = .next (free.post r stTimeout [])) ∧
  (∀ (s : State) (c : Fin 8) (pkt : List Byte) (p : RetPacket), s.off = false → s.chainState c.val = 7 → returnPacket pkt = some p →
    p.type = 3 → p.src / 16 = c.val →
      let pos := p.src % 16
      let u := (s.satAdd (F.LINK_ERR_LINE_ERR c.val) (p.bytes 2 2)).satAdd (F.LINK_ERR_LOCK_LOSS c.val) (p.byte 4)
      (bitsOf (p.byte 1) 2 1 = 0 ∨ s.fld (F.LINK_STATUS_LAST_POS c.val) ≤ pos → exec (.statusPacket c pkt) s = .next u) ∧
      (bitsOf (p.byte 1) 2 1 = 1 → pos < s.fld (F.LINK_STATUS_LAST_POS c.val) → ∃ t, exec (.statusPacket c pkt) s = .next t ∧
        t.fld (F.LINK_ERR_LINE_ERR c.val) = u.fld (F.LINK_ERR_LINE_ERR c.val) ∧
        t.fld (F.LINK_STATUS_PARTIAL c.val) = 1 ∧ t.fld (F.LINK_STATUS_STATIONS c.val) = pos + 1 ∧
        t.fld (F.LINK_STATUS_LAST_POS c.val) = pos ∧
        (∀ k, k < 16 → t.fld (F.LINK_STA_PRESENT c.val k) = if pos < k then 0 else s.fld (F.LINK_STA_PRESENT c.val k))))

/-- R724, R725, R727, R730 to R736: CHAIN_FURL, and the ends of a countdown and of an unfurl. The model's own choices in it:
log entries 4, 24. -/
def Obligations.LanePower : Prop :=
  (∀ s e, s.starts 0x84 e → s.runtime = true → e.params.length = 1 → strayBits e.params 0 0xFF000003 = false →
    parBits e.params 0 0 2 ≠ 3 →
      let l := maskChains (parUnit e.params)
      let g := furlCode (parBits e.params 0 0 2)
      (∀ c, c ∈ l → (∀ d ∈ l, d < c → s.furlOffends g d = false) → s.furlOffends g c = true →
        exec .chainFurl s = .next (s.popCmd.post e stStateRefused
          [s.popCmd.stateWord 0x03 c (s.chainState c + 16 * s.lane c)])) ∧
      ((∀ c ∈ l, s.furlOffends g c = false ∧ s.lane c = g ∧ (s.chain c).furling = none ∧ (s.chain c).unfurling = false) →
        ∃ t : State, exec .chainFurl s = .next (t.post e stOk []) ∧ (∀ c ∈ l, t.fld (F.LINK_PWR_REQ c) = g ∧ t.lane c = g)) ∧
      (l ≠ [] → g ≠ 2 → (∀ c ∈ l, s.furlOffends g c = false ∧ s.lane c = 2 ∧ (s.chain c).furling = none ∧
          (s.chain c).unfurling = false) →
        ∃ t, exec .chainFurl s = .next t ∧ t.cw.running = some ⟨e, .furl (parUnit e.params)⟩ ∧
          (∀ c ∈ l, (t.chain c).furling = some g ∧ (t.chain c).goal = some g ∧ t.fld (F.LINK_PWR_REQ c) = g ∧
            (t.chain c).sent = [furlBlock g 32, furlBlock g 32]))) ∧
  (∀ (s : State) (r : CmdEntry) (m : Nat), s.cw.running = some ⟨r, .furl m⟩ → s.runtimeDead = false →
    ((∀ c ∈ maskChains m, s.chainState c = 7 ∧ (s.chain c).goal = none) →
      s.settleFurl = ({ s with cw := { s.cw with running := none } } : State).post r stOk []) ∧
    ((∃ c ∈ maskChains m, s.chainState c ≠ 7 ∨ (s.chain c).goal ≠ none) → s.settleFurl = s)) ∧
  (∀ (s : State) (c : Fin 8) (g : Nat), s.off = false → (s.chain c.val).furling = some g → g = 3 ∨ g = 4 →
    (s.chain c.val).access = [] → s.pwr.target = none → (s.chain c.val).goal = none ∨ (s.chain c.val).goal = some g →
      ∃ t, exec (.furlComplete c) s = .next t ∧ t.lane c.val = g ∧ (t.chain c.val).furling = none ∧
        t.fld (F.LINK_FURLS_COUNT c.val) = (if g = 4 then min (2 ^ 32 - 1) (s.fld (F.LINK_FURLS_COUNT c.val) + 1)
          else s.fld (F.LINK_FURLS_COUNT c.val))) ∧
  (∀ (s : State) (c : Fin 8) (d : Fin 256), s.off = false →
    ((s.chain c.val).unfurling = false → exec (.unfurlComplete c d) s = .next s) ∧
    ((s.chain c.val).unfurling = true → (s.chain c.val).furling = none → s.pwr.target = none →
      (s.chain c.val).goal = none ∨ (s.chain c.val).goal = some 2 →
      ∃ t, exec (.unfurlComplete c d) s = .next t ∧ t.lane c.val = 2 ∧ (t.chain c.val).unfurling = false ∧
        (t.chain c.val).byHead = false ∧ (t.chain c.val).access = [] ∧ (t.chain c.val).sent = (s.chain c.val).access ∧
        t.fld (F.LINK_PWR_T_RETURN c.val) = d.val))

/-- R285, R691 to R711, R741: eye scans. R285, R691, R712 to R720: loopbacks. The model's own choices in it: log entries 4,
37, 38. -/
def Obligations.DiagnosticRuns : Prop :=
  (∀ s e, s.starts 0xB0 e → s.runtime = true → e.params.length = 2 → parUnit e.params ≤ 7 → parBits e.params 0 16 8 = 0 →
    6 ≤ (par e.params 1).toNat → (par e.params 1).toNat ≤ 10 →
      let c := parUnit e.params
      let sel := parBits e.params 0 0 16
      s.eyeSelectorOk c sel = true →
        (s.chainState c ≠ 7 → exec .eyeScanStart s = .next (s.popCmd.post e stStateRefused
          [s.popCmd.stateWord 0x03 c (s.chainState c + 16 * s.lane c)])) ∧
        (s.runBusy c = true → s.chainState c = 7 → exec .eyeScanStart s = .next (s.popCmd.post e stBusy [])) ∧
        (s.runBusy c = false → s.chainState c = 7 → ∃ t : State, exec .eyeScanStart s = .next (t.post e stAccepted []) ∧
          t.fld (F.LINK_DIAG_STATUS_KIND c) = 0 ∧ t.fld (F.LINK_DIAG_STATUS_DONE_CNT c) = 0 ∧
          t.fld (F.LINK_DIAG_STATUS_OVERRUN c) = 0 ∧
          t.runState c = (if s.lane c = 4 ∨ s.cal.measuring.isSome = true then 2 else 1) ∧
          (∃ d, (t.chain c).diag = some d ∧ d.sel = sel ∧ d.e = (par e.params 1).toNat ∧ d.station = (bitsOf sel 7 1 == 1) ∧
            d.n = eyePoints d.sp d.sv))) ∧
  (∀ s e, s.starts 0xB0 e → s.runtime = true → e.params.length = 2 → parUnit e.params ≤ 7 → parBits e.params 0 16 8 = 1 →
    parBits e.params 0 0 7 = 0 → strayBits e.params 1 0x1FFF000F = false →
      let c := parUnit e.params
      let first := parBits e.params 1 16 13
      (∀ d, (s.chain c).diag = some d → d.loop = false → first < d.n →
        (s.runBusy c = true → exec .eyeScanResult s = .next (s.popCmd.post e stBusy [])) ∧
        (s.runBusy c = false → s.bit (F.LINK_DIAG_STATUS_OVERRUN c) = true →
          exec .eyeScanResult s = .next (s.popCmd.post e stOverrun [])) ∧
        (s.runBusy c = false → s.bit (F.LINK_DIAG_STATUS_OVERRUN c) = false →
          let n := min d.n (first + 1022) - first
          exec .eyeScanResult s = .next ((s.popCmd.readLong 18 (s.fld (F.LINK_DIAG_BASE c) + 4 * first) (4 * n)).post e stOk
            (BitVec.ofNat 32 (s.runState c * 2 ^ 28 + s.fld (F.LINK_DIAG_STATUS_STALE c) * 2 ^ 27 + d.e * 2 ^ 16 + d.n) ::
              BitVec.ofNat 32 (d.sp * 2 ^ 24 + d.sv * 2 ^ 16 + first) ::
              (List.range n).map (fun i => if s.fld (F.LINK_DIAG_STATUS_DONE_CNT c) ≤ first + i then 0xFFFFFFFF
                else BitVec.ofNat 32 (leNat (s.plateBytes (s.fld (F.LINK_DIAG_BASE c) + 4 * (first + i)) 4))))))) ∧
      ((s.chain c).diag = none ∨ (∃ d, (s.chain c).diag = some d ∧ d.loop = true) → exec .eyeScanResult s =
        .next (s.popCmd.post e stStateRefused [s.popCmd.stateWord 0x03 c (s.chainState c + 16 * s.lane c)]))) ∧
  (∀ s e, s.starts 0xB0 e → s.runtime = true → e.params.length = 2 → parUnit e.params ≤ 7 → parBits e.params 0 16 8 = 2 →
    parBits e.params 0 0 7 = 0 → strayBits e.params 1 0x0000000F = false →
      (s.runBusy (parUnit e.params) = false → exec .eyeScanAbort s = .next (s.popCmd.post e stOk [])) ∧
      (s.runBusy (parUnit e.params) = true → ∃ t : State, exec .eyeScanAbort s = .next (t.post e stOk []) ∧ t.runState (parUnit e.params) = 4)) ∧
  (∀ (s : State) (c : Fin 8) (n : Nat) (d : DiagRun), s.off = false → (s.chain c.val).diag = some d → d.loop = false → d.station = false →
    s.runState c.val = 1 → s.fld (F.LINK_DIAG_STATUS_DONE_CNT c.val) + 1 < 8192 →
      let k := s.fld (F.LINK_DIAG_STATUS_DONE_CNT c.val) + 1
      ∃ t, exec (.eyePointDone c n) s = .next t ∧ t.fld (F.LINK_DIAG_STATUS_DONE_CNT c.val) = k ∧
        t.runState c.val = (if d.n ≤ k then 3 else 1) ∧
        (k < d.n → k % 8 ≠ 0 → ∃ f, (t.chain c.val).diag = some f ∧ f.recs = d.recs ++ [eyeRecord n d.moved] ∧
          t.plate = s.plate)) ∧
  (∀ (s : State) (c : Fin 8) (pkt : List Byte), s.off = false → s.chainState c.val = 7 →
    (returnPacket pkt = none → exec (.eyePacket c pkt) s = .next (s.setFld (F.LINK_ERR_RET_CRC c.val)
      (min (2 ^ (F.LINK_ERR_RET_CRC c.val).width - 1) (s.fld (F.LINK_ERR_RET_CRC c.val) + 1)))) ∧
    (∀ d p, (s.chain c.val).diag = some d → d.loop = false → d.station = true → s.runBusy c.val = true →
      returnPacket pkt = some p → p.type = 6 → p.src = 16 * c.val + d.pos → d.pos < 16 →
      p.bytes 0 2 = s.fld (F.LINK_DIAG_STATUS_DONE_CNT c.val) → p.bytes 0 2 + p.byte 2 ≤ d.n → d.n ≤ 8191 →
        ∃ t, exec (.eyePacket c pkt) s = .next t ∧ t.fld (F.LINK_DIAG_STATUS_DONE_CNT c.val) = p.bytes 0 2 + p.byte 2 ∧
          t.runState c.val = (if bitsOf (p.byte 3) 0 1 = 1 then 3 else s.runState c.val))) ∧
  (∀ (s : State) (c : Fin 8) (d : DiagRun), s.off = false → (s.chain c.val).diag = some d → d.loop = false → d.station = true →
    s.runState c.val = 1 → (d.last + 2000 ≤ s.ticks → ∃ t, exec (.eyePacketTimeout c) s = .next t ∧ t.runState c.val = 5) ∧
      (s.ticks < d.last + 2000 → exec (.eyePacketTimeout c) s = .next s)) ∧
  (∀ s e, s.starts 0xB1 e → s.runtime = true → e.params.length = 2 → parUnit e.params ≤ 7 → parBits e.params 0 16 8 = 0 →
    loopFails e.params = [] →
      let c := parUnit e.params
      let kind := parBits e.params 0 12 4
      s.runBusy c = false → s.pdOn (laneDomain c) = true →
        (kind = 2 → s.chainState c = 7 → parBits e.params 0 8 4 < s.fld (F.LINK_STATUS_STATIONS c) → s.lane c = 2 →
          ∃ t : State, exec .loopbackStart s = .next (t.post e stAccepted []) ∧ t.runState c = 1 ∧ t.fld (F.LINK_DIAG_STATUS_KIND c) = 1) ∧
        (kind ≠ 2 → s.chainState c = 0 ∨ s.chainState c = 8 → s.nearHeld = false →
          ∃ t : State, exec .loopbackStart s = .next (t.post e stAccepted []) ∧ t.runState c = 1 ∧ t.fld (F.LINK_DIAG_STATUS_KIND c) = 1 ∧
            (t.chain c).window = false ∧ (∃ d, (t.chain c).diag = some d ∧ d.loop = true ∧ d.sel = kind ∧
              d.pattern = parBits e.params 1 0 4 ∧ d.target = parBits e.params 1 12 4 * 10 ^ parBits e.params 1 8 4 ∧ d.bits = 0)) ∧
        (kind ≠ 2 → s.chainState c ≠ 0 → s.chainState c ≠ 8 → exec .loopbackStart s = .next (s.popCmd.post e stStateRefused
          [s.popCmd.stateWord 0x03 c (s.chainState c + 16 * s.lane c)]))) ∧
  (∀ s e, s.starts 0xB1 e → s.runtime = true → e.params.length = 2 → parUnit e.params ≤ 7 → parBits e.params 0 16 8 = 1 →
    parBits e.params 0 0 8 = 0 → strayBits e.params 1 0x0000FF0F = false →
      let c := parUnit e.params
      ∀ d, (s.chain c).diag = some d → d.loop = true → s.runBusy c = false → s.bit (F.LINK_DIAG_STATUS_OVERRUN c) = false →
        exec .loopbackResult s = .next (s.popCmd.post e stOk
          ([s.runState c * 2 ^ 28 + s.fld (F.LINK_DIAG_STATUS_DONE_CNT c), min 0xFFFFFFFF d.errors, d.bits / 2 ^ 32, d.bits,
            min 0xFFFFFFFF d.sync].map (BitVec.ofNat 32)))) ∧
  (∀ s e, s.starts 0xB1 e → s.runtime = true → e.params.length = 2 → parUnit e.params ≤ 7 → parBits e.params 0 16 8 = 2 →
    parBits e.params 0 0 8 = 0 → strayBits e.params 1 0x0000FF0F = false →
      (s.runBusy (parUnit e.params) = false → exec .loopbackAbort s = .next (s.popCmd.post e stOk [])) ∧
      (s.runBusy (parUnit e.params) = true → ∃ t : State, exec .loopbackAbort s = .next (t.post e stOk []) ∧ t.runState (parUnit e.params) = 4)) ∧
  (∀ (s : State) (c : Fin 8) (d : DiagRun) (rx : List (BitVec 64)) (err hi lo sync : Word), s.off = false →
    (s.chain c.val).diag = some d → d.loop = true → d.station = false → s.runState c.val = 1 →
      let f := rx.foldl (fun (d : DiagRun) w =>
        let k := checkPattern d.pattern d.check w
        { d with errors := d.errors + k.1, bits := d.bits + 64, sync := d.sync + k.2.1, check := k.2.2 }) d
      (f.errors = d.errors → exec (.loopbackLogInterval c rx err) s = .next (s.setDiag c.val { f with interval := d.interval + 1 })) ∧
      (d.errors < f.errors → s.fld (F.LINK_DIAG_STATUS_DONE_CNT c.val) < 8191 →
        ∃ t, exec (.loopbackLogInterval c rx err) s = .next t ∧
          t.fld (F.LINK_DIAG_STATUS_DONE_CNT c.val) = s.fld (F.LINK_DIAG_STATUS_DONE_CNT c.val) + 1 ∧
          (t.chain c.val).diag = some { f with interval := d.interval + 1 }) ∧
      (d.target ≤ d.bits + 64 * rx.length → exec (.loopbackTargetReached c rx err hi lo sync) s =
        .next ((s.setDiag c.val f).setFld (F.LINK_DIAG_STATUS_RUN_STATE c.val) 3)) ∧
      (d.bits + 64 * rx.length < d.target → exec (.loopbackTargetReached c rx err hi lo sync) s = .next s)) ∧
  (∀ (s : State) (c : Fin 8) (d : DiagRun) (rx : List (BitVec 64)) (err hi lo sync : Word), s.off = false →
    (s.chain c.val).diag = some d → d.loop = true → d.station = true → s.runState c.val = 1 →
      (∃ t, exec (.loopbackLogInterval c rx err) s = .next t ∧
        (t.chain c.val).diag = some { d with errors := err.toNat, interval := d.interval + 1 }) ∧
      (∃ t, exec (.loopbackTargetReached c rx err hi lo sync) s = .next t ∧ t.runState c.val = 3 ∧
        (t.chain c.val).diag = some { d with
          errors := err.toNat, bits := hi.toNat * 2 ^ 32 + lo.toNat, sync := sync.toNat % 65536 })) ∧
  (∀ (p : Nat) (gen : Option (List Bool)) (w : BitVec 64),
    let k := checkPattern p gen w
    (gen = none → k.1 = 0 ∧ k.2.1 = 0 ∧ k.2.2 = some ((bitList 64 w.toNat).drop (64 - (patternTaps p).1))) ∧
    (gen ≠ none → k.2.2 = none → k.1 = 64 ∧ k.2.1 = 1) ∧ (k.2.2 ≠ none → k.1 ≤ 16 ∧ k.2.1 = 0))

/-- R752 to R757, R779 to R786: TOUCH_CONFIG, TOUCH_READ and TOUCH_REBASE. The model's own choices in it: log entries 1, 33,
48. -/
def Obligations.TouchCommands : Prop :=
  (∀ s e, s.starts 0x90 e → s.runtime = true → 1 ≤ e.params.length → e.params.length ≤ 11 → parUnit e.params ≤ 3 →
    strayBits e.params 0 0xFF00000F = false → parBits e.params 0 0 4 ≤ 9 → s.fld F.CAPS1_TOUCH = 1 →
      let h := parUnit e.params
      let first := parBits e.params 0 0 4
      let ws := e.params.drop 1
      let on := first = 0 ∧ ws ≠ [] ∧ getBits (ws.getD 0 0) 31 1 = 1
      touchConfigFails (s.touchCfg h) first ws = [] →
        let u := s.popCmd.each (List.range ws.length) (fun s i => s.wr (0x140000 + 0x100 * h + 4 * (first + i)) (ws.getD i 0))
        ((on → s.bit F.BOOT_STATUS_STYLUS_RUN = true) → exec .touchConfig s = .next ((u.touchApply h (s.touchCfg h)).post e
          (if on ∧ s.touchState h = 4 then stDeferred else stOk) [])) ∧
        (on → s.bit F.BOOT_STATUS_STYLUS_RUN = false → exec .touchConfig s = .next
          (({ s.popCmd with free := s.free + 1 } : State).post e stStateRefused
            [s.popCmd.stateWord 0x0D 0 (Config.freeValue s.free % 256)]))) ∧
  (∀ s e, s.starts 0x91 e → s.runtime = true → e.params = [] →
    ∃ t : State, exec .touchRead s = .next (t.post e stOk
        (([0, 1, 2, 3].filter (fun h => s.touchState h != 0)).flatMap s.popCmd.reportWords)) ∧
      t = { s.popCmd with touch := t.touch, regs := t.regs } ∧ getBits (t.rd 0x30004) 2 1 = 0 ∧ (∀ a, a ≠ 0x30004 → t.rd a = s.rd a) ∧
      (∀ h, h < 4 → s.touchState h ≠ 0 → (t.touchOf h).ended = [] ∧ (t.touchOf h).flags = TouchFlags.none ∧
        (∀ k ∈ (t.touchOf h).contacts, k.down = false) ∧ (t.touchOf h).contacts.map Contact.id = (s.touchOf h).contacts.map Contact.id) ∧
      (∀ h, h < 4 → s.touchState h = 0 → t.touchOf h = s.touchOf h)) ∧
  (∀ s e, s.starts 0x92 e → s.runtime = true → e.params.length = 1 → parUnit e.params ≤ 3 → strayBits e.params 0 0xFF000001 = false →
    let h := parUnit e.params
    let x := s.touchOf h
    (s.touchState h ≠ 3 → exec .touchRebase s = .next (s.popCmd.post e stStateRefused
      [s.popCmd.stateWord 0x06 h (s.touchState h)])) ∧
    (s.touchState h = 3 → parBits e.params 0 0 1 = 1 → s.p1Present = false →
      exec .touchRebase s = .next (s.popCmd.post e stPresenceRequired [])) ∧
    (s.touchState h = 3 → parBits e.params 0 0 1 = 0 ∨ s.p1Present = true → x.rebase ≠ 0 →
      exec .touchRebase s = .next (s.popCmd.post e stBusy [])) ∧
    (x.rebase = 0 → s.touchState h = 3 → parBits e.params 0 0 1 = 1 → s.p1Present = true →
      exec .touchRebase s = .next ((s.popCmd.setTouch h { x with rebase := 16, sums := [], count := 0 }).post e stAccepted [])) ∧
    (x.rebase = 0 → s.touchState h = 3 → parBits e.params 0 0 1 = 0 → ∃ t : State, exec .touchRebase s = .next (t.post e stAccepted []) ∧
      t = { s.popCmd with touch := t.touch } ∧ (t.touchOf h).rebase = 2 ∧ (t.touchOf h).contacts = [] ∧
      (∀ g, g < 4 → g ≠ h → t.touchOf g = s.touchOf g)))

/-- R744, R748, R754, R758, R759, R771, R782: scan packets, sets that are discarded, sets that are processed. The model's
own choices in it: log entries 4, 29, 30. -/
def Obligations.ScanSets : Prop :=
  (∀ (s : State) (c : Fin 8) (pkt : List Byte), s.off = false → s.chainState c.val = 7 → returnPacket pkt = none →
    exec (.scanPacket c pkt) s = .next (s.setFld (F.LINK_ERR_RET_CRC c.val)
      (min (2 ^ (F.LINK_ERR_RET_CRC c.val).width - 1) (s.fld (F.LINK_ERR_RET_CRC c.val) + 1)))) ∧
  (∀ (s : State) (c : Fin 8) (pkt : List Byte) (q : RetPacket) (p : ScanPacket) (h k : Nat) (g : ScanSet), s.off = false →
    s.chainState c.val = 7 → returnPacket pkt = some q → q.type = 5 → q.src / 16 = c.val → parseScan q.payload = some p → h < 4 →
    (s.touchOf h).set = some g → s.boundTo c.val h = true → (∀ j, j < 4 → j ≠ h → s.boundTo c.val j = false) →
    (usedTafes g.cfg).find? (fun k => tafeAddr g.cfg k == q.src) = some k →
      (g.frame ≠ p.frame ∨ g.slot ≠ p.slot → exec (.scanPacket c pkt) s = .next s) ∧
      (g.frame = p.frame → g.slot = p.slot → p.cut = true → exec (.scanPacket c pkt) s = .next (s.discardSet h)) ∧
      (g.frame = p.frame → g.slot = p.slot → p.cut = false → ∃ t g', exec (.scanPacket c pkt) s = .next t ∧
        t = s.setTouch h (t.touchOf h) ∧ (∃ l, g'.vals = g.vals ++ l) ∧
        ((∃ j ∈ usedTafes g.cfg, j ∉ g'.done) → t.touchOf h = { s.touchOf h with set := some g' }) ∧
        ((∀ j ∈ usedTafes g.cfg, j ∈ g'.done) → t.touchOf h = { s.touchOf h with
          set := none, ready := (s.touchOf h).ready ++ [g'] }) ∧
        (∀ j, j ∈ g'.done ↔ j ∈ g.done ∨ (p.last = true ∧ j = k)))) ∧
  (∀ (s : State) (h : Fin 4), s.off = false →
    ((s.touchOf h.val).set = none ∨ (s.head h.val).fr.slotLeft ≠ 0 → exec (.scanSetTimeout h) s = .next s) ∧
    ((s.touchOf h.val).set ≠ none → (s.head h.val).fr.slotLeft = 0 → s.touchState h.val ≠ 4 → ∃ t, exec (.scanSetTimeout h) s = .next t ∧
      t.touchOf h.val = { s.touchOf h.val with set := none, flags := { (s.touchOf h.val).flags with cut := true } } ∧
      t.fld (F.TOUCH_COUNT_CUT_CNT h.val) =
        min (2 ^ (F.TOUCH_COUNT_CUT_CNT h.val).width - 1) (s.fld (F.TOUCH_COUNT_CUT_CNT h.val) + 1) ∧ t.cw = s.cw)) ∧
  (∀ (s : State) (h : Fin 4) (g : ScanSet) (l : List ScanSet), s.off = false → (s.touchOf h.val).ready = g :: l →
    let u := (s.setTouch h.val { s.touchOf h.val with ready := l }).setFld (F.TOUCH_COUNT_SETS h.val)
      (s.fld (F.TOUCH_COUNT_SETS h.val) + 1)
    (s.touchState h.val = 2 → s.cal.measuring = none → exec (.scanSetProcessed h) s = .next (u.startSet h.val g)) ∧
    (s.touchState h.val = 2 → s.cal.measuring ≠ none → exec (.scanSetProcessed h) s = .next u) ∧
    (s.touchState h.val = 3 → s.cal.measuring = none → exec (.scanSetProcessed h) s = .next (u.runSet h.val g)) ∧
    (s.touchState h.val = 3 → s.cal.measuring ≠ none → ∃ t, exec (.scanSetProcessed h) s = .next t ∧
      (t.touchOf h.val).contacts = (s.touchOf h.val).contacts ∧ (t.touchOf h.val).stale = true ∧
      (t.touchOf h.val).nodes = (s.touchOf h.val).nodes) ∧
    (s.touchState h.val = 4 → l = [] → (s.touchOf h.val).set = none → s.bit (F.TOUCH_CFG0_EN h.val) = false →
      ∃ t, exec (.scanSetProcessed h) s = .next t ∧ t.touchState h.val = 0 ∧ (t.touchOf h.val).contacts = []))

/-- R796 to R798, R801 to R811: CAL_RUN, its end, CAL_SELECT, CAL_STORE, CAL_READ, and the targets of every 100 ms. R799: a
trim moves one tap at a time towards its target. The model's own choices in it: log entries 4, 60. -/
def Obligations.Calibration : Prop :=
  (∀ s e, s.startsLive 0x60 e → e.params.length = 1 → strayBits e.params 0 0xFF000000 = false → 1 ≤ parUnit e.params →
    parUnit e.params ≤ 7 →
      (s.cal.measuring ≠ none → exec .calRun s = .next (s.popCmd.post e stBusy [])) ∧
      (s.cal.measuring = none → ∃ t : State, exec .calRun s = .next (t.post e stAccepted []) ∧
        t.cal = { s.cal with measuring := some (parUnit e.params) } ∧ t.fld F.CAL_STATUS_RUN_STATE = 1 ∧
        (∀ n, n < 16 → t.fld (F.SENSE_CH_FLAGS_STALE n) = 1))) ∧
  (∀ (s : State) (found : List (Int × Int)), s.off = false →
    (s.cal.measuring = none → exec (.calRunDone found) s = .next s) ∧
    (∀ sc, s.cal.measuring = some sc → ∃ t r, exec (.calRunDone found) s = .next t ∧ t.cal.run = some r ∧ t.cal.measuring = none ∧
      r.scope = sc ∧ r.temp = s.td ∧ t.fld F.CAL_STATUS_RUN_STATE = 2 ∧ t.cal.applied = s.cal.applied ∧ t.cal.target = s.cal.target ∧
      (s.runtime = true → getBits (t.rd 0x30004) 11 1 = 1))) ∧
  (∀ s e, s.starts 0x63 e → s.runtime = true → e.params.length = 1 → strayBits e.params 0 0xFF000000 = false → parUnit e.params ≤ 3 →
    (parUnit e.params ≠ 1 ∨ s.cal.run ≠ none →
      exec .calSelect s = .next ((s.popCmd.setFld F.CAL_STATUS_SOURCE (parUnit e.params)).post e stOk [])) ∧
    (parUnit e.params = 1 → s.cal.run = none → exec .calSelect s = .next (s.popCmd.post e stStateRefused
      [s.popCmd.stateWord 0x07 0 (s.fld F.CAL_STATUS_RUN_STATE)]))) ∧
  (∀ s e r, s.startsLive 0x62 e → e.params.length = 1 → strayBits e.params 0 0xFF000000 = false → parUnit e.params ≤ 4 →
    s.cal.run = some r → r.scope = 7 →
      (s.p1Present = false → exec .calStore s = .next (s.popCmd.post e stPresenceRequired [])) ∧
      (s.p1Present = true → ∃ t, exec .calStore s = .next t ∧ t.cw.running = some ⟨e, .record (0x1000 + parUnit e.params)⟩ ∧
        t.etch.jobs = s.etch.jobs ++ [⟨.record (0x1000 + parUnit e.params) 0 0, [],
          some (0x1000 + parUnit e.params, 0, calPayload (parUnit e.params) r)⟩])) ∧
  (∀ s e, s.starts 0x61 e → s.runtime = true → e.params.length = 2 → strayBits e.params 0 0xFF000000 = false → parUnit e.params ≤ 12 →
    let g := trimGroups.getD (parUnit e.params) ⟨0, 0, 0, 0, 0⟩
    let first := parBits e.params 1 16 16
    let n := parBits e.params 1 0 16
    1 ≤ n → first + n ≤ g.count →
      exec .calRead s = .next (s.popCmd.post e stOk ((List.range n).flatMap (fun i => s.popCmd.calWords (g.base + first + i))))) ∧
  (∀ s : State, s.off = false → s.runtime = true → s.boot.halted = false → s.ticks % 100 = 0 → s.fld F.PWR_STATE_STATE ≤ 1 →
    s.trimsHeld = false →
    exec .calTargetRecompute s = .next s.retarget ∧ s.retarget.cal.applied = s.cal.applied ∧
      (s.fld F.CAL_STATUS_SOURCE = 2 → s.retarget.cal.target = Vector.ofFn (fun e => romTap e.val))) ∧
  (∀ s : State, s.trimsHeld = true ∨ s.ticks % 100 ≠ 0 ∨ s.runtime = false ∨ s.boot.halted = true → exec .calTargetRecompute s = .next s) ∧
  (∀ (s : State) (e : Nat), e < 165 →
    let t := s.stepTrim e
    (s.applied e < s.target e → t.applied e = s.applied e + 1) ∧ (s.target e < s.applied e → t.applied e = s.applied e - 1) ∧
      (s.applied e = s.target e → t.applied e = s.applied e) ∧ (∀ f, f ≠ e → t.applied f = s.applied f) ∧ t.cal.target = s.cal.target)

/-- R825 to R838: POWER_STATE, the end of an entry, wakes and WAKE_CONFIG. The model's own choices in it: log entries 4, 66,
69. -/
def Obligations.PowerStates : Prop :=
  (∀ s e, s.starts 0x20 e → s.runtime = true → e.params.length = 1 → strayBits e.params 0 0xF = false →
    let p := parBits e.params 0 0 4
    (p ≤ 1 → p ≠ s.fld F.PWR_STATE_STATE → exec .powerState s = .next ((s.popCmd.setFld F.PWR_STATE_STATE p).post e stOk [])) ∧
    (p = s.fld F.PWR_STATE_STATE → exec .powerState s = .next (s.popCmd.post e stOk [])) ∧
    (2 ≤ p → p ≤ 4 → ∃ t : State, exec .powerState s = .next (t.post e stAccepted []) ∧ t.bit F.PWR_STATE_ENTERING = true ∧
      t.pwr.target = some p ∧ t.fld F.PWR_STATE_STATE = s.fld F.PWR_STATE_STATE ∧ t.rd 0x1000C = 0 ∧
      (∀ h, h < 4 → t.fld (F.HEAD_CTRL_RUN h) = (if s.headState h = 0 then s.fld (F.HEAD_CTRL_RUN h) else 0)))) ∧
  (∀ (s : State) (p : Nat), s.off = false → s.pwr.target = some p → s.pwr.step = 3 →
    (p = 4 → ∃ t, exec .powerEntryComplete s = .next t ∧ t.off = true ∧ t.fuses = s.fuses ∧ t.etch.mem = s.etch.mem ∧
      t.cw = CwState.reset ∧ t.plate = PlateState.reset ∧ t.tile = TileState.reset) ∧
    (p = 2 ∨ p = 3 → ∃ t, exec .powerEntryComplete s = .next t ∧ t.fld F.PWR_STATE_STATE = p ∧ t.pwr.target = none ∧
      t.bit F.PWR_STATE_ENTERING = false ∧ t.bit F.PWR_STATE_RIDE = false ∧ t.cw = s.cw)) ∧
  (∀ (s : State) (k : Fin 8) (pin : Fin 16), s.off = false →
    (s.pwr.target = none → s.fld F.PWR_STATE_STATE = 0 → exec (.wakeEvent k pin) s = .next s) ∧
    (k.val ≠ 6 → k.val = 0 ∨ bitsOf s.wakeCfg.1 k.val 1 = 1 → k.val ≠ 2 ∨ bitsOf s.wakeCfg.2.1 pin.val 1 = 1 →
      s.pwr.target = none → 2 ≤ s.fld F.PWR_STATE_STATE → s.pwr.waking = false → s.bit F.PWR_STATE_PARKED = false →
        exec (.wakeEvent k pin) s = .next { s.setFld F.WAKE_CAUSE_SOURCES (s.fld F.WAKE_CAUSE_SOURCES ||| 2 ^ k.val) with
          pwr := { s.pwr with waking := true } })) ∧
  (∀ s : State, s.off = false → s.pwr.target = none → 2 ≤ s.fld F.PWR_STATE_STATE →
    (s.wakeCfg.2.2 ≠ 0 → s.pwr.slept + 950 * s.wakeCfg.2.2 ≤ s.ticks → bitsOf s.wakeCfg.1 6 1 = 1 → s.pwr.waking = false →
      s.bit F.PWR_STATE_PARKED = false → exec .wakeTimerExpiry s =
        .next { s.setFld F.WAKE_CAUSE_SOURCES (s.fld F.WAKE_CAUSE_SOURCES ||| 64) with pwr := { s.pwr with waking := true } }) ∧
    (s.wakeCfg.2.2 = 0 ∨ s.ticks < s.pwr.slept + 950 * s.wakeCfg.2.2 → exec .wakeTimerExpiry s = .next s)) ∧
  (∀ s : State, s.off = false →
    (s.pwr.waking = false → exec .wakeComplete s = .next s) ∧
    (s.pwr.waking = true → s.runtime = true → ∃ t, exec .wakeComplete s = .next t ∧ t.fld F.PWR_STATE_STATE = 0 ∧
      t.fld F.WAKE_CAUSE_FROM = s.fld F.PWR_STATE_STATE % 2 ^ F.WAKE_CAUSE_FROM.width ∧ t.pwr.waking = false ∧ t.pwr.cfg = none ∧
      getBits (t.rd 0x30004) 8 1 = 1 ∧ (s.cw.running = none → t.cw = s.cw) ∧ t.fuses = s.fuses)) ∧
  (∀ s e, s.starts 0x22 e → s.runtime = true → e.params.length = 2 → strayBits e.params 0 0xFF = false → parBits e.params 0 0 1 = 1 →
    exec .wakeConfig s = .next ((((s.popCmd.setFld F.PWR_WAKE_CFG_EN (parBits e.params 0 0 8)).setFld F.PWR_WAKE_CFG_TT_MASK
      (parBits e.params 1 16 16)).setFld F.PWR_WAKE_TIMER_TIMER (parBits e.params 1 0 16)).post e stOk []))

/-- R814 to R816, R820, R851, R852: a conversion goes to the next enabled channel; codes 0x000 and 0xFFF are OVR; four
conversions of channel 0 in a row that point to one supply state move to it, and each shows in MIN_MV. R853, R854, R858 to R861: SUPPLY_CONFIG,
the end of crank ride-through, parking and leaving it. The model's own choices in it: log entries 4, 38, 68. -/
def Obligations.SupplyAndSense : Prop :=
  (∀ (s : State) (code : Fin 4096), s.off = false → s.pdOn 23 = true → s.nextChan ≠ 0 →
    let n := s.nextChan
    ∃ t, exec (.adcConversion code) s = .next t ∧ t.sense.next = (n + 1) % 16 ∧
      t.fld (F.SENSE_CH_FLAGS_OVR n) = (if code.val = 0 ∨ code.val = 0xFFF then 1 else 0) ∧
      t.sense.settling = (if code.val = 0 ∨ code.val = 0xFFF then 2 else s.sense.settling - 1) ∧
      (s.cal.measuring = none → t.fld (F.SENSE_CH_FLAGS_LAST n) = code.val) ∧
      t = { s with sense := t.sense, regs := t.regs }) ∧
  (∀ (s : State) (code : Fin 4096), s.off = false → s.pdOn 23 = true → s.nextChan = 0 →
    let mv := s.scaled 0 (16 * code.val)
    ∃ t, exec (.adcConversion code) s = .next t ∧
      t.fld (F.SENSE_CH_FLAGS_OVR 0) = (if code.val = 0 ∨ code.val = 0xFFF then 1 else 0) ∧
      t.fld F.PWR_SUPPLY_STATUS_MIN_MV = min (s.fld F.PWR_SUPPLY_STATUS_MIN_MV) mv.toNat ∧
      t.fld F.PWR_STATE_SUPPLY = (s.supplyStep (supplyValue code.val mv)).fld F.PWR_STATE_SUPPLY ∧
      t.etch = s.etch ∧ t.fuses = s.fuses ∧ t.cw = s.cw) ∧
  (∀ (s : State) (v : Int), s.supplyTarget v ≠ s.fld F.PWR_STATE_SUPPLY →
    (s.pwr.cand = (s.supplyTarget v, 3) →
      (s.supplyStep v).fld F.PWR_STATE_SUPPLY = s.supplyTarget v ∧ (s.supplyStep v).pwr.cand = (0, 0)) ∧
    (s.pwr.cand.2 < 3 ∨ s.pwr.cand.1 ≠ s.supplyTarget v → (s.supplyStep v).fld F.PWR_STATE_SUPPLY = s.fld F.PWR_STATE_SUPPLY)) ∧
  (∀ (s : State) (v : Int), s.supplyTarget v = s.fld F.PWR_STATE_SUPPLY →
    s.supplyStep v = { s with pwr := { s.pwr with cand := (0, 0) } }) ∧
  (∀ s e, s.startsLive 0x23 e → e.params.length = 4 → supplyFails e.params = [] →
    exec .supplyConfig s = .next (((((s.popCmd.setFld F.PWR_THR0_CRANK (parBits e.params 0 0 16)).setFld F.PWR_THR0_LOW
      (parBits e.params 1 0 16)).setFld F.PWR_THR1_HIGH (parBits e.params 2 0 16)).setFld F.PWR_THR1_DUMP
        (parBits e.params 3 0 16)).post e stOk [])) ∧
  (∀ (s : State) (c : Nat), s.off = false → s.bit F.PWR_STATE_RIDE = true → s.pwr.clear = some c →
    (c + 50 ≤ s.ticks → ∃ t, exec .crankEnd s = .next t ∧ t.bit F.PWR_STATE_RIDE = false ∧ t.pwr.clear = none ∧
      t.bit F.ETCH_STATUS_SUSPENDED = (s.bit F.PWR_STATE_PARKED || s.fld F.PWR_STATE_SUPPLY == 3)) ∧
    (s.ticks < c + 50 → exec .crankEnd s = .next s)) ∧
  (∀ s : State, s.off = false →
    (s.bit F.PWR_STATE_PARKED = true → exec .pwrFailNFall s = .next s) ∧
    (s.bit F.PWR_STATE_PARKED = false → ∃ t, exec .pwrFailNFall s = .next t ∧ t.bit F.PWR_STATE_PARKED = true ∧
      t.bit F.ETCH_STATUS_SUSPENDED = true ∧ t.cw.replyQ = s.cw.replyQ ∧ t.etch.mem = s.etch.mem ∧ t.fuses = s.fuses) ∧
    (s.bit F.PWR_STATE_PARKED = false → exec .unpark s = .next s) ∧
    (s.bit F.PWR_STATE_PARKED = true → ∃ t, exec .unpark s = .next t ∧ t.bit F.PWR_STATE_PARKED = false ∧
      t.bit F.ETCH_STATUS_SUSPENDED = (s.bit F.PWR_STATE_RIDE || s.fld F.PWR_STATE_SUPPLY == 3) ∧ t.etch.mem = s.etch.mem))

/-- R842 to R849: DOMAIN_CTRL, and how a domain comes up, drains and switches off. The model's own choices in it: log
entries 4, 94. -/
def Obligations.Domains : Prop :=
  (∀ s e, s.starts 0x21 e → s.runtime = true → e.params.length = 1 → strayBits e.params 0 0xFF000001 = false →
    parUnit e.params ∈ switchable →
      let n := parUnit e.params
      (parBits e.params 0 0 1 = 1 → s.pdState n = 2 → ∃ t : State, exec .domainCtrl s = .next (t.post e stOk []) ∧
        t.fld (F.PWR_PD_HOST_ON n) = 1 ∧ t.pdState n = 2) ∧
      (parBits e.params 0 0 1 = 1 → s.pdState n = 0 → ∃ t, exec .domainCtrl s = .next t ∧ t.cw.running = some ⟨e, .domainOn n⟩ ∧
        t.fld (F.PWR_PD_HOST_ON n) = 1 ∧ t.pdState n = 1 ∧ t.plate.mem = s.plate.mem) ∧
      (parBits e.params 0 0 1 = 1 → s.pdState n = 3 ∨ s.pdState n = 4 → ∃ t : State,
        exec .domainCtrl s = .next (t.post e stDeferred []) ∧ t.fld (F.PWR_PD_PENDING n) = 1 ∧ t.pdState n = s.pdState n) ∧
      (parBits e.params 0 0 1 = 0 → s.pdState n = 0 →
        exec .domainCtrl s = .next ((s.popCmd.setFld (F.PWR_PD_HOST_ON n) 0).post e stOk [])) ∧
      (parBits e.params 0 0 1 = 0 → s.pdState n = 2 → s.domainInUse n = true → exec .domainCtrl s = .next (s.popCmd.post e stStateRefused
        [s.popCmd.stateWord 0x04 n 2])) ∧
      (parBits e.params 0 0 1 = 0 → s.pdState n = 2 → s.domainInUse n = false → ∃ t, exec .domainCtrl s = .next t ∧
        t.cw.running = some ⟨e, .domainOff n⟩ ∧ t.fld (F.PWR_PD_HOST_ON n) = 0 ∧ t.pdState n = 3)) ∧
  (∀ (s : State) (n : Fin 25) (repair : Word), s.off = false → s.runtimeDead = false → s.pdState n.val = 1 → s.pwr.target = none →
    n.val ∉ s.pwr.offAfter →
      ∃ t, exec (.domainPowerUpDone n repair) s = .next t ∧ t.pdState n.val = 2 ∧ t.fld (F.PWR_PD_LOGIC_RDY n.val) = 1 ∧
        (∀ c ∈ s.cw.running, c.wait = .domainOn n.val → t.cw.running = none ∧
          t.cw.replyQ = s.cw.replyQ ++ [⟨c.cmd.tag, 0, [], none⟩]) ∧
        (n.val = 8 → ∀ a, 0x1000000 ≤ a → memGet t.plate.mem a = 0) ∧ t.etch.mem = s.etch.mem) ∧
  (∀ (s : State) (n : Fin 25) (lost : Nat), s.off = false →
    (s.pdState n.val = 3 → (n.val = 9 → s.etchRunning = false ∧ s.etchReading = false) → s.windowIn n.val = false →
      (∀ num l, s.waitingOf 17 ≠ .copy num :: l) →
        exec (.drainTimeout n lost) s = .next ((s.setFld (F.PWR_PD_STATE n.val) 4).setFld F.PWR_DRAIN_LOST_CNT
          (min (2 ^ F.PWR_DRAIN_LOST_CNT.width - 1) (s.fld F.PWR_DRAIN_LOST_CNT + lost)))) ∧
    (∀ num l f k, s.pdState n.val = 3 → s.waitingOf 17 = .copy num :: l → s.fences.find? (fun f => f.num == num) = some f →
      f.copy = some k → (∃ o ∈ k, plateDomain (reqAddr o.req) = n.val) → ∃ t, exec (.drainTimeout n lost) s = .next t ∧
        t.pdState n.val = 4 ∧ t.fld F.PWR_DRAIN_LOST_CNT =
          min (2 ^ F.PWR_DRAIN_LOST_CNT.width - 1) (s.fld F.PWR_DRAIN_LOST_CNT + lost + 1)) ∧
    (s.pdState n.val ≠ 3 → exec (.drainTimeout n lost) s = .next s)) ∧
  (∀ (s : State) (n : Fin 25) (r : Running) (lost : Nat), s.off = false → s.runtimeDead = false → s.pdState n.val = 3 →
    s.cw.running = some r → s.windowIn n.val = true ∨ (n.val = 9 ∧ s.etchReading = true) →
      ∃ t, exec (.drainTimeout n lost) s = .next t ∧ t.pdState n.val = 4 ∧ t.cw.running = none ∧
        t.cw.replyQ = s.cw.replyQ ++ [⟨r.cmd.tag, 0x0A, [], none⟩]) ∧
  (∀ (s : State) (r : Running) (lost : Nat), s.off = false → s.pdState 9 = 3 → s.cw.running = some r → s.etchRunning = true →
    ∃ t, exec (.drainTimeout 9 lost) s = .next t ∧ t.pdState 9 = 4 ∧ t.cw.running = none ∧
      t.cw.replyQ = s.cw.replyQ ++ [⟨r.cmd.tag, 0x0A, [], none⟩]) ∧
  (∀ (s : State) (n : Fin 25), s.off = false → s.runtimeDead = false → s.pdState n.val = 3 ∨ s.pdState n.val = 4 → s.pwr.target = none →
    s.bit (F.PWR_PD_PENDING n.val) = false →
      ∃ t, exec (.domainOff n) s = .next t ∧ t.pdState n.val = 0 ∧ t.fld (F.PWR_PD_LOGIC_RDY n.val) = 0 ∧
        (∀ c ∈ s.cw.running, c.wait = .domainOff n.val → t.cw.running = none ∧
          t.cw.replyQ = s.cw.replyQ ++ [⟨c.cmd.tag, 0, [], none⟩]) ∧
        (n.val = 8 → ∀ a, 0x1000000 ≤ a → memGet t.plate.mem a = 0) ∧ t.etch.mem = s.etch.mem)

/-- R612 to R616, R856: a level moves at most 16 towards its target, and crank ride-through or parking limits it; a PWM
period takes the duty; DUTY is regulated by one. R904 to R906, R927, R150, R863: a sampling of the GPIO pins, and the
system tick. The model's own choices in it: log entries 38, 71, 76. -/
def Obligations.BacklightsAndTick : Prop :=
  (∀ s : State, s.off = false → s.runtime = true → s.boot.halted = false → s.ticks % 10 = 0 → s.fld F.PWR_STATE_STATE ≤ 1 →
    ∃ t, exec .backlightLevelCompute s = .next t ∧ t = { s with heads := t.heads, regs := t.regs } ∧
      (∀ h, h < 4 → (t.head h).level = stepLevel (s.head h).level (s.blTarget h) ∧
        t.fld (F.HEAD_BL_STATUS_BL_NOW h) =
          (if s.blLimited then min (t.head h).level (s.fld F.PWR_BL_FLOOR_LEVEL) else (t.head h).level) % 2 ^ 11)) ∧
  (∀ a b : Nat, stepLevel a b ≤ a + 16 ∧ a ≤ stepLevel a b + 16 ∧ (a ≤ b → a ≤ stepLevel a b ∧ stepLevel a b ≤ b) ∧
    (b ≤ a → b ≤ stepLevel a b ∧ stepLevel a b ≤ a)) ∧
  (∀ s : State, s.off = false → s.runtime = true → s.fld F.PWR_STATE_STATE ≤ 1 →
    (s.cal.measuring = none → ∃ t, exec .blCurrentRegulation s = .next t ∧ t = { s with regs := t.regs } ∧
      (∀ h, h < 4 → s.regOn h = true → s.fld (F.HEAD_BL_STATUS_DUTY h) ≤ 1024 →
        t.fld (F.HEAD_BL_STATUS_DUTY h) ≤ s.fld (F.HEAD_BL_STATUS_DUTY h) + 1 ∧
          s.fld (F.HEAD_BL_STATUS_DUTY h) ≤ t.fld (F.HEAD_BL_STATUS_DUTY h) + 1)) ∧
    (s.cal.measuring ≠ none → exec .blCurrentRegulation s = .next s)) ∧
  (∀ (s : State) (h : Fin 4), s.off = false → exec (.pwmPeriodStart h) s = .next (s.setHead h.val { s.head h.val with
    pwm := if s.headState h.val = 0 ∨ s.prof h.val 8 31 1 = 1 then 0 else s.fld (F.HEAD_BL_STATUS_DUTY h.val) })) ∧
  (∀ (s : State) (pins : BitVec 8), s.off = false → ∃ t, exec (.gpioEdge pins) s = .next t ∧ t = { s with regs := t.regs } ∧
    (∀ n, n < 8 → s.gpioDrive n = none → bitsOf (t.fld F.GPIO_IN_IN) n 1 = (if pins.toNat.testBit n then 1 else 0)) ∧
    (∀ n b, n < 8 → s.gpioDrive n = some b → bitsOf (t.fld F.GPIO_IN_IN) n 1 = (if b then 1 else 0)) ∧
    (∀ n, n < 8 → bitsOf (s.fld F.GPIO_IN_IN) n 1 = 0 → bitsOf (t.fld F.GPIO_IN_IN) n 1 = 1 →
      bitsOf (s.fld F.GPIO_EDGE_EN_RISE_EN) n 1 = 1 → bitsOf (t.fld F.GPIO_EVENT_RISE) n 1 = 1) ∧
    (∀ n, n < 8 → bitsOf (s.fld F.GPIO_EDGE_EN_RISE_EN) n 1 = 0 →
      bitsOf (t.fld F.GPIO_EVENT_RISE) n 1 = bitsOf (s.fld F.GPIO_EVENT_RISE) n 1)) ∧
  (∀ (s : State) (rx : List InSignal), s.off = false → ∃ t, exec (.systemTick rx) s = .next t ∧ t.ticks = s.ticks + 1 ∧
    t = { s with
      ticks := t.ticks, pres := t.pres, regs := t.regs, cal := t.cal, sense := t.sense, inputs := t.inputs
      boot := { s.boot with edges := s.boot.edges + (if s.headState 0 = 0 then 1 else 0), saStopped := t.boot.saStopped } } ∧
    (∀ i, i < 4 → (t.input i).quiet = (s.input i).quiet + 1 ∧
      (t.input i).gone = (if t.receives i then 0 else (s.input i).gone + 1) ∧
      (∀ g, rx[i]? = some g → (t.input i).signal = g.on ∧ (t.input i).khz = g.khz) ∧
      (rx[i]? = none → (t.input i).signal = (s.input i).signal ∧ (t.input i).khz = (s.input i).khz)) ∧
    t.cal.target = s.cal.target ∧ (s.bit F.PRES_STATUS_SVC_LOW = true → t.pres.heldMs = s.pres.heldMs + 1) ∧
    (s.cal.measuring ≠ none → t.cal.busyMs = s.cal.busyMs + 1 ∧ t.cal.applied = s.cal.applied))
end

