-- ==== Sys2Proof/Laws/Assoc.lean ====
section
/-! SUPPORT. Laws of the sparse canonical lists: reading after writing, and that every write keeps the canonical form. -/

namespace Sys2Proof.Machine

section
variable {α : Type} (d : Nat → α)

theorem assocGet_insert_same (l : List (Nat × α)) (k : Nat) (v : α) (h : ∀ e ∈ l, e.1 ≠ k) :
    assocGet d (assocInsert l k v) k = v := by
  induction l with
  | nil => simp [assocInsert, assocGet]
  | cons e t ih =>
    have hne : e.1 ≠ k := h e (by simp)
    by_cases hlt : k < e.1
    · simp [assocInsert, hlt, assocGet]
    · simp only [assocInsert, hlt, if_false, assocGet, hne]
      exact ih (fun x hx => h x (by simp [hx]))

theorem assocGet_insert_ne (l : List (Nat × α)) (k j : Nat) (v : α) (h : k ≠ j) :
    assocGet d (assocInsert l k v) j = assocGet d l j := by
  induction l with
  | nil => simp [assocInsert, assocGet, h]
  | cons e t ih =>
    by_cases hlt : k < e.1
    · simp [assocInsert, hlt, assocGet, h]
    · simp only [assocInsert, hlt, if_false, assocGet, ih]

theorem assocGet_filter_ne (l : List (Nat × α)) (k j : Nat) (h : k ≠ j) :
    assocGet d (l.filter (fun e => e.1 != k)) j = assocGet d l j := by
  induction l with
  | nil => rfl
  | cons e t ih =>
    by_cases he : e.1 = k
    · have : e.1 ≠ j := he ▸ h
      simp [he, assocGet, h, ih]
    · simp only [List.filter_cons, bne_iff_ne, ne_eq, he, not_false_eq_true, if_true, assocGet, ih]

theorem assocGet_absent (l : List (Nat × α)) (k : Nat) (h : ∀ e ∈ l, e.1 ≠ k) : assocGet d l k = d k := by
  induction l with
  | nil => rfl
  | cons e t ih =>
    have hne : e.1 ≠ k := h e (by simp)
    simp only [assocGet, hne, if_false]
    exact ih (fun x hx => h x (by simp [hx]))

theorem filter_ne_absent (l : List (Nat × α)) (k : Nat) : ∀ e ∈ l.filter (fun e => e.1 != k), e.1 ≠ k := by
  intro e he
  simpa using (List.mem_filter.1 he).2

theorem mem_insert_key (l : List (Nat × α)) (k : Nat) (v : α) : ∀ e ∈ assocInsert l k v, e ∈ l ∨ e = (k, v) := by
  induction l with
  | nil => intro e he; right; simpa [assocInsert] using he
  | cons x t ih =>
    intro e he
    by_cases hlt : k < x.1
    · simp only [assocInsert, hlt, if_true, List.mem_cons] at he
      rcases he with rfl | rfl | h
      · right; rfl
      · left; simp
      · left; simp [h]
    · simp only [assocInsert, hlt, if_false, List.mem_cons] at he
      rcases he with rfl | h
      · left; simp
      · rcases ih e h with h' | h'
        · left; simp [h']
        · right; exact h'

variable [DecidableEq α]

/-- Reading after writing, whatever the list. -/
theorem assocGet_set (l : List (Nat × α)) (k j : Nat) (v : α) :
    assocGet d (assocSet d l k v) j = if k = j then v else assocGet d l j := by
  unfold assocSet
  by_cases hkj : k = j
  · subst hkj
    simp only [if_true]
    split
    · next hv => rw [assocGet_absent d _ _ (filter_ne_absent l k), hv]
    · exact assocGet_insert_same d _ _ _ (filter_ne_absent l k)
  · simp only [hkj, if_false]
    split
    · exact assocGet_filter_ne d l k j hkj
    · rw [assocGet_insert_ne d _ _ _ _ hkj, assocGet_filter_ne d l k j hkj]

@[simp] theorem assocGet_set_same (l : List (Nat × α)) (k : Nat) (v : α) : assocGet d (assocSet d l k v) k = v := by
  simp [assocGet_set]

theorem assocGet_set_ne (l : List (Nat × α)) (k j : Nat) (v : α) (h : k ≠ j) :
    assocGet d (assocSet d l k v) j = assocGet d l j := by
  simp [assocGet_set, h]

theorem assocWf_cons (a : Nat) (v : α) (t : List (Nat × α)) :
    assocWf d ((a, v) :: t) = true ↔ v ≠ d a ∧ (∀ e ∈ t, a < e.1) ∧ assocWf d t = true := by
  simp [assocWf, and_assoc]

/-- Leaving entries out keeps the form. -/
theorem assocWf_filter (l : List (Nat × α)) (p : Nat × α → Bool) (h : assocWf d l = true) :
    assocWf d (l.filter p) = true := by
  induction l with
  | nil => exact h
  | cons e t ih =>
    obtain ⟨a, v⟩ := e
    obtain ⟨h1, h2, h3⟩ := (assocWf_cons d a v t).1 h
    by_cases hp : p (a, v)
    · simp only [List.filter_cons, hp, if_true]
      exact (assocWf_cons d a v _).2 ⟨h1, fun e he => h2 e (List.mem_filter.1 he).1, ih h3⟩
    · simp only [List.filter_cons, hp]
      exact ih h3

theorem assocWf_insert (l : List (Nat × α)) (k : Nat) (v : α) (h : assocWf d l = true) (hk : ∀ e ∈ l, e.1 ≠ k)
    (hv : v ≠ d k) : assocWf d (assocInsert l k v) = true := by
  induction l with
  | nil => exact (assocWf_cons d k v []).2 ⟨hv, by simp, rfl⟩
  | cons e t ih =>
    obtain ⟨a, w⟩ := e
    obtain ⟨h1, h2, h3⟩ := (assocWf_cons d a w t).1 h
    by_cases hlt : k < a
    · simp only [assocInsert, hlt, if_true]
      refine (assocWf_cons d k v _).2 ⟨hv, ?_, h⟩
      intro e he
      rcases List.mem_cons.1 he with rfl | he
      · exact hlt
      · exact lt_trans hlt (h2 e he)
    · have hne : a ≠ k := hk (a, w) (by simp)
      simp only [assocInsert, hlt, if_false]
      refine (assocWf_cons d a w _).2 ⟨h1, ?_, ih h3 (fun e he => hk e (by simp [he]))⟩
      intro e he
      rcases mem_insert_key t k v e he with h' | h'
      · exact h2 e h'
      · subst h'; simp only; omega

/-- A write keeps the form. -/
theorem assocWf_set (l : List (Nat × α)) (k : Nat) (v : α) (h : assocWf d l = true) : assocWf d (assocSet d l k v) = true := by
  unfold assocSet
  have hf := assocWf_filter d l (fun e => e.1 != k) h
  split
  · exact hf
  · next hv => exact assocWf_insert d _ k v hf (filter_ne_absent l k) hv

end

/-! ### Byte memories -/

theorem memGet_set (m : List Host.Cell) (a j : Nat) (b : Byte) : memGet (memSet m a b) j = if a = j then b else memGet m j :=
  assocGet_set zeroByte m a j b

theorem memSet_wf (m : List Host.Cell) (a : Nat) (b : Byte) (h : Memory.wf m = true) : Memory.wf (memSet m a b) = true :=
  assocWf_set zeroByte m a b h

theorem memGet_put_out (l : List Byte) (m : List Host.Cell) (a j : Nat) (h : j < a ∨ a + l.length ≤ j) :
    memGet (memPut m a l) j = memGet m j := by
  induction l generalizing m a with
  | nil => rfl
  | cons b t ih =>
    simp only [List.length_cons] at h
    simp only [memPut]
    rw [ih (memSet m a b) (a + 1) (by omega), memGet_set]
    have : a ≠ j := by omega
    simp [this]

theorem memGet_put_in (l : List Byte) (m : List Host.Cell) (a i : Nat) (h : i < l.length) :
    memGet (memPut m a l) (a + i) = l.getD i 0 := by
  induction l generalizing m a i with
  | nil => simp at h
  | cons b t ih =>
    simp only [memPut]
    cases i with
    | zero =>
      rw [memGet_put_out t (memSet m a b) (a + 1) (a + 0) (by omega), memGet_set]
      simp
    | succ i =>
      have := ih (memSet m a b) (a + 1) i (by simpa using h)
      rw [show a + (i + 1) = a + 1 + i by omega, this]
      simp

/-- Every store keeps the canonical form. -/
theorem memPut_wf (l : List Byte) (m : List Host.Cell) (a : Nat) (h : Memory.wf m = true) : Memory.wf (memPut m a l) = true := by
  induction l generalizing m a with
  | nil => exact h
  | cons b t ih => exact ih (memSet m a b) (a + 1) (memSet_wf m a b h)

theorem memPutD_wf (d : Nat → Byte) (l : List Byte) (m : List Host.Cell) (a : Nat) (h : assocWf d m = true) :
    assocWf d (memPutD d m a l) = true := by
  induction l generalizing m a with
  | nil => exact h
  | cons b t ih => exact ih (assocSet d m a b) (a + 1) (assocWf_set d m a b h)

end Sys2Proof.Machine
end

