-- ==== Sys2Proof/Laws/State.lean ====
section
/-! SUPPORT. What each named update of State leaves as it was: one lemma per field and update, true by unfolding. -/

namespace Sys2Proof.Machine

variable (s : State)

/-! ### wr -/

@[simp] theorem State.wr_pending (a : Nat) (w : Word) : (s.wr a w).pending = s.pending := rfl
@[simp] theorem State.wr_free (a : Nat) (w : Word) : (s.wr a w).free = s.free := rfl
@[simp] theorem State.wr_off (a : Nat) (w : Word) : (s.wr a w).off = s.off := rfl
@[simp] theorem State.wr_porst (a : Nat) (w : Word) : (s.wr a w).porst = s.porst := rfl
@[simp] theorem State.wr_ticks (a : Nat) (w : Word) : (s.wr a w).ticks = s.ticks := rfl
@[simp] theorem State.wr_commitRegs (a : Nat) (w : Word) : (s.wr a w).commitRegs = s.commitRegs := rfl
@[simp] theorem State.wr_cw (a : Nat) (w : Word) : (s.wr a w).cw = s.cw := rfl
@[simp] theorem State.wr_boot (a : Nat) (w : Word) : (s.wr a w).boot = s.boot := rfl
@[simp] theorem State.wr_pres (a : Nat) (w : Word) : (s.wr a w).pres = s.pres := rfl
@[simp] theorem State.wr_fuses (a : Nat) (w : Word) : (s.wr a w).fuses = s.fuses := rfl
@[simp] theorem State.wr_regions (a : Nat) (w : Word) : (s.wr a w).regions = s.regions := rfl
@[simp] theorem State.wr_plate (a : Nat) (w : Word) : (s.wr a w).plate = s.plate := rfl
@[simp] theorem State.wr_pba (a : Nat) (w : Word) : (s.wr a w).pba = s.pba := rfl
@[simp] theorem State.wr_tile (a : Nat) (w : Word) : (s.wr a w).tile = s.tile := rfl
@[simp] theorem State.wr_etch (a : Nat) (w : Word) : (s.wr a w).etch = s.etch := rfl
@[simp] theorem State.wr_elastic (a : Nat) (w : Word) : (s.wr a w).elastic = s.elastic := rfl
@[simp] theorem State.wr_black (a : Nat) (w : Word) : (s.wr a w).black = s.black := rfl
@[simp] theorem State.wr_wbBuf (a : Nat) (w : Word) : (s.wr a w).wbBuf = s.wbBuf := rfl
@[simp] theorem State.wr_histBuf (a : Nat) (w : Word) : (s.wr a w).histBuf = s.histBuf := rfl
@[simp] theorem State.wr_inputs (a : Nat) (w : Word) : (s.wr a w).inputs = s.inputs := rfl
@[simp] theorem State.wr_surfs (a : Nat) (w : Word) : (s.wr a w).surfs = s.surfs := rfl
@[simp] theorem State.wr_stampCount (a : Nat) (w : Word) : (s.wr a w).stampCount = s.stampCount := rfl
@[simp] theorem State.wr_fences (a : Nat) (w : Word) : (s.wr a w).fences = s.fences := rfl
@[simp] theorem State.wr_fenceCount (a : Nat) (w : Word) : (s.wr a w).fenceCount = s.fenceCount := rfl
@[simp] theorem State.wr_cancelled (a : Nat) (w : Word) : (s.wr a w).cancelled = s.cancelled := rfl
@[simp] theorem State.wr_openCount (a : Nat) (w : Word) : (s.wr a w).openCount = s.openCount := rfl
@[simp] theorem State.wr_heads (a : Nat) (w : Word) : (s.wr a w).heads = s.heads := rfl
@[simp] theorem State.wr_cal (a : Nat) (w : Word) : (s.wr a w).cal = s.cal := rfl
@[simp] theorem State.wr_sense (a : Nat) (w : Word) : (s.wr a w).sense = s.sense := rfl
@[simp] theorem State.wr_icons (a : Nat) (w : Word) : (s.wr a w).icons = s.icons := rfl
@[simp] theorem State.wr_ttLevel (a : Nat) (w : Word) : (s.wr a w).ttLevel = s.ttLevel := rfl
@[simp] theorem State.wr_stages (a : Nat) (w : Word) : (s.wr a w).stages = s.stages := rfl
@[simp] theorem State.wr_wb (a : Nat) (w : Word) : (s.wr a w).wb = s.wb := rfl
@[simp] theorem State.wr_layerHead (a : Nat) (w : Word) : (s.wr a w).layerHead = s.layerHead := rfl
@[simp] theorem State.wr_chains (a : Nat) (w : Word) : (s.wr a w).chains = s.chains := rfl
@[simp] theorem State.wr_touch (a : Nat) (w : Word) : (s.wr a w).touch = s.touch := rfl
@[simp] theorem State.wr_pwr (a : Nat) (w : Word) : (s.wr a w).pwr = s.pwr := rfl

/-! ### setFld -/

@[simp] theorem State.setFld_pending (f : Field) (v : Nat) : (s.setFld f v).pending = s.pending := rfl
@[simp] theorem State.setFld_free (f : Field) (v : Nat) : (s.setFld f v).free = s.free := rfl
@[simp] theorem State.setFld_off (f : Field) (v : Nat) : (s.setFld f v).off = s.off := rfl
@[simp] theorem State.setFld_porst (f : Field) (v : Nat) : (s.setFld f v).porst = s.porst := rfl
@[simp] theorem State.setFld_ticks (f : Field) (v : Nat) : (s.setFld f v).ticks = s.ticks := rfl
@[simp] theorem State.setFld_commitRegs (f : Field) (v : Nat) : (s.setFld f v).commitRegs = s.commitRegs := rfl
@[simp] theorem State.setFld_cw (f : Field) (v : Nat) : (s.setFld f v).cw = s.cw := rfl
@[simp] theorem State.setFld_boot (f : Field) (v : Nat) : (s.setFld f v).boot = s.boot := rfl
@[simp] theorem State.setFld_pres (f : Field) (v : Nat) : (s.setFld f v).pres = s.pres := rfl
@[simp] theorem State.setFld_fuses (f : Field) (v : Nat) : (s.setFld f v).fuses = s.fuses := rfl
@[simp] theorem State.setFld_regions (f : Field) (v : Nat) : (s.setFld f v).regions = s.regions := rfl
@[simp] theorem State.setFld_plate (f : Field) (v : Nat) : (s.setFld f v).plate = s.plate := rfl
@[simp] theorem State.setFld_pba (f : Field) (v : Nat) : (s.setFld f v).pba = s.pba := rfl
@[simp] theorem State.setFld_tile (f : Field) (v : Nat) : (s.setFld f v).tile = s.tile := rfl
@[simp] theorem State.setFld_etch (f : Field) (v : Nat) : (s.setFld f v).etch = s.etch := rfl
@[simp] theorem State.setFld_elastic (f : Field) (v : Nat) : (s.setFld f v).elastic = s.elastic := rfl
@[simp] theorem State.setFld_black (f : Field) (v : Nat) : (s.setFld f v).black = s.black := rfl
@[simp] theorem State.setFld_wbBuf (f : Field) (v : Nat) : (s.setFld f v).wbBuf = s.wbBuf := rfl
@[simp] theorem State.setFld_histBuf (f : Field) (v : Nat) : (s.setFld f v).histBuf = s.histBuf := rfl
@[simp] theorem State.setFld_inputs (f : Field) (v : Nat) : (s.setFld f v).inputs = s.inputs := rfl
@[simp] theorem State.setFld_surfs (f : Field) (v : Nat) : (s.setFld f v).surfs = s.surfs := rfl
@[simp] theorem State.setFld_stampCount (f : Field) (v : Nat) : (s.setFld f v).stampCount = s.stampCount := rfl
@[simp] theorem State.setFld_fences (f : Field) (v : Nat) : (s.setFld f v).fences = s.fences := rfl
@[simp] theorem State.setFld_fenceCount (f : Field) (v : Nat) : (s.setFld f v).fenceCount = s.fenceCount := rfl
@[simp] theorem State.setFld_cancelled (f : Field) (v : Nat) : (s.setFld f v).cancelled = s.cancelled := rfl
@[simp] theorem State.setFld_openCount (f : Field) (v : Nat) : (s.setFld f v).openCount = s.openCount := rfl
@[simp] theorem State.setFld_heads (f : Field) (v : Nat) : (s.setFld f v).heads = s.heads := rfl
@[simp] theorem State.setFld_cal (f : Field) (v : Nat) : (s.setFld f v).cal = s.cal := rfl
@[simp] theorem State.setFld_sense (f : Field) (v : Nat) : (s.setFld f v).sense = s.sense := rfl
@[simp] theorem State.setFld_icons (f : Field) (v : Nat) : (s.setFld f v).icons = s.icons := rfl
@[simp] theorem State.setFld_ttLevel (f : Field) (v : Nat) : (s.setFld f v).ttLevel = s.ttLevel := rfl
@[simp] theorem State.setFld_stages (f : Field) (v : Nat) : (s.setFld f v).stages = s.stages := rfl
@[simp] theorem State.setFld_wb (f : Field) (v : Nat) : (s.setFld f v).wb = s.wb := rfl
@[simp] theorem State.setFld_layerHead (f : Field) (v : Nat) : (s.setFld f v).layerHead = s.layerHead := rfl
@[simp] theorem State.setFld_chains (f : Field) (v : Nat) : (s.setFld f v).chains = s.chains := rfl
@[simp] theorem State.setFld_touch (f : Field) (v : Nat) : (s.setFld f v).touch = s.touch := rfl
@[simp] theorem State.setFld_pwr (f : Field) (v : Nat) : (s.setFld f v).pwr = s.pwr := rfl

/-! ### setBit -/

@[simp] theorem State.setBit_pending (f : Field) (b : Bool) : (s.setBit f b).pending = s.pending := rfl
@[simp] theorem State.setBit_free (f : Field) (b : Bool) : (s.setBit f b).free = s.free := rfl
@[simp] theorem State.setBit_off (f : Field) (b : Bool) : (s.setBit f b).off = s.off := rfl
@[simp] theorem State.setBit_porst (f : Field) (b : Bool) : (s.setBit f b).porst = s.porst := rfl
@[simp] theorem State.setBit_ticks (f : Field) (b : Bool) : (s.setBit f b).ticks = s.ticks := rfl
@[simp] theorem State.setBit_commitRegs (f : Field) (b : Bool) : (s.setBit f b).commitRegs = s.commitRegs := rfl
@[simp] theorem State.setBit_cw (f : Field) (b : Bool) : (s.setBit f b).cw = s.cw := rfl
@[simp] theorem State.setBit_boot (f : Field) (b : Bool) : (s.setBit f b).boot = s.boot := rfl
@[simp] theorem State.setBit_pres (f : Field) (b : Bool) : (s.setBit f b).pres = s.pres := rfl
@[simp] theorem State.setBit_fuses (f : Field) (b : Bool) : (s.setBit f b).fuses = s.fuses := rfl
@[simp] theorem State.setBit_regions (f : Field) (b : Bool) : (s.setBit f b).regions = s.regions := rfl
@[simp] theorem State.setBit_plate (f : Field) (b : Bool) : (s.setBit f b).plate = s.plate := rfl
@[simp] theorem State.setBit_pba (f : Field) (b : Bool) : (s.setBit f b).pba = s.pba := rfl
@[simp] theorem State.setBit_tile (f : Field) (b : Bool) : (s.setBit f b).tile = s.tile := rfl
@[simp] theorem State.setBit_etch (f : Field) (b : Bool) : (s.setBit f b).etch = s.etch := rfl
@[simp] theorem State.setBit_elastic (f : Field) (b : Bool) : (s.setBit f b).elastic = s.elastic := rfl
@[simp] theorem State.setBit_black (f : Field) (b : Bool) : (s.setBit f b).black = s.black := rfl
@[simp] theorem State.setBit_wbBuf (f : Field) (b : Bool) : (s.setBit f b).wbBuf = s.wbBuf := rfl
@[simp] theorem State.setBit_histBuf (f : Field) (b : Bool) : (s.setBit f b).histBuf = s.histBuf := rfl
@[simp] theorem State.setBit_inputs (f : Field) (b : Bool) : (s.setBit f b).inputs = s.inputs := rfl
@[simp] theorem State.setBit_surfs (f : Field) (b : Bool) : (s.setBit f b).surfs = s.surfs := rfl
@[simp] theorem State.setBit_stampCount (f : Field) (b : Bool) : (s.setBit f b).stampCount = s.stampCount := rfl
@[simp] theorem State.setBit_fences (f : Field) (b : Bool) : (s.setBit f b).fences = s.fences := rfl
@[simp] theorem State.setBit_fenceCount (f : Field) (b : Bool) : (s.setBit f b).fenceCount = s.fenceCount := rfl
@[simp] theorem State.setBit_cancelled (f : Field) (b : Bool) : (s.setBit f b).cancelled = s.cancelled := rfl
@[simp] theorem State.setBit_openCount (f : Field) (b : Bool) : (s.setBit f b).openCount = s.openCount := rfl
@[simp] theorem State.setBit_heads (f : Field) (b : Bool) : (s.setBit f b).heads = s.heads := rfl
@[simp] theorem State.setBit_cal (f : Field) (b : Bool) : (s.setBit f b).cal = s.cal := rfl
@[simp] theorem State.setBit_sense (f : Field) (b : Bool) : (s.setBit f b).sense = s.sense := rfl
@[simp] theorem State.setBit_icons (f : Field) (b : Bool) : (s.setBit f b).icons = s.icons := rfl
@[simp] theorem State.setBit_ttLevel (f : Field) (b : Bool) : (s.setBit f b).ttLevel = s.ttLevel := rfl
@[simp] theorem State.setBit_stages (f : Field) (b : Bool) : (s.setBit f b).stages = s.stages := rfl
@[simp] theorem State.setBit_wb (f : Field) (b : Bool) : (s.setBit f b).wb = s.wb := rfl
@[simp] theorem State.setBit_layerHead (f : Field) (b : Bool) : (s.setBit f b).layerHead = s.layerHead := rfl
@[simp] theorem State.setBit_chains (f : Field) (b : Bool) : (s.setBit f b).chains = s.chains := rfl
@[simp] theorem State.setBit_touch (f : Field) (b : Bool) : (s.setBit f b).touch = s.touch := rfl
@[simp] theorem State.setBit_pwr (f : Field) (b : Bool) : (s.setBit f b).pwr = s.pwr := rfl

/-! ### satAdd -/

@[simp] theorem State.satAdd_pending (f : Field) (n : Nat) : (s.satAdd f n).pending = s.pending := rfl
@[simp] theorem State.satAdd_free (f : Field) (n : Nat) : (s.satAdd f n).free = s.free := rfl
@[simp] theorem State.satAdd_off (f : Field) (n : Nat) : (s.satAdd f n).off = s.off := rfl
@[simp] theorem State.satAdd_porst (f : Field) (n : Nat) : (s.satAdd f n).porst = s.porst := rfl
@[simp] theorem State.satAdd_ticks (f : Field) (n : Nat) : (s.satAdd f n).ticks = s.ticks := rfl
@[simp] theorem State.satAdd_commitRegs (f : Field) (n : Nat) : (s.satAdd f n).commitRegs = s.commitRegs := rfl
@[simp] theorem State.satAdd_cw (f : Field) (n : Nat) : (s.satAdd f n).cw = s.cw := rfl
@[simp] theorem State.satAdd_boot (f : Field) (n : Nat) : (s.satAdd f n).boot = s.boot := rfl
@[simp] theorem State.satAdd_pres (f : Field) (n : Nat) : (s.satAdd f n).pres = s.pres := rfl
@[simp] theorem State.satAdd_fuses (f : Field) (n : Nat) : (s.satAdd f n).fuses = s.fuses := rfl
@[simp] theorem State.satAdd_regions (f : Field) (n : Nat) : (s.satAdd f n).regions = s.regions := rfl
@[simp] theorem State.satAdd_plate (f : Field) (n : Nat) : (s.satAdd f n).plate = s.plate := rfl
@[simp] theorem State.satAdd_pba (f : Field) (n : Nat) : (s.satAdd f n).pba = s.pba := rfl
@[simp] theorem State.satAdd_tile (f : Field) (n : Nat) : (s.satAdd f n).tile = s.tile := rfl
@[simp] theorem State.satAdd_etch (f : Field) (n : Nat) : (s.satAdd f n).etch = s.etch := rfl
@[simp] theorem State.satAdd_elastic (f : Field) (n : Nat) : (s.satAdd f n).elastic = s.elastic := rfl
@[simp] theorem State.satAdd_black (f : Field) (n : Nat) : (s.satAdd f n).black = s.black := rfl
@[simp] theorem State.satAdd_wbBuf (f : Field) (n : Nat) : (s.satAdd f n).wbBuf = s.wbBuf := rfl
@[simp] theorem State.satAdd_histBuf (f : Field) (n : Nat) : (s.satAdd f n).histBuf = s.histBuf := rfl
@[simp] theorem State.satAdd_inputs (f : Field) (n : Nat) : (s.satAdd f n).inputs = s.inputs := rfl
@[simp] theorem State.satAdd_surfs (f : Field) (n : Nat) : (s.satAdd f n).surfs = s.surfs := rfl
@[simp] theorem State.satAdd_stampCount (f : Field) (n : Nat) : (s.satAdd f n).stampCount = s.stampCount := rfl
@[simp] theorem State.satAdd_fences (f : Field) (n : Nat) : (s.satAdd f n).fences = s.fences := rfl
@[simp] theorem State.satAdd_fenceCount (f : Field) (n : Nat) : (s.satAdd f n).fenceCount = s.fenceCount := rfl
@[simp] theorem State.satAdd_cancelled (f : Field) (n : Nat) : (s.satAdd f n).cancelled = s.cancelled := rfl
@[simp] theorem State.satAdd_openCount (f : Field) (n : Nat) : (s.satAdd f n).openCount = s.openCount := rfl
@[simp] theorem State.satAdd_heads (f : Field) (n : Nat) : (s.satAdd f n).heads = s.heads := rfl
@[simp] theorem State.satAdd_cal (f : Field) (n : Nat) : (s.satAdd f n).cal = s.cal := rfl
@[simp] theorem State.satAdd_sense (f : Field) (n : Nat) : (s.satAdd f n).sense = s.sense := rfl
@[simp] theorem State.satAdd_icons (f : Field) (n : Nat) : (s.satAdd f n).icons = s.icons := rfl
@[simp] theorem State.satAdd_ttLevel (f : Field) (n : Nat) : (s.satAdd f n).ttLevel = s.ttLevel := rfl
@[simp] theorem State.satAdd_stages (f : Field) (n : Nat) : (s.satAdd f n).stages = s.stages := rfl
@[simp] theorem State.satAdd_wb (f : Field) (n : Nat) : (s.satAdd f n).wb = s.wb := rfl
@[simp] theorem State.satAdd_layerHead (f : Field) (n : Nat) : (s.satAdd f n).layerHead = s.layerHead := rfl
@[simp] theorem State.satAdd_chains (f : Field) (n : Nat) : (s.satAdd f n).chains = s.chains := rfl
@[simp] theorem State.satAdd_touch (f : Field) (n : Nat) : (s.satAdd f n).touch = s.touch := rfl
@[simp] theorem State.satAdd_pwr (f : Field) (n : Nat) : (s.satAdd f n).pwr = s.pwr := rfl

/-! ### wrapAdd -/

@[simp] theorem State.wrapAdd_pending (f : Field) (n : Nat) : (s.wrapAdd f n).pending = s.pending := rfl
@[simp] theorem State.wrapAdd_free (f : Field) (n : Nat) : (s.wrapAdd f n).free = s.free := rfl
@[simp] theorem State.wrapAdd_off (f : Field) (n : Nat) : (s.wrapAdd f n).off = s.off := rfl
@[simp] theorem State.wrapAdd_porst (f : Field) (n : Nat) : (s.wrapAdd f n).porst = s.porst := rfl
@[simp] theorem State.wrapAdd_ticks (f : Field) (n : Nat) : (s.wrapAdd f n).ticks = s.ticks := rfl
@[simp] theorem State.wrapAdd_commitRegs (f : Field) (n : Nat) : (s.wrapAdd f n).commitRegs = s.commitRegs := rfl
@[simp] theorem State.wrapAdd_cw (f : Field) (n : Nat) : (s.wrapAdd f n).cw = s.cw := rfl
@[simp] theorem State.wrapAdd_boot (f : Field) (n : Nat) : (s.wrapAdd f n).boot = s.boot := rfl
@[simp] theorem State.wrapAdd_pres (f : Field) (n : Nat) : (s.wrapAdd f n).pres = s.pres := rfl
@[simp] theorem State.wrapAdd_fuses (f : Field) (n : Nat) : (s.wrapAdd f n).fuses = s.fuses := rfl
@[simp] theorem State.wrapAdd_regions (f : Field) (n : Nat) : (s.wrapAdd f n).regions = s.regions := rfl
@[simp] theorem State.wrapAdd_plate (f : Field) (n : Nat) : (s.wrapAdd f n).plate = s.plate := rfl
@[simp] theorem State.wrapAdd_pba (f : Field) (n : Nat) : (s.wrapAdd f n).pba = s.pba := rfl
@[simp] theorem State.wrapAdd_tile (f : Field) (n : Nat) : (s.wrapAdd f n).tile = s.tile := rfl
@[simp] theorem State.wrapAdd_etch (f : Field) (n : Nat) : (s.wrapAdd f n).etch = s.etch := rfl
@[simp] theorem State.wrapAdd_elastic (f : Field) (n : Nat) : (s.wrapAdd f n).elastic = s.elastic := rfl
@[simp] theorem State.wrapAdd_black (f : Field) (n : Nat) : (s.wrapAdd f n).black = s.black := rfl
@[simp] theorem State.wrapAdd_wbBuf (f : Field) (n : Nat) : (s.wrapAdd f n).wbBuf = s.wbBuf := rfl
@[simp] theorem State.wrapAdd_histBuf (f : Field) (n : Nat) : (s.wrapAdd f n).histBuf = s.histBuf := rfl
@[simp] theorem State.wrapAdd_inputs (f : Field) (n : Nat) : (s.wrapAdd f n).inputs = s.inputs := rfl
@[simp] theorem State.wrapAdd_surfs (f : Field) (n : Nat) : (s.wrapAdd f n).surfs = s.surfs := rfl
@[simp] theorem State.wrapAdd_stampCount (f : Field) (n : Nat) : (s.wrapAdd f n).stampCount = s.stampCount := rfl
@[simp] theorem State.wrapAdd_fences (f : Field) (n : Nat) : (s.wrapAdd f n).fences = s.fences := rfl
@[simp] theorem State.wrapAdd_fenceCount (f : Field) (n : Nat) : (s.wrapAdd f n).fenceCount = s.fenceCount := rfl
@[simp] theorem State.wrapAdd_cancelled (f : Field) (n : Nat) : (s.wrapAdd f n).cancelled = s.cancelled := rfl
@[simp] theorem State.wrapAdd_openCount (f : Field) (n : Nat) : (s.wrapAdd f n).openCount = s.openCount := rfl
@[simp] theorem State.wrapAdd_heads (f : Field) (n : Nat) : (s.wrapAdd f n).heads = s.heads := rfl
@[simp] theorem State.wrapAdd_cal (f : Field) (n : Nat) : (s.wrapAdd f n).cal = s.cal := rfl
@[simp] theorem State.wrapAdd_sense (f : Field) (n : Nat) : (s.wrapAdd f n).sense = s.sense := rfl
@[simp] theorem State.wrapAdd_icons (f : Field) (n : Nat) : (s.wrapAdd f n).icons = s.icons := rfl
@[simp] theorem State.wrapAdd_ttLevel (f : Field) (n : Nat) : (s.wrapAdd f n).ttLevel = s.ttLevel := rfl
@[simp] theorem State.wrapAdd_stages (f : Field) (n : Nat) : (s.wrapAdd f n).stages = s.stages := rfl
@[simp] theorem State.wrapAdd_wb (f : Field) (n : Nat) : (s.wrapAdd f n).wb = s.wb := rfl
@[simp] theorem State.wrapAdd_layerHead (f : Field) (n : Nat) : (s.wrapAdd f n).layerHead = s.layerHead := rfl
@[simp] theorem State.wrapAdd_chains (f : Field) (n : Nat) : (s.wrapAdd f n).chains = s.chains := rfl
@[simp] theorem State.wrapAdd_touch (f : Field) (n : Nat) : (s.wrapAdd f n).touch = s.touch := rfl
@[simp] theorem State.wrapAdd_pwr (f : Field) (n : Nat) : (s.wrapAdd f n).pwr = s.pwr := rfl

/-! ### post -/

@[simp] theorem State.post_pending (e : CmdEntry) (st : Nat) (p : List Word) : (s.post e st p).pending = s.pending := rfl
@[simp] theorem State.post_free (e : CmdEntry) (st : Nat) (p : List Word) : (s.post e st p).free = s.free := rfl
@[simp] theorem State.post_off (e : CmdEntry) (st : Nat) (p : List Word) : (s.post e st p).off = s.off := rfl
@[simp] theorem State.post_porst (e : CmdEntry) (st : Nat) (p : List Word) : (s.post e st p).porst = s.porst := rfl
@[simp] theorem State.post_ticks (e : CmdEntry) (st : Nat) (p : List Word) : (s.post e st p).ticks = s.ticks := rfl
@[simp] theorem State.post_regs (e : CmdEntry) (st : Nat) (p : List Word) : (s.post e st p).regs = s.regs := rfl
@[simp] theorem State.post_commitRegs (e : CmdEntry) (st : Nat) (p : List Word) : (s.post e st p).commitRegs = s.commitRegs := rfl
@[simp] theorem State.post_boot (e : CmdEntry) (st : Nat) (p : List Word) : (s.post e st p).boot = s.boot := rfl
@[simp] theorem State.post_pres (e : CmdEntry) (st : Nat) (p : List Word) : (s.post e st p).pres = s.pres := rfl
@[simp] theorem State.post_fuses (e : CmdEntry) (st : Nat) (p : List Word) : (s.post e st p).fuses = s.fuses := rfl
@[simp] theorem State.post_regions (e : CmdEntry) (st : Nat) (p : List Word) : (s.post e st p).regions = s.regions := rfl
@[simp] theorem State.post_plate (e : CmdEntry) (st : Nat) (p : List Word) : (s.post e st p).plate = s.plate := rfl
@[simp] theorem State.post_pba (e : CmdEntry) (st : Nat) (p : List Word) : (s.post e st p).pba = s.pba := rfl
@[simp] theorem State.post_tile (e : CmdEntry) (st : Nat) (p : List Word) : (s.post e st p).tile = s.tile := rfl
@[simp] theorem State.post_etch (e : CmdEntry) (st : Nat) (p : List Word) : (s.post e st p).etch = s.etch := rfl
@[simp] theorem State.post_elastic (e : CmdEntry) (st : Nat) (p : List Word) : (s.post e st p).elastic = s.elastic := rfl
@[simp] theorem State.post_black (e : CmdEntry) (st : Nat) (p : List Word) : (s.post e st p).black = s.black := rfl
@[simp] theorem State.post_wbBuf (e : CmdEntry) (st : Nat) (p : List Word) : (s.post e st p).wbBuf = s.wbBuf := rfl
@[simp] theorem State.post_histBuf (e : CmdEntry) (st : Nat) (p : List Word) : (s.post e st p).histBuf = s.histBuf := rfl
@[simp] theorem State.post_inputs (e : CmdEntry) (st : Nat) (p : List Word) : (s.post e st p).inputs = s.inputs := rfl
@[simp] theorem State.post_surfs (e : CmdEntry) (st : Nat) (p : List Word) : (s.post e st p).surfs = s.surfs := rfl
@[simp] theorem State.post_stampCount (e : CmdEntry) (st : Nat) (p : List Word) : (s.post e st p).stampCount = s.stampCount := rfl
@[simp] theorem State.post_fences (e : CmdEntry) (st : Nat) (p : List Word) : (s.post e st p).fences = s.fences := rfl
@[simp] theorem State.post_fenceCount (e : CmdEntry) (st : Nat) (p : List Word) : (s.post e st p).fenceCount = s.fenceCount := rfl
@[simp] theorem State.post_cancelled (e : CmdEntry) (st : Nat) (p : List Word) : (s.post e st p).cancelled = s.cancelled := rfl
@[simp] theorem State.post_openCount (e : CmdEntry) (st : Nat) (p : List Word) : (s.post e st p).openCount = s.openCount := rfl
@[simp] theorem State.post_heads (e : CmdEntry) (st : Nat) (p : List Word) : (s.post e st p).heads = s.heads := rfl
@[simp] theorem State.post_cal (e : CmdEntry) (st : Nat) (p : List Word) : (s.post e st p).cal = s.cal := rfl
@[simp] theorem State.post_sense (e : CmdEntry) (st : Nat) (p : List Word) : (s.post e st p).sense = s.sense := rfl
@[simp] theorem State.post_icons (e : CmdEntry) (st : Nat) (p : List Word) : (s.post e st p).icons = s.icons := rfl
@[simp] theorem State.post_ttLevel (e : CmdEntry) (st : Nat) (p : List Word) : (s.post e st p).ttLevel = s.ttLevel := rfl
@[simp] theorem State.post_stages (e : CmdEntry) (st : Nat) (p : List Word) : (s.post e st p).stages = s.stages := rfl
@[simp] theorem State.post_wb (e : CmdEntry) (st : Nat) (p : List Word) : (s.post e st p).wb = s.wb := rfl
@[simp] theorem State.post_layerHead (e : CmdEntry) (st : Nat) (p : List Word) : (s.post e st p).layerHead = s.layerHead := rfl
@[simp] theorem State.post_chains (e : CmdEntry) (st : Nat) (p : List Word) : (s.post e st p).chains = s.chains := rfl
@[simp] theorem State.post_touch (e : CmdEntry) (st : Nat) (p : List Word) : (s.post e st p).touch = s.touch := rfl
@[simp] theorem State.post_pwr (e : CmdEntry) (st : Nat) (p : List Word) : (s.post e st p).pwr = s.pwr := rfl

/-! ### endTx -/

@[simp] theorem State.endTx_pending (err : Nat) : (s.endTx err).pending = s.pending := rfl
@[simp] theorem State.endTx_free (err : Nat) : (s.endTx err).free = s.free := rfl
@[simp] theorem State.endTx_off (err : Nat) : (s.endTx err).off = s.off := rfl
@[simp] theorem State.endTx_porst (err : Nat) : (s.endTx err).porst = s.porst := rfl
@[simp] theorem State.endTx_ticks (err : Nat) : (s.endTx err).ticks = s.ticks := rfl
@[simp] theorem State.endTx_regs (err : Nat) : (s.endTx err).regs = s.regs := rfl
@[simp] theorem State.endTx_commitRegs (err : Nat) : (s.endTx err).commitRegs = s.commitRegs := rfl
@[simp] theorem State.endTx_boot (err : Nat) : (s.endTx err).boot = s.boot := rfl
@[simp] theorem State.endTx_pres (err : Nat) : (s.endTx err).pres = s.pres := rfl
@[simp] theorem State.endTx_fuses (err : Nat) : (s.endTx err).fuses = s.fuses := rfl
@[simp] theorem State.endTx_regions (err : Nat) : (s.endTx err).regions = s.regions := rfl
@[simp] theorem State.endTx_plate (err : Nat) : (s.endTx err).plate = s.plate := rfl
@[simp] theorem State.endTx_pba (err : Nat) : (s.endTx err).pba = s.pba := rfl
@[simp] theorem State.endTx_tile (err : Nat) : (s.endTx err).tile = s.tile := rfl
@[simp] theorem State.endTx_etch (err : Nat) : (s.endTx err).etch = s.etch := rfl
@[simp] theorem State.endTx_elastic (err : Nat) : (s.endTx err).elastic = s.elastic := rfl
@[simp] theorem State.endTx_black (err : Nat) : (s.endTx err).black = s.black := rfl
@[simp] theorem State.endTx_wbBuf (err : Nat) : (s.endTx err).wbBuf = s.wbBuf := rfl
@[simp] theorem State.endTx_histBuf (err : Nat) : (s.endTx err).histBuf = s.histBuf := rfl
@[simp] theorem State.endTx_inputs (err : Nat) : (s.endTx err).inputs = s.inputs := rfl
@[simp] theorem State.endTx_surfs (err : Nat) : (s.endTx err).surfs = s.surfs := rfl
@[simp] theorem State.endTx_stampCount (err : Nat) : (s.endTx err).stampCount = s.stampCount := rfl
@[simp] theorem State.endTx_fences (err : Nat) : (s.endTx err).fences = s.fences := rfl
@[simp] theorem State.endTx_fenceCount (err : Nat) : (s.endTx err).fenceCount = s.fenceCount := rfl
@[simp] theorem State.endTx_cancelled (err : Nat) : (s.endTx err).cancelled = s.cancelled := rfl
@[simp] theorem State.endTx_openCount (err : Nat) : (s.endTx err).openCount = s.openCount := rfl
@[simp] theorem State.endTx_heads (err : Nat) : (s.endTx err).heads = s.heads := rfl
@[simp] theorem State.endTx_cal (err : Nat) : (s.endTx err).cal = s.cal := rfl
@[simp] theorem State.endTx_sense (err : Nat) : (s.endTx err).sense = s.sense := rfl
@[simp] theorem State.endTx_icons (err : Nat) : (s.endTx err).icons = s.icons := rfl
@[simp] theorem State.endTx_ttLevel (err : Nat) : (s.endTx err).ttLevel = s.ttLevel := rfl
@[simp] theorem State.endTx_stages (err : Nat) : (s.endTx err).stages = s.stages := rfl
@[simp] theorem State.endTx_wb (err : Nat) : (s.endTx err).wb = s.wb := rfl
@[simp] theorem State.endTx_layerHead (err : Nat) : (s.endTx err).layerHead = s.layerHead := rfl
@[simp] theorem State.endTx_chains (err : Nat) : (s.endTx err).chains = s.chains := rfl
@[simp] theorem State.endTx_touch (err : Nat) : (s.endTx err).touch = s.touch := rfl
@[simp] theorem State.endTx_pwr (err : Nat) : (s.endTx err).pwr = s.pwr := rfl

/-! ### setCredit -/

@[simp] theorem State.setCredit_pending (c n : Nat) : (s.setCredit c n).pending = s.pending := rfl
@[simp] theorem State.setCredit_free (c n : Nat) : (s.setCredit c n).free = s.free := rfl
@[simp] theorem State.setCredit_off (c n : Nat) : (s.setCredit c n).off = s.off := rfl
@[simp] theorem State.setCredit_porst (c n : Nat) : (s.setCredit c n).porst = s.porst := rfl
@[simp] theorem State.setCredit_ticks (c n : Nat) : (s.setCredit c n).ticks = s.ticks := rfl
@[simp] theorem State.setCredit_regs (c n : Nat) : (s.setCredit c n).regs = s.regs := rfl
@[simp] theorem State.setCredit_commitRegs (c n : Nat) : (s.setCredit c n).commitRegs = s.commitRegs := rfl
@[simp] theorem State.setCredit_cw (c n : Nat) : (s.setCredit c n).cw = s.cw := rfl
@[simp] theorem State.setCredit_boot (c n : Nat) : (s.setCredit c n).boot = s.boot := rfl
@[simp] theorem State.setCredit_pres (c n : Nat) : (s.setCredit c n).pres = s.pres := rfl
@[simp] theorem State.setCredit_fuses (c n : Nat) : (s.setCredit c n).fuses = s.fuses := rfl
@[simp] theorem State.setCredit_regions (c n : Nat) : (s.setCredit c n).regions = s.regions := rfl
@[simp] theorem State.setCredit_plate (c n : Nat) : (s.setCredit c n).plate = s.plate := rfl
@[simp] theorem State.setCredit_tile (c n : Nat) : (s.setCredit c n).tile = s.tile := rfl
@[simp] theorem State.setCredit_etch (c n : Nat) : (s.setCredit c n).etch = s.etch := rfl
@[simp] theorem State.setCredit_elastic (c n : Nat) : (s.setCredit c n).elastic = s.elastic := rfl
@[simp] theorem State.setCredit_black (c n : Nat) : (s.setCredit c n).black = s.black := rfl
@[simp] theorem State.setCredit_wbBuf (c n : Nat) : (s.setCredit c n).wbBuf = s.wbBuf := rfl
@[simp] theorem State.setCredit_histBuf (c n : Nat) : (s.setCredit c n).histBuf = s.histBuf := rfl
@[simp] theorem State.setCredit_inputs (c n : Nat) : (s.setCredit c n).inputs = s.inputs := rfl
@[simp] theorem State.setCredit_surfs (c n : Nat) : (s.setCredit c n).surfs = s.surfs := rfl
@[simp] theorem State.setCredit_stampCount (c n : Nat) : (s.setCredit c n).stampCount = s.stampCount := rfl
@[simp] theorem State.setCredit_fences (c n : Nat) : (s.setCredit c n).fences = s.fences := rfl
@[simp] theorem State.setCredit_fenceCount (c n : Nat) : (s.setCredit c n).fenceCount = s.fenceCount := rfl
@[simp] theorem State.setCredit_cancelled (c n : Nat) : (s.setCredit c n).cancelled = s.cancelled := rfl
@[simp] theorem State.setCredit_openCount (c n : Nat) : (s.setCredit c n).openCount = s.openCount := rfl
@[simp] theorem State.setCredit_heads (c n : Nat) : (s.setCredit c n).heads = s.heads := rfl
@[simp] theorem State.setCredit_cal (c n : Nat) : (s.setCredit c n).cal = s.cal := rfl
@[simp] theorem State.setCredit_sense (c n : Nat) : (s.setCredit c n).sense = s.sense := rfl
@[simp] theorem State.setCredit_icons (c n : Nat) : (s.setCredit c n).icons = s.icons := rfl
@[simp] theorem State.setCredit_ttLevel (c n : Nat) : (s.setCredit c n).ttLevel = s.ttLevel := rfl
@[simp] theorem State.setCredit_stages (c n : Nat) : (s.setCredit c n).stages = s.stages := rfl
@[simp] theorem State.setCredit_wb (c n : Nat) : (s.setCredit c n).wb = s.wb := rfl
@[simp] theorem State.setCredit_layerHead (c n : Nat) : (s.setCredit c n).layerHead = s.layerHead := rfl
@[simp] theorem State.setCredit_chains (c n : Nat) : (s.setCredit c n).chains = s.chains := rfl
@[simp] theorem State.setCredit_touch (c n : Nat) : (s.setCredit c n).touch = s.touch := rfl
@[simp] theorem State.setCredit_pwr (c n : Nat) : (s.setCredit c n).pwr = s.pwr := rfl

/-! ### setWaiting -/

@[simp] theorem State.setWaiting_pending (c : Nat) (l : List ReqBody) : (s.setWaiting c l).pending = s.pending := rfl
@[simp] theorem State.setWaiting_free (c : Nat) (l : List ReqBody) : (s.setWaiting c l).free = s.free := rfl
@[simp] theorem State.setWaiting_off (c : Nat) (l : List ReqBody) : (s.setWaiting c l).off = s.off := rfl
@[simp] theorem State.setWaiting_porst (c : Nat) (l : List ReqBody) : (s.setWaiting c l).porst = s.porst := rfl
@[simp] theorem State.setWaiting_ticks (c : Nat) (l : List ReqBody) : (s.setWaiting c l).ticks = s.ticks := rfl
@[simp] theorem State.setWaiting_regs (c : Nat) (l : List ReqBody) : (s.setWaiting c l).regs = s.regs := rfl
@[simp] theorem State.setWaiting_commitRegs (c : Nat) (l : List ReqBody) : (s.setWaiting c l).commitRegs = s.commitRegs := rfl
@[simp] theorem State.setWaiting_cw (c : Nat) (l : List ReqBody) : (s.setWaiting c l).cw = s.cw := rfl
@[simp] theorem State.setWaiting_boot (c : Nat) (l : List ReqBody) : (s.setWaiting c l).boot = s.boot := rfl
@[simp] theorem State.setWaiting_pres (c : Nat) (l : List ReqBody) : (s.setWaiting c l).pres = s.pres := rfl
@[simp] theorem State.setWaiting_fuses (c : Nat) (l : List ReqBody) : (s.setWaiting c l).fuses = s.fuses := rfl
@[simp] theorem State.setWaiting_regions (c : Nat) (l : List ReqBody) : (s.setWaiting c l).regions = s.regions := rfl
@[simp] theorem State.setWaiting_plate (c : Nat) (l : List ReqBody) : (s.setWaiting c l).plate = s.plate := rfl
@[simp] theorem State.setWaiting_tile (c : Nat) (l : List ReqBody) : (s.setWaiting c l).tile = s.tile := rfl
@[simp] theorem State.setWaiting_etch (c : Nat) (l : List ReqBody) : (s.setWaiting c l).etch = s.etch := rfl
@[simp] theorem State.setWaiting_elastic (c : Nat) (l : List ReqBody) : (s.setWaiting c l).elastic = s.elastic := rfl
@[simp] theorem State.setWaiting_black (c : Nat) (l : List ReqBody) : (s.setWaiting c l).black = s.black := rfl
@[simp] theorem State.setWaiting_wbBuf (c : Nat) (l : List ReqBody) : (s.setWaiting c l).wbBuf = s.wbBuf := rfl
@[simp] theorem State.setWaiting_histBuf (c : Nat) (l : List ReqBody) : (s.setWaiting c l).histBuf = s.histBuf := rfl
@[simp] theorem State.setWaiting_inputs (c : Nat) (l : List ReqBody) : (s.setWaiting c l).inputs = s.inputs := rfl
@[simp] theorem State.setWaiting_surfs (c : Nat) (l : List ReqBody) : (s.setWaiting c l).surfs = s.surfs := rfl
@[simp] theorem State.setWaiting_stampCount (c : Nat) (l : List ReqBody) : (s.setWaiting c l).stampCount = s.stampCount := rfl
@[simp] theorem State.setWaiting_fences (c : Nat) (l : List ReqBody) : (s.setWaiting c l).fences = s.fences := rfl
@[simp] theorem State.setWaiting_fenceCount (c : Nat) (l : List ReqBody) : (s.setWaiting c l).fenceCount = s.fenceCount := rfl
@[simp] theorem State.setWaiting_cancelled (c : Nat) (l : List ReqBody) : (s.setWaiting c l).cancelled = s.cancelled := rfl
@[simp] theorem State.setWaiting_openCount (c : Nat) (l : List ReqBody) : (s.setWaiting c l).openCount = s.openCount := rfl
@[simp] theorem State.setWaiting_heads (c : Nat) (l : List ReqBody) : (s.setWaiting c l).heads = s.heads := rfl
@[simp] theorem State.setWaiting_cal (c : Nat) (l : List ReqBody) : (s.setWaiting c l).cal = s.cal := rfl
@[simp] theorem State.setWaiting_sense (c : Nat) (l : List ReqBody) : (s.setWaiting c l).sense = s.sense := rfl
@[simp] theorem State.setWaiting_icons (c : Nat) (l : List ReqBody) : (s.setWaiting c l).icons = s.icons := rfl
@[simp] theorem State.setWaiting_ttLevel (c : Nat) (l : List ReqBody) : (s.setWaiting c l).ttLevel = s.ttLevel := rfl
@[simp] theorem State.setWaiting_stages (c : Nat) (l : List ReqBody) : (s.setWaiting c l).stages = s.stages := rfl
@[simp] theorem State.setWaiting_wb (c : Nat) (l : List ReqBody) : (s.setWaiting c l).wb = s.wb := rfl
@[simp] theorem State.setWaiting_layerHead (c : Nat) (l : List ReqBody) : (s.setWaiting c l).layerHead = s.layerHead := rfl
@[simp] theorem State.setWaiting_chains (c : Nat) (l : List ReqBody) : (s.setWaiting c l).chains = s.chains := rfl
@[simp] theorem State.setWaiting_touch (c : Nat) (l : List ReqBody) : (s.setWaiting c l).touch = s.touch := rfl
@[simp] theorem State.setWaiting_pwr (c : Nat) (l : List ReqBody) : (s.setWaiting c l).pwr = s.pwr := rfl

/-! ### setPresented -/

@[simp] theorem State.setPresented_pending (c : Nat) (l : List ReqBody) : (s.setPresented c l).pending = s.pending := rfl
@[simp] theorem State.setPresented_free (c : Nat) (l : List ReqBody) : (s.setPresented c l).free = s.free := rfl
@[simp] theorem State.setPresented_off (c : Nat) (l : List ReqBody) : (s.setPresented c l).off = s.off := rfl
@[simp] theorem State.setPresented_porst (c : Nat) (l : List ReqBody) : (s.setPresented c l).porst = s.porst := rfl
@[simp] theorem State.setPresented_ticks (c : Nat) (l : List ReqBody) : (s.setPresented c l).ticks = s.ticks := rfl
@[simp] theorem State.setPresented_regs (c : Nat) (l : List ReqBody) : (s.setPresented c l).regs = s.regs := rfl
@[simp] theorem State.setPresented_commitRegs (c : Nat) (l : List ReqBody) : (s.setPresented c l).commitRegs = s.commitRegs := rfl
@[simp] theorem State.setPresented_cw (c : Nat) (l : List ReqBody) : (s.setPresented c l).cw = s.cw := rfl
@[simp] theorem State.setPresented_boot (c : Nat) (l : List ReqBody) : (s.setPresented c l).boot = s.boot := rfl
@[simp] theorem State.setPresented_pres (c : Nat) (l : List ReqBody) : (s.setPresented c l).pres = s.pres := rfl
@[simp] theorem State.setPresented_fuses (c : Nat) (l : List ReqBody) : (s.setPresented c l).fuses = s.fuses := rfl
@[simp] theorem State.setPresented_regions (c : Nat) (l : List ReqBody) : (s.setPresented c l).regions = s.regions := rfl
@[simp] theorem State.setPresented_plate (c : Nat) (l : List ReqBody) : (s.setPresented c l).plate = s.plate := rfl
@[simp] theorem State.setPresented_tile (c : Nat) (l : List ReqBody) : (s.setPresented c l).tile = s.tile := rfl
@[simp] theorem State.setPresented_etch (c : Nat) (l : List ReqBody) : (s.setPresented c l).etch = s.etch := rfl
@[simp] theorem State.setPresented_elastic (c : Nat) (l : List ReqBody) : (s.setPresented c l).elastic = s.elastic := rfl
@[simp] theorem State.setPresented_black (c : Nat) (l : List ReqBody) : (s.setPresented c l).black = s.black := rfl
@[simp] theorem State.setPresented_wbBuf (c : Nat) (l : List ReqBody) : (s.setPresented c l).wbBuf = s.wbBuf := rfl
@[simp] theorem State.setPresented_histBuf (c : Nat) (l : List ReqBody) : (s.setPresented c l).histBuf = s.histBuf := rfl
@[simp] theorem State.setPresented_inputs (c : Nat) (l : List ReqBody) : (s.setPresented c l).inputs = s.inputs := rfl
@[simp] theorem State.setPresented_surfs (c : Nat) (l : List ReqBody) : (s.setPresented c l).surfs = s.surfs := rfl
@[simp] theorem State.setPresented_stampCount (c : Nat) (l : List ReqBody) : (s.setPresented c l).stampCount = s.stampCount := rfl
@[simp] theorem State.setPresented_fences (c : Nat) (l : List ReqBody) : (s.setPresented c l).fences = s.fences := rfl
@[simp] theorem State.setPresented_fenceCount (c : Nat) (l : List ReqBody) : (s.setPresented c l).fenceCount = s.fenceCount := rfl
@[simp] theorem State.setPresented_cancelled (c : Nat) (l : List ReqBody) : (s.setPresented c l).cancelled = s.cancelled := rfl
@[simp] theorem State.setPresented_openCount (c : Nat) (l : List ReqBody) : (s.setPresented c l).openCount = s.openCount := rfl
@[simp] theorem State.setPresented_heads (c : Nat) (l : List ReqBody) : (s.setPresented c l).heads = s.heads := rfl
@[simp] theorem State.setPresented_cal (c : Nat) (l : List ReqBody) : (s.setPresented c l).cal = s.cal := rfl
@[simp] theorem State.setPresented_sense (c : Nat) (l : List ReqBody) : (s.setPresented c l).sense = s.sense := rfl
@[simp] theorem State.setPresented_icons (c : Nat) (l : List ReqBody) : (s.setPresented c l).icons = s.icons := rfl
@[simp] theorem State.setPresented_ttLevel (c : Nat) (l : List ReqBody) : (s.setPresented c l).ttLevel = s.ttLevel := rfl
@[simp] theorem State.setPresented_stages (c : Nat) (l : List ReqBody) : (s.setPresented c l).stages = s.stages := rfl
@[simp] theorem State.setPresented_wb (c : Nat) (l : List ReqBody) : (s.setPresented c l).wb = s.wb := rfl
@[simp] theorem State.setPresented_layerHead (c : Nat) (l : List ReqBody) : (s.setPresented c l).layerHead = s.layerHead := rfl
@[simp] theorem State.setPresented_chains (c : Nat) (l : List ReqBody) : (s.setPresented c l).chains = s.chains := rfl
@[simp] theorem State.setPresented_touch (c : Nat) (l : List ReqBody) : (s.setPresented c l).touch = s.touch := rfl
@[simp] theorem State.setPresented_pwr (c : Nat) (l : List ReqBody) : (s.setPresented c l).pwr = s.pwr := rfl

/-! ### setInput -/

@[simp] theorem State.setInput_pending (i : Nat) (x : InputState) : (s.setInput i x).pending = s.pending := rfl
@[simp] theorem State.setInput_free (i : Nat) (x : InputState) : (s.setInput i x).free = s.free := rfl
@[simp] theorem State.setInput_off (i : Nat) (x : InputState) : (s.setInput i x).off = s.off := rfl
@[simp] theorem State.setInput_porst (i : Nat) (x : InputState) : (s.setInput i x).porst = s.porst := rfl
@[simp] theorem State.setInput_ticks (i : Nat) (x : InputState) : (s.setInput i x).ticks = s.ticks := rfl
@[simp] theorem State.setInput_regs (i : Nat) (x : InputState) : (s.setInput i x).regs = s.regs := rfl
@[simp] theorem State.setInput_commitRegs (i : Nat) (x : InputState) : (s.setInput i x).commitRegs = s.commitRegs := rfl
@[simp] theorem State.setInput_cw (i : Nat) (x : InputState) : (s.setInput i x).cw = s.cw := rfl
@[simp] theorem State.setInput_boot (i : Nat) (x : InputState) : (s.setInput i x).boot = s.boot := rfl
@[simp] theorem State.setInput_pres (i : Nat) (x : InputState) : (s.setInput i x).pres = s.pres := rfl
@[simp] theorem State.setInput_fuses (i : Nat) (x : InputState) : (s.setInput i x).fuses = s.fuses := rfl
@[simp] theorem State.setInput_regions (i : Nat) (x : InputState) : (s.setInput i x).regions = s.regions := rfl
@[simp] theorem State.setInput_plate (i : Nat) (x : InputState) : (s.setInput i x).plate = s.plate := rfl
@[simp] theorem State.setInput_pba (i : Nat) (x : InputState) : (s.setInput i x).pba = s.pba := rfl
@[simp] theorem State.setInput_tile (i : Nat) (x : InputState) : (s.setInput i x).tile = s.tile := rfl
@[simp] theorem State.setInput_etch (i : Nat) (x : InputState) : (s.setInput i x).etch = s.etch := rfl
@[simp] theorem State.setInput_elastic (i : Nat) (x : InputState) : (s.setInput i x).elastic = s.elastic := rfl
@[simp] theorem State.setInput_black (i : Nat) (x : InputState) : (s.setInput i x).black = s.black := rfl
@[simp] theorem State.setInput_wbBuf (i : Nat) (x : InputState) : (s.setInput i x).wbBuf = s.wbBuf := rfl
@[simp] theorem State.setInput_histBuf (i : Nat) (x : InputState) : (s.setInput i x).histBuf = s.histBuf := rfl
@[simp] theorem State.setInput_surfs (i : Nat) (x : InputState) : (s.setInput i x).surfs = s.surfs := rfl
@[simp] theorem State.setInput_stampCount (i : Nat) (x : InputState) : (s.setInput i x).stampCount = s.stampCount := rfl
@[simp] theorem State.setInput_fences (i : Nat) (x : InputState) : (s.setInput i x).fences = s.fences := rfl
@[simp] theorem State.setInput_fenceCount (i : Nat) (x : InputState) : (s.setInput i x).fenceCount = s.fenceCount := rfl
@[simp] theorem State.setInput_cancelled (i : Nat) (x : InputState) : (s.setInput i x).cancelled = s.cancelled := rfl
@[simp] theorem State.setInput_openCount (i : Nat) (x : InputState) : (s.setInput i x).openCount = s.openCount := rfl
@[simp] theorem State.setInput_heads (i : Nat) (x : InputState) : (s.setInput i x).heads = s.heads := rfl
@[simp] theorem State.setInput_cal (i : Nat) (x : InputState) : (s.setInput i x).cal = s.cal := rfl
@[simp] theorem State.setInput_sense (i : Nat) (x : InputState) : (s.setInput i x).sense = s.sense := rfl
@[simp] theorem State.setInput_icons (i : Nat) (x : InputState) : (s.setInput i x).icons = s.icons := rfl
@[simp] theorem State.setInput_ttLevel (i : Nat) (x : InputState) : (s.setInput i x).ttLevel = s.ttLevel := rfl
@[simp] theorem State.setInput_stages (i : Nat) (x : InputState) : (s.setInput i x).stages = s.stages := rfl
@[simp] theorem State.setInput_wb (i : Nat) (x : InputState) : (s.setInput i x).wb = s.wb := rfl
@[simp] theorem State.setInput_layerHead (i : Nat) (x : InputState) : (s.setInput i x).layerHead = s.layerHead := rfl
@[simp] theorem State.setInput_chains (i : Nat) (x : InputState) : (s.setInput i x).chains = s.chains := rfl
@[simp] theorem State.setInput_touch (i : Nat) (x : InputState) : (s.setInput i x).touch = s.touch := rfl
@[simp] theorem State.setInput_pwr (i : Nat) (x : InputState) : (s.setInput i x).pwr = s.pwr := rfl

/-! ### setBufs -/

@[simp] theorem State.setBufs_pending (n : Nat) (x : SurfBufs) : (s.setBufs n x).pending = s.pending := rfl
@[simp] theorem State.setBufs_free (n : Nat) (x : SurfBufs) : (s.setBufs n x).free = s.free := rfl
@[simp] theorem State.setBufs_off (n : Nat) (x : SurfBufs) : (s.setBufs n x).off = s.off := rfl
@[simp] theorem State.setBufs_porst (n : Nat) (x : SurfBufs) : (s.setBufs n x).porst = s.porst := rfl
@[simp] theorem State.setBufs_ticks (n : Nat) (x : SurfBufs) : (s.setBufs n x).ticks = s.ticks := rfl
@[simp] theorem State.setBufs_regs (n : Nat) (x : SurfBufs) : (s.setBufs n x).regs = s.regs := rfl
@[simp] theorem State.setBufs_commitRegs (n : Nat) (x : SurfBufs) : (s.setBufs n x).commitRegs = s.commitRegs := rfl
@[simp] theorem State.setBufs_cw (n : Nat) (x : SurfBufs) : (s.setBufs n x).cw = s.cw := rfl
@[simp] theorem State.setBufs_boot (n : Nat) (x : SurfBufs) : (s.setBufs n x).boot = s.boot := rfl
@[simp] theorem State.setBufs_pres (n : Nat) (x : SurfBufs) : (s.setBufs n x).pres = s.pres := rfl
@[simp] theorem State.setBufs_fuses (n : Nat) (x : SurfBufs) : (s.setBufs n x).fuses = s.fuses := rfl
@[simp] theorem State.setBufs_regions (n : Nat) (x : SurfBufs) : (s.setBufs n x).regions = s.regions := rfl
@[simp] theorem State.setBufs_plate (n : Nat) (x : SurfBufs) : (s.setBufs n x).plate = s.plate := rfl
@[simp] theorem State.setBufs_pba (n : Nat) (x : SurfBufs) : (s.setBufs n x).pba = s.pba := rfl
@[simp] theorem State.setBufs_tile (n : Nat) (x : SurfBufs) : (s.setBufs n x).tile = s.tile := rfl
@[simp] theorem State.setBufs_etch (n : Nat) (x : SurfBufs) : (s.setBufs n x).etch = s.etch := rfl
@[simp] theorem State.setBufs_elastic (n : Nat) (x : SurfBufs) : (s.setBufs n x).elastic = s.elastic := rfl
@[simp] theorem State.setBufs_black (n : Nat) (x : SurfBufs) : (s.setBufs n x).black = s.black := rfl
@[simp] theorem State.setBufs_wbBuf (n : Nat) (x : SurfBufs) : (s.setBufs n x).wbBuf = s.wbBuf := rfl
@[simp] theorem State.setBufs_histBuf (n : Nat) (x : SurfBufs) : (s.setBufs n x).histBuf = s.histBuf := rfl
@[simp] theorem State.setBufs_inputs (n : Nat) (x : SurfBufs) : (s.setBufs n x).inputs = s.inputs := rfl
@[simp] theorem State.setBufs_stampCount (n : Nat) (x : SurfBufs) : (s.setBufs n x).stampCount = s.stampCount := rfl
@[simp] theorem State.setBufs_fences (n : Nat) (x : SurfBufs) : (s.setBufs n x).fences = s.fences := rfl
@[simp] theorem State.setBufs_fenceCount (n : Nat) (x : SurfBufs) : (s.setBufs n x).fenceCount = s.fenceCount := rfl
@[simp] theorem State.setBufs_cancelled (n : Nat) (x : SurfBufs) : (s.setBufs n x).cancelled = s.cancelled := rfl
@[simp] theorem State.setBufs_openCount (n : Nat) (x : SurfBufs) : (s.setBufs n x).openCount = s.openCount := rfl
@[simp] theorem State.setBufs_heads (n : Nat) (x : SurfBufs) : (s.setBufs n x).heads = s.heads := rfl
@[simp] theorem State.setBufs_cal (n : Nat) (x : SurfBufs) : (s.setBufs n x).cal = s.cal := rfl
@[simp] theorem State.setBufs_sense (n : Nat) (x : SurfBufs) : (s.setBufs n x).sense = s.sense := rfl
@[simp] theorem State.setBufs_icons (n : Nat) (x : SurfBufs) : (s.setBufs n x).icons = s.icons := rfl
@[simp] theorem State.setBufs_ttLevel (n : Nat) (x : SurfBufs) : (s.setBufs n x).ttLevel = s.ttLevel := rfl
@[simp] theorem State.setBufs_stages (n : Nat) (x : SurfBufs) : (s.setBufs n x).stages = s.stages := rfl
@[simp] theorem State.setBufs_wb (n : Nat) (x : SurfBufs) : (s.setBufs n x).wb = s.wb := rfl
@[simp] theorem State.setBufs_layerHead (n : Nat) (x : SurfBufs) : (s.setBufs n x).layerHead = s.layerHead := rfl
@[simp] theorem State.setBufs_chains (n : Nat) (x : SurfBufs) : (s.setBufs n x).chains = s.chains := rfl
@[simp] theorem State.setBufs_touch (n : Nat) (x : SurfBufs) : (s.setBufs n x).touch = s.touch := rfl
@[simp] theorem State.setBufs_pwr (n : Nat) (x : SurfBufs) : (s.setBufs n x).pwr = s.pwr := rfl

/-! ### setHead -/

@[simp] theorem State.setHead_pending (h : Nat) (x : HeadState) : (s.setHead h x).pending = s.pending := rfl
@[simp] theorem State.setHead_free (h : Nat) (x : HeadState) : (s.setHead h x).free = s.free := rfl
@[simp] theorem State.setHead_off (h : Nat) (x : HeadState) : (s.setHead h x).off = s.off := rfl
@[simp] theorem State.setHead_porst (h : Nat) (x : HeadState) : (s.setHead h x).porst = s.porst := rfl
@[simp] theorem State.setHead_ticks (h : Nat) (x : HeadState) : (s.setHead h x).ticks = s.ticks := rfl
@[simp] theorem State.setHead_regs (h : Nat) (x : HeadState) : (s.setHead h x).regs = s.regs := rfl
@[simp] theorem State.setHead_commitRegs (h : Nat) (x : HeadState) : (s.setHead h x).commitRegs = s.commitRegs := rfl
@[simp] theorem State.setHead_cw (h : Nat) (x : HeadState) : (s.setHead h x).cw = s.cw := rfl
@[simp] theorem State.setHead_boot (h : Nat) (x : HeadState) : (s.setHead h x).boot = s.boot := rfl
@[simp] theorem State.setHead_pres (h : Nat) (x : HeadState) : (s.setHead h x).pres = s.pres := rfl
@[simp] theorem State.setHead_fuses (h : Nat) (x : HeadState) : (s.setHead h x).fuses = s.fuses := rfl
@[simp] theorem State.setHead_regions (h : Nat) (x : HeadState) : (s.setHead h x).regions = s.regions := rfl
@[simp] theorem State.setHead_plate (h : Nat) (x : HeadState) : (s.setHead h x).plate = s.plate := rfl
@[simp] theorem State.setHead_pba (h : Nat) (x : HeadState) : (s.setHead h x).pba = s.pba := rfl
@[simp] theorem State.setHead_tile (h : Nat) (x : HeadState) : (s.setHead h x).tile = s.tile := rfl
@[simp] theorem State.setHead_etch (h : Nat) (x : HeadState) : (s.setHead h x).etch = s.etch := rfl
@[simp] theorem State.setHead_elastic (h : Nat) (x : HeadState) : (s.setHead h x).elastic = s.elastic := rfl
@[simp] theorem State.setHead_black (h : Nat) (x : HeadState) : (s.setHead h x).black = s.black := rfl
@[simp] theorem State.setHead_wbBuf (h : Nat) (x : HeadState) : (s.setHead h x).wbBuf = s.wbBuf := rfl
@[simp] theorem State.setHead_histBuf (h : Nat) (x : HeadState) : (s.setHead h x).histBuf = s.histBuf := rfl
@[simp] theorem State.setHead_inputs (h : Nat) (x : HeadState) : (s.setHead h x).inputs = s.inputs := rfl
@[simp] theorem State.setHead_surfs (h : Nat) (x : HeadState) : (s.setHead h x).surfs = s.surfs := rfl
@[simp] theorem State.setHead_stampCount (h : Nat) (x : HeadState) : (s.setHead h x).stampCount = s.stampCount := rfl
@[simp] theorem State.setHead_fences (h : Nat) (x : HeadState) : (s.setHead h x).fences = s.fences := rfl
@[simp] theorem State.setHead_fenceCount (h : Nat) (x : HeadState) : (s.setHead h x).fenceCount = s.fenceCount := rfl
@[simp] theorem State.setHead_cancelled (h : Nat) (x : HeadState) : (s.setHead h x).cancelled = s.cancelled := rfl
@[simp] theorem State.setHead_openCount (h : Nat) (x : HeadState) : (s.setHead h x).openCount = s.openCount := rfl
@[simp] theorem State.setHead_cal (h : Nat) (x : HeadState) : (s.setHead h x).cal = s.cal := rfl
@[simp] theorem State.setHead_sense (h : Nat) (x : HeadState) : (s.setHead h x).sense = s.sense := rfl
@[simp] theorem State.setHead_icons (h : Nat) (x : HeadState) : (s.setHead h x).icons = s.icons := rfl
@[simp] theorem State.setHead_ttLevel (h : Nat) (x : HeadState) : (s.setHead h x).ttLevel = s.ttLevel := rfl
@[simp] theorem State.setHead_stages (h : Nat) (x : HeadState) : (s.setHead h x).stages = s.stages := rfl
@[simp] theorem State.setHead_wb (h : Nat) (x : HeadState) : (s.setHead h x).wb = s.wb := rfl
@[simp] theorem State.setHead_layerHead (h : Nat) (x : HeadState) : (s.setHead h x).layerHead = s.layerHead := rfl
@[simp] theorem State.setHead_chains (h : Nat) (x : HeadState) : (s.setHead h x).chains = s.chains := rfl
@[simp] theorem State.setHead_touch (h : Nat) (x : HeadState) : (s.setHead h x).touch = s.touch := rfl
@[simp] theorem State.setHead_pwr (h : Nat) (x : HeadState) : (s.setHead h x).pwr = s.pwr := rfl

/-! ### setRegion -/

@[simp] theorem State.setRegion_pending (r : Nat) (g : Region) : (s.setRegion r g).pending = s.pending := rfl
@[simp] theorem State.setRegion_free (r : Nat) (g : Region) : (s.setRegion r g).free = s.free := rfl
@[simp] theorem State.setRegion_off (r : Nat) (g : Region) : (s.setRegion r g).off = s.off := rfl
@[simp] theorem State.setRegion_porst (r : Nat) (g : Region) : (s.setRegion r g).porst = s.porst := rfl
@[simp] theorem State.setRegion_ticks (r : Nat) (g : Region) : (s.setRegion r g).ticks = s.ticks := rfl
@[simp] theorem State.setRegion_regs (r : Nat) (g : Region) : (s.setRegion r g).regs = s.regs := rfl
@[simp] theorem State.setRegion_commitRegs (r : Nat) (g : Region) : (s.setRegion r g).commitRegs = s.commitRegs := rfl
@[simp] theorem State.setRegion_cw (r : Nat) (g : Region) : (s.setRegion r g).cw = s.cw := rfl
@[simp] theorem State.setRegion_boot (r : Nat) (g : Region) : (s.setRegion r g).boot = s.boot := rfl
@[simp] theorem State.setRegion_pres (r : Nat) (g : Region) : (s.setRegion r g).pres = s.pres := rfl
@[simp] theorem State.setRegion_fuses (r : Nat) (g : Region) : (s.setRegion r g).fuses = s.fuses := rfl
@[simp] theorem State.setRegion_plate (r : Nat) (g : Region) : (s.setRegion r g).plate = s.plate := rfl
@[simp] theorem State.setRegion_pba (r : Nat) (g : Region) : (s.setRegion r g).pba = s.pba := rfl
@[simp] theorem State.setRegion_tile (r : Nat) (g : Region) : (s.setRegion r g).tile = s.tile := rfl
@[simp] theorem State.setRegion_etch (r : Nat) (g : Region) : (s.setRegion r g).etch = s.etch := rfl
@[simp] theorem State.setRegion_elastic (r : Nat) (g : Region) : (s.setRegion r g).elastic = s.elastic := rfl
@[simp] theorem State.setRegion_black (r : Nat) (g : Region) : (s.setRegion r g).black = s.black := rfl
@[simp] theorem State.setRegion_wbBuf (r : Nat) (g : Region) : (s.setRegion r g).wbBuf = s.wbBuf := rfl
@[simp] theorem State.setRegion_histBuf (r : Nat) (g : Region) : (s.setRegion r g).histBuf = s.histBuf := rfl
@[simp] theorem State.setRegion_inputs (r : Nat) (g : Region) : (s.setRegion r g).inputs = s.inputs := rfl
@[simp] theorem State.setRegion_surfs (r : Nat) (g : Region) : (s.setRegion r g).surfs = s.surfs := rfl
@[simp] theorem State.setRegion_stampCount (r : Nat) (g : Region) : (s.setRegion r g).stampCount = s.stampCount := rfl
@[simp] theorem State.setRegion_fences (r : Nat) (g : Region) : (s.setRegion r g).fences = s.fences := rfl
@[simp] theorem State.setRegion_fenceCount (r : Nat) (g : Region) : (s.setRegion r g).fenceCount = s.fenceCount := rfl
@[simp] theorem State.setRegion_cancelled (r : Nat) (g : Region) : (s.setRegion r g).cancelled = s.cancelled := rfl
@[simp] theorem State.setRegion_openCount (r : Nat) (g : Region) : (s.setRegion r g).openCount = s.openCount := rfl
@[simp] theorem State.setRegion_heads (r : Nat) (g : Region) : (s.setRegion r g).heads = s.heads := rfl
@[simp] theorem State.setRegion_cal (r : Nat) (g : Region) : (s.setRegion r g).cal = s.cal := rfl
@[simp] theorem State.setRegion_sense (r : Nat) (g : Region) : (s.setRegion r g).sense = s.sense := rfl
@[simp] theorem State.setRegion_icons (r : Nat) (g : Region) : (s.setRegion r g).icons = s.icons := rfl
@[simp] theorem State.setRegion_ttLevel (r : Nat) (g : Region) : (s.setRegion r g).ttLevel = s.ttLevel := rfl
@[simp] theorem State.setRegion_stages (r : Nat) (g : Region) : (s.setRegion r g).stages = s.stages := rfl
@[simp] theorem State.setRegion_wb (r : Nat) (g : Region) : (s.setRegion r g).wb = s.wb := rfl
@[simp] theorem State.setRegion_layerHead (r : Nat) (g : Region) : (s.setRegion r g).layerHead = s.layerHead := rfl
@[simp] theorem State.setRegion_chains (r : Nat) (g : Region) : (s.setRegion r g).chains = s.chains := rfl
@[simp] theorem State.setRegion_touch (r : Nat) (g : Region) : (s.setRegion r g).touch = s.touch := rfl
@[simp] theorem State.setRegion_pwr (r : Nat) (g : Region) : (s.setRegion r g).pwr = s.pwr := rfl

/-! ### setIcon -/

@[simp] theorem State.setIcon_pending (k : Nat) (i : Icon) : (s.setIcon k i).pending = s.pending := rfl
@[simp] theorem State.setIcon_free (k : Nat) (i : Icon) : (s.setIcon k i).free = s.free := rfl
@[simp] theorem State.setIcon_off (k : Nat) (i : Icon) : (s.setIcon k i).off = s.off := rfl
@[simp] theorem State.setIcon_porst (k : Nat) (i : Icon) : (s.setIcon k i).porst = s.porst := rfl
@[simp] theorem State.setIcon_ticks (k : Nat) (i : Icon) : (s.setIcon k i).ticks = s.ticks := rfl
@[simp] theorem State.setIcon_regs (k : Nat) (i : Icon) : (s.setIcon k i).regs = s.regs := rfl
@[simp] theorem State.setIcon_commitRegs (k : Nat) (i : Icon) : (s.setIcon k i).commitRegs = s.commitRegs := rfl
@[simp] theorem State.setIcon_cw (k : Nat) (i : Icon) : (s.setIcon k i).cw = s.cw := rfl
@[simp] theorem State.setIcon_boot (k : Nat) (i : Icon) : (s.setIcon k i).boot = s.boot := rfl
@[simp] theorem State.setIcon_pres (k : Nat) (i : Icon) : (s.setIcon k i).pres = s.pres := rfl
@[simp] theorem State.setIcon_fuses (k : Nat) (i : Icon) : (s.setIcon k i).fuses = s.fuses := rfl
@[simp] theorem State.setIcon_regions (k : Nat) (i : Icon) : (s.setIcon k i).regions = s.regions := rfl
@[simp] theorem State.setIcon_plate (k : Nat) (i : Icon) : (s.setIcon k i).plate = s.plate := rfl
@[simp] theorem State.setIcon_pba (k : Nat) (i : Icon) : (s.setIcon k i).pba = s.pba := rfl
@[simp] theorem State.setIcon_tile (k : Nat) (i : Icon) : (s.setIcon k i).tile = s.tile := rfl
@[simp] theorem State.setIcon_etch (k : Nat) (i : Icon) : (s.setIcon k i).etch = s.etch := rfl
@[simp] theorem State.setIcon_elastic (k : Nat) (i : Icon) : (s.setIcon k i).elastic = s.elastic := rfl
@[simp] theorem State.setIcon_black (k : Nat) (i : Icon) : (s.setIcon k i).black = s.black := rfl
@[simp] theorem State.setIcon_wbBuf (k : Nat) (i : Icon) : (s.setIcon k i).wbBuf = s.wbBuf := rfl
@[simp] theorem State.setIcon_histBuf (k : Nat) (i : Icon) : (s.setIcon k i).histBuf = s.histBuf := rfl
@[simp] theorem State.setIcon_inputs (k : Nat) (i : Icon) : (s.setIcon k i).inputs = s.inputs := rfl
@[simp] theorem State.setIcon_surfs (k : Nat) (i : Icon) : (s.setIcon k i).surfs = s.surfs := rfl
@[simp] theorem State.setIcon_stampCount (k : Nat) (i : Icon) : (s.setIcon k i).stampCount = s.stampCount := rfl
@[simp] theorem State.setIcon_fences (k : Nat) (i : Icon) : (s.setIcon k i).fences = s.fences := rfl
@[simp] theorem State.setIcon_fenceCount (k : Nat) (i : Icon) : (s.setIcon k i).fenceCount = s.fenceCount := rfl
@[simp] theorem State.setIcon_cancelled (k : Nat) (i : Icon) : (s.setIcon k i).cancelled = s.cancelled := rfl
@[simp] theorem State.setIcon_openCount (k : Nat) (i : Icon) : (s.setIcon k i).openCount = s.openCount := rfl
@[simp] theorem State.setIcon_heads (k : Nat) (i : Icon) : (s.setIcon k i).heads = s.heads := rfl
@[simp] theorem State.setIcon_cal (k : Nat) (i : Icon) : (s.setIcon k i).cal = s.cal := rfl
@[simp] theorem State.setIcon_sense (k : Nat) (i : Icon) : (s.setIcon k i).sense = s.sense := rfl
@[simp] theorem State.setIcon_ttLevel (k : Nat) (i : Icon) : (s.setIcon k i).ttLevel = s.ttLevel := rfl
@[simp] theorem State.setIcon_stages (k : Nat) (i : Icon) : (s.setIcon k i).stages = s.stages := rfl
@[simp] theorem State.setIcon_wb (k : Nat) (i : Icon) : (s.setIcon k i).wb = s.wb := rfl
@[simp] theorem State.setIcon_layerHead (k : Nat) (i : Icon) : (s.setIcon k i).layerHead = s.layerHead := rfl
@[simp] theorem State.setIcon_chains (k : Nat) (i : Icon) : (s.setIcon k i).chains = s.chains := rfl
@[simp] theorem State.setIcon_touch (k : Nat) (i : Icon) : (s.setIcon k i).touch = s.touch := rfl
@[simp] theorem State.setIcon_pwr (k : Nat) (i : Icon) : (s.setIcon k i).pwr = s.pwr := rfl

/-! ### setChain -/

@[simp] theorem State.setChain_pending (c : Nat) (x : ChainState) : (s.setChain c x).pending = s.pending := rfl
@[simp] theorem State.setChain_free (c : Nat) (x : ChainState) : (s.setChain c x).free = s.free := rfl
@[simp] theorem State.setChain_off (c : Nat) (x : ChainState) : (s.setChain c x).off = s.off := rfl
@[simp] theorem State.setChain_porst (c : Nat) (x : ChainState) : (s.setChain c x).porst = s.porst := rfl
@[simp] theorem State.setChain_ticks (c : Nat) (x : ChainState) : (s.setChain c x).ticks = s.ticks := rfl
@[simp] theorem State.setChain_regs (c : Nat) (x : ChainState) : (s.setChain c x).regs = s.regs := rfl
@[simp] theorem State.setChain_commitRegs (c : Nat) (x : ChainState) : (s.setChain c x).commitRegs = s.commitRegs := rfl
@[simp] theorem State.setChain_cw (c : Nat) (x : ChainState) : (s.setChain c x).cw = s.cw := rfl
@[simp] theorem State.setChain_boot (c : Nat) (x : ChainState) : (s.setChain c x).boot = s.boot := rfl
@[simp] theorem State.setChain_pres (c : Nat) (x : ChainState) : (s.setChain c x).pres = s.pres := rfl
@[simp] theorem State.setChain_fuses (c : Nat) (x : ChainState) : (s.setChain c x).fuses = s.fuses := rfl
@[simp] theorem State.setChain_regions (c : Nat) (x : ChainState) : (s.setChain c x).regions = s.regions := rfl
@[simp] theorem State.setChain_plate (c : Nat) (x : ChainState) : (s.setChain c x).plate = s.plate := rfl
@[simp] theorem State.setChain_pba (c : Nat) (x : ChainState) : (s.setChain c x).pba = s.pba := rfl
@[simp] theorem State.setChain_tile (c : Nat) (x : ChainState) : (s.setChain c x).tile = s.tile := rfl
@[simp] theorem State.setChain_etch (c : Nat) (x : ChainState) : (s.setChain c x).etch = s.etch := rfl
@[simp] theorem State.setChain_elastic (c : Nat) (x : ChainState) : (s.setChain c x).elastic = s.elastic := rfl
@[simp] theorem State.setChain_black (c : Nat) (x : ChainState) : (s.setChain c x).black = s.black := rfl
@[simp] theorem State.setChain_wbBuf (c : Nat) (x : ChainState) : (s.setChain c x).wbBuf = s.wbBuf := rfl
@[simp] theorem State.setChain_histBuf (c : Nat) (x : ChainState) : (s.setChain c x).histBuf = s.histBuf := rfl
@[simp] theorem State.setChain_inputs (c : Nat) (x : ChainState) : (s.setChain c x).inputs = s.inputs := rfl
@[simp] theorem State.setChain_surfs (c : Nat) (x : ChainState) : (s.setChain c x).surfs = s.surfs := rfl
@[simp] theorem State.setChain_stampCount (c : Nat) (x : ChainState) : (s.setChain c x).stampCount = s.stampCount := rfl
@[simp] theorem State.setChain_fences (c : Nat) (x : ChainState) : (s.setChain c x).fences = s.fences := rfl
@[simp] theorem State.setChain_fenceCount (c : Nat) (x : ChainState) : (s.setChain c x).fenceCount = s.fenceCount := rfl
@[simp] theorem State.setChain_cancelled (c : Nat) (x : ChainState) : (s.setChain c x).cancelled = s.cancelled := rfl
@[simp] theorem State.setChain_openCount (c : Nat) (x : ChainState) : (s.setChain c x).openCount = s.openCount := rfl
@[simp] theorem State.setChain_heads (c : Nat) (x : ChainState) : (s.setChain c x).heads = s.heads := rfl
@[simp] theorem State.setChain_cal (c : Nat) (x : ChainState) : (s.setChain c x).cal = s.cal := rfl
@[simp] theorem State.setChain_sense (c : Nat) (x : ChainState) : (s.setChain c x).sense = s.sense := rfl
@[simp] theorem State.setChain_icons (c : Nat) (x : ChainState) : (s.setChain c x).icons = s.icons := rfl
@[simp] theorem State.setChain_ttLevel (c : Nat) (x : ChainState) : (s.setChain c x).ttLevel = s.ttLevel := rfl
@[simp] theorem State.setChain_stages (c : Nat) (x : ChainState) : (s.setChain c x).stages = s.stages := rfl
@[simp] theorem State.setChain_wb (c : Nat) (x : ChainState) : (s.setChain c x).wb = s.wb := rfl
@[simp] theorem State.setChain_layerHead (c : Nat) (x : ChainState) : (s.setChain c x).layerHead = s.layerHead := rfl
@[simp] theorem State.setChain_touch (c : Nat) (x : ChainState) : (s.setChain c x).touch = s.touch := rfl
@[simp] theorem State.setChain_pwr (c : Nat) (x : ChainState) : (s.setChain c x).pwr = s.pwr := rfl

/-! ### setTouch -/

@[simp] theorem State.setTouch_pending (h : Nat) (x : TouchState) : (s.setTouch h x).pending = s.pending := rfl
@[simp] theorem State.setTouch_free (h : Nat) (x : TouchState) : (s.setTouch h x).free = s.free := rfl
@[simp] theorem State.setTouch_off (h : Nat) (x : TouchState) : (s.setTouch h x).off = s.off := rfl
@[simp] theorem State.setTouch_porst (h : Nat) (x : TouchState) : (s.setTouch h x).porst = s.porst := rfl
@[simp] theorem State.setTouch_ticks (h : Nat) (x : TouchState) : (s.setTouch h x).ticks = s.ticks := rfl
@[simp] theorem State.setTouch_regs (h : Nat) (x : TouchState) : (s.setTouch h x).regs = s.regs := rfl
@[simp] theorem State.setTouch_commitRegs (h : Nat) (x : TouchState) : (s.setTouch h x).commitRegs = s.commitRegs := rfl
@[simp] theorem State.setTouch_cw (h : Nat) (x : TouchState) : (s.setTouch h x).cw = s.cw := rfl
@[simp] theorem State.setTouch_boot (h : Nat) (x : TouchState) : (s.setTouch h x).boot = s.boot := rfl
@[simp] theorem State.setTouch_pres (h : Nat) (x : TouchState) : (s.setTouch h x).pres = s.pres := rfl
@[simp] theorem State.setTouch_fuses (h : Nat) (x : TouchState) : (s.setTouch h x).fuses = s.fuses := rfl
@[simp] theorem State.setTouch_regions (h : Nat) (x : TouchState) : (s.setTouch h x).regions = s.regions := rfl
@[simp] theorem State.setTouch_plate (h : Nat) (x : TouchState) : (s.setTouch h x).plate = s.plate := rfl
@[simp] theorem State.setTouch_pba (h : Nat) (x : TouchState) : (s.setTouch h x).pba = s.pba := rfl
@[simp] theorem State.setTouch_tile (h : Nat) (x : TouchState) : (s.setTouch h x).tile = s.tile := rfl
@[simp] theorem State.setTouch_etch (h : Nat) (x : TouchState) : (s.setTouch h x).etch = s.etch := rfl
@[simp] theorem State.setTouch_elastic (h : Nat) (x : TouchState) : (s.setTouch h x).elastic = s.elastic := rfl
@[simp] theorem State.setTouch_black (h : Nat) (x : TouchState) : (s.setTouch h x).black = s.black := rfl
@[simp] theorem State.setTouch_wbBuf (h : Nat) (x : TouchState) : (s.setTouch h x).wbBuf = s.wbBuf := rfl
@[simp] theorem State.setTouch_histBuf (h : Nat) (x : TouchState) : (s.setTouch h x).histBuf = s.histBuf := rfl
@[simp] theorem State.setTouch_inputs (h : Nat) (x : TouchState) : (s.setTouch h x).inputs = s.inputs := rfl
@[simp] theorem State.setTouch_surfs (h : Nat) (x : TouchState) : (s.setTouch h x).surfs = s.surfs := rfl
@[simp] theorem State.setTouch_stampCount (h : Nat) (x : TouchState) : (s.setTouch h x).stampCount = s.stampCount := rfl
@[simp] theorem State.setTouch_fences (h : Nat) (x : TouchState) : (s.setTouch h x).fences = s.fences := rfl
@[simp] theorem State.setTouch_fenceCount (h : Nat) (x : TouchState) : (s.setTouch h x).fenceCount = s.fenceCount := rfl
@[simp] theorem State.setTouch_cancelled (h : Nat) (x : TouchState) : (s.setTouch h x).cancelled = s.cancelled := rfl
@[simp] theorem State.setTouch_openCount (h : Nat) (x : TouchState) : (s.setTouch h x).openCount = s.openCount := rfl
@[simp] theorem State.setTouch_heads (h : Nat) (x : TouchState) : (s.setTouch h x).heads = s.heads := rfl
@[simp] theorem State.setTouch_cal (h : Nat) (x : TouchState) : (s.setTouch h x).cal = s.cal := rfl
@[simp] theorem State.setTouch_sense (h : Nat) (x : TouchState) : (s.setTouch h x).sense = s.sense := rfl
@[simp] theorem State.setTouch_icons (h : Nat) (x : TouchState) : (s.setTouch h x).icons = s.icons := rfl
@[simp] theorem State.setTouch_ttLevel (h : Nat) (x : TouchState) : (s.setTouch h x).ttLevel = s.ttLevel := rfl
@[simp] theorem State.setTouch_stages (h : Nat) (x : TouchState) : (s.setTouch h x).stages = s.stages := rfl
@[simp] theorem State.setTouch_wb (h : Nat) (x : TouchState) : (s.setTouch h x).wb = s.wb := rfl
@[simp] theorem State.setTouch_layerHead (h : Nat) (x : TouchState) : (s.setTouch h x).layerHead = s.layerHead := rfl
@[simp] theorem State.setTouch_chains (h : Nat) (x : TouchState) : (s.setTouch h x).chains = s.chains := rfl
@[simp] theorem State.setTouch_pwr (h : Nat) (x : TouchState) : (s.setTouch h x).pwr = s.pwr := rfl

/-! ### setPwr -/

@[simp] theorem State.setPwr_pending (p : PowerState) : (s.setPwr p).pending = s.pending := rfl
@[simp] theorem State.setPwr_free (p : PowerState) : (s.setPwr p).free = s.free := rfl
@[simp] theorem State.setPwr_off (p : PowerState) : (s.setPwr p).off = s.off := rfl
@[simp] theorem State.setPwr_porst (p : PowerState) : (s.setPwr p).porst = s.porst := rfl
@[simp] theorem State.setPwr_ticks (p : PowerState) : (s.setPwr p).ticks = s.ticks := rfl
@[simp] theorem State.setPwr_regs (p : PowerState) : (s.setPwr p).regs = s.regs := rfl
@[simp] theorem State.setPwr_commitRegs (p : PowerState) : (s.setPwr p).commitRegs = s.commitRegs := rfl
@[simp] theorem State.setPwr_cw (p : PowerState) : (s.setPwr p).cw = s.cw := rfl
@[simp] theorem State.setPwr_boot (p : PowerState) : (s.setPwr p).boot = s.boot := rfl
@[simp] theorem State.setPwr_pres (p : PowerState) : (s.setPwr p).pres = s.pres := rfl
@[simp] theorem State.setPwr_fuses (p : PowerState) : (s.setPwr p).fuses = s.fuses := rfl
@[simp] theorem State.setPwr_regions (p : PowerState) : (s.setPwr p).regions = s.regions := rfl
@[simp] theorem State.setPwr_plate (p : PowerState) : (s.setPwr p).plate = s.plate := rfl
@[simp] theorem State.setPwr_pba (p : PowerState) : (s.setPwr p).pba = s.pba := rfl
@[simp] theorem State.setPwr_tile (p : PowerState) : (s.setPwr p).tile = s.tile := rfl
@[simp] theorem State.setPwr_etch (p : PowerState) : (s.setPwr p).etch = s.etch := rfl
@[simp] theorem State.setPwr_elastic (p : PowerState) : (s.setPwr p).elastic = s.elastic := rfl
@[simp] theorem State.setPwr_black (p : PowerState) : (s.setPwr p).black = s.black := rfl
@[simp] theorem State.setPwr_wbBuf (p : PowerState) : (s.setPwr p).wbBuf = s.wbBuf := rfl
@[simp] theorem State.setPwr_histBuf (p : PowerState) : (s.setPwr p).histBuf = s.histBuf := rfl
@[simp] theorem State.setPwr_inputs (p : PowerState) : (s.setPwr p).inputs = s.inputs := rfl
@[simp] theorem State.setPwr_surfs (p : PowerState) : (s.setPwr p).surfs = s.surfs := rfl
@[simp] theorem State.setPwr_stampCount (p : PowerState) : (s.setPwr p).stampCount = s.stampCount := rfl
@[simp] theorem State.setPwr_fences (p : PowerState) : (s.setPwr p).fences = s.fences := rfl
@[simp] theorem State.setPwr_fenceCount (p : PowerState) : (s.setPwr p).fenceCount = s.fenceCount := rfl
@[simp] theorem State.setPwr_cancelled (p : PowerState) : (s.setPwr p).cancelled = s.cancelled := rfl
@[simp] theorem State.setPwr_openCount (p : PowerState) : (s.setPwr p).openCount = s.openCount := rfl
@[simp] theorem State.setPwr_heads (p : PowerState) : (s.setPwr p).heads = s.heads := rfl
@[simp] theorem State.setPwr_cal (p : PowerState) : (s.setPwr p).cal = s.cal := rfl
@[simp] theorem State.setPwr_sense (p : PowerState) : (s.setPwr p).sense = s.sense := rfl
@[simp] theorem State.setPwr_icons (p : PowerState) : (s.setPwr p).icons = s.icons := rfl
@[simp] theorem State.setPwr_ttLevel (p : PowerState) : (s.setPwr p).ttLevel = s.ttLevel := rfl
@[simp] theorem State.setPwr_stages (p : PowerState) : (s.setPwr p).stages = s.stages := rfl
@[simp] theorem State.setPwr_wb (p : PowerState) : (s.setPwr p).wb = s.wb := rfl
@[simp] theorem State.setPwr_layerHead (p : PowerState) : (s.setPwr p).layerHead = s.layerHead := rfl
@[simp] theorem State.setPwr_chains (p : PowerState) : (s.setPwr p).chains = s.chains := rfl
@[simp] theorem State.setPwr_touch (p : PowerState) : (s.setPwr p).touch = s.touch := rfl

/-! ### raise, popCmd, ifLive -/

@[simp] theorem State.raise_pending (k : Nat) : (s.raise k).pending = s.pending := by
  unfold State.raise; split <;> rfl
@[simp] theorem State.raise_free (k : Nat) : (s.raise k).free = s.free := by
  unfold State.raise; split <;> rfl
@[simp] theorem State.raise_off (k : Nat) : (s.raise k).off = s.off := by
  unfold State.raise; split <;> rfl
@[simp] theorem State.raise_porst (k : Nat) : (s.raise k).porst = s.porst := by
  unfold State.raise; split <;> rfl
@[simp] theorem State.raise_ticks (k : Nat) : (s.raise k).ticks = s.ticks := by
  unfold State.raise; split <;> rfl
@[simp] theorem State.raise_commitRegs (k : Nat) : (s.raise k).commitRegs = s.commitRegs := by
  unfold State.raise; split <;> rfl
@[simp] theorem State.raise_cw (k : Nat) : (s.raise k).cw = s.cw := by
  unfold State.raise; split <;> rfl
@[simp] theorem State.raise_boot (k : Nat) : (s.raise k).boot = s.boot := by
  unfold State.raise; split <;> rfl
@[simp] theorem State.raise_pres (k : Nat) : (s.raise k).pres = s.pres := by
  unfold State.raise; split <;> rfl
@[simp] theorem State.raise_fuses (k : Nat) : (s.raise k).fuses = s.fuses := by
  unfold State.raise; split <;> rfl
@[simp] theorem State.raise_regions (k : Nat) : (s.raise k).regions = s.regions := by
  unfold State.raise; split <;> rfl
@[simp] theorem State.raise_plate (k : Nat) : (s.raise k).plate = s.plate := by
  unfold State.raise; split <;> rfl
@[simp] theorem State.raise_pba (k : Nat) : (s.raise k).pba = s.pba := by
  unfold State.raise; split <;> rfl
@[simp] theorem State.raise_tile (k : Nat) : (s.raise k).tile = s.tile := by
  unfold State.raise; split <;> rfl
@[simp] theorem State.raise_etch (k : Nat) : (s.raise k).etch = s.etch := by
  unfold State.raise; split <;> rfl
@[simp] theorem State.raise_elastic (k : Nat) : (s.raise k).elastic = s.elastic := by
  unfold State.raise; split <;> rfl
@[simp] theorem State.raise_black (k : Nat) : (s.raise k).black = s.black := by
  unfold State.raise; split <;> rfl
@[simp] theorem State.raise_wbBuf (k : Nat) : (s.raise k).wbBuf = s.wbBuf := by
  unfold State.raise; split <;> rfl
@[simp] theorem State.raise_histBuf (k : Nat) : (s.raise k).histBuf = s.histBuf := by
  unfold State.raise; split <;> rfl
@[simp] theorem State.raise_inputs (k : Nat) : (s.raise k).inputs = s.inputs := by
  unfold State.raise; split <;> rfl
@[simp] theorem State.raise_surfs (k : Nat) : (s.raise k).surfs = s.surfs := by
  unfold State.raise; split <;> rfl
@[simp] theorem State.raise_stampCount (k : Nat) : (s.raise k).stampCount = s.stampCount := by
  unfold State.raise; split <;> rfl
@[simp] theorem State.raise_fences (k : Nat) : (s.raise k).fences = s.fences := by
  unfold State.raise; split <;> rfl
@[simp] theorem State.raise_fenceCount (k : Nat) : (s.raise k).fenceCount = s.fenceCount := by
  unfold State.raise; split <;> rfl
@[simp] theorem State.raise_cancelled (k : Nat) : (s.raise k).cancelled = s.cancelled := by
  unfold State.raise; split <;> rfl
@[simp] theorem State.raise_openCount (k : Nat) : (s.raise k).openCount = s.openCount := by
  unfold State.raise; split <;> rfl
@[simp] theorem State.raise_heads (k : Nat) : (s.raise k).heads = s.heads := by
  unfold State.raise; split <;> rfl
@[simp] theorem State.raise_cal (k : Nat) : (s.raise k).cal = s.cal := by
  unfold State.raise; split <;> rfl
@[simp] theorem State.raise_sense (k : Nat) : (s.raise k).sense = s.sense := by
  unfold State.raise; split <;> rfl
@[simp] theorem State.raise_icons (k : Nat) : (s.raise k).icons = s.icons := by
  unfold State.raise; split <;> rfl
@[simp] theorem State.raise_ttLevel (k : Nat) : (s.raise k).ttLevel = s.ttLevel := by
  unfold State.raise; split <;> rfl
@[simp] theorem State.raise_stages (k : Nat) : (s.raise k).stages = s.stages := by
  unfold State.raise; split <;> rfl
@[simp] theorem State.raise_wb (k : Nat) : (s.raise k).wb = s.wb := by
  unfold State.raise; split <;> rfl
@[simp] theorem State.raise_layerHead (k : Nat) : (s.raise k).layerHead = s.layerHead := by
  unfold State.raise; split <;> rfl
@[simp] theorem State.raise_chains (k : Nat) : (s.raise k).chains = s.chains := by
  unfold State.raise; split <;> rfl
@[simp] theorem State.raise_touch (k : Nat) : (s.raise k).touch = s.touch := by
  unfold State.raise; split <;> rfl
@[simp] theorem State.raise_pwr (k : Nat) : (s.raise k).pwr = s.pwr := by
  unfold State.raise; split <;> rfl
@[simp] theorem State.popCmd_pending : s.popCmd.pending = s.pending := by
  unfold State.popCmd; dsimp only; split <;> simp
@[simp] theorem State.popCmd_free : s.popCmd.free = s.free := by
  unfold State.popCmd; dsimp only; split <;> simp
@[simp] theorem State.popCmd_off : s.popCmd.off = s.off := by
  unfold State.popCmd; dsimp only; split <;> simp
@[simp] theorem State.popCmd_porst : s.popCmd.porst = s.porst := by
  unfold State.popCmd; dsimp only; split <;> simp
@[simp] theorem State.popCmd_ticks : s.popCmd.ticks = s.ticks := by
  unfold State.popCmd; dsimp only; split <;> simp
@[simp] theorem State.popCmd_commitRegs : s.popCmd.commitRegs = s.commitRegs := by
  unfold State.popCmd; dsimp only; split <;> simp
@[simp] theorem State.popCmd_boot : s.popCmd.boot = s.boot := by
  unfold State.popCmd; dsimp only; split <;> simp
@[simp] theorem State.popCmd_pres : s.popCmd.pres = s.pres := by
  unfold State.popCmd; dsimp only; split <;> simp
@[simp] theorem State.popCmd_fuses : s.popCmd.fuses = s.fuses := by
  unfold State.popCmd; dsimp only; split <;> simp
@[simp] theorem State.popCmd_regions : s.popCmd.regions = s.regions := by
  unfold State.popCmd; dsimp only; split <;> simp
@[simp] theorem State.popCmd_plate : s.popCmd.plate = s.plate := by
  unfold State.popCmd; dsimp only; split <;> simp
@[simp] theorem State.popCmd_pba : s.popCmd.pba = s.pba := by
  unfold State.popCmd; dsimp only; split <;> simp
@[simp] theorem State.popCmd_tile : s.popCmd.tile = s.tile := by
  unfold State.popCmd; dsimp only; split <;> simp
@[simp] theorem State.popCmd_etch : s.popCmd.etch = s.etch := by
  unfold State.popCmd; dsimp only; split <;> simp
@[simp] theorem State.popCmd_elastic : s.popCmd.elastic = s.elastic := by
  unfold State.popCmd; dsimp only; split <;> simp
@[simp] theorem State.popCmd_black : s.popCmd.black = s.black := by
  unfold State.popCmd; dsimp only; split <;> simp
@[simp] theorem State.popCmd_wbBuf : s.popCmd.wbBuf = s.wbBuf := by
  unfold State.popCmd; dsimp only; split <;> simp
@[simp] theorem State.popCmd_histBuf : s.popCmd.histBuf = s.histBuf := by
  unfold State.popCmd; dsimp only; split <;> simp
@[simp] theorem State.popCmd_inputs : s.popCmd.inputs = s.inputs := by
  unfold State.popCmd; dsimp only; split <;> simp
@[simp] theorem State.popCmd_surfs : s.popCmd.surfs = s.surfs := by
  unfold State.popCmd; dsimp only; split <;> simp
@[simp] theorem State.popCmd_stampCount : s.popCmd.stampCount = s.stampCount := by
  unfold State.popCmd; dsimp only; split <;> simp
@[simp] theorem State.popCmd_fences : s.popCmd.fences = s.fences := by
  unfold State.popCmd; dsimp only; split <;> simp
@[simp] theorem State.popCmd_fenceCount : s.popCmd.fenceCount = s.fenceCount := by
  unfold State.popCmd; dsimp only; split <;> simp
@[simp] theorem State.popCmd_cancelled : s.popCmd.cancelled = s.cancelled := by
  unfold State.popCmd; dsimp only; split <;> simp
@[simp] theorem State.popCmd_openCount : s.popCmd.openCount = s.openCount := by
  unfold State.popCmd; dsimp only; split <;> simp
@[simp] theorem State.popCmd_heads : s.popCmd.heads = s.heads := by
  unfold State.popCmd; dsimp only; split <;> simp
@[simp] theorem State.popCmd_cal : s.popCmd.cal = s.cal := by
  unfold State.popCmd; dsimp only; split <;> simp
@[simp] theorem State.popCmd_sense : s.popCmd.sense = s.sense := by
  unfold State.popCmd; dsimp only; split <;> simp
@[simp] theorem State.popCmd_icons : s.popCmd.icons = s.icons := by
  unfold State.popCmd; dsimp only; split <;> simp
@[simp] theorem State.popCmd_ttLevel : s.popCmd.ttLevel = s.ttLevel := by
  unfold State.popCmd; dsimp only; split <;> simp
@[simp] theorem State.popCmd_stages : s.popCmd.stages = s.stages := by
  unfold State.popCmd; dsimp only; split <;> simp
@[simp] theorem State.popCmd_wb : s.popCmd.wb = s.wb := by
  unfold State.popCmd; dsimp only; split <;> simp
@[simp] theorem State.popCmd_layerHead : s.popCmd.layerHead = s.layerHead := by
  unfold State.popCmd; dsimp only; split <;> simp
@[simp] theorem State.popCmd_chains : s.popCmd.chains = s.chains := by
  unfold State.popCmd; dsimp only; split <;> simp
@[simp] theorem State.popCmd_touch : s.popCmd.touch = s.touch := by
  unfold State.popCmd; dsimp only; split <;> simp
@[simp] theorem State.popCmd_pwr : s.popCmd.pwr = s.pwr := by
  unfold State.popCmd; dsimp only; split <;> simp
@[simp] theorem State.popCmd_cw : s.popCmd.cw = { s.cw with cmdQ := s.cw.cmdQ.tail } := by
  unfold State.popCmd; dsimp only; split <;> simp

end Sys2Proof.Machine
end

