-- ==== Sys2Proof/Laws/Fields.lean ====
section
/-! SUPPORT. Laws of registers and their fields: what a write changes and what it leaves. -/

namespace Sys2Proof.Machine

/-! ### Whole registers -/

theorem State.rd_wr (s : State) (a b : Nat) (w : Word) : (s.wr a w).rd b = if a = b then w else s.rd b :=
  assocGet_set regReset s.regs a b w

@[simp] theorem State.rd_wr_same (s : State) (a : Nat) (w : Word) : (s.wr a w).rd a = w := by simp [State.rd_wr]

theorem State.rd_wr_ne (s : State) (a b : Nat) (w : Word) (h : a ≠ b) : (s.wr a w).rd b = s.rd b := by
  simp [State.rd_wr, h]

theorem State.wr_regs_wf (s : State) (a : Nat) (w : Word) (h : assocWf regReset s.regs = true) :
    assocWf regReset (s.wr a w).regs = true := assocWf_set regReset s.regs a w h

/-! ### Bits of a word -/

theorem testBit_bitsOf (n lo w i : Nat) : (bitsOf n lo w).testBit i = (decide (i < w) && n.testBit (lo + i)) := by
  unfold bitsOf
  rw [Nat.testBit_mod_two_pow, ← Nat.shiftRight_eq_div_pow, Nat.testBit_shiftRight]

theorem testBit_getBits (x : Word) (lo n i : Nat) : (getBits x lo n).testBit i = (decide (i < n) && x.getLsbD (lo + i)) := by
  unfold getBits
  rw [testBit_bitsOf]
  rfl

theorem getLsbD_maskWord (lo n i : Nat) : (maskWord lo n).getLsbD i = (decide (i < 32) && decide (lo ≤ i) && decide (i < lo + n)) := by
  unfold maskWord
  rw [BitVec.getLsbD_ofNat, ← Nat.shiftLeft_eq, Nat.testBit_shiftLeft, Nat.testBit_two_pow_sub_one]
  by_cases h : lo ≤ i
  · have : (i - lo < n) ↔ (i < lo + n) := by omega
    simp [h, this]
  · simp [h]

theorem getLsbD_putBits (x : Word) (lo n v i : Nat) (hi : i < 32) :
    (putBits x lo n v).getLsbD i = if lo ≤ i ∧ i < lo + n then v.testBit (i - lo) else x.getLsbD i := by
  unfold putBits
  rw [BitVec.getLsbD_or, BitVec.getLsbD_and, BitVec.getLsbD_not, getLsbD_maskWord, BitVec.getLsbD_ofNat, ← Nat.shiftLeft_eq,
    Nat.testBit_shiftLeft, Nat.testBit_mod_two_pow]
  by_cases h : lo ≤ i
  · by_cases h2 : i < lo + n
    · have : i - lo < n := by omega
      simp [h, h2, hi, this]
    · have : ¬ i - lo < n := by omega
      simp [h2, hi, this]
  · simp [h, hi]

/-- The field just written, modulo its width. -/
theorem getBits_putBits (x : Word) (lo n v : Nat) (h : lo + n ≤ 32) : getBits (putBits x lo n v) lo n = v % 2 ^ n := by
  apply Nat.eq_of_testBit_eq
  intro i
  rw [testBit_getBits, Nat.testBit_mod_two_pow]
  by_cases hi : i < n
  · have h1 : lo ≤ lo + i ∧ lo + i < lo + n := by omega
    rw [getLsbD_putBits x lo n v (lo + i) (by omega), if_pos h1]
    simp
  · simp [hi]

/-- A field that shares no bit with the one written. -/
theorem getBits_putBits_disjoint (x : Word) (lo n v lo' n' : Nat) (h : lo + n ≤ lo' ∨ lo' + n' ≤ lo) :
    getBits (putBits x lo n v) lo' n' = getBits x lo' n' := by
  apply Nat.eq_of_testBit_eq
  intro i
  rw [testBit_getBits, testBit_getBits]
  by_cases hi : i < n'
  · by_cases h32 : lo' + i < 32
    · rw [getLsbD_putBits x lo n v (lo' + i) h32, if_neg (by omega)]
    · rw [BitVec.getLsbD_of_ge _ _ (by omega), BitVec.getLsbD_of_ge _ _ (by omega)]
  · simp [hi]

/-! ### Fields -/

/-- Two fields that share no bit. -/
def Field.apart (f g : Field) : Prop := f.addr ≠ g.addr ∨ f.lo + f.width ≤ g.lo ∨ g.lo + g.width ≤ f.lo

theorem State.fld_setFld (s : State) (f : Field) (v : Nat) (h : f.lo + f.width ≤ 32) :
    (s.setFld f v).fld f = v % 2 ^ f.width := by
  unfold State.fld State.setFld
  rw [State.rd_wr_same, getBits_putBits _ _ _ _ h]

theorem State.fld_setFld_apart (s : State) (f g : Field) (v : Nat) (h : f.apart g) : (s.setFld f v).fld g = s.fld g := by
  unfold State.fld State.setFld
  rw [State.rd_wr]
  split
  · next he =>
    rcases h with h | h
    · exact absurd he h
    · rw [← he, getBits_putBits_disjoint _ _ _ _ _ _ h]
  · rfl

theorem State.rd_setFld_ne (s : State) (f : Field) (v b : Nat) (h : f.addr ≠ b) : (s.setFld f v).rd b = s.rd b :=
  State.rd_wr_ne s f.addr b _ h

theorem State.setFld_regs_wf (s : State) (f : Field) (v : Nat) (h : assocWf regReset s.regs = true) :
    assocWf regReset (s.setFld f v).regs = true := State.wr_regs_wf s f.addr _ h

/-- raise changes no register but CW_IRQ_STATUS. -/
theorem State.rd_raise_ne (s : State) (k b : Nat) (h : b ≠ 0x30004) : (s.raise k).rd b = s.rd b := by
  unfold State.raise
  split
  · rfl
  · exact State.rd_setFld_ne s _ _ _ (fun he => h he.symm)

theorem State.raise_regs_wf (s : State) (k : Nat) (h : assocWf regReset s.regs = true) :
    assocWf regReset (s.raise k).regs = true := by
  unfold State.raise
  split
  · exact h
  · exact State.setFld_regs_wf s _ _ h

/-- popCmd changes no register but CW_IRQ_STATUS. -/
theorem State.rd_popCmd_ne (s : State) (b : Nat) (h : b ≠ 0x30004) : s.popCmd.rd b = s.rd b := by
  unfold State.popCmd
  dsimp only
  split
  · exact State.rd_raise_ne _ _ _ h
  · rfl

theorem State.fld_popCmd (s : State) (f : Field) (h : f.addr ≠ 0x30004) : s.popCmd.fld f = s.fld f := by
  unfold State.fld
  rw [State.rd_popCmd_ne s f.addr h]

theorem State.bit_popCmd (s : State) (f : Field) (h : f.addr ≠ 0x30004) : s.popCmd.bit f = s.bit f := by
  unfold State.bit
  rw [State.fld_popCmd s f h]

theorem State.popCmd_regs_wf (s : State) (h : assocWf regReset s.regs = true) : assocWf regReset s.popCmd.regs = true := by
  unfold State.popCmd
  dsimp only
  split
  · exact State.raise_regs_wf _ _ h
  · exact h

end Sys2Proof.Machine
end

