-- ==== Sys2Proof/Laws/Commands.lean ====
section
/-! SUPPORT. How a command starts and is judged, said once: what the provers cite instead of unfolding startCmd, judged and
runtimeCmd. -/

namespace Sys2Proof.Machine

/-- A command that starts: it leaves the queue, runs, and its result is finished. -/
theorem startCmd_starts (s : State) (e : CmdEntry) (sel : CmdEntry → Bool) (run : State → CmdEntry → Res)
    (hq : s.cw.cmdQ.head? = some e) (hc : s.canStart = true) (hs : sel e = true) :
    startCmd s sel run = finish e (run s.popCmd e) := by
  unfold startCmd
  cases h : s.cw.cmdQ with
  | nil => rw [h] at hq; cases hq
  | cons x t =>
    rw [h] at hq
    cases hq
    simp [hc, hs]

/-- Otherwise nothing happens. -/
theorem startCmd_stays (s : State) (sel : CmdEntry → Bool) (run : State → CmdEntry → Res)
    (h : ∀ e, s.cw.cmdQ.head? = some e → (s.canStart && sel e) = false) : startCmd s sel run = s := by
  unfold startCmd
  cases hq : s.cw.cmdQ with
  | nil => rfl
  | cons x t =>
    have := h x (by simp [hq])
    simp [this]

/-- Everything startCmd can do. -/
theorem startCmd_cases (s : State) (sel : CmdEntry → Bool) (run : State → CmdEntry → Res) :
    startCmd s sel run = s ∨
      ∃ e t, s.cw.cmdQ = e :: t ∧ s.canStart = true ∧ sel e = true ∧ startCmd s sel run = finish e (run s.popCmd e) := by
  unfold startCmd
  cases hq : s.cw.cmdQ with
  | nil => left; rfl
  | cons x t =>
    by_cases hb : (s.canStart && sel x) = true
    · right
      have hb' := hb
      simp only [Bool.and_eq_true] at hb'
      exact ⟨x, t, rfl, hb'.1, hb'.2, by simp [hb]⟩
    · left; simp [hb]

theorem isOp_of_starts {s : State} {op : Nat} {e : CmdEntry} (h : s.starts op e) : isOp op e = true := by
  obtain ⟨_, h1, h2, _⟩ := h
  simp [isOp, h1, h2]

/-- A well-formed command passes its judgement. -/
theorem judged_ok (s : State) (run : Res) : judged s true [] run = run := rfl

theorem minIndex_eq_none (l : List Nat) : minIndex l = none ↔ l = [] := by
  cases l with
  | nil => simp [minIndex]
  | cons a t =>
    simp only [minIndex, reduceCtorEq, iff_false]
    cases minIndex t <;> simp

/-- One bad word: BAD_PARAM with the lowest index. -/
theorem judged_bad (s : State) (fails : List Nat) (i : Nat) (run : Res) (h : minIndex fails = some i) :
    judged s true fails run = Res.bad s i := by
  simp [judged, badIndex, h]

/-- A command of the runtime that passes every check runs. -/
theorem runtimeCmd_ok (s : State) (ride : Bool) (run : Res) (h : s.runtime = true)
    (hr : s.bit F.PWR_STATE_RIDE = false) : runtimeCmd s true [] [] ride run = run := by
  simp [runtimeCmd, h, hr, judged, badIndex, minIndex]

/-- Before the commit instant such a command is refused. -/
theorem runtimeCmd_early (s : State) (fails : List Nat) (ride : Bool) (run : Res) (h : s.runtime = false) :
    runtimeCmd s true [] fails ride run = Res.refuse s 0 0 0 := by
  simp [runtimeCmd, h, judged, badIndex, minIndex]

/-- R853 and the like: a command that crank ride-through does not permit is refused. -/
theorem runtimeCmd_ride (s : State) (run : Res) (h : s.runtime = true) (hr : s.bit F.PWR_STATE_RIDE = true) :
    runtimeCmd s true [] [] false run = Res.refuse s 0 0 0 := by
  simp [runtimeCmd, h, hr, judged, badIndex, minIndex]

/-- Everything finish can do: a reply at the end of the queue, or the command executing on. -/
theorem finish_done (e : CmdEntry) (s : State) (st : Nat) (p : List Word) : finish e (.done s st p) = s.post e st p := rfl

theorem finish_wait (e : CmdEntry) (s : State) (w : Waiting) :
    finish e (.wait s w) = { s with cw := { s.cw with running := some ⟨e, w⟩ } } := rfl

/-- Leaving the command queue keeps the phase. -/
@[simp] theorem State.phase_popCmd (s : State) : s.popCmd.phase = s.phase :=
  State.fld_popCmd s F.BOOT_STATUS_PHASE (by decide)

@[simp] theorem State.runtime_popCmd (s : State) : s.popCmd.runtime = s.runtime := by
  unfold State.runtime
  rw [State.phase_popCmd]

@[simp] theorem State.ride_popCmd (s : State) : s.popCmd.bit F.PWR_STATE_RIDE = s.bit F.PWR_STATE_RIDE :=
  State.bit_popCmd s F.PWR_STATE_RIDE (by decide)

/-- A starting command has a free reply entry, and none executes. -/
theorem State.canStart_room (s : State) (h : s.canStart = true) : s.cw.running = none ∧ s.cw.replyQ.length < 16 := by
  simp only [State.canStart, Bool.and_eq_true, Option.isNone_iff_eq_none, decide_eq_true_eq] at h
  exact ⟨h.1.1.1.1.1.2, h.1.1.1.1.2⟩

end Sys2Proof.Machine
end

