-- ==== Sys2Proof/Laws/Crc.lean ====
section
/-! SUPPORT. A device tag is eight words. -/

namespace Sys2Proof.Machine

theorem shaRound_length (v : List Word) (kw : Word) : (shaRound v kw).length = v.length := by
  unfold shaRound
  split <;> simp_all

theorem foldl_shaRound_length (l : List Word) : ∀ v : List Word, (l.foldl shaRound v).length = v.length := by
  induction l with
  | nil => intro v; rfl
  | cons a l ih => intro v; simp [ih, shaRound_length]

theorem shaBlock_length (h : List Word) (b : List Byte) : (shaBlock h b).length = h.length := by
  simp [shaBlock, foldl_shaRound_length]

theorem shaBlocks_length (n : Nat) : ∀ (h : List Word) (m : List Byte), (shaBlocks n h m).length = h.length := by
  induction n with
  | zero => intro h m; rfl
  | succ n ih => intro h m; simp [shaBlocks, ih, shaBlock_length]

/-- The tag of a message, as the eight words that PRESENT_TAG carries. -/
theorem deviceTag_words (m : List Byte) : ∃ p : List Word, p.length = 8 ∧ byteString p = deviceTag m :=
  ⟨_, shaBlocks_length _ _ _, rfl⟩

end Sys2Proof.Machine
end

