-- ==== Sys2Proof/WellFormed.lean ====
section
/-! DEFINITION. Which operands of a command the outside world can give. The meanings are total and do not depend on it. -/

namespace Sys2Proof

/-- The largest component of each of a pixel's three (R427, Table 10-2). -/
def PixFmt.maxima : PixFmt → Nat × Nat × Nat
  | .rgb565 => (31, 63, 31)
  | .rgb666 => (63, 63, 63)
  | .rgb888 => (255, 255, 255)
  | .rgb101010 => (1023, 1023, 1023)
  | .ycc422 => (255, 255, 255)

/-- Every pixel's components fit the line's format. -/
def pixFit (f : PixFmt) (px : List Pix) : Bool :=
  px.all (fun p => decide (p.r ≤ f.maxima.1) && decide (p.g ≤ f.maxima.2.1) && decide (p.b ≤ f.maxima.2.2))

/-- R425: six bits of each component on pairs 0 to 2, two on pair 3 and two on pair 4. -/
def LvdsClk.fits (c : LvdsClk) : Bool :=
  [c.base.r, c.base.g, c.base.b].all (· < 64) && [c.p3.r, c.p3.g, c.p3.b, c.p4.r, c.p4.g, c.p4.b].all (· < 4)

def LineIn.fits : LineIn → Bool
  | .dsi f packets => packets.all (pixFit f)
  | .lvds l0 l1 _ => l0.all LvdsClk.fits && l1.all LvdsClk.fits

/-- R286: a request names bytes of one Plate word of the 32 MiB; a read names a whole word. -/
def ReqBody.fits : ReqBody → Bool
  | .read a => decide (a < 0x2000000) && a % 32 == 0
  | .write a d => decide (a < 0x2000000) && decide (1 ≤ d.length) && decide (a % 32 + d.length ≤ 32)
  | .drain => true
  | .window => false
  | .copy _ => false

/-- R326, R327: four Plate repair words, six words of Tile RAM repair codes, one bit per RAM. -/
def BootFinds.fits (b : BootFinds) : Bool := b.plateRepair.length == 4 && b.tileRepair.length == 6

/-- The checks, one per constructor whose operands are wider than what can arrive. -/
def Instr.wellFormed : Instr → Bool
  | .powerOnReset _ b => b.fits
  | .wakeNColdBoot _ b => b.fits
  | .porstNLowPulse long cut => long || cut.isNone
  | .svcDebounceChange l => l.length == 20
  | .loadBegin r => r.length == 6
  | .commitInstant r => r.length == 6
  | .scribeGatedWrite a _ => a % 4 == 0 && decide (a < 0x100000000)
  | .scribeDmaWrite t _ d _ _ => decide (1 ≤ t.val) && !d.isEmpty
  | .plateRequest _ r => r.fits
  | .plateAccess w m => w % 32 == 0 && decide (w < 0x2000000) && decide (m / 2 ^ 256 < 2 ^ 10)
  | .etchRead w m => w % 8 == 0 && decide (w < 0x400000) && decide (m < 2 ^ 72)
  | .inputLine _ _ l => l.fits
  | .vc1Line _ f packets => packets.all (pixFit f)
  | .systemTick rx => decide (rx.length ≤ 4)
  | .writeMemoryStart _ px => pixFit .rgb888 px
  | .writeMemoryContinue _ px => pixFit .rgb888 px
  | .dsiPacket _ lanes _ _ => decide (1 ≤ lanes.length) && decide (lanes.length ≤ 4)
  | .linePeriod _ _ ups => ups.all (fun u => decide (u.2.2.1 < 4097))
  | .calRunDone l => decide (l.length ≤ 165)
  | _ => true

end Sys2Proof
end

