-- ==== Sys2Proof/Tests/Slice0.lean ====
section
/-! SUPPORT. Tests: ill-formed operands that WellFormed refuses; values of the manual's worked examples and tables; for every
statement with hypotheses, states and operands that meet them. -/

namespace Sys2Proof.Tests
open Sys2Proof Sys2Proof.Machine

section
set_option Elab.async false

/-! ### Helpers -/

/-- A queued command with opcode `op`, TAG 7 and parameter words `p`. -/
def cmd (op : Nat) (p : List Word) : CmdEntry := ⟨BitVec.ofNat 8 op, 7, p, true, 0⟩
/-- Set fields one after the other. -/
def tset (s : State) (l : List (Field × Nat)) : State := l.foldl (fun s f => s.setFld f.1 f.2) s
/-- PWR_PD of the 24 domains ON, the PBA running and both Plate halves ready, beside BOOT_STATUS `b`. -/
def running (b : List (Nat × Word)) : State :=
  { State.reset with
    regs := (List.range 24).map (fun n => (0x10104 + 4 * n, (0x20000000 : Word))) ++ b ++ [(0x40000, 0x80004C60), (0x200000, 0x18000000)] }
/-- Phase IDLE with every domain ON, both halves of the Plate ready and the PBA running. -/
def idle : State := running []
/-- The same in phase RUNNING. -/
def live : State := running [(0x20000, 0x50000000)]
/-- `s` with the one command `e` waiting in its Command Window. -/
def qd (s : State) (e : CmdEntry) : State := { s with cw := { s.cw with cmdQ := [e] } }
def upCw (s : State) (f : CwState → CwState) : State := { s with cw := f s.cw }
def upBoot (s : State) (f : BootState → BootState) : State := { s with boot := f s.boot }
def upPres (s : State) (f : PresState → PresState) : State := { s with pres := f s.pres }
def upPlate (s : State) (f : PlateState → PlateState) : State := { s with plate := f s.plate }
def upEtch (s : State) (f : EtchState → EtchState) : State := { s with etch := f s.etch }
def upCal (s : State) (f : CalState → CalState) : State := { s with cal := f s.cal }
def upPwr (s : State) (f : PowerState → PowerState) : State := { s with pwr := f s.pwr }
def upIn (s : State) (i : Nat) (f : InputState → InputState) : State := s.setInput i (f (s.input i))
def upHead (s : State) (h : Nat) (f : HeadState → HeadState) : State := s.setHead h (f (s.head h))
def upFr (s : State) (h : Nat) (f : FrameState → FrameState) : State := upHead s h (fun x => { x with fr := f x.fr })
def upChain (s : State) (c : Nat) (f : ChainState → ChainState) : State := s.setChain c (f (s.chain c))
def upTouch (s : State) (h : Nat) (f : TouchState → TouchState) : State := s.setTouch h (f (s.touchOf h))
def upIcon (s : State) (k : Nat) (f : Icon → Icon) : State := s.setIcon k (f (s.icon k))
def at_ (s : State) (t : Nat) : State := { s with ticks := t }
/-- `n` NOPs wait. -/
def cwq (n : Nat) : State := upCw live (fun w => { w with cmdQ := List.replicate n (cmd 0 []) })
def rp : Reply := ⟨7, 0, [], none⟩
/-- An open region of 4 bytes. -/
def open4 : Region := ⟨1, 0, 0, 0, 1, 1, 0, 4, 0, 0, 0⟩
/-- An image header of one segment, by Table 3-1. -/
def hdr (target len : Nat) : List Byte :=
  let h := leBytes 4 0xD7A89840 ++ [3, 0, 1, 0] ++ leBytes 4 0x10002 ++ leBytes 4 0 ++ leBytes 4 0x10000000 ++ leBytes 4 len ++
    leBytes 2 0x9840 ++ [0xC0, 0, 0, 0, 0, 0] ++ leBytes 4 target ++ leBytes 4 0 ++ leBytes 4 len ++ List.replicate 208 0
  h ++ leBytes 4 (crc32c h)
/-- The ROM profile 0 applied to head A. -/
def paneled (s : State) : State := (List.range 32).foldl (fun s k => s.wr (0x80200 + 4 * k) ((romProfile 0).getD k 0)) s
/-- A surface of 64 by 2 pixels in format 0 with `n` buffers. -/
def surf (s : State) (k n : Nat) : State :=
  tset s [(F.SURF_SIZE_WIDTH k, 64), (F.SURF_SIZE_HEIGHT k, 2), (F.SURF_FMT_NBUF k, n), (F.SURF_FMT_PITCH32 k, 8),
    (F.SURF_BASE_BASE k 1, 0x1000), (F.SURF_BASE_BASE k 2, 0x2000)]
/-- A host eye scan and a near-end loopback. -/
def scan : DiagRun := ⟨false, false, 0, 0, 6, 1, 1, 20, [], false, false, 0, 0, 0, 0, none, 0, 0, 0, 0⟩
def loop : DiagRun := { scan with loop := true, target := 100 }
/-- The Etch contents after an update of record `type` in slot `k`. -/
def recorded (m : List Host.Cell) (type k old seq : Nat) (d : List Byte) : List Host.Cell :=
  (updateWords type k old seq 0 d).foldl (fun m w => memPut m w.addr (leBytes 8 w.val)) m
def tafeCfg : List Word := [0x80000000, 0x80000000, 0, 0, 0, 0, 0, 0, 0, 0]
def scanSet : ScanSet := ⟨5, 0, tafeCfg, [], []⟩

/-- Phase AWAIT_TAG, with PRESENT_TAG and its eight words waiting. -/
def tagged (p : List Word) : State :=
  { State.reset with regs := [(0x20000, 0x30000000)], cw := { CwState.reset with cmdQ := [⟨0x13, 7, p, true, 0⟩] } }
theorem tagged_phase (p : List Word) : (tagged p).phase = 3 := by
  have h : (tagged p).phase = (tagged []).phase := rfl
  rw [h]
  decide +kernel
theorem tagged_starts (p : List Word) : (tagged p).starts 0x13 ⟨0x13, 7, p, true, 0⟩ := by
  have h : (tagged p).canStart = (tagged []).canStart := rfl
  exact ⟨rfl, rfl, rfl, by rw [h]; decide +kernel⟩
theorem succBelow {P : Nat → Prop} {n : Nat} (h : ∀ i, i < n → i + 1 < n → P i) : ∀ i, i + 1 < n → P i :=
  fun i hi => h i (by omega) hi
/-- The clocks of a host that sends bytes `l` in single width. -/
def tx (l : List Byte) : List CwClock := clocksOf false l
/-- `l` with its CRC-16. -/
def crcd (l : List Byte) : List Byte := l ++ beBytes 2 (crc16 l)
/-- A return packet of station `src` (R648). -/
def pkt (src type : Nat) (d : List Byte) : List Byte := crcd ([BitVec.ofNat 8 src, BitVec.ofNat 8 type] ++ beBytes 2 d.length ++ d)
def finds : BootFinds := ⟨17, [0, 0, 0, 0], [0, 0, 0, 0, 0, 0], 200⟩
theorem noCopy {l : List ReqBody} (h : l = []) : ∀ num r, l ≠ .copy num :: r := by subst h; nofun
theorem upTo20 {P : Nat → Prop} (h : ∀ k, k < 21 → 1 ≤ k → P k) : ∀ k, 1 ≤ k → k ≤ 20 → P k := fun k h1 h2 => h k (by omega) h1
/-- The next state of an outcome. -/
def nxt (o : Host.Outcome State Fault Refusal) : State := match o with | .next t => t | _ => State.reset
def isNext (o : Host.Outcome State Fault Refusal) : Bool := match o with | .next _ => true | _ => false
theorem nxt_eq (o : Host.Outcome State Fault Refusal) (h : isNext o = true) : o = .next (nxt o) := by cases o <;> simp_all [isNext, nxt]

/-! ### Ill-formed operands, one for each check of WellFormed -/

theorem test_wf_boot : (Instr.powerOnReset 0 finds).wellFormed = true ∧
    (Instr.powerOnReset 0 { finds with plateRepair := [0] }).wellFormed = false ∧
    (Instr.wakeNColdBoot 0 { finds with tileRepair := [] }).wellFormed = false := by decide
theorem test_wf_load : (Instr.loadBegin [0, 0, 0]).wellFormed = false ∧ (Instr.commitInstant []).wellFormed = false := by decide
theorem test_wf_porst : (Instr.porstNLowPulse false (some true)).wellFormed = false := by decide
theorem test_wf_svc : (Instr.svcDebounceChange []).wellFormed = false := by decide
theorem test_wf_tick : (Instr.systemTick (List.replicate 5 ⟨true, 0⟩)).wellFormed = false := by decide
theorem test_wf_gated : (Instr.scribeGatedWrite 2 0).wellFormed = false ∧
    (Instr.scribeGatedWrite 0x100000000 0).wellFormed = false := by decide
theorem test_wf_dma : (Instr.scribeDmaWrite 0 0 [1] none none).wellFormed = false ∧
    (Instr.scribeDmaWrite 1 0 [] none none).wellFormed = false := by decide
theorem test_wf_request : (Instr.plateRequest 0 (.read 16)).wellFormed = false ∧
    (Instr.plateRequest 0 (.read 0x2000000)).wellFormed = false ∧ (Instr.plateRequest 0 (.write 0 [])).wellFormed = false ∧
    (Instr.plateRequest 0 (.write 31 [1, 2])).wellFormed = false ∧ (Instr.plateRequest 0 .window).wellFormed = false ∧
    (Instr.plateRequest 0 (.copy 1)).wellFormed = false := by decide
theorem test_wf_upset : (Instr.plateAccess 16 0).wellFormed = false ∧ (Instr.plateAccess 0 (2 ^ 133 * 2 ^ 133)).wellFormed = false ∧
    (Instr.etchRead 4 0).wellFormed = false ∧ (Instr.etchRead 0x400000 0).wellFormed = false ∧
    (Instr.etchRead 0 (2 ^ 72)).wellFormed = false := by decide
theorem test_wf_pixels : (Instr.vc1Line 0 .rgb565 [[⟨32, 0, 0⟩]]).wellFormed = false ∧
    (Instr.writeMemoryStart 0 [⟨0, 256, 0⟩]).wellFormed = false ∧
    (Instr.writeMemoryContinue 0 [⟨0, 0, 256⟩]).wellFormed = false ∧
    (Instr.inputLine 0 true (.dsi .rgb666 [[⟨0, 64, 0⟩]])).wellFormed = false ∧
    (Instr.inputLine 2 false (.lvds [⟨⟨0, 64, 0⟩, ⟨0, 0, 0⟩, ⟨0, 0, 0⟩⟩] [] 0)).wellFormed = false ∧
    (Instr.inputLine 2 false (.lvds [⟨⟨0, 0, 0⟩, ⟨0, 4, 0⟩, ⟨0, 0, 0⟩⟩] [] 0)).wellFormed = false := by decide
theorem test_wf_packet : (Instr.dsiPacket 0 [] .clean true).wellFormed = false ∧
    (Instr.dsiPacket 0 [[], [], [], [], []] .clean true).wellFormed = false := by decide
theorem test_wf_line : (Instr.linePeriod 0 [] [(0, 0, 4097, 0)]).wellFormed = false := by decide
theorem test_wf_cal : (Instr.calRunDone (List.replicate 166 (0, 0))).wellFormed = false := by decide +kernel

/-! ### The manual's own numbers -/

/-- R215: the CRC of "123456789", and the empty-reply marker's. -/
theorem test_crc16 : crc16 [0x31, 0x32, 0x33, 0x34, 0x35, 0x36, 0x37, 0x38, 0x39] = 0x29B1 ∧ crc16 [0, 0xFF, 0, 0] = 0x4BA3 := by
  decide +kernel
/-- The check value of CRC-32C that its publications give. -/
theorem test_crc32c : crc32c [0x31, 0x32, 0x33, 0x34, 0x35, 0x36, 0x37, 0x38, 0x39] = 0xE3069283 := by decide +kernel
/-- FIPS 180-4's example "abc": the first word of the digest. -/
theorem test_sha256 : (sha256 [0x61, 0x62, 0x63]).take 4 = [0xBA, 0x78, 0x16, 0xBF] := by decide +kernel
/-- RFC 4231 case 2: HMAC-SHA-256 under the key "Jefe". -/
theorem test_hmac : (hmacSha256 [0x4A, 0x65, 0x66, 0x65] ("what do ya want for nothing?".toUTF8.toList.map (BitVec.ofNat 8 ·.toNat))).take 4 =
    [0x5B, 0xDC, 0xC1, 0x46] := by decide +kernel
/-- Chapter 5, "a NOP round trip": the transaction 01 00 07 00 00 01 50 is queued and SEQ becomes 5. -/
theorem test_nop_queued :
    let s := nxt (execCommand (tx [1, 0, 7, 0, 0, 1, 0x50]) (upCw live (fun w => { w with seq := 4 })))
    s.cw.cmdQ.length = 1 ∧ s.cw.seq = 5 := by decide +kernel
/-- The same: the reply that the runtime posts. -/
theorem test_nop_reply : (nxt (execNop (qd live (cmd 0 [])))).cw.replyQ.map replyBytes = [[7, 0, 0, 0, 0xD5, 0xED]] := by decide +kernel
/-- The same: the snapshot 0x900D_FF05. -/
theorem test_snapshot : (tset (upCw live (fun w => { w with seq := 5, replyQ := [rp] })) [(F.CW_IRQ_ENABLE_EN, 1)]).snapshot = 0x900DFF05 := by
  decide +kernel
/-- Chapter 7, "a pixel of the reference cluster's main surface". -/
theorem test_plateBank : plateBank 0x4337A0 = 23 := by decide
/-- Chapter 8, "storing the +25 °C calibration set": the slots, and the words of each step. -/
theorem test_calSlot : slotAddr 0x1002 0 = (0x48000, 0x2000) ∧ slotAddr 0x1002 1 = (0x4A000, 0x2000) ∧
    (updateWords 0x1002 0 1 43 0 (List.replicate 24 0)).length = 11 := by decide +kernel
/-- Chapter 11, "one pixel of the reference cluster's main display". -/
theorem test_blend : unpackColour 0 0x80FF4000 = ⟨4095, 1028, 0, 128⟩ ∧ blend1 false 255 128 65535 1032 = 33410 ∧
    blend1 false 255 128 4129 1032 = 2587 ∧ blend1 false 255 128 0 1032 = 514 := by decide
/-- Chapter 13, "a cold morning". -/
theorem test_overdrive : bracket (-176) = (0, 1, 154) ∧ histPitch 1920 = 2880 ∧ coldDrive 3893 3072 128 = 3483 := by decide
/-- Chapter 15, "accepting chain C0": the selector 0x6480, N = 225, and index 112 the centre. -/
theorem test_eye : (upChain (tset live [(F.LINK_STATUS_STATIONS 0, 5)]) 0 (fun x => { x with cfg0 := 0x80000000 })).eyeSelectorOk 0 0x6480 = true ∧ eyePoints 8 8 = 225 ∧
    eyePoint 8 8 112 = (0, 0) := by decide +kernel
/-- Chapter 17, "a hot afternoon": entries 0 and 81. -/
theorem test_taps : bracket 328 = (2, 3, 117) ∧ interpolate [none, none, some [37, 14], some [41, 19], none] 328 = [39, 16] := by decide
/-- The same: VSENSE at code 1,787. -/
theorem test_vsense : State.reset.scaled 0 (16 * 1787) = 11998 := by decide +kernel
/-- R627: D.0.0 and K28.5 at negative running disparity, as IEEE 802.3 lists them. -/
theorem test_8b10b : bitsValue (codeGroup false false 0).1 = 0x274 ∧ (codeGroup false false 0).2 = false ∧
    bitsValue (codeGroup false true 0xBC).1 = 0xFA ∧ (codeGroup false true 0xBC).2 = true := by decide
/-- R624, R625, Table 14-1: the header 10 of a control block is index 3, the level +3. -/
theorem test_gray : grayIndices (headerBits idleBlock) = [3] ∧ levelOf 3 = 3 := by decide
/-- R633: a descrambler in the transmitter's state recovers the bits. -/
theorem test_scramble : descramble (List.replicate 31 true) (scramble (List.replicate 31 true) (bitList 16 0xB5C0)).1 = bitList 16 0xB5C0 := by
  decide
/-- R716: a checker that has taken in block 0 of its own pattern finds no error in block 1. -/
theorem test_pattern :
    let w := fun i => BitVec.ofNat 64 (bitsValue ((patternBits 0 (64 * i + 64)).drop (64 * i)))
    let k := checkPattern 0 (checkPattern 0 none (w 0)).2.2 (w 1)
    k.1 = 0 ∧ k.2.1 = 0 := by decide +kernel

/-! ### Witnesses -/

theorem wit_StepRunsFront :
    (∃ (s : State) (c : Instr) (rest : List Instr), s.pending = c :: rest) ∧
    (∃ (s : State), s.pending = []) :=
  ⟨⟨{ live with pending := [.nop] }, .nop, [], by decide +kernel⟩,
    ⟨live, by decide +kernel⟩⟩

theorem wit_StateStaysCanonical :
    (∃ (s : State) (t : State), s.canonical = true ∧ step s = .next t) :=
    ⟨{ live with pending := [.nop] }, (nxt (step { live with pending := [.nop] })), by decide +kernel,
      nxt_eq _ (by decide +kernel)⟩

theorem wit_QueuesStayBounded :
    (∃ (s : State) (t : State), s.bounded = true ∧ step s = .next t) :=
    ⟨{ live with pending := [.nop] }, (nxt (step { live with pending := [.nop] })), by decide +kernel,
      nxt_eq _ (by decide +kernel)⟩

theorem wit_FusesAreOneWay :
    (∃ (c : Instr) (s : State) (t : State), (∀ v vpp pwr, c ≠ .fuseProgram v vpp pwr) ∧ exec c s = .next t) ∧
    (∃ (v : List Bool) (vpp : Option Nat) (pwr : Option Nat) (s : State) (t : State), s.shadowed = true ∧
      exec (.fuseProgram v vpp pwr) s = .next t) :=
  ⟨⟨.nop, live, (nxt (exec .nop live)), by nofun, nxt_eq _ (by decide +kernel)⟩,
    ⟨[], none, none, live, (nxt (exec (.fuseProgram [] none none) live)), by decide +kernel, nxt_eq _ (by decide +kernel)⟩⟩

theorem wit_OnlyWordWritesChangeEtch :
    (∃ (c : Instr) (s : State) (t : State), (∀ log ok, c ≠ .etchWordWrite log ok) ∧
      (∀ long cut, c ≠ .porstNLowPulse long cut) ∧ exec c s = .next t) :=
    ⟨.nop, live, (nxt (exec .nop live)), by nofun, by nofun, nxt_eq _ (by decide +kernel)⟩

theorem wit_OffIsDead :
    (∃ (c : Instr) (s : State) (t : State), s.off = true ∧ (∀ prof b, c ≠ .powerOnReset prof b) ∧
      (∀ prof b, c ≠ .wakeNColdBoot prof b) ∧ (∀ long cut, c ≠ .porstNLowPulse long cut) ∧ exec c s = .next t) :=
    ⟨.nop, { live with off := true }, (nxt (exec .nop { live with off := true })), by decide +kernel, by nofun, by nofun,
      by nofun, nxt_eq _ (by decide +kernel)⟩

theorem wit_CommandIsJudgedInOrder :
    (∃ (s : State) (t : List CwClock) (b : List Byte) (stray : Bool), s.off = false ∧ s.transaction t = .command b stray ∧
      (let n := beNat ((b.drop 2).take 2); 4 ≤ b.length ∧ 1026 < n)) ∧
    (∃ (s : State) (t : List CwClock) (b : List Byte) (stray : Bool), s.off = false ∧ s.transaction t = .command b stray ∧
      (let n := beNat ((b.drop 2).take 2); n ≤ 1026 ∧ 4 ≤ b.length ∧ stray = true ∧ b.length = 4 + 4 * n + 2)) ∧
    (∃ (s : State) (t : List CwClock) (b : List Byte) (stray : Bool), s.off = false ∧ s.transaction t = .command b stray ∧
      b.length < 4) ∧
    (∃ (s : State) (t : List CwClock) (b : List Byte) (stray : Bool), s.off = false ∧ s.transaction t = .command b stray ∧
      (let n := beNat ((b.drop 2).take 2); n ≤ 1026 ∧ stray = false ∧ b.length = 4 + 4 * n + 2 ∧ 16 ≤ s.cw.cmdQ.length)) ∧
    (∃ (s : State) (t : List CwClock) (b : List Byte) (stray : Bool), s.off = false ∧ s.transaction t = .command b stray ∧
      (let n := beNat ((b.drop 2).take 2); n ≤ 1026 ∧ stray = false ∧ b.length = 4 + 4 * n + 2 ∧ s.cw.cmdQ.length < 16 ∧
        ¬ crc16 (b.take (4 + 4 * n)) = beNat (b.drop (4 + 4 * n)))) ∧
    (∃ (s : State) (t : List CwClock) (b : List Byte) (stray : Bool), s.off = false ∧ s.transaction t = .command b stray ∧
      (let n := beNat ((b.drop 2).take 2); n ≤ 1026 ∧ stray = false ∧ b.length = 4 + 4 * n + 2 ∧ s.cw.cmdQ.length < 16 ∧
        crc16 (b.take (4 + 4 * n)) = beNat (b.drop (4 + 4 * n)))) :=
  ⟨⟨live, tx [1, 0, 0, 4, 3], [0, 0, 4, 3], false, by decide +kernel⟩,
    ⟨live, tx [1, 0, 7, 0, 0, 1, 0x50] ++ [0], [0, 7, 0, 0, 1, 0x50], true, by decide +kernel⟩,
    ⟨live, tx [1, 0, 0, 0], [0, 0, 0], false, by decide +kernel⟩,
    ⟨cwq 16, tx [1, 0, 7, 0, 0, 0, 0], [0, 7, 0, 0, 0, 0], false, by decide +kernel⟩,
    ⟨cwq 15, tx [1, 0, 7, 0, 0, 0, 0], [0, 7, 0, 0, 0, 0], false, by decide +kernel⟩,
    ⟨cwq 15, tx [1, 0, 7, 0, 0, 1, 0x50], [0, 7, 0, 0, 1, 0x50], false, by decide +kernel⟩⟩

def replied (q : List Reply) (last : Option Reply) : State := upCw live (fun w => { w with replyQ := q, lastRemoved := last })
theorem wit_ReplyIsDelivered :
    (∃ (s : State) (t : List CwClock) (l : List Byte) (n : Nat) (r : Reply) (rs : List Reply), s.off = false ∧
      s.transaction t = .reply (0 :: l) n ∧ s.quad = false ∧ s.cw.replyQ = r :: rs ∧ r.width = none ∧
      8 * (replyBytes r).length ≤ n - 8) ∧
    (∃ (s : State) (t : List CwClock) (l : List Byte) (n : Nat) (r : Reply) (rs : List Reply), s.off = false ∧
      s.transaction t = .reply (0 :: l) n ∧ s.quad = true ∧ s.cw.replyQ = r :: rs ∧ r.width = none ∧
      n - 2 - 2 < 2 * (replyBytes r).length) ∧
    (∃ (s : State) (t : List CwClock) (l : List Byte) (n : Nat), s.off = false ∧ s.transaction t = .reply (0 :: l) n ∧
      s.cw.replyQ = []) ∧
    (∃ (s : State) (t : List CwClock) (l : List Byte) (n : Nat) (r : Reply), s.off = false ∧ s.transaction t = .reply (1 :: l) n ∧
      s.cw.lastRemoved = some r) ∧
    (∃ (s : State) (t : List CwClock) (l : List Byte) (n : Nat), s.off = false ∧ s.transaction t = .reply (1 :: l) n ∧
      s.cw.lastRemoved = none) ∧
    (∃ (s : State) (t : List CwClock) (ctl : Byte) (l : List Byte) (n : Nat), s.off = false ∧
      s.transaction t = .reply (ctl :: l) n ∧ 1 < ctl.toNat) ∧
    (∃ (s u : State) (t : List CwClock) (l : List Byte) (n w : Nat) (r : Reply) (rs : List Reply), s.off = false ∧
      s.transaction t = .reply (0 :: l) n ∧ s.cw.replyQ = r :: rs ∧ r.width = some w ∧ w ≤ 1 ∧
      exec (.reply t) s = .next u) :=
  ⟨⟨replied [rp] none, tx [2, 0, 0, 0, 0, 0, 0, 0], [0, 0, 0, 0, 0, 0], 56, rp, [], by decide +kernel⟩,
    ⟨tset (replied [rp] none) [(F.CW_MODE_WIDTH, 1)], clocksOf true [2, 0, 0], [0], 4, rp, [], by decide +kernel⟩,
    ⟨live, tx [2, 0], [], 8, by decide +kernel⟩,
    ⟨replied [] (some rp), tx [2, 1], [], 8, rp, by decide +kernel⟩,
    ⟨live, tx [2, 1], [], 8, by decide +kernel⟩,
    ⟨live, tx [2, 2], 2, [], 8, by decide +kernel⟩,
    ⟨replied [{ rp with width := some 1 }] none, nxt (exec (.reply (tx [2, 0])) (replied [{ rp with width := some 1 }] none)),
      tx [2, 0], [], 8, 1, { rp with width := some 1 }, [], by decide +kernel, by decide +kernel, by decide +kernel,
      by decide +kernel, by decide +kernel, nxt_eq _ (by decide +kernel)⟩⟩

theorem wit_StatusChangesNothing : ∃ (s : State) (t : List CwClock) (n : Nat), s.off = false ∧ s.transaction t = .status n :=
  ⟨live, tx [3, 0], 8, by decide +kernel⟩

theorem wit_PushIsJudgedInOrder :
    let hyp := fun (s : State) (t : List CwClock) (b : List Byte) (stray : Bool) => s.off = false ∧ s.transaction t = .push b stray
    let n := fun (b : List Byte) => beNat ((b.drop 2).take 2)
    let whole := fun (b : List Byte) (stray : Bool) => stray = false ∧ b.length = 10 + n b
    let legal := fun (s : State) (b : List Byte) =>
      let r := (b.getD 0 0).toNat
      let off := beNat ((b.drop 4).take 4)
      (b.getD 1 0).toNat = 0 ∧ 1 ≤ n b ∧ n b ≤ 16320 ∧ r ≤ 31 ∧ (s.region r).st = 1 ∧ off = (s.region r).next ∧
        off + n b ≤ (s.region r).len
    let crc := fun (b : List Byte) => crc16 (b.take (8 + n b)) = beNat (b.drop (8 + n b))
    (∃ s t b stray, hyp s t b stray ∧ b.length < 8) ∧ (∃ s t b stray, hyp s t b stray ∧ 8 ≤ b.length ∧ ¬ whole b stray) ∧
      (∃ s t b stray, hyp s t b stray ∧ whole b stray ∧ s.pushFree < n b) ∧
      (∃ s t b stray, hyp s t b stray ∧ whole b stray ∧ n b ≤ s.pushFree ∧ ¬ legal s b) ∧
      (∃ s t b stray, hyp s t b stray ∧ whole b stray ∧ n b ≤ s.pushFree ∧ legal s b ∧ ¬ crc b) ∧
      (∃ s t b stray, hyp s t b stray ∧ whole b stray ∧ n b ≤ s.pushFree ∧ legal s b ∧ crc b) ∧
      (∃ (s u : State) (t : List CwClock), exec (.push t) s = .next u ∧ (u.cw.lastErr ≠ errNone ∨ s.off = true)) :=
  ⟨⟨live, tx [4, 0, 0, 0, 1, 0, 0, 0], [0, 0, 0, 1, 0, 0, 0], false, by decide +kernel⟩,
    ⟨live, tx [4, 0, 0, 0, 1, 0, 0, 0, 0], [0, 0, 0, 1, 0, 0, 0, 0], false, by decide +kernel⟩,
    ⟨upCw live (fun w => { w with pushBuf := List.replicate 16 ⟨0, 0, 0, List.replicate 1024 0⟩ }),
      tx [4, 0, 0, 0, 1, 0, 0, 0, 0, 5, 0, 0], [0, 0, 0, 1, 0, 0, 0, 0, 5, 0, 0], false, by decide +kernel⟩,
    ⟨live, tx [4, 0, 0, 0, 1, 0, 0, 0, 0, 5, 0, 0], [0, 0, 0, 1, 0, 0, 0, 0, 5, 0, 0], false, by decide +kernel⟩,
    ⟨live.setRegion 0 open4, tx [4, 0, 0, 0, 1, 0, 0, 0, 0, 5, 0, 0], [0, 0, 0, 1, 0, 0, 0, 0, 5, 0, 0], false, by decide +kernel⟩,
    ⟨live.setRegion 0 open4, tx (4 :: crcd [0, 0, 0, 1, 0, 0, 0, 0, 5]), crcd [0, 0, 0, 1, 0, 0, 0, 0, 5], false, by decide +kernel⟩,
    ⟨live, nxt (exec (.push (tx [4])) live), tx [4], nxt_eq _ (by decide +kernel), by decide +kernel⟩⟩

theorem wit_EmptyTransactions :
    (∃ (s : State) (t : List CwClock), s.off = false ∧ s.transaction t = .widthReset) ∧
    (∃ (s : State) (t : List CwClock), s.off = false ∧ s.transaction t = .badKind) ∧
    (∃ (s : State) (t : List CwClock), s.off = false ∧ s.transaction t = .cutKind) ∧
    (∃ (s : State) (t : List CwClock) (n : Nat), s.off = false ∧ s.transaction t = .reply [] n) ∧
    (∃ (s : State) (t : List CwClock) (b : List Byte), s.off = false ∧ s.transaction t = .command b true) ∧
    (∃ (s : State) (t : List CwClock) (b : List Byte), s.off = false ∧ s.transaction t = .push b true) ∧
    (∃ (s : State) (b : List Byte) (cut : List CwClock) (kind : Byte), cut.length < (if s.quad then 2 else 8) ∧ 4 < kind.toNat ∧
      kind ≠ 0xFF ∧ s.quad = false ∧ cut ≠ [] ∧ b ≠ []) ∧
    (∃ (s : State) (t v : List CwClock), s.quad = false ∧ t.map (fun x => cwLine x 0) = v.map (fun x => cwLine x 0) ∧ t ≠ v) :=
  ⟨⟨live, List.replicate 8 9, by decide +kernel⟩, ⟨live, tx [5, 1], by decide +kernel⟩, ⟨live, [1, 0, 1], by decide +kernel⟩,
    ⟨live, tx [2] ++ [0], 1, by decide +kernel⟩, ⟨live, tx [1, 0] ++ [1], [0], by decide +kernel⟩,
    ⟨live, tx [4] ++ [1], [], by decide +kernel⟩, ⟨live, [0], [1], 0x81, by decide +kernel⟩,
    ⟨live, [1, 0], [15, 14], by decide +kernel⟩⟩

theorem wit_TransactionFrame :
    ∃ (c : Instr) (s t : State) (a : Nat),
      ((∃ x, c = .command x) ∨ (∃ x, c = .reply x) ∨ (∃ x, c = .status x) ∨ (∃ x, c = .push x) ∨ (∃ x, c = .widthReset x) ∨
        (∃ x, c = .badKind x) ∨ (∃ x, c = .framing x)) ∧
      exec c s = .next t ∧ (a < 0x30000 ∨ 0x40000 ≤ a) :=
  ⟨.command (tx [1]), live, nxt (exec (.command (tx [1])) live), 0x40000, .inl ⟨_, rfl⟩, nxt_eq _ (by decide +kernel), by decide⟩

theorem wit_UnknownCommands :
    (∃ (s : State) (e : CmdEntry), s.cw.cmdQ.head? = some e ∧ e.crcOk = false ∧ s.canStart = true) ∧
    (∃ (s : State) (e : CmdEntry), s.cw.cmdQ.head? = some e ∧ e.crcOk = true ∧ knownOpcode e.opcode.toNat = false ∧
      s.canStart = true) ∧
    (∃ (s : State) (e : CmdEntry), s.starts e.opcode.toNat e ∧ (e.opcode.toNat = 0x51 ∨ 0xD4 ≤ e.opcode.toNat)) :=
  ⟨⟨(qd live ({ cmd 0 [] with crcOk := false })), { cmd 0 [] with crcOk := false }, by decide +kernel⟩,
    ⟨(qd live (cmd 0x51 [])), (cmd 0x51 []), by decide +kernel⟩,
    ⟨(qd live (cmd 0xD4 [])), (cmd 0xD4 []), by decide +kernel⟩⟩

theorem wit_InterruptLine :
    (∃ (s : State), s.cw.cmdQ.length = 16) ∧
    (∃ (s : State), s.cw.cmdQ.length < 16) :=
  ⟨⟨(cwq 16), by decide +kernel⟩,
    ⟨(cwq 15), by decide +kernel⟩⟩

theorem wit_CommandsWaitTheirTurn :
    (∃ (c : Instr) (op : Nat) (s : State), opcodeOf c = some op ∧ (∀ w m, c ≠ .etchRead w m) ∧
      (s.canStart = false ∨ (∀ e ∈ s.cw.cmdQ.head?, e.crcOk = false ∨ e.opcode.toNat ≠ op))) :=
    ⟨.nop, 0, live, by decide +kernel, by nofun, by decide +kernel⟩

theorem wit_OneReplyEach :
    (∃ (c : Instr) (op : Nat) (s : State) (t : State) (e : CmdEntry), opcodeOf c = some op ∧ s.starts op e ∧
      picksEntry s c e = true ∧ (∀ v vpp pwr, c = .fuseProgram v vpp pwr → pwr = none) ∧ exec c s = .next t) :=
    ⟨.nop, 0, (qd live (cmd 0 [])), (nxt (exec .nop (qd live (cmd 0 [])))), (cmd 0 []), by decide +kernel,
      by decide +kernel, by decide +kernel, by nofun, nxt_eq _ (by decide +kernel)⟩

theorem wit_WrongLengthIsBadParam :
    (∃ (c : Instr) (op : Nat) (s : State) (e : CmdEntry), opcodeOf c = some op ∧ s.starts op e ∧ picksEntry s c e = true ∧
      lengthFits op e.params = false) :=
    ⟨.nop, 0, (qd live (cmd 0 [0])), (cmd 0 [0]), by decide +kernel⟩

theorem wit_EarlyCommandsRefused :
    (∃ (c : Instr) (op : Nat) (s : State) (e : CmdEntry), opcodeOf c = some op ∧ runtimeOnly op = true ∧ s.starts op e ∧
      picksEntry s c e = true ∧ lengthFits op e.params = true ∧ unitFits op e.params = true ∧ s.runtime = false) ∧
    (∃ (c : Instr) (op : Nat) (s : State) (e : CmdEntry), opcodeOf c = some op ∧ runtimeOnly op = true ∧ s.starts op e ∧
      picksEntry s c e = true ∧ lengthFits op e.params = true ∧ unitFits op e.params = false ∧ s.runtime = false) :=
  ⟨⟨.powerState, 0x20, (qd idle (cmd 0x20 [0x0])), (cmd 0x20 [0x0]), by decide +kernel⟩,
    ⟨.domainCtrl, 0x21, (qd idle (cmd 0x21 [0x19000000])), (cmd 0x21 [0x19000000]), by decide +kernel⟩⟩

theorem wit_StatusCommands :
    (∃ (s : State) (e : CmdEntry), s.starts 0x00 e ∧ e.params = []) ∧
    (∃ (s : State) (e : CmdEntry), s.starts 0x01 e ∧ e.params = []) ∧
    (∃ (s : State) (e : CmdEntry), s.starts 0x02 e ∧ e.params = [0]) ∧
    (∃ (s : State) (e : CmdEntry), s.starts 0x02 e ∧ e.params = [1]) ∧
    (∃ (s : State) (e : CmdEntry), s.starts 0x02 e ∧ e.params = [2]) ∧
    (∃ (s : State) (e : CmdEntry), s.starts 0x02 e ∧ e.params = [3]) ∧
    (∃ (s : State) (e : CmdEntry), s.starts 0x02 e ∧ e.params = [4] ∧ s.runtime = true) ∧
    (∃ (s : State) (e : CmdEntry), s.starts 0x02 e ∧ e.params = [5] ∧ s.runtime = true) ∧
    (∃ (s : State) (e : CmdEntry), s.starts 0x14 e ∧ e.params = []) ∧
    (∃ (s : State) (e : CmdEntry), s.starts 0xD0 e ∧ e.params = []) ∧
    (∃ (s : State) (e : CmdEntry), s.starts 0xD3 e ∧ e.params = []) ∧
    (∃ (s : State) (e : CmdEntry), s.starts 0xB2 e ∧ s.runtime = true ∧ e.params.length = 1 ∧
      strayBits e.params 0 0xFF000001 = false ∧ 1 ≤ parUnit e.params ∧ parUnit e.params ≤ 5) ∧
    (∃ (g : Nat) (a : Nat), g ≠ 2 ∧ a ∈ counterRegs g) ∧
    (∃ (g : Nat) (a : Nat), g ≠ 2 ∧ a ∉ counterRegs g) :=
  ⟨⟨(qd live (cmd 0x00 [])), (cmd 0x00 []), by decide +kernel⟩,
    ⟨(qd live (cmd 0x01 [])), (cmd 0x01 []), by decide +kernel⟩,
    ⟨(qd live (cmd 0x02 [0x0])), (cmd 0x02 [0x0]), by decide +kernel⟩,
    ⟨(qd live (cmd 0x02 [0x1])), (cmd 0x02 [0x1]), by decide +kernel⟩,
    ⟨(qd live (cmd 0x02 [0x2])), (cmd 0x02 [0x2]), by decide +kernel⟩,
    ⟨(qd live (cmd 0x02 [0x3])), (cmd 0x02 [0x3]), by decide +kernel⟩,
    ⟨(qd live (cmd 0x02 [0x4])), (cmd 0x02 [0x4]), by decide +kernel⟩,
    ⟨(qd live (cmd 0x02 [0x5])), (cmd 0x02 [0x5]), by decide +kernel⟩,
    ⟨(qd live (cmd 0x14 [])), (cmd 0x14 []), by decide +kernel⟩,
    ⟨(qd live (cmd 0xD0 [])), (cmd 0xD0 []), by decide +kernel⟩,
    ⟨(qd live (cmd 0xD3 [])), (cmd 0xD3 []), by decide +kernel⟩,
    ⟨(qd live (cmd 0xB2 [0x5000001])), (cmd 0xB2 [0x5000001]), by decide +kernel⟩,
    ⟨5, 0x190040, by decide +kernel⟩,
    ⟨1, 0, by decide +kernel⟩⟩

theorem wit_RegisterAccess :
    (∃ (s : State) (e : CmdEntry) (lo hi : Nat) (k : WindowKind),
      let a := (par e.params 0).toNat
      let n := (par e.params 1).toNat
      s.starts 0x0A e ∧ e.params.length = 2 ∧ windowOf a = some (lo, hi, k) ∧ a % 4 = 0 ∧ 1 ≤ n ∧ n ≤ 1024 ∧
      a + 4 * n ≤ hi + 1 ∧ k.memory = false) ∧
    (∃ (s : State) (e : CmdEntry) (lo hi : Nat) (k : WindowKind) (ram base : Nat),
      let a := (par e.params 0).toNat
      let n := (par e.params 1).toNat
      s.starts 0x0A e ∧ e.params.length = 2 ∧ s.runtime = true ∧ windowOf a = some (lo, hi, k) ∧ k.ram = some (ram, base) ∧
      a % 4 = 0 ∧ 1 ≤ n ∧ n ≤ 1024 ∧ a + 4 * n ≤ hi + 1) ∧
    (∃ (s : State) (e : CmdEntry),
      let a := (par e.params 0).toNat
      let n := (par e.params 1).toNat
      let q := EtchQuery.words (a - 0x60000000) n
      s.starts 0x0A e ∧ e.params.length = 2 ∧ s.runtime = true ∧ s.pdOn 9 = true ∧ 0x60000000 ≤ a ∧ a % 4 = 0 ∧ 1 ≤ n ∧
      n ≤ 1024 ∧ a + 4 * n ≤ 0x60400000 ∧ s.etchBusy q = false) ∧
    (∃ (s : State) (e : CmdEntry),
      let a := (par e.params 0).toNat
      let n := (par e.params 1).toNat
      let q := EtchQuery.words (a - 0x60000000) n
      s.starts 0x0A e ∧ e.params.length = 2 ∧ s.runtime = true ∧ s.pdOn 9 = true ∧ 0x60000000 ≤ a ∧ a % 4 = 0 ∧ 1 ≤ n ∧
      n ≤ 1024 ∧ a + 4 * n ≤ 0x60400000 ∧ s.etchBusy q = true) ∧
    (∃ (s : State) (e : CmdEntry) (d : Nat),
      let a := (par e.params 0).toNat
      let n := (par e.params 1).toNat
      s.starts 0x0A e ∧ e.params.length = 2 ∧ s.runtime = true ∧ 0x80000000 ≤ a ∧ a % 4 = 0 ∧ 1 ≤ n ∧ n ≤ 1024 ∧
      a + 4 * n ≤ 0x82000000 ∧ s.halfOff (a - 0x80000000) n = some d) ∧
    (∃ (s : State) (e : CmdEntry),
      let a := (par e.params 0).toNat
      let n := (par e.params 1).toNat
      let r : PlateRun := ⟨false, a - 0x80000000, n, (wordsFrom (a - 0x80000000) (4 * n)).map (fun w => ⟨w, []⟩), [], 0⟩
      let x := windowLoop r.todo.length s.popCmd r
      s.starts 0x0A e ∧ e.params.length = 2 ∧ s.runtime = true ∧ 0x80000000 ≤ a ∧ a % 4 = 0 ∧ 1 ≤ n ∧ n ≤ 1024 ∧
      a + 4 * n ≤ 0x82000000 ∧ s.halfOff (a - 0x80000000) n = none ∧ x.2.todo = []) ∧
    (∃ (s : State) (e : CmdEntry),
      let a := (par e.params 0).toNat
      let n := (par e.params 1).toNat
      let r : PlateRun := ⟨false, a - 0x80000000, n, (wordsFrom (a - 0x80000000) (4 * n)).map (fun w => ⟨w, []⟩), [], 0⟩
      let x := windowLoop r.todo.length s.popCmd r
      s.starts 0x0A e ∧ e.params.length = 2 ∧ s.runtime = true ∧ 0x80000000 ≤ a ∧ a % 4 = 0 ∧ 1 ≤ n ∧ n ≤ 1024 ∧
      a + 4 * n ≤ 0x82000000 ∧ s.halfOff (a - 0x80000000) n = none ∧ x.2.todo ≠ []) ∧
    (∃ (s : State) (e : CmdEntry) (lo hi : Nat),
      let a := (par e.params 0).toNat
      s.starts 0x0B e ∧ writeRow e = 0 ∧ 2 ≤ e.params.length ∧ e.params.length ≤ 1025 ∧ s.runtime = true ∧
      windowOf a = some (lo, hi, .regs) ∧ a % 4 = 0 ∧ a + 4 * (e.params.length - 1) ≤ hi + 1 ∧
      s.popCmd.defineFails a (e.params.drop 1) = []) ∧
    (∃ (s : State) (e : CmdEntry) (lo hi : Nat),
      let a := (par e.params 0).toNat
      s.starts 0x0B e ∧ writeRow e = 0 ∧ 2 ≤ e.params.length ∧ e.params.length ≤ 1025 ∧ windowOf a = some (lo, hi, .cw) ∧
      a % 4 = 0 ∧ a + 4 * (e.params.length - 1) ≤ hi + 1) ∧
    (∃ (s : State) (e : CmdEntry) (lo hi i : Nat),
      let a := (par e.params 0).toNat
      s.starts 0x0B e ∧ writeRow e = 0 ∧ 2 ≤ e.params.length ∧ e.params.length ≤ 1025 ∧ s.runtime = true ∧
      windowOf a = some (lo, hi, .regs) ∧ a % 4 = 0 ∧ a + 4 * (e.params.length - 1) ≤ hi + 1 ∧
      minIndex (s.popCmd.defineFails a (e.params.drop 1)) = some i) ∧
    (∃ (s : State) (e : CmdEntry) (lo hi : Nat),
      let a := (par e.params 0).toNat
      s.starts 0x0B e ∧ writeRow e = 5 ∧ 2 ≤ e.params.length ∧ e.params.length ≤ 1025 ∧ s.runtime = true ∧
      windowOf a = some (lo, hi, .regs) ∧ a % 4 = 0 ∧ a + 4 * (e.params.length - 1) ≤ hi + 1 ∧
      s.popCmd.defineFails a (e.params.drop 1) = []) ∧
    (∃ (s : State) (e : CmdEntry) (lo hi : Nat),
      let a := (par e.params 0).toNat
      s.starts 0x0B e ∧ writeRow e = 3 ∧ 2 ≤ e.params.length ∧ e.params.length ≤ 1025 ∧ s.runtime = true ∧
      windowOf a = some (lo, hi, .regs) ∧ a % 4 = 0 ∧ a + 4 * (e.params.length - 1) ≤ hi + 1 ∧
      s.popCmd.defineFails a (e.params.drop 1) = []) ∧
    (∃ (s : State) (e : CmdEntry) (lo hi : Nat),
      let a := (par e.params 0).toNat
      s.starts 0x0B e ∧ writeRow e = 4 ∧ 2 ≤ e.params.length ∧ e.params.length ≤ 1025 ∧ s.runtime = true ∧
      windowOf a = some (lo, hi, .regs) ∧ a % 4 = 0 ∧ a + 4 * (e.params.length - 1) ≤ hi + 1 ∧
      s.popCmd.defineFails a (e.params.drop 1) = []) ∧
    (∃ (s : State) (e : CmdEntry), s.starts 0x0B e ∧ writeRow e = 2 ∧ e.params.length = 2 ∧ par e.params 0 = 0x30000) ∧
    (∃ (s : State) (e : CmdEntry),
      let a := (par e.params 0).toNat
      s.startsLive 0x0B e ∧ writeRow e = 1 ∧ 3 ≤ e.params.length ∧ e.params.length ≤ 1025 ∧ s.pdOn 9 = true ∧ 0x60000000 ≤ a ∧
      a + 4 * (e.params.length - 1) ≤ 0x60400000 ∧ etchFails (a - 0x60000000) (e.params.length - 1) = [] ∧
      s.presenceMet (s.windowClass (etchPairs (a - 0x60000000) (e.params.drop 1))) = true) ∧
    (∃ (a k : Nat), (BitVec.ofNat 32 (regInfo a).w1c).getLsbD k = true ∧ (BitVec.ofNat 32 (regInfo a).rw).getLsbD k = false) ∧
    (∃ (a k : Nat), (BitVec.ofNat 32 (regInfo a).w1c).getLsbD k = false) ∧
    (∃ (a b : Nat), b ≠ a) ∧
    (∃ (w : Word), getBits w 0 1 = 1) ∧
    (∃ (w : Word), getBits w 0 1 = 0) :=
  ⟨⟨(qd live (cmd 0x0A [0x10, 2])), (cmd 0x0A [0x10, 2]), 0, 0xFFFF, .regs, by decide +kernel⟩,
    ⟨(qd live (cmd 0x0A [0x100FFFFC, 1])), (cmd 0x0A [0x100FFFFC, 1]), 0x10000000, 0x100FFFFF, .code, 1, 0x10000000,
      by decide +kernel⟩,
    ⟨(qd live (cmd 0x0A [0x60280004, 1])), (cmd 0x0A [0x60280004, 1]), by decide +kernel⟩,
    ⟨(qd (upEtch live (fun x => { x with attempt := some ⟨true, 0x280000, 1⟩ })) (cmd 0x0A [0x60280004, 1])),
      (cmd 0x0A [0x60280004, 1]), by decide +kernel⟩,
    ⟨(qd (tset live [(F.PWR_PD_STATE 7, 0)]) (cmd 0x0A [0x80000000, 1])), (cmd 0x0A [0x80000000, 1]), 7, by decide +kernel⟩,
    ⟨(qd (live.setCredit 17 4) (cmd 0x0A [0x80000000, 1])), (cmd 0x0A [0x80000000, 1]), by decide +kernel⟩,
    ⟨(qd (live.setCredit 17 0) (cmd 0x0A [0x80000000, 1])), (cmd 0x0A [0x80000000, 1]), by decide +kernel⟩,
    ⟨(qd live (cmd 0x0B [0x60000, 0])), (cmd 0x0B [0x60000, 0]), 0x60000, 0x7FFFF, by decide +kernel⟩,
    ⟨(qd idle (cmd 0x0B [0x3000C, 0])), (cmd 0x0B [0x3000C, 0]), 0x30000, 0x3FFFF, by decide +kernel⟩,
    ⟨(qd live (cmd 0x0B [0x51000, 0, 0, 0, 0x00400002, 0x04000000])), (cmd 0x0B [0x51000, 0, 0, 0, 0x00400002, 0x04000000]),
      0x40000, 0x5FFFF, 5, by decide +kernel⟩,
    ⟨(qd live (cmd 0x0B [0x90, 0xFFFF])), (cmd 0x0B [0x90, 0xFFFF]), 0, 0xFFFF, by decide +kernel⟩,
    ⟨(qd live (cmd 0x0B [0x10028, 1])), (cmd 0x0B [0x10028, 1]), 0x10000, 0x1FFFF, by decide +kernel⟩,
    ⟨(qd live (cmd 0x0B [0x50000, 0])), (cmd 0x0B [0x50000, 0]), 0x40000, 0x5FFFF, by decide +kernel⟩,
    ⟨(qd live (cmd 0x0B [0x30000, 1])), (cmd 0x0B [0x30000, 1]), by decide +kernel⟩,
    ⟨(qd live (cmd 0x0B [0x60280000, 1, 2])), (cmd 0x0B [0x60280000, 1, 2]), by decide +kernel⟩,
    ⟨0x90, 15, by decide +kernel⟩,
    ⟨0x60000, 31, by decide +kernel⟩,
    ⟨0, 4, by decide +kernel⟩,
    ⟨1, by decide +kernel⟩,
    ⟨2, by decide +kernel⟩⟩

theorem wit_SoftResetKeepsAndClears :
    (∃ (s : State) (e : CmdEntry), s.starts 0x03 e ∧ s.runtime = true ∧ e.params = [0xA55A]) ∧
    (∃ (s : State) (t : State) (e : CmdEntry) (h : Nat), s.starts 0x03 e ∧ s.runtime = true ∧ e.params = [0xA55A] ∧
      exec .softReset s = .next t ∧ h < 4) :=
  ⟨⟨(qd live (cmd 0x03 [0xA55A])), (cmd 0x03 [0xA55A]), by decide +kernel⟩,
    ⟨(qd live (cmd 0x03 [0xA55A])), (nxt (exec .softReset (qd live (cmd 0x03 [0xA55A])))), (cmd 0x03 [0xA55A]), 3,
      by decide +kernel, by decide +kernel, by decide +kernel, nxt_eq _ (by decide +kernel), by decide +kernel⟩⟩

theorem wit_PowerOn :
    (∃ (s : State), s.off = true ∧ s.porst = false) :=
    ⟨{ live with off := true }, by decide +kernel⟩

theorem wit_LoadCommands :
    (∃ (s : State) (e : CmdEntry), s.starts 0x10 e ∧ e.params.length = 64 ∧ s.phase ≤ 1 ∧
      headerCheck s.popCmd (byteString e.params) = 0 ∧ s.bit F.BOOT_STATUS_KEYLOCK = false ∧ s.boot.enrol = none) ∧
    (∃ (s : State) (e : CmdEntry) (c : Nat), s.starts 0x10 e ∧ e.params.length = 64 ∧ s.phase ≤ 1 ∧
      headerCheck s.popCmd (byteString e.params) = c ∧ c ≠ 0) ∧
    (∃ (s : State) (e : CmdEntry), s.starts 0x10 e ∧ e.params.length = 64 ∧ s.phase = 0 ∧
      headerCheck s.popCmd (byteString e.params) = 0 ∧ s.bit F.BOOT_STATUS_KEYLOCK = true) ∧
    (∃ (s : State) (e : CmdEntry), s.starts 0x10 e ∧ e.params.length = 64 ∧ s.phase ≤ 1 ∧
      headerCheck s.popCmd (byteString e.params) = 0 ∧ s.bit F.BOOT_STATUS_KEYLOCK = false ∧ s.boot.enrol.isSome = true) ∧
    (∃ (s : State) (e : CmdEntry) (fetch : Option (Fin 1048576)),
      let seg := parUnit e.params
      let off := parBits e.params 0 0 24
      let d := byteString (e.params.drop 1)
      let g := hdrSeg s.boot.hdr seg
      let u := s.popCmd.fetched fetch
      s.starts 0x11 e ∧ 2 ≤ e.params.length ∧ e.params.length ≤ 1025 ∧ (s.phase = 1 ∨ s.phase = 2) ∧
      chunkFits s.boot.hdr seg off (s.fld F.BOOT_PROGRESS_NEXT_SEG) (s.fld F.BOOT_PROGRESS_NEXT_OFFSET) d.length = true ∧
      (s.bit F.BOOT_STATUS_SCRIBE_RUN = false ∨ g.target ≠ 1 ∨ touchesBank (g.off + off) d.length u.fetchBank = false) ∧
      (s.bit F.BOOT_STATUS_STYLUS_RUN = false ∨ g.target ≠ 3)) ∧
    (∃ (s : State) (e : CmdEntry),
      let ns := s.fld F.BOOT_PROGRESS_NEXT_SEG
      let no := s.fld F.BOOT_PROGRESS_NEXT_OFFSET
      s.starts 0x11 e ∧ 2 ≤ e.params.length ∧ e.params.length ≤ 1025 ∧ (s.phase = 1 ∨ s.phase = 2) ∧
      chunkFits s.boot.hdr (parUnit e.params) (parBits e.params 0 0 24) ns no (byteString (e.params.drop 1)).length = false) ∧
    (∃ (s : State) (e : CmdEntry) (fetch : Option (Fin 1048576)),
      let seg := parUnit e.params
      let off := parBits e.params 0 0 24
      let d := byteString (e.params.drop 1)
      let g := hdrSeg s.boot.hdr seg
      let u : State := { s.popCmd.fetched fetch with free := s.free + 1 }
      s.starts 0x11 e ∧ 2 ≤ e.params.length ∧ e.params.length ≤ 1025 ∧ (s.phase = 1 ∨ s.phase = 2) ∧
      chunkFits s.boot.hdr seg off (s.fld F.BOOT_PROGRESS_NEXT_SEG) (s.fld F.BOOT_PROGRESS_NEXT_OFFSET) d.length = true ∧
      s.bit F.BOOT_STATUS_SCRIBE_RUN = true ∧ g.target = 1 ∧ touchesBank (g.off + off) d.length u.fetchBank = true) ∧
    (∃ (s : State) (e : CmdEntry), s.starts 0x12 e ∧ e.params = [] ∧ s.phase = 1 ∧ s.popCmd.entryLoaded = true) ∧
    (∃ (s : State) (e : CmdEntry), s.starts 0x12 e ∧ e.params = [] ∧ s.phase = 3 ∧ s.bit F.BOOT_STATUS_SCRIBE_RUN = false) ∧
    (∃ (s : State), s.off = false ∧ s.boot.releaseDue = true) ∧
    (∃ (s : State), s.off = false ∧ s.scribeActive = true ∧ 2 ≤ s.phase ∧ s.phase ≤ 5) ∧
    (∃ (s : State) (e : CmdEntry), s.starts 0x13 e ∧ e.params.length = 8 ∧ s.phase = 3 ∧
      byteString e.params = deviceTag s.boot.msg) ∧
    (∃ (s : State) (e : CmdEntry), s.starts 0x13 e ∧ e.params.length = 8 ∧ s.phase = 3 ∧
      byteString e.params ≠ deviceTag s.boot.msg) :=
  ⟨⟨(qd idle (cmd 0x10 (wordsOf (hdr 1 8)))), (cmd 0x10 (wordsOf (hdr 1 8))), by decide +kernel⟩,
    ⟨(qd idle (cmd 0x10 (List.replicate 64 0))), (cmd 0x10 (List.replicate 64 0)), 1, by decide +kernel⟩,
    ⟨(tset (qd idle (cmd 0x10 (wordsOf (hdr 1 8)))) [(F.BOOT_STATUS_KEYLOCK, 1)]), (cmd 0x10 (wordsOf (hdr 1 8))),
      by decide +kernel⟩,
    ⟨(upBoot (qd idle (cmd 0x10 (wordsOf (hdr 1 8)))) (fun b => { b with enrol := some ⟨[], [], 0, 0, 0⟩ })),
      (cmd 0x10 (wordsOf (hdr 1 8))), by decide +kernel⟩,
    ⟨(upBoot (tset (qd idle (cmd 0x11 [0, 0x1020304])) [(F.BOOT_STATUS_PHASE, 2), (F.BOOT_STATUS_SCRIBE_RUN,
      1)]) (fun b => { b with hdr := hdr 1 8 })), (cmd 0x11 [0, 0x1020304]), (some 0x40000), by decide +kernel⟩,
    ⟨(upBoot (tset (qd idle (cmd 0x11 [1, 0x1020304])) [(F.BOOT_STATUS_PHASE, 1)]) (fun b => { b with hdr := hdr 1 8 })),
      (cmd 0x11 [1, 0x1020304]), by decide +kernel⟩,
    ⟨(upBoot (tset (qd idle (cmd 0x11 [0, 0x1020304])) [(F.BOOT_STATUS_PHASE, 2), (F.BOOT_STATUS_SCRIBE_RUN,
      1)]) (fun b => { b with hdr := hdr 1 8 })), (cmd 0x11 [0, 0x1020304]), (some 0x10), by decide +kernel⟩,
    ⟨(upBoot (tset (qd idle (cmd 0x12 [])) [(F.BOOT_STATUS_PHASE, 1), (F.BOOT_STATUS_SEG_LOADED,
      1)]) (fun b => { b with hdr := hdr 1 8 })), (cmd 0x12 []), by decide +kernel⟩,
    ⟨(tset (qd idle (cmd 0x12 [])) [(F.BOOT_STATUS_PHASE, 3)]), (cmd 0x12 []), by decide +kernel⟩,
    ⟨(upBoot idle (fun b => { b with releaseDue := true })), by decide +kernel⟩,
    ⟨(tset idle [(F.BOOT_STATUS_PHASE, 2), (F.BOOT_STATUS_SCRIBE_RUN, 1)]), by decide +kernel⟩,
    (by
    obtain ⟨p, h8, hp⟩ := deviceTag_words []
    exact ⟨tagged p, ⟨0x13, 7, p, true, 0⟩, tagged_starts _, h8, tagged_phase p, hp⟩),
    (by
    by_cases h : byteString (List.replicate 8 0) = deviceTag []
    · exact ⟨tagged (List.replicate 8 1), ⟨0x13, 7, List.replicate 8 1, true, 0⟩, tagged_starts _, rfl, tagged_phase _,
        fun g => absurd (g.trans h.symm) (by decide)⟩
    · exact ⟨tagged (List.replicate 8 0), ⟨0x13, 7, List.replicate 8 0, true, 0⟩, tagged_starts _, rfl, tagged_phase _, h⟩)⟩

theorem wit_StylusRamIsHeld :
    (∃ (s : State) (e : CmdEntry),
      let g := hdrSeg s.boot.hdr (parUnit e.params)
      s.starts 0x11 e ∧ 2 ≤ e.params.length ∧ e.params.length ≤ 1025 ∧ (s.phase = 1 ∨ s.phase = 2) ∧
      chunkFits s.boot.hdr (parUnit e.params) (parBits e.params 0 0 24) (s.fld F.BOOT_PROGRESS_NEXT_SEG) (s.fld
        F.BOOT_PROGRESS_NEXT_OFFSET) (byteString (e.params.drop 1)).length = true ∧ s.bit F.BOOT_STATUS_STYLUS_RUN = true ∧
      g.target = 3) :=
  ⟨(upBoot (tset (qd idle (cmd 0x11 [0, 0x1020304])) [(F.BOOT_STATUS_PHASE, 2), (F.BOOT_STATUS_STYLUS_RUN,
    1)]) (fun b => { b with hdr := hdr 3 8 })), (cmd 0x11 [0, 0x1020304]), by decide +kernel⟩

theorem wit_ChunkIsWrittenAndHashed :
    (∃ (s : State) (g : Seg) (seg : Nat) (off : Nat) (d : List Byte), seg < 16 ∧ off + d.length < 2 ^ 24 ∧ d ≠ [] ∧
      g = hdrSeg s.boot.hdr seg ∧ off + d.length ≤ g.len ∧ (s.phase = 1 ∨ s.phase = 2) ∧ hdrSegCount s.boot.hdr ≤ 16 ∧
      seg < hdrSegCount s.boot.hdr ∧ off + d.length < g.len) ∧
    (∃ (s : State) (g : Seg) (seg : Nat) (off : Nat) (d : List Byte), seg < 16 ∧ off + d.length < 2 ^ 24 ∧ d ≠ [] ∧
      g = hdrSeg s.boot.hdr seg ∧ off + d.length ≤ g.len ∧ (s.phase = 1 ∨ s.phase = 2) ∧ hdrSegCount s.boot.hdr ≤ 16 ∧
      seg < hdrSegCount s.boot.hdr ∧ off + d.length = g.len) :=
  ⟨⟨(upBoot (tset idle [(F.BOOT_STATUS_PHASE, 1)]) (fun b => { b with hdr := hdr 1 8 })), ⟨1, 0, 8⟩, 0, 0, [1, 2, 3, 4],
      by decide +kernel⟩,
    ⟨(upBoot (tset idle [(F.BOOT_STATUS_PHASE, 1)]) (fun b => { b with hdr := hdr 1 8 })), ⟨1, 0, 8⟩, 0, 4, [1, 2, 3, 4],
      by decide +kernel⟩⟩

theorem wit_DownloadFails :
    (∃ (s : State), s.off = false ∧ s.phase = 3 ∧ s.boot.lastSeg + 2000 ≤ s.ticks ∧ s.cw.cmdQ.any (isOp 0x13) = false) ∧
    (∃ (s : State), (s.cw.cmdQ.any (isOp 0x13) = true ∨ s.ticks < s.boot.lastSeg + 2000)) ∧
    (∃ (s : State), s.off = false ∧ s.phase = 2 ∧ s.boot.lastChunk + 2000 ≤ s.ticks) ∧
    (∃ (s : State), s.off = false ∧ 1 ≤ s.phase ∧ s.phase ≤ 4 ∧ s.bit F.BOOT_STATUS_SCRIBE_RUN = true) ∧
    (∃ (s : State), s.off = false ∧ s.scribeActive = true ∧ 1 ≤ s.phase ∧ s.phase ≤ 4) ∧
    (∃ (s : State), s.off = false ∧ s.scribeActive = true ∧ s.phase = 5) ∧
    (∃ (cause n : Nat), cause < 8 ∧ 2 ≤ n ∧ n ≤ 5) :=
  ⟨⟨(at_ (tset idle [(F.BOOT_STATUS_PHASE, 3)]) 2000), by decide +kernel⟩,
    ⟨(at_ (tset (qd idle (cmd 0x13 [])) [(F.BOOT_STATUS_PHASE, 3)]) 2000), by decide +kernel⟩,
    ⟨(at_ (tset idle [(F.BOOT_STATUS_PHASE, 2)]) 2000), by decide +kernel⟩,
    ⟨(tset idle [(F.BOOT_STATUS_PHASE, 4), (F.BOOT_STATUS_SCRIBE_RUN, 1)]), by decide +kernel⟩,
    ⟨(tset idle [(F.BOOT_STATUS_PHASE, 4), (F.BOOT_STATUS_SCRIBE_RUN, 1)]), by decide +kernel⟩,
    ⟨(tset idle [(F.BOOT_STATUS_PHASE, 5), (F.BOOT_STATUS_SCRIBE_RUN, 1)]), by decide +kernel⟩,
    ⟨4, 5, by decide +kernel⟩⟩

theorem wit_ScribeWrites :
    (∃ (s : State) (off : Nat) (d : List Byte) (fetch : Option (Fin 1048576)), s.off = false ∧
      s.bit F.BOOT_STATUS_SCRIBE_RUN = true ∧ s.boot.halted = false ∧ d ≠ [] ∧ off + d.length ≤ 0x100000 ∧ s.pdOn 4 = true ∧
      touchesBank off d.length (s.fetched fetch).fetchBank = true) ∧
    (∃ (s : State) (off : Nat) (d : List Byte) (a : Nat), s.off = false ∧ s.bit F.BOOT_STATUS_SCRIBE_RUN = true ∧
      s.boot.halted = false ∧ d ≠ [] ∧ off + d.length ≤ 0x80000 ∧ s.pdOn 5 = true ∧ (a < off ∨ off + d.length ≤ a)) ∧
    (∃ (s : State) (off : Nat) (d : List Byte) (i : Nat), s.off = false ∧ s.bit F.BOOT_STATUS_SCRIBE_RUN = true ∧
      s.boot.halted = false ∧ d ≠ [] ∧ off + d.length ≤ 0x80000 ∧ s.pdOn 5 = true ∧ i < d.length) ∧
    (∃ (s : State) (a b : Nat), s.off = false ∧ s.scribeActive = true ∧ s.phase ≤ 4 ∧ a % 4 = 0 ∧ isGated a = true ∧
      s.boot.commitQ.length < 4096 ∧ b ≠ F.BOOT_GATE_HIGH_WATER.addr) ∧
    (∃ (s : State) (a : Nat), s.off = false ∧ s.scribeActive = true ∧ s.phase ≤ 4 ∧ a % 4 = 0 ∧ isGated a = true ∧
      s.boot.commitQ.length = 4096) ∧
    (∃ (s : State) (a : Nat), s.off = false ∧ s.scribeActive = true ∧ s.phase ≤ 4 ∧ a % 4 = 0 ∧ 0x80000000 ≤ a ∧ a < 0x82000000) ∧
    (∃ (s : State) (d : List Byte), s.off = false ∧ s.bit F.BOOT_STATUS_SCRIBE_RUN = true ∧ s.boot.halted = false ∧ d ≠ [] ∧
      s.phase ≤ 4) ∧
    (∃ (s : State) (a : Nat), s.off = false ∧ s.scribeActive = true ∧ s.phase ≤ 4 ∧ a % 4 = 0 ∧ isInBlock a = true) ∧
    (∃ (s : State) (a : Nat), s.off = false ∧ s.scribeActive = true ∧ s.phase = 5 ∧ a % 4 = 0 ∧ isGated a = true) :=
  ⟨⟨(tset idle [(F.BOOT_STATUS_PHASE, 4), (F.BOOT_STATUS_SCRIBE_RUN, 1)]), 0xFFFFF, [1], (some 0xFFFFF), by decide +kernel⟩,
    ⟨(tset idle [(F.BOOT_STATUS_PHASE, 4), (F.BOOT_STATUS_SCRIBE_RUN, 1)]), 0x7FFFF, [1], 0x7FFFE, by decide +kernel⟩,
    ⟨(tset idle [(F.BOOT_STATUS_PHASE, 4), (F.BOOT_STATUS_SCRIBE_RUN, 1)]), 0x7FFFF, [1], 0, by decide +kernel⟩,
    ⟨(tset idle [(F.BOOT_STATUS_PHASE, 4), (F.BOOT_STATUS_SCRIBE_RUN, 1)]), 0x60000, 0, by decide +kernel⟩,
    ⟨(upBoot (tset idle [(F.BOOT_STATUS_PHASE, 4), (F.BOOT_STATUS_SCRIBE_RUN, 1)]) (fun b => { b with commitQ := List.replicate 4096 (0x60000, 1) })),
      0xCFFFC, by decide +kernel⟩,
    ⟨(tset idle [(F.BOOT_STATUS_PHASE, 4), (F.BOOT_STATUS_SCRIBE_RUN, 1)]), 0x81FFFFFC, by decide +kernel⟩,
    ⟨(tset idle [(F.BOOT_STATUS_PHASE, 4), (F.BOOT_STATUS_SCRIBE_RUN, 1)]), [1], by decide +kernel⟩,
    ⟨(tset idle [(F.BOOT_STATUS_PHASE, 4), (F.BOOT_STATUS_SCRIBE_RUN, 1)]), 0x50000, by decide +kernel⟩,
    ⟨(tset idle [(F.BOOT_STATUS_PHASE, 5), (F.BOOT_STATUS_SCRIBE_RUN, 1)]), 0x60000, by decide +kernel⟩⟩

theorem wit_CommitInstant :
    (∃ (s : State), s.off = false ∧ s.phase = 4 ∧ s.atCommitPoint = true ∧ s.cw.running = none) ∧
    (∃ (s : State), (s.phase ≠ 4 ∨ s.atCommitPoint = false)) ∧
    (∃ (s : State), s.off = false ∧ s.runtime = true ∧ s.boot.halted = false ∧ s.etch.retireDue = true ∧ s.pdOn 9 = true ∧
      s.bit F.ETCH_STATUS_SUSPENDED = false) :=
  ⟨⟨(upBoot (tset idle [(F.BOOT_STATUS_PHASE, 4)]) (fun b => { b with edges := 1 })), by decide +kernel⟩,
    ⟨(upBoot (tset idle [(F.BOOT_STATUS_PHASE, 4), (F.HEAD_STATUS_STATE 0, 2)]) (fun b => { b with edges := 1 })),
      by decide +kernel⟩,
    ⟨(upEtch live (fun x => { x with retireDue := true, mem := recorded (recorded [] 0x3000 0 2 1 [1, 2, 3, 4]) 0x3000 1 2 2 [1, 2, 3, 4] })),
      by decide +kernel⟩⟩

theorem wit_Enrolment :
    (∃ (s : State) (e : CmdEntry), s.starts 0x15 e ∧ e.params.length = 65 ∧ parUnit e.params = 0 ∧
      strayBits e.params 0 0xFF000000 = false ∧ s.phase = 0 ∧ headerCheck s.popCmd (byteString (e.params.drop 1)) = 0 ∧
      s.bit F.BOOT_STATUS_KEYLOCK = false ∧ s.bit F.FUSE_STATUS_ENROL_LOCK = false ∧ s.p2Present = true) ∧
    (∃ (s : State) (e : CmdEntry) (c : Nat), s.starts 0x15 e ∧ e.params.length = 65 ∧ parUnit e.params = 0 ∧
      strayBits e.params 0 0xFF000000 = false ∧ headerCheck s.popCmd (byteString (e.params.drop 1)) = c ∧ c ≠ 0) ∧
    (∃ (s : State) (e : CmdEntry) (n : Enrol), s.starts 0x15 e ∧ 3 ≤ e.params.length ∧ e.params.length ≤ 1026 ∧
      parUnit e.params = 1 ∧ strayBits e.params 0 0xFF000000 = false ∧ s.phase = 0 ∧ s.boot.enrol = some n ∧
      chunkFits n.hdr (parBits e.params 1 24 8) (parBits e.params 1 0 24) n.seg n.off (byteString (e.params.drop 2)).length =
        false) ∧
    (∃ (s : State) (e : CmdEntry) (n : Enrol),
      let seg := parBits e.params 1 24 8
      let off := parBits e.params 1 0 24
      let d := byteString (e.params.drop 2)
      s.starts 0x15 e ∧ 3 ≤ e.params.length ∧ e.params.length ≤ 1026 ∧ parUnit e.params = 1 ∧
      strayBits e.params 0 0xFF000000 = false ∧ s.phase = 0 ∧ s.boot.enrol = some n ∧ s.bit F.BOOT_STATUS_KEYLOCK = false ∧
      s.bit F.FUSE_STATUS_ENROL_LOCK = false ∧ s.p2Present = true ∧ chunkFits n.hdr seg off n.seg n.off d.length = true) ∧
    (∃ (s : State) (e : CmdEntry) (n : Enrol), s.starts 0x15 e ∧ e.params.length = 1 ∧ parUnit e.params = 2 ∧
      strayBits e.params 0 0xFF000000 = false ∧ s.phase = 0 ∧ s.boot.enrol = some n ∧ s.bit F.BOOT_STATUS_KEYLOCK = false ∧
      s.bit F.FUSE_STATUS_ENROL_LOCK = false ∧ s.p2Present = true ∧ hdrSegCount n.hdr ≤ n.seg) ∧
    (∃ (s : State) (e : CmdEntry), s.starts 0x15 e ∧ e.params.length = 1 ∧ parUnit e.params = 3 ∧
      strayBits e.params 0 0xFF000000 = false ∧ s.phase = 0 ∧ s.boot.enrol.isSome = true ∧ s.bit F.BOOT_STATUS_KEYLOCK = false ∧
      s.bit F.FUSE_STATUS_ENROL_LOCK = false ∧ s.p2Present = true) ∧
    (∃ (s : State) (n : Enrol), s.off = false ∧ s.boot.enrol = some n ∧ n.last + 2000 ≤ s.ticks) ∧
    (∃ (s : State), s.boot.enrol.isSome = true) ∧
    (∃ (s : State) (e : CmdEntry), s.starts 0x15 e ∧ s.phase = 0 ∧ s.boot.enrol = none ∧
      strayBits e.params 0 0xFF000000 = false ∧ parUnit e.params = 1 ∧ 3 ≤ e.params.length ∧ e.params.length ≤ 1026) ∧
    (∃ (s : State) (e : CmdEntry), s.starts 0x15 e ∧ s.phase = 0 ∧ s.boot.enrol = none ∧
      strayBits e.params 0 0xFF000000 = false ∧ parUnit e.params = 2 ∧ e.params.length = 1) ∧
    (∃ (s : State) (e : CmdEntry), s.starts 0x15 e ∧ s.phase = 0 ∧ s.boot.enrol = none ∧
      strayBits e.params 0 0xFF000000 = false ∧ parUnit e.params = 3 ∧ e.params.length = 1) :=
  ⟨⟨(tset (qd idle (cmd 0x15 (0 :: wordsOf (hdr 1 8)))) [(F.PRES_STATUS_P2, 1)]), (cmd 0x15 (0 :: wordsOf (hdr 1 8))),
      by decide +kernel⟩,
    ⟨(qd live (cmd 0x15 (List.replicate 65 0))), (cmd 0x15 (List.replicate 65 0)), 1, by decide +kernel⟩,
    ⟨(upBoot (tset (qd idle (cmd 0x15 [0x1000000, 0x1000000, 0])) [(F.BOOT_STATUS_KEYLOCK, 1)]) (fun b => { b with enrol := some ⟨hdr 1 8, [], 0, 0, 0⟩ })),
      (cmd 0x15 [0x1000000, 0x1000000, 0]), ⟨hdr 1 8, [], 0, 0, 0⟩, by decide +kernel⟩,
    ⟨(upBoot (tset (qd idle (cmd 0x15 [0x1000000, 0, 0x1020304])) [(F.PRES_STATUS_P2, 1)]) (fun b => { b with enrol := some ⟨hdr 1 8, [], 0, 0, 0⟩ })),
      (cmd 0x15 [0x1000000, 0, 0x1020304]), ⟨hdr 1 8, [], 0, 0, 0⟩, by decide +kernel⟩,
    ⟨(upBoot (tset (qd idle (cmd 0x15 [0x2000000])) [(F.PRES_STATUS_P2, 1)]) (fun b => { b with enrol := some ⟨hdr 1 8, [], 1, 0, 0⟩ })),
      (cmd 0x15 [0x2000000]), ⟨hdr 1 8, [], 1, 0, 0⟩, by decide +kernel⟩,
    ⟨(upBoot (tset (qd idle (cmd 0x15 [0x3000000])) [(F.PRES_STATUS_P2, 1)]) (fun b => { b with enrol := some ⟨hdr 1 8, [], 0, 0, 0⟩ })),
      (cmd 0x15 [0x3000000]), by decide +kernel⟩,
    ⟨(at_ (upBoot live (fun b => { b with enrol := some ⟨[], [], 0, 0, 5⟩ })) 2005), ⟨[], [], 0, 0, 5⟩, by decide +kernel⟩,
    ⟨(upBoot live (fun b => { b with enrol := some ⟨[], [], 0, 0, 0⟩ })), by decide +kernel⟩,
    ⟨(qd idle (cmd 0x15 [0x1000000, 0, 0])), (cmd 0x15 [0x1000000, 0, 0]), by decide +kernel⟩,
    ⟨(qd idle (cmd 0x15 [0x2000000])), (cmd 0x15 [0x2000000]), by decide +kernel⟩,
    ⟨(qd idle (cmd 0x15 [0x3000000])), (cmd 0x15 [0x3000000]), by decide +kernel⟩⟩

theorem wit_Presence :
    (∃ (s : State) (b : Bool), s.off = false ∧ b ≠ s.bit F.PRES_STATUS_SVC_LOW) ∧
    (∃ (l : List Bool), (l.length ≠ 20 ∨ (true ∈ l ∧ false ∈ l))) ∧
    (∃ (s : State), s.off = false) ∧
    (∃ (s : State) (rose : Bool), s.off = false ∧ s.bit F.PRES_STATUS_DEBUG_UNLOCKED = true ∧
      (s.pres.relockDue = true ∨ rose = true)) ∧
    (∃ (s : State), s.off = false ∧ s.bit F.PRES_STATUS_SVC_LOW = true ∧ 2000 ≤ s.pres.heldMs ∧ s.pres.reached = false) ∧
    (∃ (s : State), (s.bit F.PRES_STATUS_SVC_LOW = false ∨ s.pres.heldMs < 2000)) ∧
    (∃ (s : State), s.off = false ∧ s.bit F.PRES_STATUS_P1_OPEN = true ∧ s.pres.p1Ms = 0) ∧
    (∃ (s : State), 0 < s.pres.p1Ms) ∧
    (∃ (s : State) (a : Bool) (b : Bool), s.off = false ∧ (¬ (a = true ∧ b = false))) ∧
    (∃ (s : State), s.off = false ∧ 3 ≤ s.pres.bad ∧ s.fld F.SEAL_STATE_STATE ≠ 2) ∧
    (∃ (s : State), s.off = false ∧ s.pres.bad < 3 ∧ 64 ≤ s.pres.good ∧ s.fld F.SEAL_STATE_STATE ≠ 1) ∧
    (∃ (s : State), s.pres.bad < 3 ∧ s.pres.good < 64) :=
  ⟨⟨live, true, by decide +kernel⟩,
    ⟨[true, false], by decide +kernel⟩,
    ⟨live, by decide +kernel⟩,
    ⟨(tset live [(F.PRES_STATUS_DEBUG_UNLOCKED, 1)]), true, by decide +kernel⟩,
    ⟨(upPres (tset live [(F.PRES_STATUS_SVC_LOW, 1)]) (fun p => { p with heldMs := 2000 })), by decide +kernel⟩,
    ⟨(upPres (tset live [(F.PRES_STATUS_SVC_LOW, 1)]) (fun p => { p with heldMs := 1999 })), by decide +kernel⟩,
    ⟨(tset live [(F.PRES_STATUS_P1_OPEN, 1)]), by decide +kernel⟩,
    ⟨(upPres live (fun p => { p with p1Ms := 1 })), by decide +kernel⟩,
    ⟨live, true, true, by decide +kernel⟩,
    ⟨(upPres live (fun p => { p with bad := 3 })), by decide +kernel⟩,
    ⟨(upPres live (fun p => { p with bad := 2, good := 64 })), by decide +kernel⟩,
    ⟨(upPres live (fun p => { p with bad := 2, good := 63 })), by decide +kernel⟩⟩

theorem wit_FusesAndDebug :
    (∃ (s : State) (e : CmdEntry), s.starts 0xD1 e ∧ e.params.length = 1 ∧
      fuseBad (parUnit e.params) (parBits e.params 0 0 24) = false ∧ s.popCmd.fuseRefusal = none ∧ s.p2Present = true) ∧
    (∃ (s : State) (e : CmdEntry) (j : Nat), s.starts 0xD1 e ∧ e.params.length = 1 ∧
      fuseBad (parUnit e.params) (parBits e.params 0 0 24) = false ∧ s.popCmd.fuseRefusal = none ∧ s.p2Present = true ∧
      j ≤ s.bitsToBlow (parUnit e.params) (parBits e.params 0 0 24) ∧
      0 < s.bitsToBlow (parUnit e.params) (parBits e.params 0 0 24)) ∧
    (∃ (s : State) (e : CmdEntry), s.starts 0xD1 e ∧
      (e.params.length ≠ 1 ∨ fuseBad (parUnit e.params) (parBits e.params 0 0 24) = true)) ∧
    (∃ (s : State) (e : CmdEntry), s.starts 0xD1 e ∧ e.params.length = 1 ∧
      fuseBad (parUnit e.params) (parBits e.params 0 0 24) = false ∧ s.popCmd.fuseRefusal = none ∧ s.p2Present = false) ∧
    (∃ (s : State) (e : CmdEntry), s.starts 0xD2 e ∧ e.params = [] ∧ (s.phase = 0 ∨ s.phase = 5 ∨ s.phase = 6) ∧
      s.bit F.FUSE_STATUS_DEBUG_LOCK = false ∧ s.p2Present = true) ∧
    (∃ (s : State) (e : CmdEntry), s.starts 0xD2 e ∧ e.params = [] ∧ (s.phase = 0 ∨ s.phase = 5 ∨ s.phase = 6) ∧
      s.bit F.FUSE_STATUS_DEBUG_LOCK = true) ∧
    (∃ (s : State), s.bit F.PRES_STATUS_DEBUG_UNLOCKED = false) ∧
    (∃ (a : Nat), 0x20000 ≤ a ∧ a < 0x30000) :=
  ⟨⟨(tset (qd live (cmd 0xD1 [0x2000040])) [(F.PRES_STATUS_P2, 1), (F.FUSE_STATUS_VPP_OK, 1)]), (cmd 0xD1 [0x2000040]),
      by decide +kernel⟩,
    ⟨(tset (qd live (cmd 0xD1 [0x2000002])) [(F.PRES_STATUS_P2, 1), (F.FUSE_STATUS_VPP_OK, 1)]), (cmd 0xD1 [0x2000002]), 1,
      by decide +kernel⟩,
    ⟨(qd live (cmd 0xD1 [0x2000041])), (cmd 0xD1 [0x2000041]), by decide +kernel⟩,
    ⟨(tset (qd live (cmd 0xD1 [0x1000001])) [(F.FUSE_STATUS_VPP_OK, 1)]), (cmd 0xD1 [0x1000001]), by decide +kernel⟩,
    ⟨(tset (qd live (cmd 0xD2 [])) [(F.PRES_STATUS_P2, 1)]), (cmd 0xD2 []), by decide +kernel⟩,
    ⟨(tset (qd live (cmd 0xD2 [])) [(F.FUSE_STATUS_DEBUG_LOCK, 1)]), (cmd 0xD2 []), by decide +kernel⟩,
    ⟨live, by decide +kernel⟩,
    ⟨0x2FFFC, by decide +kernel⟩⟩

theorem wit_PlatePeriods :
    (∃ (s : State) (k : Nat), s.off = false ∧ s.pbaRunning = true ∧ k ≤ 20) ∧
    (∃ (s : State) (k : Nat), s.off = false ∧ s.pbaRunning = true ∧ 1 ≤ k ∧ k ≤ 20) ∧
    (∃ (s : State), s.off = false ∧ s.pbaRunning = true) ∧
    (∃ (s : State) (k : Nat), s.off = false ∧ s.pbaRunning = true ∧ k ≠ 17) ∧
    (∃ (s : State), s.off = false ∧ s.pbaRunning = true ∧ (∀ e q, s.cw.running ≠ some ⟨e, .plate q⟩)) ∧
    (∃ (s : State) (e : CmdEntry) (q : PlateRun), s.off = false ∧ s.pbaRunning = true ∧ s.cw.running = some ⟨e, .plate q⟩ ∧
      q.age < 125) ∧
    (∃ (s : State) (e : CmdEntry) (q : PlateRun), s.off = false ∧ s.pbaRunning = true ∧ s.cw.running = some ⟨e, .plate q⟩ ∧
      125 ≤ q.age ∧ s.runtimeDead = false) ∧
    (∃ (s : State) (x : Int), s.off = false ∧ s.pdOn 6 = true ∧ s.fld F.PWR_STATE_STATE ≠ 3 ∧ 80 < x ∧ x < 128) ∧
    (∃ (s : State) (x : Int), s.off = false ∧ s.pdOn 6 = true ∧ s.fld F.PWR_STATE_STATE ≠ 3 ∧ x ≤ 80) ∧
    (∃ (s : State), s.off = false ∧ s.plate.samples.length = 10 ∧ (∀ x ∈ s.plate.samples, x ≤ 75)) ∧
    (∃ (s : State), s.off = false ∧ (s.plate.samples.length < 10 ∨ (∃ x ∈ s.plate.samples, 75 < x))) ∧
    (∃ (s : State), s.off = false ∧ s.fld F.PWR_STATE_STATE = 3 ∧ s.plate.samples.length = 10 ∧ (∀ x ∈ s.plate.samples, x ≤ 35)) ∧
    (∃ (s : State), s.off = false ∧ s.fld F.PWR_STATE_STATE = 3) :=
  ⟨⟨live, 20, by decide +kernel⟩,
    ⟨(live.setWaiting 16 [.read 0]), 16, by decide +kernel⟩,
    ⟨live, by decide +kernel⟩,
    ⟨live, 20, by decide +kernel⟩,
    ⟨live, by decide +kernel, by decide +kernel, fun _ _ => (Option.some_ne_none _).symm⟩,
    ⟨(upCw live (fun w => { w with running := some ⟨cmd 0x0A [], .plate ⟨false, 0, 1, [], [], 124⟩⟩ })), (cmd 0x0A []),
      ⟨false, 0, 1, [], [], 124⟩, by decide +kernel⟩,
    ⟨(upCw live (fun w => { w with running := some ⟨cmd 0x0A [], .plate ⟨false, 0, 1, [], [], 125⟩⟩ })), (cmd 0x0A []),
      ⟨false, 0, 1, [], [], 125⟩, by decide +kernel⟩,
    ⟨live, 81, by decide +kernel⟩,
    ⟨live, 80, by decide +kernel⟩,
    ⟨(upPlate live (fun p => { p with samples := List.replicate 10 75 })), by decide +kernel⟩,
    ⟨(upPlate live (fun p => { p with samples := 76 :: List.replicate 9 75 })), by decide +kernel⟩,
    ⟨(upPlate (tset live [(F.PWR_STATE_STATE, 3)]) (fun p => { p with samples := List.replicate 10 35 })), by decide +kernel⟩,
    ⟨(tset live [(F.PWR_STATE_STATE, 3)]), by decide +kernel⟩⟩

theorem wit_RequestsAreJudged :
    (∃ (s : State) (k : Fin 20) (r : ReqBody),
      let c := k.val + 1
      s.off = false ∧ ((∃ a, r = .read a) ∨ (∃ a d, r = .write a d)) ∧ s.mayUse c = true ∧ s.halfOn (reqAddr r) = true ∧
      s.pbaRunning = true ∧ (s.presentedOf c).length < 8 ∧ isClassG c = true) ∧
    (∃ (s : State) (k : Fin 20) (r : ReqBody),
      let c := k.val + 1
      s.off = false ∧ ((∃ a, r = .read a) ∨ (∃ a d, r = .write a d)) ∧ s.mayUse c = true ∧ s.halfOn (reqAddr r) = true ∧
      s.pbaRunning = true ∧ (s.presentedOf c).length < 8 ∧ isClassG c = false ∧ (isClassE c = true → s.waitingOf c = []) ∧
      reqCost r ≤ s.credit c) ∧
    (∃ (s : State) (k : Fin 20) (r : ReqBody),
      let c := k.val + 1
      s.off = false ∧ ((∃ a, r = .read a) ∨ (∃ a d, r = .write a d)) ∧ s.mayUse c = true ∧ s.halfOn (reqAddr r) = true ∧
      s.pbaRunning = true ∧ (s.presentedOf c).length < 8 ∧ isClassE c = true ∧ (s.waitingOf c ≠ [] ∨ s.credit c < reqCost r)) ∧
    (∃ (s : State) (k : Fin 20) (r : ReqBody),
      let c := k.val + 1
      s.off = false ∧ ((∃ a, r = .read a) ∨ (∃ a d, r = .write a d)) ∧ s.mayUse c = true ∧ s.halfOn (reqAddr r) = true ∧
      s.pbaRunning = true ∧ (s.presentedOf c).length < 8 ∧ isClassE c = false ∧ isClassG c = false ∧ s.credit c < reqCost r) ∧
    (∃ (s : State) (k : Fin 20) (r : ReqBody) (b : Nat),
      let c := k.val + 1
      s.off = false ∧ ((∃ a, r = .read a) ∨ (∃ a d, r = .write a d)) ∧ s.mayUse c = true ∧ s.halfOn (reqAddr r) = false ∧
      s.waitingOf c = [] ∧ b ≠ F.PLATE_OFF_HIT_COUNT.addr) ∧
    (∃ (s : State) (k : Fin 20) (r : ReqBody) (a : Nat),
      let c := k.val + 1
      s.off = false ∧ ((∃ a, r = .read a) ∨ (∃ a d, r = .write a d)) ∧ s.mayUse c = true ∧ s.halfOn (reqAddr r) = false ∧
      s.waitingOf c = [] ∧ r = .read a) ∧
    (∃ (s : State) (k : Fin 20) (r : ReqBody),
      let c := k.val + 1
      s.off = false ∧ ((∃ a, r = .read a) ∨ (∃ a d, r = .write a d)) ∧ s.runtime = false ∧ isClassG c = false ∧ c ≠ 16) ∧
    (∃ (s : State) (k : Fin 20) (r : ReqBody) (l : List ReqBody),
      let c := k.val + 1
      s.off = false ∧ ((∃ a, r = .read a) ∨ (∃ a d, r = .write a d)) ∧ s.waitingOf (k.val + 1) = r :: l ∧
      s.halfOn (reqAddr r) = true ∧ s.pbaRunning = true ∧ reqCost r ≤ s.credit c ∧ (s.presentedOf c).length < 8 ∧
      isClassG c = false) ∧
    (∃ (s : State) (k : Fin 20) (r : ReqBody) (l : List ReqBody),
      let c := k.val + 1
      s.off = false ∧ ((∃ a, r = .read a) ∨ (∃ a d, r = .write a d)) ∧ s.waitingOf (k.val + 1) = r :: l ∧
      s.halfOn (reqAddr r) = true ∧ s.credit c < reqCost r) :=
  ⟨⟨live, 4, (.read 0), by decide +kernel, .inl ⟨_, rfl⟩, by decide +kernel, by decide +kernel, by decide +kernel,
      by decide +kernel, by decide +kernel⟩,
    ⟨(live.setCredit 6 2), 5, (.write 0 [1]), by decide +kernel, .inr ⟨_, _, rfl⟩, by decide +kernel, by decide +kernel,
      by decide +kernel, by decide +kernel, by decide +kernel, by decide +kernel, by decide +kernel⟩,
    ⟨(live.setCredit 16 0), 15, (.read 0), by decide +kernel, .inl ⟨_, rfl⟩, by decide +kernel, by decide +kernel,
      by decide +kernel, by decide +kernel, by decide +kernel, by decide +kernel⟩,
    ⟨(live.setCredit 6 1), 5, (.write 0 [1]), by decide +kernel, .inr ⟨_, _, rfl⟩, by decide +kernel, by decide +kernel,
      by decide +kernel, by decide +kernel, by decide +kernel, by decide +kernel, by decide +kernel⟩,
    ⟨(tset live [(F.PLATE_CTRL_HI_READY, 0)]), 19, (.read 0x1FFFFE0), 0, by decide +kernel, .inl ⟨_, rfl⟩, by decide +kernel,
      by decide +kernel, by decide +kernel, by decide +kernel⟩,
    ⟨(tset live [(F.PLATE_CTRL_HI_READY, 0)]), 19, (.read 0x1FFFFE0), 0x1FFFFE0, by decide +kernel, .inl ⟨_, rfl⟩,
      by decide +kernel, by decide +kernel, by decide +kernel, by decide +kernel⟩,
    ⟨idle, 19, (.read 0), by decide +kernel, .inl ⟨_, rfl⟩, by decide +kernel, by decide +kernel, by decide +kernel⟩,
    ⟨((live.setWaiting 16 [.read 0]).setCredit 16 1), 15, (.read 0), [], by decide +kernel, .inl ⟨_, rfl⟩, by decide +kernel,
      by decide +kernel, by decide +kernel, by decide +kernel, by decide +kernel, by decide +kernel⟩,
    ⟨((live.setWaiting 19 [.read 0]).setCredit 19 0), 18, (.read 0), [], by decide +kernel, .inl ⟨_, rfl⟩, by decide +kernel,
      by decide +kernel, by decide +kernel⟩⟩

theorem wit_SlotsReadAndWrite :
    (∃ (s : State) (c a : Nat) (r : ReqBody),
      let w := plateWordOf a
      s.off = false ∧ 1 ≤ c ∧ c ≤ 20 ∧ s.presentedOf c = [r] ∧ (∀ k, 1 ≤ k → k ≤ 20 → k ≠ c → s.presentedOf k = []) ∧
      s.pba.merging = [] ∧ s.plate.refreshLeft = 0 ∧ r = .read a ∧ s.wrongBits w = 0) ∧
    (∃ (s : State) (c a : Nat) (r : ReqBody),
      let w := plateWordOf a
      s.off = false ∧ 1 ≤ c ∧ c ≤ 20 ∧ s.presentedOf c = [r] ∧ (∀ k, 1 ≤ k → k ≤ 20 → k ≠ c → s.presentedOf k = []) ∧
      s.pba.merging = [] ∧ s.plate.refreshLeft = 0 ∧ r = .read a ∧ s.wrongBits w ≠ 0 ∧ correctable (s.wrongBits w) = true ∧
      s.bit F.PLATE_CTRL_SCRUB_EN = false) ∧
    (∃ (s : State) (c a : Nat) (r : ReqBody),
      let w := plateWordOf a
      s.off = false ∧ 1 ≤ c ∧ c ≤ 20 ∧ s.presentedOf c = [r] ∧ (∀ k, 1 ≤ k → k ≤ 20 → k ≠ c → s.presentedOf k = []) ∧
      s.pba.merging = [] ∧ s.plate.refreshLeft = 0 ∧ r = .read a ∧ correctable (s.wrongBits w) = false ∧
      s.bit F.PLATE_ECC_UE_STICKY = false) ∧
    (∃ (s : State) (c a : Nat) (r : ReqBody) (d : List Byte) (x : Nat), s.off = false ∧ 1 ≤ c ∧ c ≤ 20 ∧ s.presentedOf c = [r] ∧
      (∀ k, 1 ≤ k → k ≤ 20 → k ≠ c → s.presentedOf k = []) ∧ s.pba.merging = [] ∧ s.plate.refreshLeft = 0 ∧ r = .write a d ∧
      a % 32 = 0 ∧ d.length = 32 ∧ (x < a ∨ a + 32 ≤ x)) ∧
    (∃ (s : State) (c a : Nat) (r : ReqBody) (d : List Byte) (i : Nat), s.off = false ∧ 1 ≤ c ∧ c ≤ 20 ∧ s.presentedOf c = [r] ∧
      (∀ k, 1 ≤ k → k ≤ 20 → k ≠ c → s.presentedOf k = []) ∧ s.pba.merging = [] ∧ s.plate.refreshLeft = 0 ∧ r = .write a d ∧
      a % 32 = 0 ∧ d.length = 32 ∧ i < 32) ∧
    (∃ (s : State) (c a : Nat) (r : ReqBody) (d : List Byte) (x : Nat),
      let w := plateWordOf a
      s.off = false ∧ 1 ≤ c ∧ c ≤ 20 ∧ s.presentedOf c = [r] ∧ (∀ k, 1 ≤ k → k ≤ 20 → k ≠ c → s.presentedOf k = []) ∧
      s.pba.merging = [] ∧ s.plate.refreshLeft = 0 ∧ r = .write a d ∧ d ≠ [] ∧ d.length < 32 ∧ a % 32 + d.length ≤ 32 ∧
      s.wrongBits w = 0 ∧ (x < a ∨ a + d.length ≤ x)) ∧
    (∃ (s : State) (c a : Nat) (r : ReqBody) (d : List Byte) (i : Nat),
      let w := plateWordOf a
      s.off = false ∧ 1 ≤ c ∧ c ≤ 20 ∧ s.presentedOf c = [r] ∧ (∀ k, 1 ≤ k → k ≤ 20 → k ≠ c → s.presentedOf k = []) ∧
      s.pba.merging = [] ∧ s.plate.refreshLeft = 0 ∧ r = .write a d ∧ d ≠ [] ∧ d.length < 32 ∧ a % 32 + d.length ≤ 32 ∧
      s.wrongBits w = 0 ∧ i < d.length) ∧
    (∃ (s : State) (c k a b : Nat), s.off = false ∧ 1 ≤ c ∧ c < k ∧ k ≤ 20 ∧ s.presentedOf c = [.read a] ∧
      s.presentedOf k = [.read b] ∧ (∀ j, 1 ≤ j → j ≤ 20 → j ≠ c → j ≠ k → s.presentedOf j = []) ∧ s.pba.merging = [] ∧
      s.plate.refreshLeft = 0 ∧ s.wrongBits (plateWordOf a) = 0 ∧ s.wrongBits (plateWordOf b) = 0 ∧ plateBank a = plateBank b) ∧
    (∃ (s : State) (c k a b : Nat), s.off = false ∧ 1 ≤ c ∧ c < k ∧ k ≤ 20 ∧ s.presentedOf c = [.read a] ∧
      s.presentedOf k = [.read b] ∧ (∀ j, 1 ≤ j → j ≤ 20 → j ≠ c → j ≠ k → s.presentedOf j = []) ∧ s.pba.merging = [] ∧
      s.plate.refreshLeft = 0 ∧ s.wrongBits (plateWordOf a) = 0 ∧ s.wrongBits (plateWordOf b) = 0 ∧ plateBank a ≠ plateBank b) ∧
    (∃ (s : State) (c a : Nat), s.off = false ∧ 1 ≤ c ∧ c ≤ 20 ∧ s.presentedOf c = [.read a] ∧
      (∀ k, 1 ≤ k → k ≤ 20 → k ≠ c → s.presentedOf k = []) ∧ s.pba.merging = [] ∧ s.pbaRunning = true ∧
      0 < s.plate.refreshLeft ∧ s.plate.refreshPtr % 64 = plateBank a ∧ s.pdOn (plateDomain a) = true) ∧
    (∃ (s t : State) (word mask : Nat), s.off = false ∧ exec (.plateAccess word mask) s = .next t) :=
  ⟨⟨(live.setPresented 3 [.read 0x1FFFFE0]), 3, 0x1FFFFE0, (.read 0x1FFFFE0), by decide +kernel, by decide +kernel,
      by decide +kernel, by decide +kernel, upTo20 (by decide +kernel), by decide +kernel, by decide +kernel,
      by decide +kernel, by decide +kernel⟩,
    ⟨(upPlate (live.setPresented 3 [.read 32]) (fun p => { p with flips := [(32, 2 ^ 255)] })), 3, 32, (.read 32),
      by decide +kernel, by decide +kernel, by decide +kernel, by decide +kernel, upTo20 (by decide +kernel),
      by decide +kernel, by decide +kernel, by decide +kernel, by decide +kernel, by decide +kernel, by decide +kernel⟩,
    ⟨(upPlate (live.setPresented 20 [.read 32]) (fun p => { p with flips := [(32, 3)] })), 20, 32, (.read 32),
      by decide +kernel, by decide +kernel, by decide +kernel, by decide +kernel, upTo20 (by decide +kernel),
      by decide +kernel, by decide +kernel, by decide +kernel, by decide +kernel, by decide +kernel⟩,
    ⟨(live.setPresented 20 [(.write 32 (List.replicate 32 7))]), 20, 32, (.write 32 (List.replicate 32 7)),
      (List.replicate 32 7), 64, by decide +kernel, by decide +kernel, by decide +kernel, by decide +kernel,
      upTo20 (by decide +kernel), by decide +kernel, by decide +kernel, by decide +kernel, by decide +kernel,
      by decide +kernel, by decide +kernel⟩,
    ⟨(live.setPresented 1 [(.write 32 (List.replicate 32 7))]), 1, 32, (.write 32 (List.replicate 32 7)),
      (List.replicate 32 7), 31, by decide +kernel, by decide +kernel, by decide +kernel, by decide +kernel,
      upTo20 (by decide +kernel), by decide +kernel, by decide +kernel, by decide +kernel, by decide +kernel,
      by decide +kernel, by decide +kernel⟩,
    ⟨(live.setPresented 20 [(.write 33 (List.replicate 30 7))]), 20, 33, (.write 33 (List.replicate 30 7)),
      (List.replicate 30 7), 32, by decide +kernel, by decide +kernel, by decide +kernel, by decide +kernel,
      upTo20 (by decide +kernel), by decide +kernel, by decide +kernel, by decide +kernel, by decide +kernel,
      by decide +kernel, by decide +kernel, by decide +kernel, by decide +kernel⟩,
    ⟨(live.setPresented 1 [(.write 33 (List.replicate 30 7))]), 1, 33, (.write 33 (List.replicate 30 7)),
      (List.replicate 30 7), 29, by decide +kernel, by decide +kernel, by decide +kernel, by decide +kernel,
      upTo20 (by decide +kernel), by decide +kernel, by decide +kernel, by decide +kernel, by decide +kernel,
      by decide +kernel, by decide +kernel, by decide +kernel, by decide +kernel⟩,
    ⟨((live.setPresented 3 [.read 0]).setPresented 9 [.read 0x20]), 3, 9, 0, 0x20, by decide +kernel, by decide +kernel,
      by decide +kernel, by decide +kernel, by decide +kernel, by decide +kernel, upTo20 (by decide +kernel),
      by decide +kernel, by decide +kernel, by decide +kernel, by decide +kernel, by decide +kernel⟩,
    ⟨((live.setPresented 3 [.read 0]).setPresented 9 [.read 0x100]), 3, 9, 0, 0x100, by decide +kernel, by decide +kernel,
      by decide +kernel, by decide +kernel, by decide +kernel, by decide +kernel, upTo20 (by decide +kernel),
      by decide +kernel, by decide +kernel, by decide +kernel, by decide +kernel, by decide +kernel⟩,
    ⟨(upPlate (live.setPresented 20 [.read 0]) (fun p => { p with refreshLeft := 1, refreshPtr := 64 })), 20, 0,
      by decide +kernel, by decide +kernel, by decide +kernel, by decide +kernel, upTo20 (by decide +kernel),
      by decide +kernel, by decide +kernel, by decide +kernel, by decide +kernel, by decide +kernel⟩,
    ⟨live, (nxt (exec (.plateAccess 0 0) live)), 0, 0, by decide +kernel, nxt_eq _ (by decide +kernel)⟩⟩

theorem wit_Budgets :
    (∃ (s : State) (e : CmdEntry), let c := parUnit e.params; let v := (par e.params 1).toNat;
      let sum := 1024 + 608 * 4 + ((List.range 15).map (fun i => if i + 6 = c then v else s.fld (F.PBA_ALLOT_ALLOT (i + 6)))).sum;
      s.starts 0xC0 e ∧ s.runtime = true ∧ e.params.length = 2 ∧ 6 ≤ parUnit e.params ∧ parUnit e.params ≤ 20 ∧
      strayBits e.params 0 0xFF000000 = false ∧ (par e.params 1).toNat ≤ 20864 ∧
      (parUnit e.params = 18 → 1280 ≤ (par e.params 1).toNat) ∧ sum ≤ 24320) ∧
    (∃ (s : State) (e : CmdEntry), let c := parUnit e.params; let v := (par e.params 1).toNat;
      let sum := 1024 + 608 * 4 + ((List.range 15).map (fun i => if i + 6 = c then v else s.fld (F.PBA_ALLOT_ALLOT (i + 6)))).sum;
      s.starts 0xC0 e ∧ s.runtime = true ∧ e.params.length = 2 ∧ 6 ≤ parUnit e.params ∧ parUnit e.params ≤ 20 ∧
      strayBits e.params 0 0xFF000000 = false ∧ (par e.params 1).toNat ≤ 20864 ∧
      (parUnit e.params = 18 → 1280 ≤ (par e.params 1).toNat) ∧ 24320 < sum) ∧
    (∃ (s : State) (e : CmdEntry), s.starts 0xC1 e ∧ s.runtime = true ∧ e.params.length = 1 ∧ 1 ≤ parUnit e.params ∧
      parUnit e.params ≤ 20 ∧ strayBits e.params 0 0xFF000000 = false) :=
  ⟨⟨(qd live (cmd 0xC0 [0x12000000, 0x500])), (cmd 0xC0 [0x12000000, 0x500]), by decide +kernel⟩,
    ⟨(qd live (cmd 0xC0 [0x6000000, 0x5180])), (cmd 0xC0 [0x6000000, 0x5180]), by decide +kernel⟩,
    ⟨(qd live (cmd 0xC1 [0x14000000])), (cmd 0xC1 [0x14000000]), by decide +kernel⟩⟩

theorem wit_EtchWordWrites :
    (∃ (s u : State) (j : EtchJob) (w : EtchWrite) (l : List EtchWrite) (a : Nat), s.off = false ∧ s.pwr.target = none ∧
      s.mayWrite = true ∧ s.canAttempt false = true ∧ (∀ e q, s.cw.running ≠ some ⟨e, .etchRead q⟩) ∧ s.headJob = some (j, u) ∧
      j.words = w :: l ∧ l ≠ [] ∧ (a < w.addr ∨ w.addr + 8 ≤ a)) ∧
    (∃ (s u : State) (j : EtchJob) (w : EtchWrite) (l : List EtchWrite), s.off = false ∧ s.pwr.target = none ∧
      s.mayWrite = true ∧ s.canAttempt false = true ∧ (∀ e q, s.cw.running ≠ some ⟨e, .etchRead q⟩) ∧ s.headJob = some (j, u) ∧
      j.words = w :: l ∧ s.etch.failed < 2) ∧
    (∃ (s u : State) (j : EtchJob) (w : EtchWrite) (l : List EtchWrite), s.off = false ∧ s.pwr.target = none ∧
      s.mayWrite = true ∧ s.canAttempt false = true ∧ (∀ e q, s.cw.running ≠ some ⟨e, .etchRead q⟩) ∧ s.headJob = some (j, u) ∧
      j.words = w :: l ∧ 2 ≤ s.etch.failed ∧ w.addr < 0x400000 ∧ s.cw.running = none ∧ (j.kind ≠ .window ∨ l = [])) ∧
    (∃ (s u : State) (j : EtchJob) (w : EtchWrite) (l : List EtchWrite), s.off = false ∧ s.pwr.target = none ∧
      s.mayWrite = true ∧ s.canAttempt false = true ∧ (∀ e q, s.cw.running ≠ some ⟨e, .etchRead q⟩) ∧ s.headJob = some (j, u) ∧
      j.words = w :: l ∧ 2 ≤ s.etch.failed ∧ w.addr < 0x400000 ∧ s.cw.running = none ∧ j.kind = .window ∧ l ≠ []) ∧
    (∃ (s u : State) (j : EtchJob) (w : EtchWrite) (l : List EtchWrite) (a : Nat), s.off = false ∧ s.pwr.target = none ∧
      s.mayWrite = true ∧ s.canAttempt false = true ∧ (∀ e q, s.cw.running ≠ some ⟨e, .etchRead q⟩) ∧ s.headJob = some (j, u) ∧
      j.words = w :: l ∧ 2 ≤ s.etch.failed ∧ w.addr < 0x400000 ∧ s.cw.running = none ∧ (a < w.addr ∨ w.addr + 8 ≤ a)) ∧
    (∃ (s : State) (log : Bool) (x : WordTry), s.bit F.PWR_STATE_PARKED = false ∧ s.etch.attempt = some x ∧ x.log ≠ log ∧
      s.pwr.target = none) ∧
    (∃ (s : State) (ev : PresEvent) (l : List PresEvent), s.off = false ∧ s.pres.events = ev :: l ∧ s.etch.log = none ∧
      s.pdOn 9 = true ∧ s.runtimeDead = false ∧ s.bit F.ETCH_STATUS_SUSPENDED = false) ∧
    (∃ (s : State), s.fld F.ETCH_LOG_HEAD_VALID = 0) ∧
    (∃ (s : State) (j : EtchJob) (w : EtchWrite) (c : Nat), s.off = false ∧ s.pwr.target = none ∧ s.mayWrite = true ∧
      s.canAttempt true = true ∧ s.etch.log = some j ∧ j.kind = .log c true ∧ j.words = [w] ∧ c < 8192) ∧
    (∃ (s : State) (e : CmdEntry) (q : EtchQuery), s.cw.running = some ⟨e, .etchRead q⟩ ∧ s.runtimeDead = false) :=
  ⟨⟨(upEtch live (fun x => { x with jobs := [⟨.window, [⟨0x3FFFF8, 1, 0⟩, ⟨0, 1, 0⟩], none⟩] })),
      (upEtch live (fun x => { x with jobs := [⟨.window, [⟨0x3FFFF8, 1, 0⟩, ⟨0, 1, 0⟩], none⟩] })),
      ⟨.window, [⟨0x3FFFF8, 1, 0⟩, ⟨0, 1, 0⟩], none⟩, ⟨0x3FFFF8, 1, 0⟩, [⟨0, 1, 0⟩], 0x3FFFF7, by decide +kernel,
      by decide +kernel, by decide +kernel, by decide +kernel, fun _ _ => (Option.some_ne_none _).symm, by decide +kernel,
      by decide +kernel, by decide +kernel, by decide +kernel⟩,
    ⟨(upEtch live (fun x => { x with jobs := [⟨.window, [⟨0x3FFFF8, 1, 0⟩], none⟩], attempt := some ⟨false, 0x3FFFF8, 1⟩ })),
      (upEtch live (fun x => { x with jobs := [⟨.window, [⟨0x3FFFF8, 1, 0⟩], none⟩], attempt := some ⟨false, 0x3FFFF8, 1⟩ })),
      ⟨.window, [⟨0x3FFFF8, 1, 0⟩], none⟩, ⟨0x3FFFF8, 1, 0⟩, [], by decide +kernel, by decide +kernel, by decide +kernel,
      by decide +kernel, fun _ _ => (Option.some_ne_none _).symm, by decide +kernel, by decide +kernel, by decide +kernel⟩,
    ⟨(upEtch live (fun x => { x with jobs := [⟨.window, [⟨0x3FFFF8, 1, 0⟩], none⟩], attempt := some ⟨false, 0x3FFFF8, 2⟩ })),
      (upEtch live (fun x => { x with jobs := [⟨.window, [⟨0x3FFFF8, 1, 0⟩], none⟩], attempt := some ⟨false, 0x3FFFF8, 2⟩ })),
      ⟨.window, [⟨0x3FFFF8, 1, 0⟩], none⟩, ⟨0x3FFFF8, 1, 0⟩, [], by decide +kernel, by decide +kernel, by decide +kernel,
      by decide +kernel, fun _ _ => (Option.some_ne_none _).symm, by decide +kernel, by decide +kernel, by decide +kernel,
      by decide +kernel, by decide +kernel, by decide +kernel⟩,
    ⟨(upEtch live (fun x => { x with jobs := [⟨.window, [⟨0x3FFFF8, 1, 0⟩, ⟨0, 1, 0⟩], none⟩], attempt := some ⟨false, 0x3FFFF8, 2⟩ })),
      (upEtch live (fun x => { x with jobs := [⟨.window, [⟨0x3FFFF8, 1, 0⟩, ⟨0, 1, 0⟩], none⟩], attempt := some ⟨false, 0x3FFFF8, 2⟩ })),
      ⟨.window, [⟨0x3FFFF8, 1, 0⟩, ⟨0, 1, 0⟩], none⟩, ⟨0x3FFFF8, 1, 0⟩, [⟨0, 1, 0⟩], by decide +kernel, by decide +kernel,
      by decide +kernel, by decide +kernel, fun _ _ => (Option.some_ne_none _).symm, by decide +kernel, by decide +kernel,
      by decide +kernel, by decide +kernel, by decide +kernel, by decide +kernel, by decide +kernel⟩,
    ⟨(upEtch live (fun x => { x with jobs := [⟨.window, [⟨0x3FFFF8, 1, 0⟩], none⟩], attempt := some ⟨false, 0x3FFFF8, 2⟩ })),
      (upEtch live (fun x => { x with jobs := [⟨.window, [⟨0x3FFFF8, 1, 0⟩], none⟩], attempt := some ⟨false, 0x3FFFF8, 2⟩ })),
      ⟨.window, [⟨0x3FFFF8, 1, 0⟩], none⟩, ⟨0x3FFFF8, 1, 0⟩, [], 0x3FFFF7, by decide +kernel, by decide +kernel,
      by decide +kernel, by decide +kernel, fun _ _ => (Option.some_ne_none _).symm, by decide +kernel, by decide +kernel,
      by decide +kernel, by decide +kernel, by decide +kernel, by decide +kernel⟩,
    ⟨(upEtch live (fun x => { x with attempt := some ⟨true, 0, 1⟩ })), false, ⟨true, 0, 1⟩, by decide +kernel⟩,
    ⟨(upPres live (fun p => { p with events := [⟨3, true, 0, 0, 0, 0, 0⟩] })), ⟨3, true, 0, 0, 0, 0, 0⟩, [], by decide +kernel⟩,
    ⟨live, by decide +kernel⟩,
    ⟨(upEtch live (fun x => { x with log := some ⟨.log 8191 true, [⟨0x240000, 1, 0⟩], none⟩ })),
      ⟨.log 8191 true, [⟨0x240000, 1, 0⟩], none⟩, ⟨0x240000, 1, 0⟩, 8191, by decide +kernel⟩,
    ⟨(upCw live (fun w => { w with running := some ⟨cmd 0x70 [], .etchRead (.words 0 2)⟩ })), (cmd 0x70 []), (.words 0 2),
      by decide +kernel⟩⟩

theorem wit_EtchCommands :
    (∃ (s : State) (e : CmdEntry),
      let a := (par e.params 0).toNat
      let n := (par e.params 1).toNat
      s.starts 0x70 e ∧ e.params.length = 2 ∧ s.pdOn 9 = true ∧ a % 8 = 0 ∧ n % 2 = 0 ∧ 2 ≤ n ∧ n ≤ 1024 ∧
      a + 4 * n ≤ 0x400000 ∧ s.etchBusy (.words a n) = false) ∧
    (∃ (s : State) (e : CmdEntry),
      let a := (par e.params 0).toNat
      let n := (par e.params 1).toNat
      s.starts 0x70 e ∧ e.params.length = 2 ∧ s.pdOn 9 = true ∧ a % 8 = 0 ∧ n % 2 = 0 ∧ 2 ≤ n ∧ n ≤ 1024 ∧
      a + 4 * n ≤ 0x400000 ∧ s.etchBusy (.words a n) = true) ∧
    (∃ (s : State) (e : CmdEntry),
      let r := parUnit e.params
      s.starts 0x72 e ∧ e.params.length = 1 ∧ parUnit e.params ≤ 7 ∧ strayBits e.params 0 0xFF000000 = false ∧ s.pdOn 9 = true ∧
      s.etchBusy (.list r) = false) ∧
    (∃ (s : State) (e : CmdEntry),
      let r := parUnit e.params
      s.starts 0x72 e ∧ e.params.length = 1 ∧ parUnit e.params ≤ 7 ∧ strayBits e.params 0 0xFF000000 = false ∧ s.pdOn 9 = true ∧
      s.etchBusy (.list r) = true) ∧
    (∃ (s : State) (e : CmdEntry),
      let type := parBits e.params 0 16 16
      let flags := parBits e.params 0 8 8
      let total := (par e.params 1).toNat
      let more := parBits e.params 0 7 1
      let d := s.staged ++ byteString (e.params.drop 2)
      s.starts 0x71 e ∧ s.runtime = true ∧ 2 ≤ e.params.length ∧ e.params.length ≤ 1026 ∧
      strayBits e.params 0 0xFFFFFF80 = false ∧ recordParamFails type flags total = [] ∧ s.bit F.PWR_STATE_RIDE = false ∧
      s.stagingClash type flags total = false ∧ s.presenceMet (s.recordClass type flags) = true ∧ d.length ≤ 16384 ∧ more = 1) ∧
    (∃ (s : State) (e : CmdEntry),
      let type := parBits e.params 0 16 16
      let flags := parBits e.params 0 8 8
      let total := (par e.params 1).toNat
      let more := parBits e.params 0 7 1
      let d := s.staged ++ byteString (e.params.drop 2)
      s.starts 0x71 e ∧ s.runtime = true ∧ 2 ≤ e.params.length ∧ e.params.length ≤ 1026 ∧
      strayBits e.params 0 0xFFFFFF80 = false ∧ recordParamFails type flags total = [] ∧ s.bit F.PWR_STATE_RIDE = false ∧
      s.stagingClash type flags total = false ∧ s.presenceMet (s.recordClass type flags) = true ∧ d.length ≤ 16384 ∧ more = 0 ∧
      d.length = total) ∧
    (∃ (s : State) (e : CmdEntry),
      let type := parBits e.params 0 16 16
      let flags := parBits e.params 0 8 8
      let total := (par e.params 1).toNat
      let more := parBits e.params 0 7 1
      let d := s.staged ++ byteString (e.params.drop 2)
      s.starts 0x71 e ∧ s.runtime = true ∧ 2 ≤ e.params.length ∧ e.params.length ≤ 1026 ∧
      strayBits e.params 0 0xFFFFFF80 = false ∧ recordParamFails type flags total = [] ∧
      s.stagingClash type flags total = false ∧ d.length ≤ 16384 ∧ more = 0 ∧ d.length < total) ∧
    (∃ (s : State) (e : CmdEntry),
      let type := parBits e.params 0 16 16
      let flags := parBits e.params 0 8 8
      let total := (par e.params 1).toNat
      s.starts 0x71 e ∧ s.runtime = true ∧ 2 ≤ e.params.length ∧ e.params.length ≤ 1026 ∧
      strayBits e.params 0 0xFFFFFF80 = false ∧ recordParamFails type flags total = [] ∧ s.bit F.PWR_STATE_RIDE = false ∧
      s.stagingClash type flags total = true) ∧
    (∃ (s : State) (e : CmdEntry),
      let type := parBits e.params 0 16 16
      let flags := parBits e.params 0 8 8
      let total := (par e.params 1).toNat
      let more := parBits e.params 0 7 1
      let d := s.staged ++ byteString (e.params.drop 2)
      s.starts 0x71 e ∧ s.runtime = true ∧ 2 ≤ e.params.length ∧ e.params.length ≤ 1026 ∧
      strayBits e.params 0 0xFFFFFF80 = false ∧ recordParamFails type flags total = [] ∧ s.bit F.PWR_STATE_RIDE = true ∧
      s.stagingClash type flags total = false ∧ d.length ≤ 16384 ∧ (more = 1 ∨ d.length = total)) ∧
    (∃ (s : State) (g : Staging), s.off = false ∧ s.etch.staging = some g ∧ g.last + 2000 ≤ s.ticks) ∧
    (∃ (s : State), (∀ g, s.etch.staging = some g → s.ticks < g.last + 2000)) :=
  ⟨⟨(qd live (cmd 0x70 [0x3FFFF8, 2])), (cmd 0x70 [0x3FFFF8, 2]), by decide +kernel⟩,
    ⟨(qd (upEtch live (fun x => { x with attempt := some ⟨true, 0x3F0000, 1⟩ })) (cmd 0x70 [0x3FFFF8, 2])),
      (cmd 0x70 [0x3FFFF8, 2]), by decide +kernel⟩,
    ⟨(qd live (cmd 0x72 [0x7000000])), (cmd 0x72 [0x7000000]), by decide +kernel⟩,
    ⟨(qd (upEtch live (fun x => { x with attempt := some ⟨true, 0x300000, 1⟩ })) (cmd 0x72 [0x7000000])),
      (cmd 0x72 [0x7000000]), by decide +kernel⟩,
    ⟨(qd live (cmd 0x71 [0x30000080, 0x8, 0x1020304])), (cmd 0x71 [0x30000080, 0x8, 0x1020304]), by decide +kernel⟩,
    ⟨(qd live (cmd 0x71 [0x30000000, 0x4, 0x1020304])), (cmd 0x71 [0x30000000, 0x4, 0x1020304]), by decide +kernel⟩,
    ⟨(qd live (cmd 0x71 [0x30000000, 0x8, 0x1020304])), (cmd 0x71 [0x30000000, 0x8, 0x1020304]), by decide +kernel⟩,
    ⟨(qd (upEtch live (fun x => { x with staging := some ⟨0x3000, 0, 12, [], 3⟩ })) (cmd 0x71 [0x30000000, 0x8, 0x1020304])),
      (cmd 0x71 [0x30000000, 0x8, 0x1020304]), by decide +kernel⟩,
    ⟨(qd (tset live [(F.PWR_STATE_RIDE, 1)]) (cmd 0x71 [0x30000000, 0x4, 0])), (cmd 0x71 [0x30000000, 0x4, 0]),
      by decide +kernel⟩,
    ⟨(at_ (upEtch live (fun x => { x with staging := some ⟨0x3000, 0, 8, [], 3⟩ })) 2003), ⟨0x3000, 0, 8, [], 3⟩,
      by decide +kernel⟩,
    ⟨live, nofun⟩⟩

theorem wit_UpdateOrder :
    (∃ (k : Nat) (old : Nat), k ≤ 1 ∧ (old = 1 - k ∨ old = 2)) :=
    ⟨1, 0, by decide +kernel⟩

theorem wit_InputFrames :
    (∃ (s : State) (i : Fin 4) (vc1 : Bool),
      let b := vc1 && isDsi i.val
      s.off = false ∧ s.streamOn i.val b = true ∧ ((s.input i.val).vid b).inFrame = false ∧
      (s.inState i.val = 1 ∨ s.inState i.val = 2) ∧ s.captureSurf i.val b = none) ∧
    (∃ (s : State) (i : Fin 4) (vc1 : Bool) (n k : Nat),
      let b := vc1 && isDsi i.val
      s.off = false ∧ s.streamOn i.val b = true ∧ ((s.input i.val).vid b).inFrame = false ∧
      (s.inState i.val = 1 ∨ s.inState i.val = 2) ∧ s.captureSurf i.val b = some n ∧ s.chooseBuf n = some k) ∧
    (∃ (s : State) (i : Fin 4) (vc1 : Bool) (n : Nat),
      let b := vc1 && isDsi i.val
      s.off = false ∧ s.streamOn i.val b = true ∧ ((s.input i.val).vid b).inFrame = false ∧
      (s.inState i.val = 1 ∨ s.inState i.val = 2) ∧ s.captureSurf i.val b = some n ∧ s.chooseBuf n = none) ∧
    (∃ (s : State) (i : Fin 4) (vc1 : Bool),
      let b := vc1 && isDsi i.val
      s.off = false ∧ s.streamOn i.val b = true ∧ ((s.input i.val).vid b).inFrame = false ∧ s.inState i.val = 4 ∧
      isDsi i.val = true ∧ b = false) ∧
    (∃ (i : Nat) (l : List (List Pix)), isDsi i = true ∧ 1 ≤ l.length ∧ l.length ≤ 4) ∧
    (∃ (s : State) (i : Nat), isDsi i = false ∧ s.bit (F.IN_LVDS_CTRL_DUAL i) = false) ∧
    (∃ (s : State) (i : Nat) (l0 l1 : List LvdsClk) (k : Int) (n : Nat), isDsi i = false ∧
      s.bit (F.IN_LVDS_CTRL_DUAL i) = true ∧ -3 ≤ k ∧ k ≤ 3 ∧ l0.length = l1.length ∧ n < l0.length) ∧
    (∃ (s : State) (i : Fin 4) (m : LineIn) (f : PixFmt) (px : List Pix) (n k : Nat),
      let v := (s.input i.val).vc0
      let d := s.desc n
      let c := s.pixWidths i.val f
      let w := lineWords (d.lineAt k v.lines) (px.flatMap (storePixel d.fmt c.1 c.2.1 c.2.2))
      s.off = false ∧ s.streamOn i.val false = true ∧ s.arrived i.val m = (some (f, px, true), s) ∧ v.inFrame = true ∧
      v.broken = false ∧ v.cap = some (n, k) ∧ isYcc i.val f = (d.fmt == 8) ∧ px.length = d.width ∧ v.lines < d.height ∧
      (v.lines = 0 ∨ v.width = px.length) ∧ (s.inState i.val = 2 → ∀ g ∈ v.prev, g.1 = px.length) ∧
      bufBytes s.elastic + bufBytes w ≤ 65536 ∧ s.standAlone = false) ∧
    (∃ (s : State) (i : Fin 4) (m : LineIn) (f : PixFmt) (px : List Pix) (n k : Nat),
      let v := (s.input i.val).vc0
      let d := s.desc n
      let c := s.pixWidths i.val f
      let w := lineWords (d.lineAt k v.lines) (px.flatMap (storePixel d.fmt c.1 c.2.1 c.2.2))
      s.off = false ∧ s.streamOn i.val false = true ∧ s.arrived i.val m = (some (f, px, true), s) ∧ v.inFrame = true ∧
      v.broken = false ∧ v.cap = some (n, k) ∧ isYcc i.val f = (d.fmt == 8) ∧ px.length = d.width ∧ v.lines < d.height ∧
      (v.lines = 0 ∨ v.width = px.length) ∧ (s.inState i.val = 2 → ∀ g ∈ v.prev, g.1 = px.length) ∧
      65536 < bufBytes s.elastic + bufBytes w) ∧
    (∃ (s : State) (i : Fin 4),
      let v := (s.input i.val).vc0
      s.off = false ∧ v.inFrame = true ∧ v.broken = false ∧ v.packets = [] ∧ v.odd = false ∧ v.lines ≠ 0 ∧ v.width ≤ 4096 ∧
      v.lines ≤ 2400 ∧ v.prev = some (v.width, v.lines) ∧ s.inState i.val = 1 ∧ v.cap = none) ∧
    (∃ (s : State) (i : Fin 4) (n k : Nat),
      let v := (s.input i.val).vc0
      s.off = false ∧ v.inFrame = true ∧ v.broken = false ∧ v.packets = [] ∧ v.odd = false ∧ v.lines ≠ 0 ∧ v.width ≤ 4096 ∧
      v.lines ≤ 2400 ∧ v.prev = some (v.width, v.lines) ∧ s.inState i.val = 2 ∧ v.cap = some (n, k) ∧ v.torn = false ∧
      (s.desc n).height = v.lines) ∧
    (∃ (s : State) (i : Fin 4), s.off = false ∧ (s.inState i.val = 1 ∨ s.inState i.val = 2) ∧
      (s.cmdMode i.val = false ∨ s.fld (F.IN_DSI_TE_SLEEP_OUT i.val) = 1) ∧
      s.fld (F.IN_DSI_CTRL_LOST_MS i.val) ≤ (s.input i.val).gone) ∧
    (∃ (s : State) (i : Fin 4), (s.input i.val).gone < s.fld (F.IN_DSI_CTRL_LOST_MS i.val) ∧ isDsi i.val = false) ∧
    (∃ (s : State) (i : Fin 2) (khz : Nat), s.off = false ∧ s.inState (i.val + 2) = 4 ∧ 20000 ≤ khz ∧ khz ≤ 112000) ∧
    (∃ (s : State) (p : Fin 2) (f : PixFmt) (l : List (List Pix)),
      let x := s.input p.val
      s.off = false ∧ s.vc1Mode p.val = 2 ∧ (s.inState p.val = 1 ∨ s.inState p.val = 2) ∧ f ≠ .ycc422 ∧ 1 ≤ l.length ∧
      l.length ≤ 4 ∧ 8 ≤ x.direct.length) :=
  ⟨⟨(tset live [(F.IN_STATUS_STATE 0, 1)]), 0, false, by decide +kernel⟩,
    ⟨(upIn (surf (tset live [(F.IN_STATUS_STATE 0, 1)]) 0 2) 0 (fun x => { x with targets := [0] })), 0, false, 0, 0,
      by decide +kernel⟩,
    ⟨(upIn (surf (tset live [(F.IN_STATUS_STATE 0, 1)]) 0 0) 0 (fun x => { x with targets := [0] })), 0, false, 0,
      by decide +kernel⟩,
    ⟨(tset live [(F.IN_STATUS_STATE 0, 4)]), 0, false, by decide +kernel⟩,
    ⟨0, [[]], by decide +kernel⟩,
    ⟨live, 2, by decide +kernel⟩,
    ⟨(tset live [(F.IN_LVDS_CTRL_DUAL 2, 1)]), 2, [⟨⟨1, 2, 3⟩, ⟨0, 0, 0⟩, ⟨0, 0, 0⟩⟩], [⟨⟨1, 2, 3⟩, ⟨0, 0, 0⟩, ⟨0, 0, 0⟩⟩], 3,
      0, by decide +kernel⟩,
    ⟨(upIn (surf (tset live [(F.IN_STATUS_STATE 0, 1)]) 0 2) 0 (fun x => { x with vc0 := { x.vc0 with inFrame := true, cap := some (0, 0) } })),
      0, (.dsi .rgb888 [List.replicate 64 ⟨255, 0, 1⟩]), .rgb888, (List.replicate 64 ⟨255, 0, 1⟩), 0, 0, by decide +kernel⟩,
    ⟨{ upIn (surf (tset live [(F.IN_STATUS_STATE 0, 1)]) 0 2) 0 (fun x => { x with vc0 := { x.vc0 with inFrame := true, cap := some (0, 0) } }) with elastic := List.replicate 64 ⟨0, List.replicate 1024 0⟩ },
      0, (.dsi .rgb888 [List.replicate 64 ⟨255, 0, 1⟩]), .rgb888, (List.replicate 64 ⟨255, 0, 1⟩), 0, 0, by decide +kernel⟩,
    ⟨(upIn (surf (tset live [(F.IN_STATUS_STATE 0, 1)]) 0 2) 0 (fun x => { x with vc0 := { x.vc0 with inFrame := true, lines := 2, width := 64, prev := some (64, 2) } })),
      0, by decide +kernel⟩,
    ⟨(upIn (surf (tset live [(F.IN_STATUS_STATE 0, 2)]) 0 2) 0 (fun x => { x with vc0 := { x.vc0 with inFrame := true, lines := 2, width := 64, cap := some (0, 1), prev := some (64, 2) } })),
      0, 0, 1, by decide +kernel⟩,
    ⟨(upIn (tset live [(F.IN_STATUS_STATE 0, 1)]) 0 (fun x => { x with gone := 5000 })), 0, by decide +kernel⟩,
    ⟨(tset live [(F.IN_DSI_CTRL_LOST_MS 2, 1)]), 2, by decide +kernel⟩,
    ⟨(tset live [(F.IN_STATUS_STATE 3, 4)]), 1, 20000, by decide +kernel⟩,
    ⟨(upIn (tset live [(F.IN_STATUS_STATE 1, 2), (F.IN_DSI_CTRL_VC1_MODE 1, 2)]) 1 (fun x => { x with direct := List.replicate 8 (0, 0, []) })),
      1, .rgb888, [[]], by decide +kernel⟩⟩

theorem wit_DsiPackets :
    (∃ (s : State) (p : Fin 2), s.off = false ∧ s.inState p.val ≠ 0) ∧
    (∃ (s : State) (p : Fin 2) (lanes : List (List Byte)),
      let b := s.laneBytes p.val lanes
      let vc := bitsOf (b.getD 0 0).toNat 6 2
      let dt := bitsOf (b.getD 0 0).toNat 0 6
      let d := (b.drop 4).take (leNat ((b.drop 1).take 2))
      let dcs := if dt = 0x39 then (d.getD 0 0).toNat else (b.getD 1 0).toNat
      s.off = false ∧ s.inState p.val ≠ 0 ∧ s.supported p.val vc dt dcs = false) ∧
    (∃ (s : State) (p : Fin 2) (lanes : List (List Byte)),
      let b := s.laneBytes p.val lanes
      let vc := bitsOf (b.getD 0 0).toNat 6 2
      let dt := bitsOf (b.getD 0 0).toNat 0 6
      let d := (b.drop 4).take (leNat ((b.drop 1).take 2))
      let dcs := if dt = 0x39 then (d.getD 0 0).toNat else (b.getD 1 0).toNat
      s.off = false ∧ s.inState p.val ≠ 0 ∧ s.supported p.val vc dt dcs = true ∧ s.pixelPacket p.val dt dcs = true) ∧
    (∃ (s : State) (p : Fin 2) (lanes : List (List Byte)),
      let b := s.laneBytes p.val lanes
      let vc := bitsOf (b.getD 0 0).toNat 6 2
      let dt := bitsOf (b.getD 0 0).toNat 0 6
      let d := (b.drop 4).take (leNat ((b.drop 1).take 2))
      let dcs := if dt = 0x39 then (d.getD 0 0).toNat else (b.getD 1 0).toNat
      s.off = false ∧ s.inState p.val ≠ 0 ∧ s.supported p.val vc dt dcs = true ∧ s.pixelPacket p.val dt dcs = false) ∧
    (∃ (s : State) (p : Fin 2) (lanes : List (List Byte)),
      let b := s.laneBytes p.val lanes
      let vc := bitsOf (b.getD 0 0).toNat 6 2
      let dt := bitsOf (b.getD 0 0).toNat 0 6
      let d := (b.drop 4).take (leNat ((b.drop 1).take 2))
      let dcs := if dt = 0x39 then (d.getD 0 0).toNat else (b.getD 1 0).toNat
      s.off = false ∧ s.inState p.val ≠ 0 ∧ s.supported p.val vc dt dcs = true ∧ s.cmdMode p.val = false ∧
      (vc = 0 ∨ s.vc1Mode p.val ≠ 0)) ∧
    (∃ (s : State) (p : Fin 2) (lanes : List (List Byte)),
      let b := s.laneBytes p.val lanes
      let vc := bitsOf (b.getD 0 0).toNat 6 2
      let dt := bitsOf (b.getD 0 0).toNat 0 6
      let d := (b.drop 4).take (leNat ((b.drop 1).take 2))
      let dcs := if dt = 0x39 then (d.getD 0 0).toNat else (b.getD 1 0).toNat
      s.off = false ∧ s.inState p.val ≠ 0 ∧ s.supported p.val vc dt dcs = true ∧ s.cmdMode p.val = false ∧ vc = 1 ∧
      s.vc1Mode p.val = 0) ∧
    (∃ (s : State) (p : Fin 2) (lanes : List (List Byte)),
      let b := s.laneBytes p.val lanes
      let vc := bitsOf (b.getD 0 0).toNat 6 2
      let dt := bitsOf (b.getD 0 0).toNat 0 6
      let d := (b.drop 4).take (leNat ((b.drop 1).take 2))
      let dcs := if dt = 0x39 then (d.getD 0 0).toNat else (b.getD 1 0).toNat
      s.off = false ∧ s.inState p.val ≠ 0 ∧ s.supported p.val vc dt dcs = true ∧ s.cmdMode p.val = true ∧
      (s.inState p.val = 1 ∨ s.inState p.val = 4)) ∧
    (∃ (s : State) (p : Nat) (lanes : List (List Byte)) (m i j : Nat),
      let n := s.fld (F.IN_DSI_CTRL_LANES p) + 1
      n ≤ lanes.length ∧ (∀ l ∈ lanes.take n, l.length = m) ∧ i < n ∧ j < m) ∧
    (∃ (s : State) (p dt : Nat) (vc1 : Bool),
      let v := (s.input p).vid vc1
      (s.vc1Mode p ≠ 2 ∨ vc1 = false) ∧ isPixelType dt = true ∧ v.inFrame = true) ∧
    (∃ (s : State) (p dt : Nat) (vc1 : Bool), (s.vc1Mode p ≠ 2 ∨ vc1 = false) ∧ (dt = 0x21 ∨ dt = 0x11)) ∧
    (∃ (s : State) (p dt : Nat) (vc1 : Bool), (s.vc1Mode p ≠ 2 ∨ vc1 = false) ∧ dt = 0x01) ∧
    (∃ (s : State) (p : Fin 2), s.off = false ∧ s.cmdOn p.val = true) ∧
    (∃ (s : State) (p : Fin 2) (px : List Pix),
      let d := s.desc (s.inSurf p.val false)
      let c := s.cmdWidths p.val
      let w := cutWords (px.length + 1) (d.lineAt 0 0) (px.flatMap (storePixel d.fmt c.1 c.2.1 c.2.2))
      (s.input p.val).cols = none ∧ (s.input p.val).rows = none ∧ px ≠ [] ∧ px.length ≤ d.width ∧
      bufBytes s.elastic + bufBytes w ≤ 65536) ∧
    (∃ (s : State) (p : Fin 2) (a b : Fin 65536),
      let wide := (s.desc (s.inSurf p.val false)).width
      s.off = false ∧ s.cmdOn p.val = true ∧ (s.input p.val).rows = none ∧ a.val ≤ b.val ∧ a.val < wide) ∧
    (∃ (s : State) (p : Fin 2) (a b : Fin 65536),
      let wide := (s.desc (s.inSurf p.val false)).width
      s.off = false ∧ s.cmdOn p.val = true ∧ (s.input p.val).rows = none ∧ (b.val < a.val ∨ wide ≤ a.val) ∧ 1 ≤ wide ∧
      0 < a.val) ∧
    (∃ (s : State) (p : Fin 2) (a b : Fin 65536),
      let high := (s.desc (s.inSurf p.val false)).height
      s.off = false ∧ s.cmdOn p.val = true ∧ (s.input p.val).cols = none ∧ a.val ≤ b.val ∧ a.val < high) ∧
    (∃ (s : State) (p : Fin 2) (a b : Fin 65536),
      let high := (s.desc (s.inSurf p.val false)).height
      s.off = false ∧ s.cmdOn p.val = true ∧ (s.input p.val).cols = none ∧ (b.val < a.val ∨ high ≤ a.val) ∧ 1 ≤ high ∧
      0 < a.val) ∧
    (∃ (s : State) (p : Fin 2), s.off = false ∧ s.cmdOn p.val = true) ∧
    (∃ (s : State) (p : Fin 2), s.off = false ∧ s.inState p.val ≠ 0) ∧
    (∃ (s : State) (p : Fin 2), s.off = false ∧ s.inState p.val ≠ 0) ∧
    (∃ (s : State) (p : Fin 2), s.off = false ∧ s.inState p.val = 3) :=
  ⟨⟨(tset live [(F.IN_STATUS_STATE 0, 1)]), 0, by decide +kernel⟩,
    ⟨(tset live [(F.IN_STATUS_STATE 0, 1)]), 0, [[0xBE], [0], [0], [0]], by decide +kernel⟩,
    ⟨(tset live [(F.IN_STATUS_STATE 0, 1)]), 0, [[0x3E], [0], [0], [0]], by decide +kernel⟩,
    ⟨(tset live [(F.IN_STATUS_STATE 0, 1)]), 0, [[0x01], [0], [0], [0]], by decide +kernel⟩,
    ⟨(tset live [(F.IN_STATUS_STATE 0, 1)]), 0, [[0x3E], [0], [0], [0]], by decide +kernel⟩,
    ⟨(tset live [(F.IN_STATUS_STATE 0, 1)]), 0, [[0x7E], [0], [0], [0]], by decide +kernel⟩,
    ⟨(tset live [(F.IN_STATUS_STATE 0, 4), (F.IN_DSI_CTRL_MODE 0, 1)]), 0, [[0x39, 0x2C], [1], [0], [0]], by decide +kernel⟩,
    ⟨(tset live [(F.IN_DSI_CTRL_LANES 0, 1)]), 0, [[1, 2], [3, 4]], 2, 1, 1, by decide +kernel⟩,
    ⟨(upIn (tset live [(F.IN_STATUS_STATE 0, 1)]) 0 (fun x => { x with vc0 := { x.vc0 with inFrame := true } })), 0, 0x3E,
      false, by decide +kernel⟩,
    ⟨(tset live [(F.IN_STATUS_STATE 0, 1)]), 0, 0x21, false, by decide +kernel⟩,
    ⟨(tset live [(F.IN_STATUS_STATE 0, 1)]), 0, 0x01, false, by decide +kernel⟩,
    ⟨(tset live [(F.IN_STATUS_STATE 0, 4), (F.IN_DSI_CTRL_MODE 0, 1)]), 0, by decide +kernel⟩,
    ⟨(surf (tset live [(F.IN_STATUS_STATE 0, 4), (F.IN_DSI_CTRL_MODE 0, 1)]) 0 2), 0, [⟨1, 2, 3⟩], by decide +kernel⟩,
    ⟨(surf (tset live [(F.IN_STATUS_STATE 0, 4), (F.IN_DSI_CTRL_MODE 0, 1)]) 0 2), 0, 63, 63, by decide +kernel⟩,
    ⟨(surf (tset live [(F.IN_STATUS_STATE 0, 4), (F.IN_DSI_CTRL_MODE 0, 1)]) 0 2), 0, 2, 1, by decide +kernel⟩,
    ⟨(surf (tset live [(F.IN_STATUS_STATE 0, 4), (F.IN_DSI_CTRL_MODE 0, 1)]) 0 2), 0, 1, 1, by decide +kernel⟩,
    ⟨(surf (tset live [(F.IN_STATUS_STATE 0, 4), (F.IN_DSI_CTRL_MODE 0, 1)]) 0 2), 0, 2, 1, by decide +kernel⟩,
    ⟨(tset live [(F.IN_STATUS_STATE 0, 4), (F.IN_DSI_CTRL_MODE 0, 1)]), 0, by decide +kernel⟩,
    ⟨(tset live [(F.IN_STATUS_STATE 0, 4), (F.IN_DSI_CTRL_MODE 0, 1)]), 0, by decide +kernel⟩,
    ⟨(tset live [(F.IN_STATUS_STATE 0, 4), (F.IN_DSI_CTRL_MODE 0, 1)]), 0, by decide +kernel⟩,
    ⟨(tset live [(F.IN_STATUS_STATE 1, 3)]), 1, by decide +kernel⟩⟩

theorem wit_RegionCommands :
    (∃ (s : State) (e : CmdEntry) (r : Nat) (a : Nat), let n := parUnit e.params; let x := parBits e.params 1 16 16;
      let y := parBits e.params 1 0 16; let w := parBits e.params 2 16 16; let h := parBits e.params 2 0 16;
      let d := s.regDesc n; let len := w * h * fmtBytes d.fmt; s.starts 0x50 e ∧ s.runtime = true ∧ e.params.length = 3 ∧
      strayBits e.params 0 0xFF000001 = false ∧ parBits e.params 0 0 1 = 0 ∧ n ≤ 63 ∧ d.valid = true ∧ d.nbuf = 2 ∧
      s.fld (F.SURF_STATUS_USE n) ≤ 1 ∧ d.fmt ≠ 8 ∧ 1 ≤ w ∧ 1 ≤ h ∧ x + w ≤ d.width ∧ y + h ≤ d.height ∧ r < 32 ∧
      (s.region r).st = 0 ∧ (∀ q, q < r → (s.region q).st ≠ 0) ∧ s.firstFit ((len + 255) / 256 * 256) = some a) ∧
    (∃ (s : State) (e : CmdEntry), let n := parUnit e.params; let x := parBits e.params 1 16 16;
      let y := parBits e.params 1 0 16; let w := parBits e.params 2 16 16; let h := parBits e.params 2 0 16;
      let d := s.regDesc n; s.starts 0x50 e ∧ s.runtime = true ∧ e.params.length = 3 ∧
      strayBits e.params 0 0xFF000001 = false ∧ parBits e.params 0 0 1 = 0 ∧ n ≤ 63 ∧ d.valid = true ∧ d.nbuf = 2 ∧
      s.fld (F.SURF_STATUS_USE n) ≤ 1 ∧ d.fmt ≠ 8 ∧ 1 ≤ w ∧ 1 ≤ h ∧ x + w ≤ d.width ∧ y + h ≤ d.height ∧
      (∀ q, q < 32 → (s.region q).st ≠ 0)) ∧
    (∃ (s : State) (e : CmdEntry), let n := parUnit e.params; let x := parBits e.params 1 16 16;
      let y := parBits e.params 1 0 16; let w := parBits e.params 2 16 16; let h := parBits e.params 2 0 16;
      let d := s.regDesc n; let len := w * h * fmtBytes d.fmt; s.starts 0x50 e ∧ s.runtime = true ∧ e.params.length = 3 ∧
      strayBits e.params 0 0xFF000001 = false ∧ parBits e.params 0 0 1 = 0 ∧ n ≤ 63 ∧ d.valid = true ∧ d.nbuf = 2 ∧
      s.fld (F.SURF_STATUS_USE n) ≤ 1 ∧ d.fmt ≠ 8 ∧ 1 ≤ w ∧ 1 ≤ h ∧ x + w ≤ d.width ∧ y + h ≤ d.height ∧
      (∃ q, q < 32 ∧ (s.region q).st = 0) ∧ s.firstFit ((len + 255) / 256 * 256) = none) ∧
    (∃ (s : State) (e : CmdEntry), let r := parUnit e.params; let g := s.region r; s.starts 0x52 e ∧ s.runtime = true ∧
      e.params.length = 1 ∧ parUnit e.params ≤ 31 ∧ strayBits e.params 0 0xFF000000 = false ∧
      s.drained e (parUnit e.params) = true ∧ g.st = 1 ∧ g.len ≤ g.next) ∧
    (∃ (s : State) (e : CmdEntry), let r := parUnit e.params; let g := s.region r; s.starts 0x52 e ∧ s.runtime = true ∧
      e.params.length = 1 ∧ parUnit e.params ≤ 31 ∧ strayBits e.params 0 0xFF000000 = false ∧
      s.drained e (parUnit e.params) = true ∧ g.st = 1 ∧ g.next < g.len) ∧
    (∃ (s : State) (e : CmdEntry), let r := parUnit e.params; let g := s.region r; s.starts 0x52 e ∧ s.runtime = true ∧
      e.params.length = 1 ∧ parUnit e.params ≤ 31 ∧ strayBits e.params 0 0xFF000000 = false ∧
      s.drained e (parUnit e.params) = true ∧ g.st ≠ 1) ∧
    (∃ (s : State) (e : CmdEntry), let r := parUnit e.params; let g := s.region r; s.starts 0x54 e ∧ s.runtime = true ∧
      e.params.length = 1 ∧ parUnit e.params ≤ 31 ∧ strayBits e.params 0 0xFF000000 = false ∧
      s.drained e (parUnit e.params) = true ∧ (g.st = 1 ∨ g.st = 2)) ∧
    (∃ (s : State) (e : CmdEntry), let r := parUnit e.params; let g := s.region r; s.starts 0x54 e ∧ s.runtime = true ∧
      e.params.length = 1 ∧ parUnit e.params ≤ 31 ∧ strayBits e.params 0 0xFF000000 = false ∧
      s.drained e (parUnit e.params) = true ∧ g.st ≠ 1 ∧ g.st ≠ 2) ∧
    (∃ (s : State), (∀ e ∈ s.cw.cmdQ.head?, s.drained e (parUnit e.params) = false)) :=
  ⟨⟨(tset (surf (qd live (cmd 0x50 [0x3F000000, 0x3F0001, 0x10001])) 63 2) [(F.REGION_POOL_SIZE_SIZE, 16), (F.REGION_POOL_BASE_BASE, 0x100000)]),
      (cmd 0x50 [0x3F000000, 0x3F0001, 0x10001]), 0, 0x100000, by decide +kernel⟩,
    ⟨{ tset (surf (qd live (cmd 0x50 [0x3F000000, 0x3F0001, 0x10001])) 63 2) [(F.REGION_POOL_SIZE_SIZE, 16), (F.REGION_POOL_BASE_BASE, 0x100000)] with regions := Vector.replicate 32 open4 },
      (cmd 0x50 [0x3F000000, 0x3F0001, 0x10001]), by decide +kernel⟩,
    ⟨(surf (qd live (cmd 0x50 [0x3F000000, 0x3F0001, 0x10001])) 63 2), (cmd 0x50 [0x3F000000, 0x3F0001, 0x10001]),
      by decide +kernel⟩,
    ⟨((qd live (cmd 0x52 [0x1F000000])).setRegion 31 { open4 with next := 4 }), (cmd 0x52 [0x1F000000]),
      by decide +kernel⟩,
    ⟨((qd live (cmd 0x52 [0x1F000000])).setRegion 31 { open4 with next := 3 }), (cmd 0x52 [0x1F000000]),
      by decide +kernel⟩,
    ⟨(qd live (cmd 0x52 [0x1F000000])), (cmd 0x52 [0x1F000000]), by decide +kernel⟩,
    ⟨((qd live (cmd 0x54 [0x1F000000])).setRegion 31 { open4 with st := 2 }), (cmd 0x54 [0x1F000000]), by decide +kernel⟩,
    ⟨((qd live (cmd 0x54 [0x1F000000])).setRegion 31 { open4 with st := 3 }), (cmd 0x54 [0x1F000000]), by decide +kernel⟩,
    ⟨(upCw live (fun w => { w with cmdQ := [{ cmd 0x52 [0] with atPush := 1 }], pushBuf := [⟨0, 0, 0, [1]⟩] })),
      by decide +kernel⟩⟩

theorem wit_Fences :
    (∃ (s : State) (r : Nat), r ∈ s.coveredBy) ∧
    (∃ (s : State) (e : CmdEntry) (r : Nat), s.starts 0x53 e ∧ s.runtime = true ∧ e.params = [] ∧
      (∀ i ∈ s.cw.pushBuf, e.atPush ≤ i.serial) ∧ r ∉ s.coveredBy) ∧
    (∃ (s : State) (e : CmdEntry), s.starts 0x53 e ∧ s.runtime = true ∧ e.params = [] ∧
      (∀ i ∈ s.cw.pushBuf, e.atPush ≤ i.serial) ∧ s.coveredBy = []) ∧
    (∃ (s : State) (e : CmdEntry), s.starts 0x53 e ∧ s.runtime = true ∧ e.params = [] ∧
      (∀ i ∈ s.cw.pushBuf, e.atPush ≤ i.serial) ∧ s.coveredBy ≠ []) ∧
    (∃ (s : State) (f : FenceRun),
      let u := s.each f.surfs (fun s n => s.startBuf n (s.backBuf n))
      let x := copyLoop u [] (f.regs.flatMap u.copyOps)
      s.off = false ∧ s.fences.find? (fun f => f.step == 0) = some f ∧ f.copy = none ∧ s.pbaRunning = true ∧
      (∀ g ∈ s.fences, g.num < f.num → ∀ n ∈ g.surfs, n ∉ f.surfs) ∧ x.2.2 = []) ∧
    (∃ (s : State) (f : FenceRun),
      let u := s.each f.surfs (fun s n => s.startBuf n (s.backBuf n))
      let x := copyLoop u [] (f.regs.flatMap u.copyOps)
      s.off = false ∧ s.fences.find? (fun f => f.step == 0) = some f ∧ f.copy = none ∧ s.pbaRunning = true ∧
      (∀ g ∈ s.fences, g.num < f.num → ∀ n ∈ g.surfs, n ∉ f.surfs) ∧ x.2.2 ≠ []) ∧
    (∃ (s : State) (f : FenceRun), s.off = false ∧ s.fences.find? (fun f => f.step == 0) = some f ∧ f.copy = none ∧
      (s.pbaRunning = false ∨ (∃ g ∈ s.fences, g.num < f.num ∧ ∃ n ∈ g.surfs, n ∈ f.surfs))) ∧
    (∃ (s : State) (f : FenceRun) (k : CopyOp) (l : List CopyOp) (q : List ReqBody), s.off = false ∧
      s.fences.find? (fun f => f.step == 0) = some f ∧ s.fences.find? (fun g => g.num == f.num) = some f ∧
      f.copy = some (k :: l) ∧ s.waitingOf 17 = .copy f.num :: q ∧
      (s.halfOn (reqAddr k.req) = false ∨ s.affords 17 k.req = true)) ∧
    (∃ (s : State) (f : FenceRun) (k : CopyOp) (l : List CopyOp) (q : List ReqBody), s.off = false ∧
      s.fences.find? (fun f => f.step == 0) = some f ∧ s.fences.find? (fun g => g.num == f.num) = some f ∧
      f.copy = some (k :: l) ∧ s.waitingOf 17 = .copy f.num :: q ∧ s.halfOn (reqAddr k.req) = true ∧ s.affords 17 k.req = false) ∧
    (∃ (s : State) (f : FenceRun), s.off = false ∧ s.fences.find? (fun f => f.step == 1) = some f ∧ s.flipDue f = false) ∧
    (∃ (s : State) (f : FenceRun) (r : Nat), s.off = false ∧ s.fences.find? (fun f => f.step == 1) = some f ∧
      s.flipDue f = true ∧ r < 32 ∧ (s.region r).st = 3 ∧ (s.region r).fence = f.num) ∧
    (∃ (s : State) (f : FenceRun) (r : Nat), s.off = false ∧ s.fences.find? (fun f => f.step == 1) = some f ∧
      s.flipDue f = true ∧ r < 32 ∧ ((s.region r).st ≠ 3 ∨ (s.region r).fence ≠ f.num)) ∧
    (∃ (s : State) (f : FenceRun) (c : Running), s.off = false ∧ s.fences.find? (fun f => f.step == 1) = some f ∧
      s.flipDue f = true ∧ c ∈ s.cw.running ∧ c.wait = .fence f.num ∧ s.runtimeDead = false) ∧
    (∃ (s : State) (f : FenceRun),
      let x := copyLoop s [] (f.regs.flatMap s.copyOps)
      s.off = false ∧ s.fences.find? s.catchUpDue = some f ∧ f.copy = none ∧ s.pbaRunning = true ∧ x.2.2 = []) ∧
    (∃ (s : State) (f : FenceRun),
      let x := copyLoop s [] (f.regs.flatMap s.copyOps)
      s.off = false ∧ s.fences.find? s.catchUpDue = some f ∧ f.copy = none ∧ s.pbaRunning = true ∧ x.2.2 ≠ []) ∧
    (∃ (s : State) (f : FenceRun) (k : CopyOp) (l : List CopyOp) (q : List ReqBody), s.off = false ∧
      s.fences.find? s.catchUpDue = some f ∧ s.fences.find? (fun g => g.num == f.num) = some f ∧ f.copy = some (k :: l) ∧
      s.waitingOf 17 = .copy f.num :: q ∧ (s.halfOn (reqAddr k.req) = false ∨ s.affords 17 k.req = true)) :=
  ⟨⟨(live.setRegion 31 { open4 with st := 2, next := 4 }), 31, by decide +kernel⟩,
    ⟨((qd live (cmd 0x53 [])).setRegion 31 { open4 with st := 2, next := 4 }), (cmd 0x53 []), 30, by decide +kernel⟩,
    ⟨(qd live (cmd 0x53 [])), (cmd 0x53 []), by decide +kernel⟩,
    ⟨((qd live (cmd 0x53 [])).setRegion 31 { open4 with st := 2, next := 4 }), (cmd 0x53 []), by decide +kernel⟩,
    ⟨{ (surf live 0 2).setCredit 17 100 with fences := [⟨1, [{ open4 with st := 3, next := 4 }], 0, [], false, 0, none, []⟩] },
      ⟨1, [{ open4 with st := 3, next := 4 }], 0, [], false, 0, none, []⟩, by decide +kernel⟩,
    ⟨{ (surf live 0 2).setCredit 17 0 with fences := [⟨1, [{ open4 with st := 3, next := 4 }], 0, [], false, 0, none, []⟩] },
      ⟨1, [{ open4 with st := 3, next := 4 }], 0, [], false, 0, none, []⟩, by decide +kernel⟩,
    ⟨{ surf live 0 2 with fences := [⟨0, [{ open4 with st := 3, next := 4 }], 1, [], false, 0, none, []⟩, ⟨1, [{ open4 with st := 3, next := 4 }], 0, [], false, 0, none, []⟩] },
      ⟨1, [{ open4 with st := 3, next := 4 }], 0, [], false, 0, none, []⟩, by decide +kernel⟩,
    ⟨{ (live.setWaiting 17 [.copy 1]).setCredit 17 4 with fences := [⟨1, [], 0, [], false, 0, some [.read 0 true], []⟩] },
      ⟨1, [], 0, [], false, 0, some [.read 0 true], []⟩, (.read 0 true), [], [], by decide +kernel⟩,
    ⟨{ (live.setWaiting 17 [.copy 1]).setCredit 17 0 with fences := [⟨1, [], 0, [], false, 0, some [.read 0 true], []⟩] },
      ⟨1, [], 0, [], false, 0, some [.read 0 true], []⟩, (.read 0 true), [], [], by decide +kernel⟩,
    ⟨{ live with fences := [⟨1, [], 1, [], false, 0, none, []⟩] }, ⟨1, [], 1, [], false, 0, none, []⟩, by decide +kernel⟩,
    ⟨{ (upBoot live (fun b => { b with edges := 1 })).setRegion 0 { open4 with st := 3, next := 4, fence := 1 } with fences := [⟨1, [], 1, [], false, 0, none, []⟩] },
      ⟨1, [], 1, [], false, 0, none, []⟩, 0, by decide +kernel⟩,
    ⟨{ (upBoot live (fun b => { b with edges := 1 })).setRegion 0 { open4 with st := 3, next := 4, fence := 1 } with fences := [⟨1, [], 1, [], false, 0, none, []⟩] },
      ⟨1, [], 1, [], false, 0, none, []⟩, 1, by decide +kernel⟩,
    ⟨{ upCw (upBoot live (fun b => { b with edges := 1 })) (fun w => { w with running := some ⟨cmd 0x53 [], .fence 1⟩ }) with fences := [⟨1, [], 1, [], false, 0, none, []⟩] },
      ⟨1, [], 1, [], false, 0, none, []⟩, ⟨cmd 0x53 [], .fence 1⟩, by decide +kernel⟩,
    ⟨{ (surf live 0 2).setCredit 17 100 with fences := [⟨1, [{ open4 with st := 3, next := 4 }], 2, [], false, 0, none, []⟩] },
      ⟨1, [{ open4 with st := 3, next := 4 }], 2, [], false, 0, none, []⟩, by decide +kernel⟩,
    ⟨{ (surf live 0 2).setCredit 17 0 with fences := [⟨1, [{ open4 with st := 3, next := 4 }], 2, [], false, 0, none, []⟩] },
      ⟨1, [{ open4 with st := 3, next := 4 }], 2, [], false, 0, none, []⟩, by decide +kernel⟩,
    ⟨{ (live.setWaiting 17 [.copy 1]).setCredit 17 4 with fences := [⟨1, [], 2, [], false, 0, some [.read 0 true], []⟩] },
      ⟨1, [], 2, [], false, 0, some [.read 0 true], []⟩, (.read 0 true), [], [], by decide +kernel⟩⟩

theorem wit_LayerWords :
    (∃ (s : State) (e : CmdEntry),
      let l := parUnit e.params
      let first := parBits e.params 0 0 4
      let u := s.popCmd.writeWords e.params first (0x60000 + 0x40 * l) layerMask
      s.starts 0x40 e ∧ s.runtime = true ∧ 1 ≤ e.params.length ∧ e.params.length ≤ 16 ∧ parUnit e.params ≤ 7 ∧
      s.popCmd.layerFails e.params = [] ∧ (s.pdOn 13 = true ∨ u.needsScaler [l] = false) ∧
      (s.stages = [] ∨ u.fld (F.LAYER_W0_HEAD l) = s.fld (F.LAYER_W0_HEAD l))) ∧
    (∃ (s : State) (e : CmdEntry) (k : Nat),
      let l := parUnit e.params
      let first := parBits e.params 0 0 4
      let u := s.popCmd.writeWords e.params first (0x60000 + 0x40 * l) layerMask
      s.starts 0x40 e ∧ s.runtime = true ∧ 1 ≤ e.params.length ∧ e.params.length ≤ 16 ∧ parUnit e.params ≤ 7 ∧
      s.popCmd.layerFails e.params = [] ∧ (s.pdOn 13 = true ∨ u.needsScaler [l] = false) ∧ k < 8) ∧
    (∃ (s : State) (e : CmdEntry) (a : Nat),
      let l := parUnit e.params
      let first := parBits e.params 0 0 4
      let u := s.popCmd.writeWords e.params first (0x60000 + 0x40 * l) layerMask
      s.starts 0x40 e ∧ s.runtime = true ∧ 1 ≤ e.params.length ∧ e.params.length ≤ 16 ∧ parUnit e.params ≤ 7 ∧
      s.popCmd.layerFails e.params = [] ∧ (s.pdOn 13 = true ∨ u.needsScaler [l] = false) ∧
      (∀ k, k < 8 → a ≠ 0x60000 + 0x40 * l + 4 * k) ∧ a ≠ 0x60500) ∧
    (∃ (s : State) (e : CmdEntry),
      let l := parUnit e.params
      let first := parBits e.params 0 0 4
      let u := s.popCmd.writeWords e.params first (0x60000 + 0x40 * l) layerMask
      s.starts 0x40 e ∧ s.runtime = true ∧ 1 ≤ e.params.length ∧ e.params.length ≤ 16 ∧ parUnit e.params ≤ 7 ∧
      s.popCmd.layerFails e.params = [] ∧ s.pdOn 13 = false ∧ u.needsScaler [l] = true) ∧
    (∃ (s : State) (e : CmdEntry) (l : Nat), s.starts 0x41 e ∧ s.runtime = true ∧ e.params.length = 1 ∧
      strayBits e.params 0 0xFFFF0000 = false ∧
      (s.pdOn 13 = true ∨ (∀ l, l < 4 → parBits e.params 0 (24 + l) 1 = 1 → parBits e.params 0 (16 + l) 1 = 1 → s.fld
        (F.LAYER_W4_DST_W l) = s.fld (F.LAYER_W2_SRC_W l) ∧ s.fld (F.LAYER_W4_DST_H l) = s.fld (F.LAYER_W2_SRC_H l))) ∧ l < 8) ∧
    (∃ (s : State) (e : CmdEntry) (l : Nat), s.starts 0x41 e ∧ s.runtime = true ∧ e.params.length = 1 ∧
      strayBits e.params 0 0xFFFF0000 = false ∧
      (s.pdOn 13 = true ∨ (∀ l, l < 4 → parBits e.params 0 (24 + l) 1 = 1 → parBits e.params 0 (16 + l) 1 = 1 → s.fld
        (F.LAYER_W4_DST_W l) = s.fld (F.LAYER_W2_SRC_W l) ∧ s.fld (F.LAYER_W4_DST_H l) = s.fld (F.LAYER_W2_SRC_H l))) ∧ l < 8) ∧
    (∃ (s : State) (e : CmdEntry) (a : Nat), s.starts 0x41 e ∧ s.runtime = true ∧ e.params.length = 1 ∧
      strayBits e.params 0 0xFFFF0000 = false ∧
      (s.pdOn 13 = true ∨ (∀ l, l < 4 → parBits e.params 0 (24 + l) 1 = 1 → parBits e.params 0 (16 + l) 1 = 1 → s.fld
        (F.LAYER_W4_DST_W l) = s.fld (F.LAYER_W2_SRC_W l) ∧ s.fld (F.LAYER_W4_DST_H l) = s.fld (F.LAYER_W2_SRC_H l))) ∧
      (∀ l, l < 8 → a ≠ 0x60000 + 0x40 * l)) ∧
    (∃ (s : State) (e : CmdEntry) (k : Nat),
      let h := parUnit e.params
      let first := parBits e.params 0 0 4
      s.starts 0x44 e ∧ s.runtime = true ∧ 1 ≤ e.params.length ∧ e.params.length ≤ 8 ∧ parUnit e.params ≤ 3 ∧
      strayBits e.params 0 0xFF00000F = false ∧ badWords e.params first compWordBad = [] ∧ s.pdOn (headDomain h) = true ∧
      (getBits (s.wordAfter e.params first (0x60400 + 0x20 * h) 2) 31 1 = 0 ∨ s.pdOn 14 = true) ∧ k < 6) ∧
    (∃ (s : State) (e : CmdEntry) (a : Nat),
      let h := parUnit e.params
      let first := parBits e.params 0 0 4
      s.starts 0x44 e ∧ s.runtime = true ∧ 1 ≤ e.params.length ∧ e.params.length ≤ 8 ∧ parUnit e.params ≤ 3 ∧
      strayBits e.params 0 0xFF00000F = false ∧ badWords e.params first compWordBad = [] ∧ s.pdOn (headDomain h) = true ∧
      (getBits (s.wordAfter e.params first (0x60400 + 0x20 * h) 2) 31 1 = 0 ∨ s.pdOn 14 = true) ∧
      (∀ k, k < 6 → a ≠ 0x60400 + 0x20 * h + 4 * k)) ∧
    (∃ (s : State) (e : CmdEntry) (b : Nat),
      let first := parBits e.params 0 0 10
      let c := parBits e.params 0 16 2
      s.starts 0x42 e ∧ s.runtime = true ∧ 2 ≤ e.params.length ∧ e.params.length ≤ 1026 ∧ lutBank (parUnit e.params) = some b ∧
      strayBits e.params 0 0xFF1303FF = false ∧
      badWords e.params 0 (fun i w => decide (1023 < first + 2 * i + 1) || (w &&& (if c = 3 then 0xFF00FF00 else 0xF000F000))
        != 0) = []) ∧
    (∃ (s : State) (e : CmdEntry),
      let first := parBits e.params 0 0 6
      let per := if parBits e.params 0 16 1 = 0 then 4 else 2
      s.starts 0x43 e ∧ s.runtime = true ∧ 2 ≤ e.params.length ∧ e.params.length ≤ 1026 ∧ parUnit e.params ≤ 3 ∧
      strayBits e.params 0 0xFF11003F = false ∧ s.pdOn 13 = true ∧ (e.params.length - 1) % per = 0 ∧
      badWords e.params 0 (fun i w => decide (63 < first + i / per) || (w &&& 0xF000F000) != 0) = []) ∧
    (∃ (s : State) (h : Fin 4), s.off = false ∧ (s.head h.val).blank = true ∧
      (∃ g ∈ s.stages, g.pending = true ∧ s.stageHead g = h.val)) ∧
    (∃ (s : State) (h : Fin 4), s.off = false ∧
      ((s.head h.val).blank = false ∨ (∀ g ∈ s.stages, g.pending = false ∨ s.stageHead g ≠ h.val))) ∧
    (∃ (s : State) (e : CmdEntry) (a : Nat), s.starts 0x45 e ∧ s.runtime = true ∧ e.params.length = 2 ∧ parUnit e.params ≤ 3 ∧
      strayBits e.params 0 0xFF000001 = false ∧ parBits e.params 0 0 1 = 1 ∧ strayBits e.params 1 0x13F = false ∧
      s.bit F.WB_CTRL_EN = false ∧ s.wb.stopping = none ∧ s.pdOn (headDomain (parUnit e.params)) = true ∧
      s.wbSurfOk (parUnit e.params) (parBits e.params 1 0 6) = true ∧ s.fld (F.SURF_STATUS_USE (parBits e.params 1 0 6)) = 0 ∧
      a ≠ F.WB_CTRL_EN.addr) ∧
    (∃ (s : State) (e : CmdEntry), s.starts 0x45 e ∧ s.runtime = true ∧ e.params.length = 1 ∧ parUnit e.params ≤ 3 ∧
      strayBits e.params 0 0xFF000001 = false ∧ parBits e.params 0 0 1 = 0 ∧
      (s.bit F.WB_CTRL_EN = false ∨ s.fld F.WB_CTRL_HEAD = parUnit e.params)) ∧
    (∃ (s : State) (e : CmdEntry), s.starts 0x45 e ∧ s.runtime = true ∧ e.params.length = 1 ∧ parUnit e.params ≤ 3 ∧
      strayBits e.params 0 0xFF000001 = false ∧ parBits e.params 0 0 1 = 0 ∧ s.bit F.WB_CTRL_EN = true ∧
      s.fld F.WB_CTRL_HEAD ≠ parUnit e.params) :=
  ⟨⟨(qd live (cmd 0x40 [0x7000000, 0x80000000])), (cmd 0x40 [0x7000000, 0x80000000]), by decide +kernel⟩,
    ⟨(qd live (cmd 0x40 [0x7000000, 0x80000000])), (cmd 0x40 [0x7000000, 0x80000000]), 0, by decide +kernel⟩,
    ⟨(qd live (cmd 0x40 [0x7000000, 0x80000000])), (cmd 0x40 [0x7000000, 0x80000000]), 0x60600, by decide +kernel⟩,
    ⟨(tset (qd live (cmd 0x40 [0, 0])) [(F.PWR_PD_STATE 13, 0), (F.LAYER_W0_EN 0, 1), (F.LAYER_W2_SRC_W 0, 8), (F.LAYER_W2_SRC_H 0, 8), (F.LAYER_W4_DST_W 0, 16), (F.LAYER_W4_DST_H 0, 8)]),
      (cmd 0x40 [0, 0]), by decide +kernel⟩,
    ⟨(qd live (cmd 0x41 [0xFFFF0000])), (cmd 0x41 [0xFFFF0000]), 7, by decide +kernel⟩,
    ⟨(qd live (cmd 0x41 [0xFFFF0000])), (cmd 0x41 [0xFFFF0000]), 7, by decide +kernel⟩,
    ⟨(qd live (cmd 0x41 [0xFFFF0000])), (cmd 0x41 [0xFFFF0000]), 0x60800, by decide +kernel⟩,
    ⟨(qd live (cmd 0x44 [0x3000005, 0x20001])), (cmd 0x44 [0x3000005, 0x20001]), 5, by decide +kernel⟩,
    ⟨(qd live (cmd 0x44 [0x3000005, 0x20001])), (cmd 0x44 [0x3000005, 0x20001]), 0x60500, by decide +kernel⟩,
    ⟨(qd live (cmd 0x42 [0x130301FF, 0xFF00FF])), (cmd 0x42 [0x130301FF, 0xFF00FF]), 11, by decide +kernel⟩,
    ⟨(qd live (cmd 0x43 [0x311003F, 0xFFF0FFF, 0xFFF0FFF])), (cmd 0x43 [0x311003F, 0xFFF0FFF, 0xFFF0FFF]), by decide +kernel⟩,
    ⟨(upHead { live with stages := [⟨false, 8, [], true⟩] } 0 (fun x => { x with blank := true })), 0, by decide +kernel⟩,
    ⟨live, 0, by decide +kernel⟩,
    ⟨(tset (paneled (qd live (cmd 0x45 [0x1, 0x100]))) [(F.SURF_SIZE_WIDTH 0, 1280), (F.SURF_SIZE_HEIGHT 0, 480), (F.SURF_FMT_NBUF 0, 2), (F.SURF_FMT_PITCH32 0, 160)]),
      (cmd 0x45 [0x1, 0x100]), 0, by decide +kernel⟩,
    ⟨(qd live (cmd 0x45 [0x3000000])), (cmd 0x45 [0x3000000]), by decide +kernel⟩,
    ⟨(tset (qd live (cmd 0x45 [0x3000000])) [(F.WB_CTRL_EN, 1)]), (cmd 0x45 [0x3000000]), by decide +kernel⟩⟩

/-- A PROFILES record whose entry 0 is the ROM profile 0, and PANEL_PROFILE for it. -/
def profiled : State :=
  upEtch (qd live (cmd 0x31 [0x0])) (fun x =>
     { x with mem := recorded [] 0x2000 0 2 1 ((romProfile 0).flatMap (fun w => leBytes 4 w.toNat) ++ List.replicate 896 0) })
theorem wit_HeadCommands :
    (∃ (s : State) (e : CmdEntry),
      let h := parUnit e.params
      let first := parBits e.params 0 0 4
      let ctrl := first = 0 ∧ 1 < e.params.length
      let run := ctrl ∧ getBits (par e.params 1) 31 1 = 1
      s.starts 0x30 e ∧ s.runtime = true ∧ 1 ≤ e.params.length ∧ e.params.length ≤ 16 ∧ parUnit e.params ≤ 3 ∧
      strayBits e.params 0 0xFF00000F = false ∧ parBits e.params 0 0 4 ≤ 7 ∧
      badWords e.params first (s.popCmd.headWordBad h) = [] ∧ s.popCmd.headRelations h e.params first = [] ∧
      s.pdOn (headDomain h) = true ∧ (run → s.profiled h = true ∧ s.pixelSum h (s.comingEntry h) ≤ 10000000000) ∧ ctrl) ∧
    (∃ (s : State) (e : CmdEntry),
      let h := parUnit e.params
      let first := parBits e.params 0 0 4
      let ctrl := first = 0 ∧ 1 < e.params.length
      let run := ctrl ∧ getBits (par e.params 1) 31 1 = 1
      s.starts 0x30 e ∧ s.runtime = true ∧ 1 ≤ e.params.length ∧ e.params.length ≤ 16 ∧ parUnit e.params ≤ 3 ∧
      strayBits e.params 0 0xFF00000F = false ∧ parBits e.params 0 0 4 ≤ 7 ∧
      badWords e.params first (s.popCmd.headWordBad h) = [] ∧ s.popCmd.headRelations h e.params first = [] ∧
      s.pdOn (headDomain h) = true ∧ (run → s.profiled h = true ∧ s.pixelSum h (s.comingEntry h) ≤ 10000000000) ∧ ¬ ctrl) ∧
    (∃ (s : State) (e : CmdEntry),
      let h := parUnit e.params
      let src := parBits e.params 0 0 8
      s.starts 0x31 e ∧ s.runtime = true ∧ e.params.length = 1 ∧ parUnit e.params ≤ 3 ∧
      strayBits e.params 0 0xFF0000FF = false ∧ 0x80 ≤ src ∧ src ≤ 0x83 ∧ s.pdOn (headDomain h) = true ∧
      (s.headState h ≠ 0 → s.pixelSum h (romProfile (src - 0x80)) ≤ 10000000000) ∧
      (∀ c, c < 8 → entNames (romProfile (src - 0x80)) c = true → s.pdOn (laneDomain c) = true)) ∧
    (∃ (s : State) (e : CmdEntry) (b : List Byte) (u : State),
      let h := parUnit e.params
      let src := parBits e.params 0 0 8
      s.starts 0x31 e ∧ s.runtime = true ∧ e.params.length = 1 ∧ parUnit e.params ≤ 3 ∧
      strayBits e.params 0 0xFF0000FF = false ∧ src ≤ 7 ∧ s.pdOn 9 = true ∧ s.popCmd.profilesRecord = (some b, u) ∧
      entOk (recordEntry b src) = true ∧ u.pdOn (headDomain h) = true ∧ u.pdOn 9 = true ∧
      (u.headState h ≠ 0 → u.pixelSum h (recordEntry b src) ≤ 10000000000) ∧
      (∀ c, c < 8 → entNames (recordEntry b src) c = true → u.pdOn (laneDomain c) = true)) ∧
    (∃ (s : State) (e : CmdEntry),
      let h := parUnit e.params
      s.starts 0x31 e ∧ s.runtime = true ∧ e.params.length = 33 ∧ parUnit e.params ≤ 3 ∧
      strayBits e.params 0 0xFF0000FF = false ∧ parBits e.params 0 0 8 = 0xFF ∧ entFaults e.params.tail = [] ∧
      s.pdOn (headDomain h) = true ∧ (s.headState h ≠ 0 → s.pixelSum h e.params.tail ≤ 10000000000) ∧
      (∀ c, c < 8 → entNames e.params.tail c = true → s.pdOn (laneDomain c) = true)) ∧
    (∃ (s : State) (h : Nat), h < 4 ∧ (s.headState h = 1 ∨ s.headState h = 2)) ∧
    (∃ (s : State) (e : CmdEntry),
      let h := parUnit e.params
      let m := parBits e.params 0 0 2
      let rate := parBits e.params 1 0 16
      s.starts 0x32 e ∧ s.runtime = true ∧ e.params.length = 2 ∧ parUnit e.params ≤ 3 ∧
      strayBits e.params 0 0xFF000003 = false ∧ strayBits e.params 1 0x0000FFFF = false ∧
      (m = 0 ∨ (s.profiled h = true ∧ s.prof h 3 (if m = 1 then 5 else if m = 2 then 6 else 4) 1 = 1)) ∧
      (m = 1 → entRateMin (s.entry h) ≤ rate ∧ rate ≤ entRate (s.entry h)) ∧ (m ≠ 1 → rate = 0) ∧
      (m = 2 → s.selfSurfOk h = true) ∧ s.pdOn (headDomain h) = true) :=
  ⟨⟨(paneled (qd live (cmd 0x30 [0x0, 0x80000000]))), (cmd 0x30 [0x0, 0x80000000]), by decide +kernel⟩,
    ⟨(qd live (cmd 0x30 [0x3000002, 0x1F7FF00])), (cmd 0x30 [0x3000002, 0x1F7FF00]), by decide +kernel⟩,
    ⟨(qd live (cmd 0x31 [0x3000083])), (cmd 0x31 [0x3000083]), by decide +kernel⟩,
    ⟨profiled,
      (cmd 0x31 [0x0]), ((profiled.popCmd.profilesRecord).1.getD []), (profiled.popCmd.profilesRecord).2, by decide +kernel⟩,
    ⟨(qd live (cmd 0x31 (0x010000FF :: romProfile 0))), (cmd 0x31 (0x010000FF :: romProfile 0)), by decide +kernel⟩,
    ⟨(tset live [(F.HEAD_STATUS_STATE 0, 2)]), 0, by decide +kernel⟩,
    ⟨(qd live (cmd 0x32 [0x3000000, 0x0])), (cmd 0x32 [0x3000000, 0x0]), by decide +kernel⟩⟩

theorem wit_FrameEvents :
    (∃ (s : State) (h : Fin 4), s.off = false ∧ s.headState h.val = 1 ∧ s.chainsReady h.val = true ∧ (s.head h.val).od.due = []) ∧
    (∃ (s : State) (h : Fin 4), s.off = false ∧ s.headState h.val = 1 ∧
      (s.chainsReady h.val = false ∨ (s.head h.val).od.due ≠ [])) ∧
    (∃ (s : State) (h : Fin 4), s.off = false ∧ s.headRunning h.val = true ∧ (s.frameOf h.val).on = true ∧
      s.calBegun h.val = true ∧ (s.frameOf h.val).sent = true) ∧
    (∃ (s : State) (h : Fin 4),
      let e := s.entry h.val
      let n := (s.frameOf h.val).next
      s.off = false ∧ s.headRunning h.val = true ∧ (s.frameOf h.val).on = true ∧ s.calBegun h.val = false ∧
      s.bit (F.HEAD_STATUS_IDLE h.val) = false ∧ ((s.head h.val).blank = true ∨ (s.frameOf h.val).next ≤ s.lastActive h.val) ∧
      n < entVtotal e - 1) ∧
    (∃ (s : State) (h : Fin 4), s.off = false ∧ s.headRunning h.val = true ∧ (s.frameOf h.val).on = true ∧
      (s.head h.val).blank = false ∧ (s.frameOf h.val).next = s.lastActive h.val + 1 ∧ s.headState h.val = 2) ∧
    (∃ (s : State) (h : Fin 4), s.off = false ∧ s.headRunning h.val = true ∧ (s.frameOf h.val).on = true ∧
      ((s.head h.val).blank = true ∨ (s.frameOf h.val).next ≠ s.lastActive h.val + 1)) ∧
    (∃ (s : State) (h : Fin 4), s.off = false ∧ s.headState h.val = 2 ∧ (s.frameOf h.val).on = true ∧
      s.bit (F.HEAD_STATUS_IDLE h.val) = true ∧ (s.head h.val).event = true ∧ s.headFurled h.val = false) ∧
    (∃ (s : State) (h : Fin 4), s.off = false ∧ s.headRunning h.val = true ∧ (s.frameOf h.val).on = true ∧
      (s.frameOf h.val).planned = none ∧ (s.frameOf h.val).at_ + 1000 * entHoldMax (s.entry h.val) ≤ s.ticks) ∧
    (∃ (s : State) (h : Fin 4), s.off = false ∧ s.headRunning h.val = true ∧ (s.frameOf h.val).on = true ∧
      (s.frameOf h.val).planned = none ∧ s.ticks < (s.frameOf h.val).at_ + 1000 * entHoldMax (s.entry h.val)) ∧
    (∃ (s : State) (h : Fin 4) (k : Fin 6), s.off = false ∧ s.runtime = true ∧ s.boot.halted = false ∧
      k.val ∈ (s.head h.val).od.due ∧ s.areaUsed h.val k.val = false ∧ s.pdOn (15 + h.val / 2) = true ∧ s.pdOn 9 = true) :=
  ⟨⟨((List.range 8).foldl (fun s c => tset s [(F.LINK_STATUS_STATE c, 7), (F.LINK_STATUS_LANE c, 2)]) (tset (paneled live) [(F.HEAD_STATUS_STATE 0, 1)])),
      0, by decide +kernel⟩,
    ⟨(tset (paneled live) [(F.HEAD_STATUS_STATE 0, 1)]), 0, by decide +kernel⟩,
    ⟨(upHead (upFr (tset (paneled live) [(F.HEAD_STATUS_STATE 0, 2), (F.HEAD_TT_STATUS_KIND 0, kindCal)]) 0 (fun f => { f with on := true, sent := true })) 0 (fun x => { x with event := false })),
      0, by decide +kernel⟩,
    ⟨(upHead (upFr (tset (paneled live) [(F.HEAD_STATUS_STATE 0, 2)]) 0 (fun f => { f with on := true })) 0 (fun x => { x with event := false })),
      0, by decide +kernel⟩,
    ⟨(upHead (upFr (tset (paneled live) [(F.HEAD_STATUS_STATE 0, 2)]) 0 (fun f => { f with on := true, next := 480 })) 0 (fun x => { x with event := false })),
      0, by decide +kernel⟩,
    ⟨(upHead (upFr (tset (paneled live) [(F.HEAD_STATUS_STATE 0, 2)]) 0 (fun f => { f with on := true })) 0 (fun x => { x with blank := true })),
      0, by decide +kernel⟩,
    ⟨(upHead (upFr (tset (paneled live) [(F.HEAD_STATUS_STATE 0, 2), (F.HEAD_STATUS_IDLE 0, 1)]) 0 (fun f => { f with on := true })) 0 (fun x => { x with event := true })),
      0, by decide +kernel⟩,
    ⟨(at_ (upHead (upFr (tset (paneled live) [(F.HEAD_STATUS_STATE 0, 2)]) 0 (fun f => { f with on := true, planned := none })) 0 (fun x => { x with event := false })) 10000),
      0, by decide +kernel⟩,
    ⟨(at_ (upHead (upFr (tset (paneled live) [(F.HEAD_STATUS_STATE 0, 2)]) 0 (fun f => { f with on := true, planned := none })) 0 (fun x => { x with event := false })) 9999),
      0, by decide +kernel⟩,
    ⟨(upHead live 3 (fun x => { x with od := { x.od with due := [5] } })), 3, 5, by decide +kernel⟩⟩

theorem wit_Telltales :
    (∃ (s : State) (n : Fin 16) (stood : Nat), s.off = false ∧ stood < s.debounce n.val) ∧
    (∃ (s : State) (n : Fin 16) (stood : Nat) (m : Fin 16), s.off = false ∧ s.ttLevel < 65536 ∧ s.debounce n.val ≤ stood ∧
      m ≠ n) ∧
    (∃ (s : State) (n : Fin 16) (stood h : Nat), s.off = false ∧ s.ttLevel < 65536 ∧ s.debounce n.val ≤ stood ∧ h < 4) ∧
    (∃ (s : State) (h : Nat), s.off = false ∧ 1 ≤ s.ticks ∧ h < 4) ∧
    (∃ (s : State) (e : CmdEntry), s.starts 0xA0 e ∧ s.runtime = true ∧ 1 ≤ e.params.length ∧ e.params.length ≤ 4 ∧
      parUnit e.params ≤ 3 ∧ strayBits e.params 0 0xFF00001F = false ∧ badWords e.params 0 slotWordBad = [] ∧
      e.params.length = 1) ∧
    (∃ (s : State) (e : CmdEntry) (i : Nat), s.starts 0xA0 e ∧ s.runtime = true ∧ 1 ≤ e.params.length ∧ e.params.length ≤ 4 ∧
      parUnit e.params ≤ 3 ∧ strayBits e.params 0 0xFF00001F = false ∧ badWords e.params 0 slotWordBad = [] ∧
      i + 1 < e.params.length) ∧
    (∃ (s : State) (e : CmdEntry) (b : Nat),
      let h := parUnit e.params
      let k := parBits e.params 0 0 5
      let a := 0xC0000 + 0x400 * h + 0x10 * k
      s.starts 0xA0 e ∧ s.runtime = true ∧ 1 ≤ e.params.length ∧ e.params.length ≤ 4 ∧ parUnit e.params ≤ 3 ∧
      strayBits e.params 0 0xFF00001F = false ∧ badWords e.params 0 slotWordBad = [] ∧ b ≠ a ∧ b ≠ a + 4 ∧ b ≠ a + 8) ∧
    (∃ (s : State) (e : CmdEntry) (k : Nat), s.starts 0xA2 e ∧ s.runtime = true ∧ e.params.length = 3 ∧ parUnit e.params ≤ 3 ∧
      strayBits e.params 0 0xFF000000 = false ∧ k < 32) ∧
    (∃ (s : State) (e : CmdEntry),
      let k := parUnit e.params
      s.starts 0xA1 e ∧ s.runtime = true ∧ 2 ≤ e.params.length ∧ e.params.length ≤ 1026 ∧ parUnit e.params ≤ 31 ∧
      strayBits e.params 0 0xFF10FFFF = false ∧ parBits e.params 0 0 16 + e.params.length ≤ 514 ∧ s.otherLatched k = true) ∧
    (∃ (s : State) (e : CmdEntry),
      let k := parUnit e.params
      s.starts 0xA1 e ∧ s.runtime = true ∧ 2 ≤ e.params.length ∧ e.params.length ≤ 1026 ∧ parUnit e.params ≤ 31 ∧
      strayBits e.params 0 0xFF10FFFF = false ∧ parBits e.params 0 0 16 + e.params.length ≤ 514 ∧ s.otherLatched k = false ∧
      parBits e.params 0 20 1 = 1) ∧
    (∃ (s : State) (e : CmdEntry),
      let k := parUnit e.params
      let i := s.icon k
      let base := if i.copied then i.imgs.toList.getD (1 - i.live) [] else i.imgs.toList.getD i.live []
      let img := putImage base (parBits e.params 0 0 16) e.params.tail
      s.starts 0xA1 e ∧ s.runtime = true ∧ 2 ≤ e.params.length ∧ e.params.length ≤ 1026 ∧ parUnit e.params ≤ 31 ∧
      strayBits e.params 0 0xFF10FFFF = false ∧ parBits e.params 0 0 16 + e.params.length ≤ 514 ∧ s.otherLatched k = false ∧
      parBits e.params 0 20 1 = 0 ∧ imgOk img = true ∧ imgCrc img ≠ imgCheck img) ∧
    (∃ (s : State) (e : CmdEntry) (n : Nat),
      let k := parUnit e.params
      let i := s.icon k
      let base := if i.copied then i.imgs.toList.getD (1 - i.live) [] else i.imgs.toList.getD i.live []
      let img := putImage base (parBits e.params 0 0 16) e.params.tail
      s.starts 0xA1 e ∧ s.runtime = true ∧ 2 ≤ e.params.length ∧ e.params.length ≤ 1026 ∧ parUnit e.params ≤ 31 ∧
      strayBits e.params 0 0xFF10FFFF = false ∧ parBits e.params 0 0 16 + e.params.length ≤ 514 ∧ s.otherLatched k = false ∧
      parBits e.params 0 20 1 = 0 ∧ imgOk img = true ∧ imgCrc img = imgCheck img ∧ i.live ≤ 1 ∧ n ≠ k) :=
  ⟨⟨(tset live [(⟨0xC1080, 0, 8⟩, 5)]), 15, 0, by decide +kernel⟩,
    ⟨{ live with ttLevel := 65535 }, 15, 5000, 0, by decide +kernel⟩,
    ⟨{ live with ttLevel := 65535 }, 15, 5000, 0, by decide +kernel⟩,
    ⟨(at_ live 1), 0, by decide +kernel⟩,
    ⟨(tset (qd live (cmd 0xA0 [0x300001F])) [(F.PRES_STATUS_P2, 0)]), (cmd 0xA0 [0x300001F]), by decide +kernel⟩,
    ⟨(qd live (cmd 0xA0 [0x300001F, 0x0, 0x95F, 0x0])), (cmd 0xA0 [0x300001F, 0x0, 0x95F, 0x0]), 2, by decide +kernel⟩,
    ⟨(qd live (cmd 0xA0 [0x300001F, 0x0, 0x95F, 0x0])), (cmd 0xA0 [0x300001F, 0x0, 0x95F, 0x0]), 0xC0E00, by decide +kernel⟩,
    ⟨(qd live (cmd 0xA2 [0x3000000, 0xFFFFFFFF, 0x80000001])), (cmd 0xA2 [0x3000000, 0xFFFFFFFF, 0x80000001]), 31,
      by decide +kernel⟩,
    ⟨(upHead (tset (qd live (cmd 0xA1 [0x1F100000, 0x0])) [(F.HEAD_STATUS_STATE 0, 2)]) 0 (fun x => { x with slots := [⟨0, 31, some 1, [], 0, 0, 0, none, [], 0⟩] })),
      (cmd 0xA1 [0x1F100000, 0x0]), by decide +kernel⟩,
    ⟨(qd live (cmd 0xA1 [0x1F100200, 0x0])), (cmd 0xA1 [0x1F100200, 0x0]), by decide +kernel⟩,
    ⟨(qd live (cmd 0xA1 [0x1F000000, 0x801, 0x0])), (cmd 0xA1 [0x1F000000, 0x801, 0x0]), by decide +kernel⟩,
    ⟨(qd live (cmd 0xA1 [0x1F000000, BitVec.ofNat 32 (65536 * crc16 [0, 0, 0, 0] + 0x801), 0])),
      (cmd 0xA1 [0x1F000000, BitVec.ofNat 32 (65536 * crc16 [0, 0, 0, 0] + 0x801), 0]), 0, by decide +kernel⟩⟩

theorem wit_TrainingStates :
    (∃ (s : State) (c : Nat) (st : Nat) (d : Nat), c < 8 ∧ st ≤ 8 ∧ s.chainState c ≠ st ∧ d < 8 ∧ d ≠ c) ∧
    (∃ (c : Nat) (st : Nat) (cause : Nat), c < 8 ∧ st ≤ 8 ∧ 1 ≤ cause ∧ cause ≤ 5) ∧
    (∃ (s : State) (c : Nat), s.fld (F.LINK_STATUS_ATTEMPT c) = 1) ∧
    (∃ (s : State) (c : Nat), s.fld (F.LINK_STATUS_ATTEMPT c) = 2) ∧
    (∃ (s : State) (c : Nat), s.fld (F.LINK_STATUS_ATTEMPT c) = 3) :=
  ⟨⟨live, 7, 8, 6, by decide +kernel⟩,
    ⟨7, 8, 5, by decide +kernel⟩,
    ⟨(tset live [(F.LINK_STATUS_ATTEMPT 7, 1)]), 7, by decide +kernel⟩,
    ⟨(tset live [(F.LINK_STATUS_ATTEMPT 7, 2)]), 7, by decide +kernel⟩,
    ⟨(tset live [(F.LINK_STATUS_ATTEMPT 7, 3)]), 7, by decide +kernel⟩⟩

theorem wit_TrainingEvents :
    (∃ (s : State) (c : Fin 8), s.off = false ∧ s.chainState c.val = 1) ∧
    (∃ (s : State) (c : Fin 8), s.off = false ∧ s.chainState c.val = 8 ∧ (s.chain c.val).window = true) ∧
    (∃ (s : State) (c : Fin 8), s.off = false ∧ s.chainState c.val ≠ 1 ∧ s.chainState c.val ≠ 8) ∧
    (∃ (s : State) (c : Fin 8) (lead : Byte), s.off = false ∧ 1 ≤ s.chainState c.val ∧ s.chainState c.val ≤ 6 ∧
      lead.toNat ≠ 0xB5 ∧ lead.toNat ≠ 0x4A) ∧
    (∃ (s : State) (c : Fin 8) (lead s0 s1 : Byte),
      let st := s.chainState c.val
      s.off = false ∧ 1 ≤ s.chainState c.val ∧ s.chainState c.val ≤ 6 ∧ (lead.toNat = 0xB5 ∨ lead.toNat = 0x4A) ∧
      (bitsOf s0.toNat 3 1 = 0 ∨ bitsOf s0.toNat 4 4 ≠ st ∨ (st = 6 ∧ (s.chain c.val).round % 16 ≠ bitsOf s1.toNat 0 4))) ∧
    (∃ (s : State) (c : Fin 8) (lead s0 s1 : Byte),
      let st := s.chainState c.val
      s.off = false ∧ 1 ≤ s.chainState c.val ∧ s.chainState c.val ≤ 6 ∧ (lead.toNat = 0xB5 ∨ lead.toNat = 0x4A) ∧
      bitsOf s0.toNat 3 1 = 1 ∧ bitsOf s0.toNat 4 4 = st ∧ (st ≠ 6 ∨ (s.chain c.val).round % 16 = bitsOf s1.toNat 0 4)) ∧
    (∃ (s : State) (c : Nat), c < 8 ∧ s.chainState c = 2) ∧
    (∃ (s : State) (c : Nat), c < 8 ∧ s.chainState c = 3) ∧
    (∃ (s : State) (c : Nat), c < 8 ∧ s.chainState c = 5 ∧ (s.chain c).step = none ∧
      (s.chain c).rate = getBits (s.chain c).cfg0 0 16) ∧
    (∃ (s : State) (c : Nat) (all : Bool), c < 8 ∧ s.chainState c = 6 ∧ all = true ∧
      ((s.chain c).eqDone = true ∨ 32 ≤ (s.chain c).round)) ∧
    (∃ (s : State) (c : Fin 8) (pkt : List Byte), s.off = false ∧ s.chainState c.val = 4 ∧ returnPacket pkt = none) ∧
    (∃ (s : State) (c : Fin 8) (pkt : List Byte) (p : RetPacket), s.off = false ∧ s.chainState c.val = 4 ∧
      returnPacket pkt = some p ∧ p.type ≠ 2) ∧
    (∃ (s : State) (c : Fin 8) (pkt : List Byte) (p : RetPacket),
      let pos := p.byte 0
      s.off = false ∧ s.chainState c.val = 4 ∧ returnPacket pkt = some p ∧ p.type = 2 ∧ pos = 255) ∧
    (∃ (s : State) (c : Fin 8) (pkt : List Byte) (p : RetPacket),
      let pos := p.byte 0
      s.off = false ∧ s.chainState c.val = 4 ∧ returnPacket pkt = some p ∧ p.type = 2 ∧ pos < 16 ∧ bitsOf (p.byte 1) 4 1 = 0) ∧
    (∃ (s : State) (c : Fin 8) (pkt : List Byte) (p : RetPacket),
      let pos := p.byte 0
      s.off = false ∧ s.chainState c.val = 4 ∧ returnPacket pkt = some p ∧ p.type = 2 ∧ pos < 16 ∧ bitsOf (p.byte 1) 4 1 = 1) ∧
    (∃ (s : State) (c : Fin 8) (r ret : Nat) (pre : Bool), s.off = false ∧ s.chainState c.val = 5 ∧
      (s.chain c.val).step = some (r, pre, ret)) ∧
    (∃ (s : State) (c : Nat), c < 8 ∧ s.laneDriven c = false) ∧
    (∃ (p : Nat) (l : List Nat), p < 4 ∧ (∀ g ∈ l, g < 4)) ∧
    (∃ (s : State) (c : Fin 8) (pkt : List Byte) (p : RetPacket), s.off = false ∧ s.chainState c.val = 6 ∧
      returnPacket pkt = some p ∧ p.type = 4 ∧ p.src / 16 = c.val ∧ p.src % 16 = 0) ∧
    (∃ (s : State) (c : Fin 8) (pkt : List Byte) (p : RetPacket), s.off = false ∧ s.chainState c.val = 6 ∧
      returnPacket pkt = some p ∧ p.type = 4 ∧ p.src / 16 = c.val ∧ p.src % 16 ≠ 0) ∧
    (∃ (s : State) (c : Fin 8), s.off = false ∧ 1 ≤ s.chainState c.val ∧ s.chainState c.val ≤ 6 ∧
      (s.chain c.val).stateAt + 10 ≤ s.ticks) ∧
    (∃ (s : State) (c : Fin 8), s.off = false ∧ 1 ≤ s.chainState c.val ∧ s.chainState c.val ≤ 6 ∧
      s.ticks < (s.chain c.val).stateAt + 10) ∧
    (∃ (s : State) (c : Fin 8), s.off = false ∧ 1 ≤ s.chainState c.val ∧ s.chainState c.val ≤ 6 ∧
      (s.chain c.val).attemptAt + 200 ≤ s.ticks) ∧
    (∃ (s : State) (c : Fin 8), s.off = false ∧ 1 ≤ s.chainState c.val ∧ s.chainState c.val ≤ 6 ∧ s.chainState c.val ≠ 1) ∧
    (∃ (s : State) (c : Fin 8) (at' n : Nat), s.off = false ∧ s.chainState c.val = 0 ∧ (s.chain c.val).backoff = some (at', n) ∧
      s.pdOn (laneDomain c.val) = true ∧ at' + n ≤ s.ticks ∧ (s.chain c.val).next = 0) ∧
    (∃ (s : State) (c : Fin 8) (at' n : Nat), s.off = false ∧ s.chainState c.val = 0 ∧ (s.chain c.val).backoff = some (at', n) ∧
      s.pdOn (laneDomain c.val) = true ∧ at' + n ≤ s.ticks ∧ (s.chain c.val).next ≠ 0) ∧
    (∃ (s : State) (c : Fin 8) (at' n : Nat), s.off = false ∧ s.chainState c.val = 0 ∧ (s.chain c.val).backoff = some (at', n) ∧
      s.pdOn (laneDomain c.val) = true ∧ s.ticks < at' + n) ∧
    (∃ (s : State) (c : Fin 8), s.off = false ∧ s.chainState c.val = 8 ∧ (s.chain c.val).window = false ∧
      (s.chain c.val).windowAt + (s.chain c.val).beacon ≤ s.ticks ∧ s.nearEnd c.val = false) ∧
    (∃ (s : State) (c : Fin 8), s.off = false ∧ s.chainState c.val = 8 ∧ (s.chain c.val).window = true ∧
      (s.chain c.val).windowAt + 10 ≤ s.ticks) ∧
    (∃ (s : State) (c : Fin 8), s.off = false ∧ s.chainState c.val = 7 ∧ s.lane c.val ≠ 4 ∧ (s.chain c.val).unfurling = false) :=
  ⟨⟨(tset live [(F.LINK_STATUS_STATE 7, 1)]), 7, by decide +kernel⟩,
    ⟨(upChain (tset live [(F.LINK_STATUS_STATE 7, 8)]) 7 (fun x => { x with window := true })), 7, by decide +kernel⟩,
    ⟨(tset live [(F.LINK_STATUS_STATE 7, 2)]), 7, by decide +kernel⟩,
    ⟨(tset live [(F.LINK_STATUS_STATE 7, 6)]), 7, 0, by decide +kernel⟩,
    ⟨(tset live [(F.LINK_STATUS_STATE 7, 6)]), 7, 0xB5, 0x68, 1, by decide +kernel⟩,
    ⟨(tset live [(F.LINK_STATUS_STATE 7, 6)]), 7, 0x4A, 0x68, 0, by decide +kernel⟩,
    ⟨(tset live [(F.LINK_STATUS_STATE 7, 2)]), 7, by decide +kernel⟩,
    ⟨(tset live [(F.LINK_STATUS_STATE 7, 3)]), 7, by decide +kernel⟩,
    ⟨(tset live [(F.LINK_STATUS_STATE 7, 5)]), 7, by decide +kernel⟩,
    ⟨(upChain (tset live [(F.LINK_STATUS_STATE 7, 6)]) 7 (fun x => { x with eqDone := true })), 7, true, by decide +kernel⟩,
    ⟨(tset live [(F.LINK_STATUS_STATE 7, 4)]), 7, [0], by decide +kernel⟩,
    ⟨(tset live [(F.LINK_STATUS_STATE 7, 4)]), 7, (pkt 0x70 1 [0]), ⟨0x70, 1, [0]⟩, by decide +kernel⟩,
    ⟨(tset live [(F.LINK_STATUS_STATE 7, 4)]), 7, (pkt 0x70 2 [255]), ⟨0x70, 2, [255]⟩, by decide +kernel⟩,
    ⟨(tset live [(F.LINK_STATUS_STATE 7, 4)]), 7, (pkt 0x7F 2 [15, 0]), ⟨0x7F, 2, [15, 0]⟩, by decide +kernel⟩,
    ⟨(tset live [(F.LINK_STATUS_STATE 7, 4)]), 7, (pkt 0x7F 2 [15, 0x10]), ⟨0x7F, 2, [15, 0x10]⟩, by decide +kernel⟩,
    ⟨(upChain (tset live [(F.LINK_STATUS_STATE 7, 5)]) 7 (fun x => { x with step := some (1, true, 2) })), 7, 1, 2, true,
      by decide +kernel⟩,
    ⟨live, 7, by decide +kernel⟩,
    ⟨3, [3, 0, 2], by decide +kernel⟩,
    ⟨(tset live [(F.LINK_STATUS_STATE 7, 6)]), 7, (pkt 0x70 4 [1, 2]), ⟨0x70, 4, [1, 2]⟩, by decide +kernel⟩,
    ⟨(tset live [(F.LINK_STATUS_STATE 7, 6)]), 7, (pkt 0x71 4 [1, 2]), ⟨0x71, 4, [1, 2]⟩, by decide +kernel⟩,
    ⟨(at_ (tset live [(F.LINK_STATUS_STATE 7, 6)]) 10), 7, by decide +kernel⟩,
    ⟨(at_ (tset live [(F.LINK_STATUS_STATE 7, 6)]) 9), 7, by decide +kernel⟩,
    ⟨(at_ (tset live [(F.LINK_STATUS_STATE 7, 6)]) 200), 7, by decide +kernel⟩,
    ⟨(tset live [(F.LINK_STATUS_STATE 7, 2)]), 7, by decide +kernel⟩,
    ⟨(at_ (upChain (tset live [(F.LINK_STATUS_STATE 7, 0)]) 7 (fun x => { x with backoff := some (3, 160), next := 0 })) 163),
      7, 3, 160, by decide +kernel⟩,
    ⟨(at_ (upChain (tset live [(F.LINK_STATUS_STATE 7, 0)]) 7 (fun x => { x with backoff := some (3, 10), next := 1 })) 13), 7,
      3, 10, by decide +kernel⟩,
    ⟨(at_ (upChain (tset live [(F.LINK_STATUS_STATE 7, 0)]) 7 (fun x => { x with backoff := some (3, 10) })) 12), 7, 3, 10,
      by decide +kernel⟩,
    ⟨(at_ (tset live [(F.LINK_STATUS_STATE 7, 8)]) 100000), 7, by decide +kernel⟩,
    ⟨(at_ (upChain (tset live [(F.LINK_STATUS_STATE 7, 8)]) 7 (fun x => { x with window := true })) 10), 7, by decide +kernel⟩,
    ⟨(tset live [(F.LINK_STATUS_STATE 7, 7), (F.LINK_STATUS_LANE 7, 2)]), 7, by decide +kernel⟩⟩

theorem wit_ChainCommands :
    (∃ (s : State) (e : CmdEntry) (i : Nat), s.starts 0x80 e ∧ s.runtime = true ∧ 1 ≤ e.params.length ∧ e.params.length ≤ 8 ∧
      parUnit e.params ≤ 7 ∧ strayBits e.params 0 0xFF00000F = false ∧ parBits e.params 0 0 4 ≤ 6 ∧
      (∀ i, i + 1 < e.params.length → chainWordBad (parBits e.params 0 0 4 + i) (par e.params (i + 1)) = false) ∧
      i + 1 < e.params.length) ∧
    (∃ (s : State) (e : CmdEntry) (a : Nat), s.starts 0x80 e ∧ s.runtime = true ∧ 1 ≤ e.params.length ∧ e.params.length ≤ 8 ∧
      parUnit e.params ≤ 7 ∧ strayBits e.params 0 0xFF00000F = false ∧ parBits e.params 0 0 4 ≤ 6 ∧
      (∀ i, i + 1 < e.params.length → chainWordBad (parBits e.params 0 0 4 + i) (par e.params (i + 1)) = false) ∧
      (∀ i, i + 1 < e.params.length → a ≠ cfgReg (parUnit e.params) (parBits e.params 0 0 4 + i))) ∧
    (∃ (s : State) (e : CmdEntry) (c : Nat), s.starts 0x81 e ∧ s.runtime = true ∧ e.params.length = 1 ∧
      strayBits e.params 0 0xFF000000 = false ∧ c ∈ maskChains (parUnit e.params) ∧
      (∀ d ∈ maskChains (parUnit e.params), d < c → s.pdOn (laneDomain d) = true) ∧ s.pdOn (laneDomain c) = false) ∧
    (∃ (s : State) (e : CmdEntry), s.starts 0x81 e ∧ s.runtime = true ∧ e.params.length = 1 ∧
      strayBits e.params 0 0xFF000000 = false ∧ (∀ c ∈ maskChains (parUnit e.params), s.pdOn (laneDomain c) = true) ∧
      (∀ c ∈ maskChains (parUnit e.params), s.training c = false)) ∧
    (∃ (s : State) (e : CmdEntry), s.starts 0x81 e ∧ s.runtime = true ∧ e.params.length = 1 ∧
      strayBits e.params 0 0xFF000000 = false ∧ (∀ c ∈ maskChains (parUnit e.params), s.pdOn (laneDomain c) = true) ∧
      (∃ c ∈ maskChains (parUnit e.params), s.training c = true)) ∧
    (∃ (s : State) (e : CmdEntry),
      let a := parUnit e.params
      s.starts 0x82 e ∧ s.runtime = true ∧ e.params.length = 2 ∧ strayBits e.params 0 0xFF00FFFF = false ∧
      parUnit e.params < 0x80 ∧ 1 ≤ (par e.params 1).toNat ∧ (par e.params 1).toNat ≤ 64 ∧ s.reachable (a / 16) = true ∧
      s.lane (a / 16) = 2 ∧ (s.chain (a / 16)).furling = none) ∧
    (∃ (s : State) (e : CmdEntry),
      let a := parUnit e.params
      s.starts 0x82 e ∧ s.runtime = true ∧ e.params.length = 2 ∧ strayBits e.params 0 0xFF00FFFF = false ∧
      parUnit e.params < 0x80 ∧ 1 ≤ (par e.params 1).toNat ∧ (par e.params 1).toNat ≤ 64 ∧ s.reachable (a / 16) = true ∧
      s.lane (a / 16) = 4) ∧
    (∃ (s : State) (e : CmdEntry),
      let a := parUnit e.params
      s.starts 0x82 e ∧ s.runtime = true ∧ e.params.length = 2 ∧ strayBits e.params 0 0xFF00FFFF = false ∧
      parUnit e.params < 0x80 ∧ 1 ≤ (par e.params 1).toNat ∧ (par e.params 1).toNat ≤ 64 ∧ s.reachable (a / 16) = false) ∧
    (∃ (s : State) (e : CmdEntry),
      let a := parUnit e.params
      s.starts 0x83 e ∧ s.runtime = true ∧ 2 ≤ e.params.length ∧ e.params.length ≤ 65 ∧
      strayBits e.params 0 0xFF00FFFF = false ∧ parUnit e.params < 0x80 ∧ s.reachable (a / 16) = true ∧ s.lane (a / 16) = 2 ∧
      (s.chain (a / 16)).furling = none) ∧
    (∃ (s : State) (e : CmdEntry),
      let a := parUnit e.params
      s.starts 0x83 e ∧ s.runtime = true ∧ 2 ≤ e.params.length ∧ e.params.length ≤ 65 ∧
      strayBits e.params 0 0xFF00FFFF = false ∧ parUnit e.params < 0x80 ∧ s.reachable (a / 16) = true ∧ s.lane (a / 16) = 4) ∧
    (∃ (s : State) (e : CmdEntry),
      let a := parUnit e.params
      s.starts 0x83 e ∧ s.runtime = true ∧ 2 ≤ e.params.length ∧ e.params.length ≤ 65 ∧ a = 0xFF ∧
      strayBits e.params 0 0xFF00FFFF = false ∧ (∀ c, c < 8 → (s.chain c).access = []) ∧
      (∀ c, c < 8 → s.reachable c = true → s.lane c = 2 ∧ (s.chain c).furling = none)) ∧
    (∃ (s : State) (e : CmdEntry),
      let a := parUnit e.params
      let c := parBits e.params 0 20 4
      s.starts 0x83 e ∧ s.runtime = true ∧ 2 ≤ e.params.length ∧ e.params.length ≤ 65 ∧ a = 0xFE ∧
      strayBits e.params 0 0xFFF0FFFF = false ∧ parBits e.params 0 20 4 ≤ 7 ∧ s.reachable c = false) ∧
    (∃ (s : State) (e : CmdEntry),
      let a := parUnit e.params
      let c := parBits e.params 0 20 4
      s.starts 0x83 e ∧ s.runtime = true ∧ 2 ≤ e.params.length ∧ e.params.length ≤ 65 ∧ a = 0xFE ∧
      strayBits e.params 0 0xFFF0FFFF = false ∧ parBits e.params 0 20 4 ≤ 7 ∧ s.reachable c = true ∧ s.lane c = 2 ∧
      (s.chain c).furling = none ∧ (∀ c, c < 8 → (s.chain c).access = [])) ∧
    (∃ (s : State) (e : CmdEntry), (s.starts 0x82 e ∨ s.starts 0x83 e) ∧ s.runtime = true ∧ 0x80 ≤ parUnit e.params ∧
      parUnit e.params < 0xFE ∧ e.params.length = 2 ∧ s.starts 0x82 e) ∧
    (∃ (s : State) (e : CmdEntry), (s.starts 0x82 e ∨ s.starts 0x83 e) ∧ s.runtime = true ∧ 0x80 ≤ parUnit e.params ∧
      parUnit e.params < 0xFE ∧ e.params.length = 2 ∧ s.starts 0x83 e) ∧
    (∃ (src type : Byte) (d : List Byte) (crc : Nat),
      let body := src :: type :: BitVec.ofNat 8 (d.length / 256) :: BitVec.ofNat 8 d.length :: d
      d.length ≤ 2048 ∧ crc < 65536 ∧ crc = crc16 body) ∧
    (∃ (src type : Byte) (d : List Byte) (crc : Nat),
      let body := src :: type :: BitVec.ofNat 8 (d.length / 256) :: BitVec.ofNat 8 d.length :: d
      d.length ≤ 2048 ∧ crc < 65536 ∧ crc ≠ crc16 body) ∧
    (∃ (s : State) (c : Fin 8) (pkt : List Byte), s.off = false ∧ s.chainState c.val = 7 ∧ returnPacket pkt = none) ∧
    (∃ (s : State) (c : Fin 8) (pos : Fin 16) (r : CmdEntry) (n : Nat) (pkt : List Byte) (p : RetPacket), s.off = false ∧
      s.runtimeDead = false ∧ s.chainState c.val = 7 ∧ s.cw.running = some ⟨r, .station c.val pos.val n⟩ ∧
      (s.chain c.val).access = [] ∧ returnPacket pkt = some p ∧ p.type = 1 ∧ p.src = 16 * c.val + pos.val ∧ p.byte 0 = 0) ∧
    (∃ (s : State) (c : Fin 8) (pkt : List Byte) (p : RetPacket),
      let pos := p.src % 16
      s.off = false ∧ s.chainState c.val = 7 ∧ returnPacket pkt = some p ∧ p.type = 3 ∧ p.src / 16 = c.val ∧
      (bitsOf (p.byte 1) 2 1 = 0 ∨ s.fld (F.LINK_STATUS_LAST_POS c.val) ≤ pos)) ∧
    (∃ (s : State) (c : Fin 8) (pkt : List Byte) (p : RetPacket) (k : Nat),
      let pos := p.src % 16
      s.off = false ∧ s.chainState c.val = 7 ∧ returnPacket pkt = some p ∧ p.type = 3 ∧ p.src / 16 = c.val ∧
      bitsOf (p.byte 1) 2 1 = 1 ∧ pos < s.fld (F.LINK_STATUS_LAST_POS c.val) ∧ k < 16) :=
  ⟨⟨(qd live (cmd 0x80 [0x7000006, 0x0])), (cmd 0x80 [0x7000006, 0x0]), 0, by decide +kernel, by decide +kernel,
      by decide +kernel, by decide +kernel, by decide +kernel, by decide +kernel, by decide +kernel,
      succBelow (by decide +kernel), by decide +kernel⟩,
    ⟨(qd live (cmd 0x80 [0x7000006, 0x0])), (cmd 0x80 [0x7000006, 0x0]), 0, by decide +kernel, by decide +kernel,
      by decide +kernel, by decide +kernel, by decide +kernel, by decide +kernel, by decide +kernel,
      succBelow (by decide +kernel), succBelow (by decide +kernel)⟩,
    ⟨(tset (qd live (cmd 0x81 [0xFF000000])) [(F.PWR_PD_STATE (laneDomain 7), 0)]), (cmd 0x81 [0xFF000000]), 6,
      by decide +kernel⟩,
    ⟨(qd live (cmd 0x81 [0xFF000000])), (cmd 0x81 [0xFF000000]), by decide +kernel⟩,
    ⟨(tset (qd live (cmd 0x81 [0x80000000])) [(F.LINK_STATUS_STATE 7, 6)]), (cmd 0x81 [0x80000000]), by decide +kernel⟩,
    ⟨(tset (qd live (cmd 0x82 [0x7F00FFFF, 0x40])) [(F.LINK_STATUS_STATE 7, 7), (F.LINK_STATUS_LANE 7, 2)]),
      (cmd 0x82 [0x7F00FFFF, 0x40]), by decide +kernel⟩,
    ⟨(upChain (tset (qd live (cmd 0x82 [0x7F00FFFF, 0x40])) [(F.LINK_STATUS_STATE 7, 7), (F.LINK_STATUS_LANE 7, 4)]) 7 (fun x => { x with byHead := true })),
      (cmd 0x82 [0x7F00FFFF, 0x40]), by decide +kernel⟩,
    ⟨(qd live (cmd 0x82 [0x7F000000, 0x1])), (cmd 0x82 [0x7F000000, 0x1]), by decide +kernel⟩,
    ⟨(tset (qd live (cmd 0x83 [0x7F00FFFF, 0x1])) [(F.LINK_STATUS_STATE 7, 7), (F.LINK_STATUS_LANE 7, 2)]),
      (cmd 0x83 [0x7F00FFFF, 0x1]), by decide +kernel⟩,
    ⟨(upChain (tset (qd live (cmd 0x83 [0x7F00FFFF, 0x1])) [(F.LINK_STATUS_STATE 7, 7), (F.LINK_STATUS_LANE 7, 4)]) 7 (fun x => { x with byHead := true })),
      (cmd 0x83 [0x7F00FFFF, 0x1]), by decide +kernel⟩,
    ⟨(tset (qd live (cmd 0x83 [0xFF00FFFF, 0x1])) [(F.LINK_STATUS_STATE 7, 7), (F.LINK_STATUS_LANE 7, 2)]),
      (cmd 0x83 [0xFF00FFFF, 0x1]), by decide +kernel⟩,
    ⟨(qd live (cmd 0x83 [0xFE70FFFF, 0x1])), (cmd 0x83 [0xFE70FFFF, 0x1]), by decide +kernel⟩,
    ⟨(tset (qd live (cmd 0x83 [0xFE70FFFF, 0x1])) [(F.LINK_STATUS_STATE 7, 7), (F.LINK_STATUS_LANE 7, 2)]),
      (cmd 0x83 [0xFE70FFFF, 0x1]), by decide +kernel⟩,
    ⟨(qd live (cmd 0x82 [0x80000000, 0x1])), (cmd 0x82 [0x80000000, 0x1]), by decide +kernel⟩,
    ⟨(qd live (cmd 0x83 [0xFD000000, 0x1])), (cmd 0x83 [0xFD000000, 0x1]), by decide +kernel⟩,
    ⟨0x7F, 1, [], (crc16 [0x7F, 1, 0, 0]), by decide +kernel⟩,
    ⟨0x7F, 1, [], (crc16 [0x7F, 1, 0, 1]), by decide +kernel⟩,
    ⟨(tset live [(F.LINK_STATUS_STATE 7, 7)]), 7, [1], by decide +kernel⟩,
    ⟨(upCw (tset live [(F.LINK_STATUS_STATE 7, 7)]) (fun w => { w with running := some ⟨cmd 0x82 [0x7F000000, 2], .station 7 15 2⟩ })),
      7, 15, (cmd 0x82 [0x7F000000, 2]), 2, (pkt 0x7F 1 [0, 0]), ⟨0x7F, 1, [0, 0]⟩, by decide +kernel⟩,
    ⟨(tset live [(F.LINK_STATUS_STATE 7, 7)]), 7, (pkt 0x7F 3 [0, 0]), ⟨0x7F, 3, [0, 0]⟩, by decide +kernel⟩,
    ⟨(tset live [(F.LINK_STATUS_STATE 7, 7), (F.LINK_STATUS_LAST_POS 7, 3)]), 7, (pkt 0x72 3 [0, 4]), ⟨0x72, 3, [0, 4]⟩, 3,
      by decide +kernel⟩⟩

theorem wit_LanePower :
    (∃ (s : State) (e : CmdEntry) (c : Nat),
      let l := maskChains (parUnit e.params)
      let g := furlCode (parBits e.params 0 0 2)
      s.starts 0x84 e ∧ s.runtime = true ∧ e.params.length = 1 ∧ strayBits e.params 0 0xFF000003 = false ∧
      parBits e.params 0 0 2 ≠ 3 ∧ c ∈ l ∧ (∀ d ∈ l, d < c → s.furlOffends g d = false) ∧ s.furlOffends g c = true) ∧
    (∃ (s : State) (e : CmdEntry) (c : Nat),
      let l := maskChains (parUnit e.params)
      let g := furlCode (parBits e.params 0 0 2)
      s.starts 0x84 e ∧ s.runtime = true ∧ e.params.length = 1 ∧ strayBits e.params 0 0xFF000003 = false ∧
      parBits e.params 0 0 2 ≠ 3 ∧
      (∀ c ∈ l, s.furlOffends g c = false ∧ s.lane c = g ∧ (s.chain c).furling = none ∧ (s.chain c).unfurling = false) ∧ c ∈ l) ∧
    (∃ (s : State) (e : CmdEntry) (c : Nat),
      let l := maskChains (parUnit e.params)
      let g := furlCode (parBits e.params 0 0 2)
      s.starts 0x84 e ∧ s.runtime = true ∧ e.params.length = 1 ∧ strayBits e.params 0 0xFF000003 = false ∧
      parBits e.params 0 0 2 ≠ 3 ∧ l ≠ [] ∧ g ≠ 2 ∧
      (∀ c ∈ l, s.furlOffends g c = false ∧ s.lane c = 2 ∧ (s.chain c).furling = none ∧ (s.chain c).unfurling = false) ∧ c ∈ l) ∧
    (∃ (s : State) (r : CmdEntry) (m : Nat), s.cw.running = some ⟨r, .furl m⟩ ∧ s.runtimeDead = false ∧
      (∀ c ∈ maskChains m, s.chainState c = 7 ∧ (s.chain c).goal = none)) ∧
    (∃ (s : State) (r : CmdEntry) (m : Nat), s.cw.running = some ⟨r, .furl m⟩ ∧ s.runtimeDead = false ∧
      (∃ c ∈ maskChains m, s.chainState c ≠ 7 ∨ (s.chain c).goal ≠ none)) ∧
    (∃ (s : State) (c : Fin 8) (g : Nat), s.off = false ∧ (s.chain c.val).furling = some g ∧ (g = 3 ∨ g = 4) ∧
      (s.chain c.val).access = [] ∧ s.pwr.target = none ∧ ((s.chain c.val).goal = none ∨ (s.chain c.val).goal = some g)) ∧
    (∃ (s : State) (c : Fin 8), s.off = false ∧ (s.chain c.val).unfurling = false) ∧
    (∃ (s : State) (c : Fin 8), s.off = false ∧ (s.chain c.val).unfurling = true ∧ (s.chain c.val).furling = none ∧
      s.pwr.target = none ∧ ((s.chain c.val).goal = none ∨ (s.chain c.val).goal = some 2)) :=
  ⟨⟨(qd live (cmd 0x84 [0x80000000])), (cmd 0x84 [0x80000000]), 7, by decide +kernel⟩,
    ⟨(tset (qd live (cmd 0x84 [0x80000002])) [(F.LINK_STATUS_STATE 7, 7), (F.LINK_STATUS_LANE 7, 4)]), (cmd 0x84 [0x80000002]),
      7, by decide +kernel⟩,
    ⟨(tset (qd live (cmd 0x84 [0x80000001])) [(F.LINK_STATUS_STATE 7, 7), (F.LINK_STATUS_LANE 7, 2)]), (cmd 0x84 [0x80000001]),
      7, by decide +kernel⟩,
    ⟨(upCw (upChain (tset live [(F.LINK_STATUS_STATE 7, 7)]) 7 (fun x => { x with goal := none })) (fun w => { w with running := some ⟨cmd 0x84 [0x80000001], .furl 0x80⟩ })),
      (cmd 0x84 [0x80000001]), 0x80, by decide +kernel⟩,
    ⟨(upCw (upChain (tset live [(F.LINK_STATUS_STATE 7, 7)]) 7 (fun x => { x with goal := some 4 })) (fun w => { w with running := some ⟨cmd 0x84 [0x80000001], .furl 0x80⟩ })),
      (cmd 0x84 [0x80000001]), 0x80, by decide +kernel⟩,
    ⟨(upChain (tset live [(F.LINK_STATUS_STATE 7, 7)]) 7 (fun x => { x with furling := some 4 })), 7, 4, by decide +kernel⟩,
    ⟨live, 7, by decide +kernel⟩,
    ⟨(upChain (tset live [(F.LINK_STATUS_STATE 7, 7)]) 7 (fun x => { x with unfurling := true })), 7, by decide +kernel⟩⟩

theorem wit_DiagnosticRuns :
    (∃ (s : State) (e : CmdEntry),
      let c := parUnit e.params
      let sel := parBits e.params 0 0 16
      s.starts 0xB0 e ∧ s.runtime = true ∧ e.params.length = 2 ∧ parUnit e.params ≤ 7 ∧ parBits e.params 0 16 8 = 0 ∧
      6 ≤ (par e.params 1).toNat ∧ (par e.params 1).toNat ≤ 10 ∧ s.eyeSelectorOk c sel = true ∧ s.chainState c ≠ 7) ∧
    (∃ (s : State) (e : CmdEntry),
      let c := parUnit e.params
      let sel := parBits e.params 0 0 16
      s.starts 0xB0 e ∧ s.runtime = true ∧ e.params.length = 2 ∧ parUnit e.params ≤ 7 ∧ parBits e.params 0 16 8 = 0 ∧
      6 ≤ (par e.params 1).toNat ∧ (par e.params 1).toNat ≤ 10 ∧ s.eyeSelectorOk c sel = true ∧ s.runBusy c = true ∧
      s.chainState c = 7) ∧
    (∃ (s : State) (e : CmdEntry),
      let c := parUnit e.params
      let sel := parBits e.params 0 0 16
      s.starts 0xB0 e ∧ s.runtime = true ∧ e.params.length = 2 ∧ parUnit e.params ≤ 7 ∧ parBits e.params 0 16 8 = 0 ∧
      6 ≤ (par e.params 1).toNat ∧ (par e.params 1).toNat ≤ 10 ∧ s.eyeSelectorOk c sel = true ∧ s.runBusy c = false ∧
      s.chainState c = 7) ∧
    (∃ (s : State) (e : CmdEntry) (d : DiagRun),
      let c := parUnit e.params
      let first := parBits e.params 1 16 13
      s.starts 0xB0 e ∧ s.runtime = true ∧ e.params.length = 2 ∧ parUnit e.params ≤ 7 ∧ parBits e.params 0 16 8 = 1 ∧
      parBits e.params 0 0 7 = 0 ∧ strayBits e.params 1 0x1FFF000F = false ∧ (s.chain c).diag = some d ∧ d.loop = false ∧
      first < d.n ∧ s.runBusy c = true) ∧
    (∃ (s : State) (e : CmdEntry) (d : DiagRun),
      let c := parUnit e.params
      let first := parBits e.params 1 16 13
      s.starts 0xB0 e ∧ s.runtime = true ∧ e.params.length = 2 ∧ parUnit e.params ≤ 7 ∧ parBits e.params 0 16 8 = 1 ∧
      parBits e.params 0 0 7 = 0 ∧ strayBits e.params 1 0x1FFF000F = false ∧ (s.chain c).diag = some d ∧ d.loop = false ∧
      first < d.n ∧ s.runBusy c = false ∧ s.bit (F.LINK_DIAG_STATUS_OVERRUN c) = true) ∧
    (∃ (s : State) (e : CmdEntry) (d : DiagRun),
      let c := parUnit e.params
      let first := parBits e.params 1 16 13
      s.starts 0xB0 e ∧ s.runtime = true ∧ e.params.length = 2 ∧ parUnit e.params ≤ 7 ∧ parBits e.params 0 16 8 = 1 ∧
      parBits e.params 0 0 7 = 0 ∧ strayBits e.params 1 0x1FFF000F = false ∧ (s.chain c).diag = some d ∧ d.loop = false ∧
      first < d.n ∧ s.runBusy c = false ∧ s.bit (F.LINK_DIAG_STATUS_OVERRUN c) = false) ∧
    (∃ (s : State) (e : CmdEntry),
      let c := parUnit e.params
      s.starts 0xB0 e ∧ s.runtime = true ∧ e.params.length = 2 ∧ parUnit e.params ≤ 7 ∧ parBits e.params 0 16 8 = 1 ∧
      parBits e.params 0 0 7 = 0 ∧ strayBits e.params 1 0x1FFF000F = false ∧
      ((s.chain c).diag = none ∨ (∃ d, (s.chain c).diag = some d ∧ d.loop = true))) ∧
    (∃ (s : State) (e : CmdEntry), s.starts 0xB0 e ∧ s.runtime = true ∧ e.params.length = 2 ∧ parUnit e.params ≤ 7 ∧
      parBits e.params 0 16 8 = 2 ∧ parBits e.params 0 0 7 = 0 ∧ strayBits e.params 1 0x0000000F = false ∧
      s.runBusy (parUnit e.params) = false) ∧
    (∃ (s : State) (e : CmdEntry), s.starts 0xB0 e ∧ s.runtime = true ∧ e.params.length = 2 ∧ parUnit e.params ≤ 7 ∧
      parBits e.params 0 16 8 = 2 ∧ parBits e.params 0 0 7 = 0 ∧ strayBits e.params 1 0x0000000F = false ∧
      s.runBusy (parUnit e.params) = true) ∧
    (∃ (s : State) (c : Fin 8) (d : DiagRun),
      let k := s.fld (F.LINK_DIAG_STATUS_DONE_CNT c.val) + 1
      s.off = false ∧ (s.chain c.val).diag = some d ∧ d.loop = false ∧ d.station = false ∧ s.runState c.val = 1 ∧
      s.fld (F.LINK_DIAG_STATUS_DONE_CNT c.val) + 1 < 8192 ∧ k < d.n ∧ k % 8 ≠ 0) ∧
    (∃ (s : State) (c : Fin 8) (pkt : List Byte), s.off = false ∧ s.chainState c.val = 7 ∧ returnPacket pkt = none) ∧
    (∃ (s : State) (c : Fin 8) (pkt : List Byte) (d : DiagRun) (p : RetPacket), s.off = false ∧ s.chainState c.val = 7 ∧
      (s.chain c.val).diag = some d ∧ d.loop = false ∧ d.station = true ∧ s.runBusy c.val = true ∧ returnPacket pkt = some p ∧
      p.type = 6 ∧ p.src = 16 * c.val + d.pos ∧ d.pos < 16 ∧ p.bytes 0 2 = s.fld (F.LINK_DIAG_STATUS_DONE_CNT c.val) ∧
      p.bytes 0 2 + p.byte 2 ≤ d.n ∧ d.n ≤ 8191) ∧
    (∃ (s : State) (c : Fin 8) (d : DiagRun), s.off = false ∧ (s.chain c.val).diag = some d ∧ d.loop = false ∧
      d.station = true ∧ s.runState c.val = 1 ∧ d.last + 2000 ≤ s.ticks) ∧
    (∃ (s : State) (c : Fin 8) (d : DiagRun), s.off = false ∧ (s.chain c.val).diag = some d ∧ d.loop = false ∧
      d.station = true ∧ s.runState c.val = 1 ∧ s.ticks < d.last + 2000) ∧
    (∃ (s : State) (e : CmdEntry),
      let c := parUnit e.params
      let kind := parBits e.params 0 12 4
      s.starts 0xB1 e ∧ s.runtime = true ∧ e.params.length = 2 ∧ parUnit e.params ≤ 7 ∧ parBits e.params 0 16 8 = 0 ∧
      loopFails e.params = [] ∧ s.runBusy c = false ∧ s.pdOn (laneDomain c) = true ∧ kind = 2 ∧ s.chainState c = 7 ∧
      parBits e.params 0 8 4 < s.fld (F.LINK_STATUS_STATIONS c) ∧ s.lane c = 2) ∧
    (∃ (s : State) (e : CmdEntry),
      let c := parUnit e.params
      let kind := parBits e.params 0 12 4
      s.starts 0xB1 e ∧ s.runtime = true ∧ e.params.length = 2 ∧ parUnit e.params ≤ 7 ∧ parBits e.params 0 16 8 = 0 ∧
      loopFails e.params = [] ∧ s.runBusy c = false ∧ s.pdOn (laneDomain c) = true ∧ kind ≠ 2 ∧
      (s.chainState c = 0 ∨ s.chainState c = 8) ∧ s.nearHeld = false) ∧
    (∃ (s : State) (e : CmdEntry),
      let c := parUnit e.params
      let kind := parBits e.params 0 12 4
      s.starts 0xB1 e ∧ s.runtime = true ∧ e.params.length = 2 ∧ parUnit e.params ≤ 7 ∧ parBits e.params 0 16 8 = 0 ∧
      loopFails e.params = [] ∧ s.runBusy c = false ∧ s.pdOn (laneDomain c) = true ∧ kind ≠ 2 ∧ s.chainState c ≠ 0 ∧
      s.chainState c ≠ 8) ∧
    (∃ (s : State) (e : CmdEntry) (d : DiagRun),
      let c := parUnit e.params
      s.starts 0xB1 e ∧ s.runtime = true ∧ e.params.length = 2 ∧ parUnit e.params ≤ 7 ∧ parBits e.params 0 16 8 = 1 ∧
      parBits e.params 0 0 8 = 0 ∧ strayBits e.params 1 0x0000FF0F = false ∧ (s.chain c).diag = some d ∧ d.loop = true ∧
      s.runBusy c = false ∧ s.bit (F.LINK_DIAG_STATUS_OVERRUN c) = false) ∧
    (∃ (s : State) (e : CmdEntry), s.starts 0xB1 e ∧ s.runtime = true ∧ e.params.length = 2 ∧ parUnit e.params ≤ 7 ∧
      parBits e.params 0 16 8 = 2 ∧ parBits e.params 0 0 8 = 0 ∧ strayBits e.params 1 0x0000FF0F = false ∧
      s.runBusy (parUnit e.params) = false) ∧
    (∃ (s : State) (e : CmdEntry), s.starts 0xB1 e ∧ s.runtime = true ∧ e.params.length = 2 ∧ parUnit e.params ≤ 7 ∧
      parBits e.params 0 16 8 = 2 ∧ parBits e.params 0 0 8 = 0 ∧ strayBits e.params 1 0x0000FF0F = false ∧
      s.runBusy (parUnit e.params) = true) ∧
    (∃ (s : State) (c : Fin 8) (d : DiagRun) (rx : List (BitVec 64)),
      let f := rx.foldl (fun (d : DiagRun) w =>
        let k := checkPattern d.pattern d.check w
        { d with errors := d.errors + k.1, bits := d.bits + 64, sync := d.sync + k.2.1, check := k.2.2 }) d
      s.off = false ∧ (s.chain c.val).diag = some d ∧ d.loop = true ∧ d.station = false ∧ s.runState c.val = 1 ∧
      f.errors = d.errors) ∧
    (∃ (s : State) (c : Fin 8) (d : DiagRun) (rx : List (BitVec 64)),
      let f := rx.foldl (fun (d : DiagRun) w =>
        let k := checkPattern d.pattern d.check w
        { d with errors := d.errors + k.1, bits := d.bits + 64, sync := d.sync + k.2.1, check := k.2.2 }) d
      s.off = false ∧ (s.chain c.val).diag = some d ∧ d.loop = true ∧ d.station = false ∧ s.runState c.val = 1 ∧
      d.errors < f.errors ∧ s.fld (F.LINK_DIAG_STATUS_DONE_CNT c.val) < 8191) ∧
    (∃ (s : State) (c : Fin 8) (d : DiagRun) (rx : List (BitVec 64)), s.off = false ∧ (s.chain c.val).diag = some d ∧
      d.loop = true ∧ d.station = false ∧ s.runState c.val = 1 ∧ d.target ≤ d.bits + 64 * rx.length) ∧
    (∃ (s : State) (c : Fin 8) (d : DiagRun) (rx : List (BitVec 64)), s.off = false ∧ (s.chain c.val).diag = some d ∧
      d.loop = true ∧ d.station = false ∧ s.runState c.val = 1 ∧ d.bits + 64 * rx.length < d.target) ∧
    (∃ (s : State) (c : Fin 8) (d : DiagRun), s.off = false ∧ (s.chain c.val).diag = some d ∧ d.loop = true ∧ d.station = true ∧
      s.runState c.val = 1) ∧
    (∃ (gen : Option (List Bool)), gen = none) ∧
    (∃ (p : Nat) (gen : Option (List Bool)) (w : BitVec 64),
      let k := checkPattern p gen w
      gen ≠ none ∧ k.2.2 = none) ∧
    (∃ (p : Nat) (gen : Option (List Bool)) (w : BitVec 64),
      let k := checkPattern p gen w
      k.2.2 ≠ none) :=
  ⟨⟨(qd live (cmd 0xB0 [0x7008000, 0xA])), (cmd 0xB0 [0x7008000, 0xA]), by decide +kernel⟩,
    ⟨(tset (qd live (cmd 0xB0 [0x7008000, 0xA])) [(F.LINK_DIAG_STATUS_RUN_STATE 7, 1), (F.LINK_STATUS_STATE 7, 7)]),
      (cmd 0xB0 [0x7008000, 0xA]), by decide +kernel⟩,
    ⟨(tset (qd live (cmd 0xB0 [0x7008000, 0xA])) [(F.LINK_STATUS_STATE 7, 7)]), (cmd 0xB0 [0x7008000, 0xA]), by decide +kernel⟩,
    ⟨(upChain (tset (qd live (cmd 0xB0 [0x7010000, 0x130000])) [(F.LINK_DIAG_STATUS_RUN_STATE 7, 1)]) 7 (fun x => { x with diag := some scan })),
      (cmd 0xB0 [0x7010000, 0x130000]), scan, by decide +kernel⟩,
    ⟨(upChain (tset (qd live (cmd 0xB0 [0x7010000, 0x130000])) [(F.LINK_DIAG_STATUS_OVERRUN 7, 1)]) 7 (fun x => { x with diag := some scan })),
      (cmd 0xB0 [0x7010000, 0x130000]), scan, by decide +kernel⟩,
    ⟨(upChain (qd live (cmd 0xB0 [0x7010000, 0x130000])) 7 (fun x => { x with diag := some scan })),
      (cmd 0xB0 [0x7010000, 0x130000]), scan, by decide +kernel⟩,
    ⟨(qd live (cmd 0xB0 [0x7010000, 0x0])), (cmd 0xB0 [0x7010000, 0x0]), by decide +kernel, by decide +kernel,
      by decide +kernel, by decide +kernel, by decide +kernel, by decide +kernel, by decide +kernel, .inl (by decide +kernel)⟩,
    ⟨(qd live (cmd 0xB0 [0x7020000, 0x0])), (cmd 0xB0 [0x7020000, 0x0]), by decide +kernel⟩,
    ⟨(upChain (tset (qd live (cmd 0xB0 [0x7020000, 0x0])) [(F.LINK_DIAG_STATUS_RUN_STATE 7, 1)]) 7 (fun x => { x with diag := some scan })),
      (cmd 0xB0 [0x7020000, 0x0]), by decide +kernel⟩,
    ⟨(upChain (tset live [(F.LINK_DIAG_STATUS_RUN_STATE 7, 1), (F.LINK_STATUS_STATE 7, 7)]) 7 (fun x => { x with diag := some scan })),
      7, scan, by decide +kernel⟩,
    ⟨(tset live [(F.LINK_STATUS_STATE 7, 7)]), 7, [1], by decide +kernel⟩,
    ⟨(upChain (tset live [(F.LINK_DIAG_STATUS_RUN_STATE 7, 1), (F.LINK_STATUS_STATE 7, 7)]) 7 (fun x => { x with diag := some { scan with station := true } })),
      7, (pkt 0x70 6 ([0, 0, 2, 0] ++ List.replicate 8 1)), { scan with station := true },
      ⟨0x70, 6, [0, 0, 2, 0] ++ List.replicate 8 1⟩, by decide +kernel⟩,
    ⟨(at_ (upChain (tset live [(F.LINK_DIAG_STATUS_RUN_STATE 7, 1), (F.LINK_STATUS_STATE 7, 7)]) 7 (fun x => { x with diag := some { scan with station := true } })) 2000),
      7, { scan with station := true }, by decide +kernel⟩,
    ⟨(at_ (upChain (tset live [(F.LINK_DIAG_STATUS_RUN_STATE 7, 1), (F.LINK_STATUS_STATE 7, 7)]) 7 (fun x => { x with diag := some { scan with station := true } })) 1999),
      7, { scan with station := true }, by decide +kernel⟩,
    ⟨(tset (qd live (cmd 0xB1 [0x7002000, 0x1600])) [(F.LINK_STATUS_STATE 7, 7), (F.LINK_STATUS_LANE 7, 2), (F.LINK_STATUS_STATIONS 7, 1)]),
      (cmd 0xB1 [0x7002000, 0x1600]), by decide +kernel⟩,
    ⟨(qd live (cmd 0xB1 [0x7001000, 0x9D03])), (cmd 0xB1 [0x7001000, 0x9D03]), by decide +kernel⟩,
    ⟨(tset (qd live (cmd 0xB1 [0x7000000, 0x1600])) [(F.LINK_STATUS_STATE 7, 7)]), (cmd 0xB1 [0x7000000, 0x1600]),
      by decide +kernel⟩,
    ⟨(upChain (qd live (cmd 0xB1 [0x7010000, 0x0])) 7 (fun x => { x with diag := some loop })), (cmd 0xB1 [0x7010000, 0x0]),
      loop, by decide +kernel⟩,
    ⟨(qd live (cmd 0xB1 [0x7020000, 0x0])), (cmd 0xB1 [0x7020000, 0x0]), by decide +kernel⟩,
    ⟨(upChain (tset (qd live (cmd 0xB1 [0x7020000, 0x0])) [(F.LINK_DIAG_STATUS_RUN_STATE 7, 1)]) 7 (fun x => { x with diag := some loop })),
      (cmd 0xB1 [0x7020000, 0x0]), by decide +kernel⟩,
    ⟨(upChain (tset live [(F.LINK_DIAG_STATUS_RUN_STATE 7, 1), (F.LINK_STATUS_STATE 7, 7)]) 7 (fun x => { x with diag := some loop })),
      7, loop, [0], by decide +kernel⟩,
    ⟨(upChain (tset live [(F.LINK_DIAG_STATUS_RUN_STATE 7, 1), (F.LINK_STATUS_STATE 7, 7)]) 7 (fun x => { x with diag := some { loop with check := some (List.replicate 7 true) } })),
      7, { loop with check := some (List.replicate 7 true) }, [0], by decide +kernel⟩,
    ⟨(upChain (tset live [(F.LINK_DIAG_STATUS_RUN_STATE 7, 1), (F.LINK_STATUS_STATE 7, 7)]) 7 (fun x => { x with diag := some loop })),
      7, loop, [0, 0], by decide +kernel⟩,
    ⟨(upChain (tset live [(F.LINK_DIAG_STATUS_RUN_STATE 7, 1), (F.LINK_STATUS_STATE 7, 7)]) 7 (fun x => { x with diag := some loop })),
      7, loop, [0], by decide +kernel⟩,
    ⟨(upChain (tset live [(F.LINK_DIAG_STATUS_RUN_STATE 7, 1), (F.LINK_STATUS_STATE 7, 7)]) 7 (fun x => { x with diag := some { loop with station := true } })),
      7, { loop with station := true }, by decide +kernel⟩,
    ⟨none, by decide +kernel⟩,
    ⟨0, (some (List.replicate 7 true)), 0, by decide +kernel⟩,
    ⟨0, (some (List.replicate 7 true)), (BitVec.ofNat 64 (bitsValue ((patternBits 0 64)))), by decide +kernel⟩⟩

theorem wit_TouchCommands :
    (∃ (s : State) (e : CmdEntry),
      let h := parUnit e.params
      let first := parBits e.params 0 0 4
      let ws := e.params.drop 1
      let on := first = 0 ∧ ws ≠ [] ∧ getBits (ws.getD 0 0) 31 1 = 1
      s.starts 0x90 e ∧ s.runtime = true ∧ 1 ≤ e.params.length ∧ e.params.length ≤ 11 ∧ parUnit e.params ≤ 3 ∧
      strayBits e.params 0 0xFF00000F = false ∧ parBits e.params 0 0 4 ≤ 9 ∧ s.fld F.CAPS1_TOUCH = 1 ∧
      touchConfigFails (s.touchCfg h) first ws = [] ∧ (on → s.bit F.BOOT_STATUS_STYLUS_RUN = true)) ∧
    (∃ (s : State) (e : CmdEntry),
      let h := parUnit e.params
      let first := parBits e.params 0 0 4
      let ws := e.params.drop 1
      let on := first = 0 ∧ ws ≠ [] ∧ getBits (ws.getD 0 0) 31 1 = 1
      s.starts 0x90 e ∧ s.runtime = true ∧ 1 ≤ e.params.length ∧ e.params.length ≤ 11 ∧ parUnit e.params ≤ 3 ∧
      strayBits e.params 0 0xFF00000F = false ∧ parBits e.params 0 0 4 ≤ 9 ∧ s.fld F.CAPS1_TOUCH = 1 ∧
      touchConfigFails (s.touchCfg h) first ws = [] ∧ on ∧ s.bit F.BOOT_STATUS_STYLUS_RUN = false) ∧
    (∃ (s : State) (e : CmdEntry) (a : Nat), s.starts 0x91 e ∧ s.runtime = true ∧ e.params = [] ∧ a ≠ 0x30004) ∧
    (∃ (s : State) (e : CmdEntry) (h : Nat), s.starts 0x91 e ∧ s.runtime = true ∧ e.params = [] ∧ h < 4 ∧ s.touchState h ≠ 0) ∧
    (∃ (s : State) (e : CmdEntry) (h : Nat), s.starts 0x91 e ∧ s.runtime = true ∧ e.params = [] ∧ h < 4 ∧ s.touchState h = 0) ∧
    (∃ (s : State) (e : CmdEntry),
      let h := parUnit e.params
      s.starts 0x92 e ∧ s.runtime = true ∧ e.params.length = 1 ∧ parUnit e.params ≤ 3 ∧
      strayBits e.params 0 0xFF000001 = false ∧ s.touchState h ≠ 3) ∧
    (∃ (s : State) (e : CmdEntry),
      let h := parUnit e.params
      s.starts 0x92 e ∧ s.runtime = true ∧ e.params.length = 1 ∧ parUnit e.params ≤ 3 ∧
      strayBits e.params 0 0xFF000001 = false ∧ s.touchState h = 3 ∧ parBits e.params 0 0 1 = 1 ∧ s.p1Present = false) ∧
    (∃ (s : State) (e : CmdEntry),
      let h := parUnit e.params
      let x := s.touchOf h
      s.starts 0x92 e ∧ s.runtime = true ∧ e.params.length = 1 ∧ parUnit e.params ≤ 3 ∧
      strayBits e.params 0 0xFF000001 = false ∧ s.touchState h = 3 ∧ (parBits e.params 0 0 1 = 0 ∨ s.p1Present = true) ∧
      x.rebase ≠ 0) ∧
    (∃ (s : State) (e : CmdEntry),
      let h := parUnit e.params
      let x := s.touchOf h
      s.starts 0x92 e ∧ s.runtime = true ∧ e.params.length = 1 ∧ parUnit e.params ≤ 3 ∧
      strayBits e.params 0 0xFF000001 = false ∧ x.rebase = 0 ∧ s.touchState h = 3 ∧ parBits e.params 0 0 1 = 1 ∧
      s.p1Present = true) ∧
    (∃ (s : State) (e : CmdEntry) (g : Nat),
      let h := parUnit e.params
      let x := s.touchOf h
      s.starts 0x92 e ∧ s.runtime = true ∧ e.params.length = 1 ∧ parUnit e.params ≤ 3 ∧
      strayBits e.params 0 0xFF000001 = false ∧ x.rebase = 0 ∧ s.touchState h = 3 ∧ parBits e.params 0 0 1 = 0 ∧ g < 4 ∧ g ≠ h) :=
  ⟨⟨(qd live (cmd 0x90 [0x3000000])), (cmd 0x90 [0x3000000]), by decide +kernel⟩,
    ⟨(qd live (cmd 0x90 [0x3000000, 0x80000000, 0x80000001, 0x0, 0x0, 0x0, 0x10000])),
      (cmd 0x90 [0x3000000, 0x80000000, 0x80000001, 0x0, 0x0, 0x0, 0x10000]), by decide +kernel⟩,
    ⟨(qd live (cmd 0x91 [])), (cmd 0x91 []), 0, by decide +kernel⟩,
    ⟨(tset (qd live (cmd 0x91 [])) [(F.TOUCH_STATUS_STATE 3, 3)]), (cmd 0x91 []), 3, by decide +kernel⟩,
    ⟨(qd live (cmd 0x91 [])), (cmd 0x91 []), 3, by decide +kernel⟩,
    ⟨(qd live (cmd 0x92 [0x3000000])), (cmd 0x92 [0x3000000]), by decide +kernel⟩,
    ⟨(tset (qd live (cmd 0x92 [0x3000001])) [(F.TOUCH_STATUS_STATE 3, 3)]), (cmd 0x92 [0x3000001]), by decide +kernel⟩,
    ⟨(upTouch (tset (qd live (cmd 0x92 [0x3000000])) [(F.TOUCH_STATUS_STATE 3, 3)]) 3 (fun x => { x with rebase := 2 })),
      (cmd 0x92 [0x3000000]), by decide +kernel⟩,
    ⟨(tset (qd live (cmd 0x92 [0x3000001])) [(F.TOUCH_STATUS_STATE 3, 3), (F.PRES_STATUS_P1_OPEN, 1)]), (cmd 0x92 [0x3000001]),
      by decide +kernel⟩,
    ⟨(tset (qd live (cmd 0x92 [0x3000000])) [(F.TOUCH_STATUS_STATE 3, 3)]), (cmd 0x92 [0x3000000]), 2, by decide +kernel⟩⟩

theorem wit_ScanSets :
    (∃ (s : State) (c : Fin 8) (pkt : List Byte), s.off = false ∧ s.chainState c.val = 7 ∧ returnPacket pkt = none) ∧
    (∃ (s : State) (c : Fin 8) (pkt : List Byte) (q : RetPacket) (p : ScanPacket) (h k : Nat) (g : ScanSet), s.off = false ∧
      s.chainState c.val = 7 ∧ returnPacket pkt = some q ∧ q.type = 5 ∧ q.src / 16 = c.val ∧ parseScan q.payload = some p ∧
      h < 4 ∧ (s.touchOf h).set = some g ∧ s.boundTo c.val h = true ∧ (∀ j, j < 4 → j ≠ h → s.boundTo c.val j = false) ∧
      (usedTafes g.cfg).find? (fun k => tafeAddr g.cfg k == q.src) = some k ∧ (g.frame ≠ p.frame ∨ g.slot ≠ p.slot)) ∧
    (∃ (s : State) (c : Fin 8) (pkt : List Byte) (q : RetPacket) (p : ScanPacket) (h k : Nat) (g : ScanSet), s.off = false ∧
      s.chainState c.val = 7 ∧ returnPacket pkt = some q ∧ q.type = 5 ∧ q.src / 16 = c.val ∧ parseScan q.payload = some p ∧
      h < 4 ∧ (s.touchOf h).set = some g ∧ s.boundTo c.val h = true ∧ (∀ j, j < 4 → j ≠ h → s.boundTo c.val j = false) ∧
      (usedTafes g.cfg).find? (fun k => tafeAddr g.cfg k == q.src) = some k ∧ g.frame = p.frame ∧ g.slot = p.slot ∧
      p.cut = true) ∧
    (∃ (s : State) (c : Fin 8) (pkt : List Byte) (q : RetPacket) (p : ScanPacket) (h k : Nat) (g : ScanSet), s.off = false ∧
      s.chainState c.val = 7 ∧ returnPacket pkt = some q ∧ q.type = 5 ∧ q.src / 16 = c.val ∧ parseScan q.payload = some p ∧
      h < 4 ∧ (s.touchOf h).set = some g ∧ s.boundTo c.val h = true ∧ (∀ j, j < 4 → j ≠ h → s.boundTo c.val j = false) ∧
      (usedTafes g.cfg).find? (fun k => tafeAddr g.cfg k == q.src) = some k ∧ g.frame = p.frame ∧ g.slot = p.slot ∧
      p.cut = false) ∧
    (∃ (s : State) (c : Fin 8) (pkt : List Byte) (q : RetPacket) (p : ScanPacket) (h k : Nat) (g : ScanSet), s.off = false ∧
      s.chainState c.val = 7 ∧ returnPacket pkt = some q ∧ q.type = 5 ∧ q.src / 16 = c.val ∧ parseScan q.payload = some p ∧
      h < 4 ∧ (s.touchOf h).set = some g ∧ s.boundTo c.val h = true ∧ (∀ j, j < 4 → j ≠ h → s.boundTo c.val j = false) ∧
      (usedTafes g.cfg).find? (fun k => tafeAddr g.cfg k == q.src) = some k ∧ g.frame = p.frame ∧ g.slot = p.slot ∧
      p.cut = false) ∧
    (∃ (s : State) (h : Fin 4), s.off = false ∧ ((s.touchOf h.val).set = none ∨ (s.head h.val).fr.slotLeft ≠ 0)) ∧
    (∃ (s : State) (h : Fin 4), s.off = false ∧ (s.touchOf h.val).set ≠ none ∧ (s.head h.val).fr.slotLeft = 0 ∧
      s.touchState h.val ≠ 4) ∧
    (∃ (s : State) (h : Fin 4) (g : ScanSet) (l : List ScanSet), s.off = false ∧ (s.touchOf h.val).ready = g :: l ∧
      s.touchState h.val = 2 ∧ s.cal.measuring ≠ none) ∧
    (∃ (s : State) (h : Fin 4) (g : ScanSet) (l : List ScanSet), s.off = false ∧ (s.touchOf h.val).ready = g :: l ∧
      s.touchState h.val = 3 ∧ s.cal.measuring = none) ∧
    (∃ (s : State) (h : Fin 4) (g : ScanSet) (l : List ScanSet), s.off = false ∧ (s.touchOf h.val).ready = g :: l ∧
      s.touchState h.val = 3 ∧ s.cal.measuring ≠ none) ∧
    (∃ (s : State) (h : Fin 4) (g : ScanSet) (l : List ScanSet), s.off = false ∧ (s.touchOf h.val).ready = g :: l ∧
      s.touchState h.val = 4 ∧ l = [] ∧ (s.touchOf h.val).set = none ∧ s.bit (F.TOUCH_CFG0_EN h.val) = false) :=
  ⟨⟨(tset live [(F.LINK_STATUS_STATE 7, 7)]), 7, [1], by decide +kernel⟩,
    ⟨(upTouch (tset live [(F.LINK_STATUS_STATE 0, 7), (F.LINK_PWR_BOUND_NOW 0, 1), (F.LINK_PWR_HEAD_NOW 0, 3)]) 3 (fun x => { x with set := some scanSet })),
      0, (pkt 0 5 [0, 6, 0, 0, 0, 0, 0, 0]), ⟨0, 5, [0, 6, 0, 0, 0, 0, 0, 0]⟩,
      ((parseScan [0, 6, 0, 0, 0, 0, 0, 0]).getD ⟨0, 0, false, false, []⟩), 3, 0, scanSet, by decide +kernel⟩,
    ⟨(upTouch (tset live [(F.LINK_STATUS_STATE 0, 7), (F.LINK_PWR_BOUND_NOW 0, 1), (F.LINK_PWR_HEAD_NOW 0, 3)]) 3 (fun x => { x with set := some scanSet })),
      0, (pkt 0 5 [0, 5, 0, 2, 0, 0, 0, 0]), ⟨0, 5, [0, 5, 0, 2, 0, 0, 0, 0]⟩,
      ((parseScan [0, 5, 0, 2, 0, 0, 0, 0]).getD ⟨0, 0, false, false, []⟩), 3, 0, scanSet, by decide +kernel⟩,
    ⟨(upTouch (tset live [(F.LINK_STATUS_STATE 0, 7), (F.LINK_PWR_BOUND_NOW 0, 1), (F.LINK_PWR_HEAD_NOW 0, 3)]) 3 (fun x => { x with set := some scanSet })),
      0, (pkt 0 5 [0, 5, 0, 0, 0, 0, 0, 0]), ⟨0, 5, [0, 5, 0, 0, 0, 0, 0, 0]⟩,
      ((parseScan [0, 5, 0, 0, 0, 0, 0, 0]).getD ⟨0, 0, false, false, []⟩), 3, 0, scanSet, by decide +kernel⟩,
    ⟨(upTouch (tset live [(F.LINK_STATUS_STATE 0, 7), (F.LINK_PWR_BOUND_NOW 0, 1), (F.LINK_PWR_HEAD_NOW 0, 3)]) 3 (fun x => { x with set := some scanSet })),
      0, (pkt 0 5 [0, 5, 0, 1, 0, 0, 0, 0]), ⟨0, 5, [0, 5, 0, 1, 0, 0, 0, 0]⟩,
      ((parseScan [0, 5, 0, 1, 0, 0, 0, 0]).getD ⟨0, 0, false, false, []⟩), 3, 0, scanSet, by decide +kernel⟩,
    ⟨live, 3, by decide +kernel⟩,
    ⟨(upTouch (tset live [(F.LINK_STATUS_STATE 0, 7), (F.LINK_PWR_BOUND_NOW 0, 1), (F.LINK_PWR_HEAD_NOW 0, 3)]) 3 (fun x => { x with set := some scanSet })),
      3, by decide +kernel⟩,
    ⟨(upCal (upTouch (tset live [(F.TOUCH_STATUS_STATE 3, 2)]) 3 (fun x => { x with ready := [scanSet] })) (fun x => { x with measuring := some 7 })),
      3, scanSet, [], by decide +kernel⟩,
    ⟨(upTouch (tset live [(F.TOUCH_STATUS_STATE 3, 3)]) 3 (fun x => { x with ready := [scanSet] })), 3, scanSet, [],
      by decide +kernel⟩,
    ⟨(upCal (upTouch (tset live [(F.TOUCH_STATUS_STATE 3, 3)]) 3 (fun x => { x with ready := [scanSet] })) (fun x => { x with measuring := some 7 })),
      3, scanSet, [], by decide +kernel⟩,
    ⟨(upTouch (tset live [(F.TOUCH_STATUS_STATE 3, 4)]) 3 (fun x => { x with ready := [scanSet] })), 3, scanSet, [],
      by decide +kernel⟩⟩

theorem wit_Calibration :
    (∃ (s : State) (e : CmdEntry), s.startsLive 0x60 e ∧ e.params.length = 1 ∧ strayBits e.params 0 0xFF000000 = false ∧
      1 ≤ parUnit e.params ∧ parUnit e.params ≤ 7 ∧ s.cal.measuring ≠ none) ∧
    (∃ (s : State) (e : CmdEntry) (n : Nat), s.startsLive 0x60 e ∧ e.params.length = 1 ∧
      strayBits e.params 0 0xFF000000 = false ∧ 1 ≤ parUnit e.params ∧ parUnit e.params ≤ 7 ∧ s.cal.measuring = none ∧ n < 16) ∧
    (∃ (s : State), s.off = false ∧ s.cal.measuring = none) ∧
    (∃ (s : State) (sc : Nat), s.off = false ∧ s.cal.measuring = some sc ∧ s.runtime = true) ∧
    (∃ (s : State) (e : CmdEntry), s.starts 0x63 e ∧ s.runtime = true ∧ e.params.length = 1 ∧
      strayBits e.params 0 0xFF000000 = false ∧ parUnit e.params ≤ 3 ∧ (parUnit e.params ≠ 1 ∨ s.cal.run ≠ none)) ∧
    (∃ (s : State) (e : CmdEntry), s.starts 0x63 e ∧ s.runtime = true ∧ e.params.length = 1 ∧
      strayBits e.params 0 0xFF000000 = false ∧ parUnit e.params ≤ 3 ∧ parUnit e.params = 1 ∧ s.cal.run = none) ∧
    (∃ (s : State) (e : CmdEntry) (r : CalRun), s.startsLive 0x62 e ∧ e.params.length = 1 ∧
      strayBits e.params 0 0xFF000000 = false ∧ parUnit e.params ≤ 4 ∧ s.cal.run = some r ∧ r.scope = 7 ∧ s.p1Present = false) ∧
    (∃ (s : State) (e : CmdEntry) (r : CalRun), s.startsLive 0x62 e ∧ e.params.length = 1 ∧
      strayBits e.params 0 0xFF000000 = false ∧ parUnit e.params ≤ 4 ∧ s.cal.run = some r ∧ r.scope = 7 ∧ s.p1Present = true) ∧
    (∃ (s : State) (e : CmdEntry),
      let g := trimGroups.getD (parUnit e.params) ⟨0, 0, 0, 0, 0⟩
      let first := parBits e.params 1 16 16
      let n := parBits e.params 1 0 16
      s.starts 0x61 e ∧ s.runtime = true ∧ e.params.length = 2 ∧ strayBits e.params 0 0xFF000000 = false ∧
      parUnit e.params ≤ 12 ∧ 1 ≤ n ∧ first + n ≤ g.count) ∧
    (∃ (s : State), s.off = false ∧ s.runtime = true ∧ s.boot.halted = false ∧ s.ticks % 100 = 0 ∧ s.fld F.PWR_STATE_STATE ≤ 1 ∧
      s.trimsHeld = false ∧ s.fld F.CAL_STATUS_SOURCE = 2) ∧
    (∃ (s : State), (s.trimsHeld = true ∨ s.ticks % 100 ≠ 0 ∨ s.runtime = false ∨ s.boot.halted = true)) ∧
    (∃ (s : State) (e : Nat), e < 165 ∧ s.applied e < s.target e) ∧
    (∃ (s : State) (e : Nat), e < 165 ∧ s.target e < s.applied e) ∧
    (∃ (s : State) (e : Nat), e < 165 ∧ s.applied e = s.target e) ∧
    (∃ (e f : Nat), e < 165 ∧ f ≠ e) :=
  ⟨⟨(upCal (qd live (cmd 0x60 [0x7000000])) (fun x => { x with measuring := some 7 })), (cmd 0x60 [0x7000000]),
      by decide +kernel⟩,
    ⟨(qd live (cmd 0x60 [0x7000000])), (cmd 0x60 [0x7000000]), 15, by decide +kernel⟩,
    ⟨live, by decide +kernel⟩,
    ⟨(upCal live (fun x => { x with measuring := some 7 })), 7, by decide +kernel⟩,
    ⟨(qd live (cmd 0x63 [0x3000000])), (cmd 0x63 [0x3000000]), by decide +kernel⟩,
    ⟨(qd live (cmd 0x63 [0x1000000])), (cmd 0x63 [0x1000000]), by decide +kernel⟩,
    ⟨(upCal (qd live (cmd 0x62 [0x4000000])) (fun x => { x with run := some ⟨7, 40, [], [], []⟩ })), (cmd 0x62 [0x4000000]),
      ⟨7, 40, [], [], []⟩, by decide +kernel⟩,
    ⟨(upCal (tset (qd live (cmd 0x62 [0x4000000])) [(F.PRES_STATUS_P1_OPEN, 1)]) (fun x => { x with run := some ⟨7, 40, [], [], []⟩ })),
      (cmd 0x62 [0x4000000]), ⟨7, 40, [], [], []⟩, by decide +kernel⟩,
    ⟨(qd live (cmd 0x61 [0xC000000, 0x1])), (cmd 0x61 [0xC000000, 0x1]), by decide +kernel⟩,
    ⟨(tset live [(F.CAL_STATUS_SOURCE, 2)]), by decide +kernel⟩,
    ⟨(at_ live 1), by decide +kernel⟩,
    ⟨(upCal live (fun x => { x with target := Vector.replicate 165 20, applied := Vector.replicate 165 19 })), 164,
      by decide +kernel⟩,
    ⟨(upCal live (fun x => { x with target := Vector.replicate 165 20, applied := Vector.replicate 165 21 })), 164,
      by decide +kernel⟩,
    ⟨(upCal live (fun x => { x with target := Vector.replicate 165 20, applied := Vector.replicate 165 20 })), 164,
      by decide +kernel⟩,
    ⟨164, 163, by decide +kernel⟩⟩

theorem wit_PowerStates :
    (∃ (s : State) (e : CmdEntry),
      let p := parBits e.params 0 0 4
      s.starts 0x20 e ∧ s.runtime = true ∧ e.params.length = 1 ∧ strayBits e.params 0 0xF = false ∧ p ≤ 1 ∧
      p ≠ s.fld F.PWR_STATE_STATE) ∧
    (∃ (s : State) (e : CmdEntry),
      let p := parBits e.params 0 0 4
      s.starts 0x20 e ∧ s.runtime = true ∧ e.params.length = 1 ∧ strayBits e.params 0 0xF = false ∧ p = s.fld F.PWR_STATE_STATE) ∧
    (∃ (s : State) (e : CmdEntry) (h : Nat),
      let p := parBits e.params 0 0 4
      s.starts 0x20 e ∧ s.runtime = true ∧ e.params.length = 1 ∧ strayBits e.params 0 0xF = false ∧ 2 ≤ p ∧ p ≤ 4 ∧ h < 4) ∧
    (∃ (s : State) (p : Nat), s.off = false ∧ s.pwr.target = some p ∧ s.pwr.step = 3 ∧ p = 4) ∧
    (∃ (s : State) (p : Nat), s.off = false ∧ s.pwr.target = some p ∧ s.pwr.step = 3 ∧ (p = 2 ∨ p = 3)) ∧
    (∃ (s : State), s.off = false ∧ s.pwr.target = none ∧ s.fld F.PWR_STATE_STATE = 0) ∧
    (∃ (s : State) (k : Fin 8) (pin : Fin 16), s.off = false ∧ k.val ≠ 6 ∧ (k.val = 0 ∨ bitsOf s.wakeCfg.1 k.val 1 = 1) ∧
      (k.val ≠ 2 ∨ bitsOf s.wakeCfg.2.1 pin.val 1 = 1) ∧ s.pwr.target = none ∧ 2 ≤ s.fld F.PWR_STATE_STATE ∧
      s.pwr.waking = false ∧ s.bit F.PWR_STATE_PARKED = false) ∧
    (∃ (s : State), s.off = false ∧ s.pwr.target = none ∧ 2 ≤ s.fld F.PWR_STATE_STATE ∧ s.wakeCfg.2.2 ≠ 0 ∧
      s.pwr.slept + 950 * s.wakeCfg.2.2 ≤ s.ticks ∧ bitsOf s.wakeCfg.1 6 1 = 1 ∧ s.pwr.waking = false ∧
      s.bit F.PWR_STATE_PARKED = false) ∧
    (∃ (s : State), s.off = false ∧ s.pwr.target = none ∧ 2 ≤ s.fld F.PWR_STATE_STATE ∧
      (s.wakeCfg.2.2 = 0 ∨ s.ticks < s.pwr.slept + 950 * s.wakeCfg.2.2)) ∧
    (∃ (s : State), s.off = false ∧ s.pwr.waking = false) ∧
    (∃ (s : State), s.off = false ∧ s.pwr.waking = true ∧ s.runtime = true ∧ s.cw.running = none) ∧
    (∃ (s : State) (e : CmdEntry), s.starts 0x22 e ∧ s.runtime = true ∧ e.params.length = 2 ∧
      strayBits e.params 0 0xFF = false ∧ parBits e.params 0 0 1 = 1) :=
  ⟨⟨(qd live (cmd 0x20 [1])), (cmd 0x20 [1]), by decide +kernel⟩,
    ⟨(qd live (cmd 0x20 [0])), (cmd 0x20 [0]), by decide +kernel⟩,
    ⟨(qd live (cmd 0x20 [4])), (cmd 0x20 [4]), 3, by decide +kernel⟩,
    ⟨(upPwr live (fun x => { x with target := some 4, step := 3 })), 4, by decide +kernel⟩,
    ⟨(upPwr live (fun x => { x with target := some 3, step := 3 })), 3, by decide +kernel⟩,
    ⟨live, by decide +kernel⟩,
    ⟨(tset live [(F.PWR_STATE_STATE, 2), (F.PWR_WAKE_CFG_EN, 255), (F.PWR_WAKE_CFG_TT_MASK, 32768), (F.PWR_WAKE_TIMER_TIMER, 1)]),
      2, 15, by decide +kernel⟩,
    ⟨(at_ (tset live [(F.PWR_STATE_STATE, 2), (F.PWR_WAKE_CFG_EN, 255), (F.PWR_WAKE_CFG_TT_MASK, 32768), (F.PWR_WAKE_TIMER_TIMER, 1)]) 950),
      by decide +kernel⟩,
    ⟨(at_ (tset live [(F.PWR_STATE_STATE, 2), (F.PWR_WAKE_CFG_EN, 255), (F.PWR_WAKE_CFG_TT_MASK, 32768), (F.PWR_WAKE_TIMER_TIMER, 1)]) 949),
      by decide +kernel⟩,
    ⟨live, by decide +kernel⟩,
    ⟨(upPwr (tset live [(F.PWR_STATE_STATE, 2), (F.PWR_WAKE_CFG_EN, 255), (F.PWR_WAKE_CFG_TT_MASK, 32768), (F.PWR_WAKE_TIMER_TIMER, 1)]) (fun x => { x with waking := true })),
      by decide +kernel⟩,
    ⟨(qd live (cmd 0x22 [1, 0])), (cmd 0x22 [1, 0]), by decide +kernel⟩⟩

theorem wit_SupplyAndSense :
    (∃ (s : State), s.off = false ∧ s.pdOn 23 = true ∧ s.nextChan ≠ 0) ∧
    (∃ (s : State), s.off = false ∧ s.pdOn 23 = true ∧ s.nextChan = 0) ∧
    (∃ (s : State) (v : Int), s.supplyTarget v ≠ s.fld F.PWR_STATE_SUPPLY ∧ s.pwr.cand = (s.supplyTarget v, 3)) ∧
    (∃ (s : State) (v : Int), s.supplyTarget v ≠ s.fld F.PWR_STATE_SUPPLY ∧
      (s.pwr.cand.2 < 3 ∨ s.pwr.cand.1 ≠ s.supplyTarget v)) ∧
    (∃ (s : State) (v : Int), s.supplyTarget v = s.fld F.PWR_STATE_SUPPLY) ∧
    (∃ (s : State) (e : CmdEntry), s.startsLive 0x23 e ∧ e.params.length = 4 ∧ supplyFails e.params = []) ∧
    (∃ (s : State) (c : Nat), s.off = false ∧ s.bit F.PWR_STATE_RIDE = true ∧ s.pwr.clear = some c ∧ c + 50 ≤ s.ticks) ∧
    (∃ (s : State) (c : Nat), s.off = false ∧ s.bit F.PWR_STATE_RIDE = true ∧ s.pwr.clear = some c ∧ s.ticks < c + 50) ∧
    (∃ (s : State), s.off = false ∧ s.bit F.PWR_STATE_PARKED = true) ∧
    (∃ (s : State), s.off = false ∧ s.bit F.PWR_STATE_PARKED = false) :=
  ⟨⟨{ live with sense := { live.sense with next := 15 } }, by decide +kernel⟩,
    ⟨{ live with sense := { live.sense with next := 0 } }, by decide +kernel⟩,
    ⟨(upPwr live (fun x => { x with cand := (4, 3) })), 0, by decide +kernel⟩,
    ⟨(upPwr live (fun x => { x with cand := (4, 2) })), 0, by decide +kernel⟩,
    ⟨live, 12000, by decide +kernel⟩,
    ⟨(qd live (cmd 0x23 [0x1770, 0x2328, 0x3E80, 0x4650])), (cmd 0x23 [0x1770, 0x2328, 0x3E80, 0x4650]),
      by decide +kernel⟩,
    ⟨(upPwr (at_ (tset live [(F.PWR_STATE_RIDE, 1)]) 57) (fun x => { x with clear := some 7 })), 7, by decide +kernel⟩,
    ⟨(upPwr (at_ (tset live [(F.PWR_STATE_RIDE, 1)]) 56) (fun x => { x with clear := some 7 })), 7, by decide +kernel⟩,
    ⟨(tset live [(F.PWR_STATE_PARKED, 1)]), by decide +kernel⟩,
    ⟨live, by decide +kernel⟩⟩

theorem wit_Domains :
    (∃ (s : State) (e : CmdEntry),
      let n := parUnit e.params
      s.starts 0x21 e ∧ s.runtime = true ∧ e.params.length = 1 ∧ strayBits e.params 0 0xFF000001 = false ∧
      parUnit e.params ∈ switchable ∧ parBits e.params 0 0 1 = 1 ∧ s.pdState n = 2) ∧
    (∃ (s : State) (e : CmdEntry),
      let n := parUnit e.params
      s.starts 0x21 e ∧ s.runtime = true ∧ e.params.length = 1 ∧ strayBits e.params 0 0xFF000001 = false ∧
      parUnit e.params ∈ switchable ∧ parBits e.params 0 0 1 = 1 ∧ s.pdState n = 0) ∧
    (∃ (s : State) (e : CmdEntry),
      let n := parUnit e.params
      s.starts 0x21 e ∧ s.runtime = true ∧ e.params.length = 1 ∧ strayBits e.params 0 0xFF000001 = false ∧
      parUnit e.params ∈ switchable ∧ parBits e.params 0 0 1 = 1 ∧ (s.pdState n = 3 ∨ s.pdState n = 4)) ∧
    (∃ (s : State) (e : CmdEntry),
      let n := parUnit e.params
      s.starts 0x21 e ∧ s.runtime = true ∧ e.params.length = 1 ∧ strayBits e.params 0 0xFF000001 = false ∧
      parUnit e.params ∈ switchable ∧ parBits e.params 0 0 1 = 0 ∧ s.pdState n = 0) ∧
    (∃ (s : State) (e : CmdEntry),
      let n := parUnit e.params
      s.starts 0x21 e ∧ s.runtime = true ∧ e.params.length = 1 ∧ strayBits e.params 0 0xFF000001 = false ∧
      parUnit e.params ∈ switchable ∧ parBits e.params 0 0 1 = 0 ∧ s.pdState n = 2 ∧ s.domainInUse n = true) ∧
    (∃ (s : State) (e : CmdEntry),
      let n := parUnit e.params
      s.starts 0x21 e ∧ s.runtime = true ∧ e.params.length = 1 ∧ strayBits e.params 0 0xFF000001 = false ∧
      parUnit e.params ∈ switchable ∧ parBits e.params 0 0 1 = 0 ∧ s.pdState n = 2 ∧ s.domainInUse n = false) ∧
    (∃ (s : State) (n : Fin 25) (c : Running), s.off = false ∧ s.runtimeDead = false ∧ s.pdState n.val = 1 ∧
      s.pwr.target = none ∧ n.val ∉ s.pwr.offAfter ∧ c ∈ s.cw.running ∧ c.wait = .domainOn n.val) ∧
    (∃ (s : State) (n : Fin 25) (a : Nat), s.off = false ∧ s.runtimeDead = false ∧ s.pdState n.val = 1 ∧ s.pwr.target = none ∧
      n.val ∉ s.pwr.offAfter ∧ n.val = 8 ∧ 0x1000000 ≤ a) ∧
    (∃ (s : State) (n : Fin 25), s.off = false ∧ s.pdState n.val = 3 ∧
      (n.val = 9 → s.etchRunning = false ∧ s.etchReading = false) ∧ s.windowIn n.val = false ∧
      (∀ num l, s.waitingOf 17 ≠ .copy num :: l)) ∧
    (∃ (s : State) (n : Fin 25) (num : Nat) (l : List ReqBody) (f : FenceRun) (k : List CopyOp), s.off = false ∧
      s.pdState n.val = 3 ∧ s.waitingOf 17 = .copy num :: l ∧ s.fences.find? (fun f => f.num == num) = some f ∧
      f.copy = some k ∧ (∃ o ∈ k, plateDomain (reqAddr o.req) = n.val)) ∧
    (∃ (s : State) (n : Fin 25), s.off = false ∧ s.pdState n.val ≠ 3) ∧
    (∃ (s : State) (n : Fin 25) (r : Running), s.off = false ∧ s.runtimeDead = false ∧ s.pdState n.val = 3 ∧
      s.cw.running = some r ∧ (s.windowIn n.val = true ∨ (n.val = 9 ∧ s.etchReading = true))) ∧
    (∃ (s : State) (r : Running), s.off = false ∧ s.pdState 9 = 3 ∧ s.cw.running = some r ∧ s.etchRunning = true) ∧
    (∃ (s : State) (n : Fin 25) (c : Running), s.off = false ∧ s.runtimeDead = false ∧
      (s.pdState n.val = 3 ∨ s.pdState n.val = 4) ∧ s.pwr.target = none ∧ s.bit (F.PWR_PD_PENDING n.val) = false ∧
      c ∈ s.cw.running ∧ c.wait = .domainOff n.val) ∧
    (∃ (s : State) (n : Fin 25) (a : Nat), s.off = false ∧ s.runtimeDead = false ∧ (s.pdState n.val = 3 ∨ s.pdState n.val = 4) ∧
      s.pwr.target = none ∧ s.bit (F.PWR_PD_PENDING n.val) = false ∧ n.val = 8 ∧ 0x1000000 ≤ a) :=
  ⟨⟨(qd live (cmd 0x21 [0x16000001])), (cmd 0x21 [0x16000001]), by decide +kernel⟩,
    ⟨(tset (qd live (cmd 0x21 [0x16000001])) [(F.PWR_PD_STATE 22, 0)]), (cmd 0x21 [0x16000001]), by decide +kernel⟩,
    ⟨(tset (qd live (cmd 0x21 [0x16000001])) [(F.PWR_PD_STATE 22, 4)]), (cmd 0x21 [0x16000001]), by decide +kernel⟩,
    ⟨(tset (qd live (cmd 0x21 [0x16000000])) [(F.PWR_PD_STATE 22, 0)]), (cmd 0x21 [0x16000000]), by decide +kernel⟩,
    ⟨(tset (qd live (cmd 0x21 [0x16000000])) [(F.TOUCH_STATUS_STATE 3, 3)]), (cmd 0x21 [0x16000000]), by decide +kernel⟩,
    ⟨(qd live (cmd 0x21 [0x8000000])), (cmd 0x21 [0x8000000]), by decide +kernel⟩,
    ⟨(upCw (tset live [(F.PWR_PD_STATE 24, 1)]) (fun w => { w with running := some ⟨cmd 0x21 [], .domainOn 24⟩ })), 24,
      ⟨cmd 0x21 [], .domainOn 24⟩, by decide +kernel⟩,
    ⟨(tset live [(F.PWR_PD_STATE 8, 1)]), 8, 0x1000000, by decide +kernel⟩,
    ⟨(tset live [(F.PWR_PD_STATE 24, 3)]), 24, by decide +kernel, by decide +kernel, by decide +kernel, by decide +kernel,
      noCopy (by decide +kernel)⟩,
    ⟨{ ((tset live [(F.PWR_PD_STATE 7, 3)])).setWaiting 17 [.copy 1] with fences := [⟨1, [], 0, [], false, 0, some [.read 0 true], []⟩] },
      7, 1, [], ⟨1, [], 0, [], false, 0, some [.read 0 true], []⟩, [.read 0 true], by decide +kernel⟩,
    ⟨live, 24, by decide +kernel⟩,
    ⟨(upCw (tset live [(F.PWR_PD_STATE 9, 3)]) (fun w => { w with running := some ⟨cmd 0x0A [], .etchRead (.words 0 2)⟩ })), 9,
      ⟨cmd 0x0A [], .etchRead (.words 0 2)⟩, by decide +kernel⟩,
    ⟨(upEtch (upCw (tset live [(F.PWR_PD_STATE 9, 3)]) (fun w => { w with running := some ⟨cmd 0x71 [], .record 0x1002⟩ })) (fun x => { x with jobs := [⟨.record 0x1002 43 0, [], none⟩] })),
      ⟨cmd 0x71 [], .record 0x1002⟩, by decide +kernel⟩,
    ⟨(upCw (tset live [(F.PWR_PD_STATE 24, 4)]) (fun w => { w with running := some ⟨cmd 0x21 [], .domainOff 24⟩ })), 24,
      ⟨cmd 0x21 [], .domainOff 24⟩, by decide +kernel⟩,
    ⟨(tset live [(F.PWR_PD_STATE 8, 4)]), 8, 0x1000000, by decide +kernel⟩⟩

theorem wit_BacklightsAndTick :
    (∃ (s : State) (h : Nat), s.off = false ∧ s.runtime = true ∧ s.boot.halted = false ∧ s.ticks % 10 = 0 ∧
      s.fld F.PWR_STATE_STATE ≤ 1 ∧ h < 4) ∧
    (∃ (a b : Nat), a ≤ b) ∧
    (∃ (a b : Nat), b ≤ a) ∧
    (∃ (s : State) (h : Nat), s.off = false ∧ s.runtime = true ∧ s.fld F.PWR_STATE_STATE ≤ 1 ∧ s.cal.measuring = none ∧ h < 4 ∧
      s.regOn h = true ∧ s.fld (F.HEAD_BL_STATUS_DUTY h) ≤ 1024) ∧
    (∃ (s : State), s.off = false ∧ s.runtime = true ∧ s.fld F.PWR_STATE_STATE ≤ 1 ∧ s.cal.measuring ≠ none) ∧
    (∃ (s : State), s.off = false) ∧
    (∃ (s : State) (n : Nat), s.off = false ∧ n < 8 ∧ s.gpioDrive n = none) ∧
    (∃ (s : State) (n : Nat) (b : Bool), s.off = false ∧ n < 8 ∧ s.gpioDrive n = some b) ∧
    (∃ (s : State) (n : Nat), s.off = false ∧ n < 8 ∧ bitsOf (s.fld F.GPIO_IN_IN) n 1 = 0 ∧
      bitsOf (s.fld F.GPIO_EDGE_EN_RISE_EN) n 1 = 1) ∧
    (∃ (s : State) (n : Nat), s.off = false ∧ n < 8 ∧ bitsOf (s.fld F.GPIO_EDGE_EN_RISE_EN) n 1 = 0) ∧
    (∃ (s : State) (rx : List InSignal) (i : Nat) (g : InSignal), s.off = false ∧ i < 4 ∧ rx[i]? = some g) ∧
    (∃ (s : State) (rx : List InSignal) (i : Nat), s.off = false ∧ i < 4 ∧ rx[i]? = none) ∧
    (∃ (s : State), s.off = false ∧ s.bit F.PRES_STATUS_SVC_LOW = true) ∧
    (∃ (s : State), s.off = false ∧ s.cal.measuring ≠ none) :=
  ⟨⟨live, 3, by decide +kernel⟩,
    ⟨0, 5, by decide +kernel⟩,
    ⟨30, 5, by decide +kernel⟩,
    ⟨(tset (paneled live) [(F.HEAD_BL_REG 0, 1), (F.HEAD_BL_REG_I_FULL 0, 100)]), 0, by decide +kernel⟩,
    ⟨(upCal live (fun x => { x with measuring := some 7 })), by decide +kernel⟩,
    ⟨live, by decide +kernel⟩,
    ⟨live, 7, by decide +kernel⟩,
    ⟨(tset live [(F.GPIO_DIR_DIR, 255), (F.GPIO_OUT_OUT, 255)]), 0, true, by decide +kernel⟩,
    ⟨(tset live [(F.GPIO_EDGE_EN_RISE_EN, 1)]), 0, by decide +kernel⟩,
    ⟨live, 0, by decide +kernel⟩,
    ⟨live, [⟨true, 5⟩], 0, ⟨true, 5⟩, by decide +kernel⟩,
    ⟨live, [], 0, by decide +kernel⟩,
    ⟨(tset live [(F.PRES_STATUS_SVC_LOW, 1)]), by decide +kernel⟩,
    ⟨(upCal live (fun x => { x with measuring := some 7 })), by decide +kernel⟩⟩

end

end Sys2Proof.Tests
end

section
/-! PROOFS. REG_READ and REG_WRITE: which window an access reaches, what a well-formed access does, what a register word changes. -/

namespace Sys2Proof.Machine

/-! ### The Command Window's queues and CW_MODE, kept -/

/-- `t` has the Command Window of `s`: its queues and the register CW_MODE. -/
def State.KeepsWindow (s t : State) : Prop := t.cw = s.cw ∧ t.rd 0x30000 = s.rd 0x30000

namespace State.KeepsWindow
variable {s t u : State}

theorem refl (s : State) : s.KeepsWindow s := ⟨rfl, rfl⟩

theorem trans (h : s.KeepsWindow t) (k : t.KeepsWindow u) : s.KeepsWindow u := ⟨k.1.trans h.1, k.2.trans h.2⟩

/-- An update that touches neither the Command Window nor a register. -/
theorem of_eq (h : s.KeepsWindow t) (hcw : u.cw = t.cw) (hregs : u.regs = t.regs) : s.KeepsWindow u :=
  h.trans ⟨hcw, by unfold State.rd; rw [hregs]⟩

/-- Every field that the effects of a register write set lies above CW_MODE. -/
theorem setFld (h : s.KeepsWindow t) {f : Field} (v : Nat) (hf : 0x30000 < f.addr) : s.KeepsWindow (t.setFld f v) :=
  h.trans ⟨rfl, State.rd_setFld_ne t f v _ (Nat.ne_of_gt hf)⟩

theorem raise (h : s.KeepsWindow t) (k : Nat) : s.KeepsWindow (t.raise k) :=
  h.trans ⟨State.raise_cw t k, State.rd_raise_ne t k _ (by decide)⟩

theorem foldl {α : Type} {f : State → α → State} (hf : ∀ (u : State) (a : α), u.KeepsWindow (f u a)) (l : List α) :
    ∀ t : State, t.KeepsWindow (l.foldl f t) := by
  induction l with
  | nil => exact refl
  | cons a l ih => exact fun t => (hf t a).trans (ih (f t a))

end State.KeepsWindow

open State (KeepsWindow)

/-! Reads of the Etch store count errors and note missing records. -/

theorem State.etchTouch_keepsWindow (s : State) (a n : Nat) : s.KeepsWindow (s.etchTouch a n) := by
  refine KeepsWindow.foldl (fun u f => ?_) _ s
  dsimp only
  have hue : u.KeepsWindow (u.satAdd F.ETCH_ECC_UE_CNT 1) := (KeepsWindow.refl u).setFld _ (by decide)
  split_ifs
  · exact ((KeepsWindow.refl u).setFld _ (by decide)).setFld _ (by decide)
  · exact hue
  · exact ((hue.setFld _ (by decide)).setFld _ (by decide)).raise _

theorem State.touchSlot_keepsWindow (s : State) (type k : Nat) : s.KeepsWindow (s.touchSlot type k) := by
  unfold State.touchSlot
  exact ((State.etchTouch_keepsWindow _ _ _).trans (State.etchTouch_keepsWindow _ _ _)).trans
    (State.etchTouch_keepsWindow _ _ _)

theorem State.winner_keepsWindow (s : State) (type : Nat) : s.KeepsWindow (s.winner type).2 := by
  unfold State.winner
  split
  · exact KeepsWindow.refl s
  · exact (State.touchSlot_keepsWindow s type 0).trans (State.touchSlot_keepsWindow _ type 1)

theorem State.noteMissing_keepsWindow (s : State) (type : Nat) : s.KeepsWindow (s.noteMissing type) := by
  unfold State.noteMissing
  split
  · exact KeepsWindow.refl s
  · next b _ =>
    have hset : s.KeepsWindow (s.setFld ⟨0x1C0010, b, 1⟩ 1) := (KeepsWindow.refl s).setFld 1 (by decide : 0x30000 < 0x1C0010)
    exact (hset.raise causeEtch).of_eq rfl rfl

theorem State.chooseRecord_keepsWindow (s : State) (type : Nat) : s.KeepsWindow (s.chooseRecord type).2 := by
  have hw := State.winner_keepsWindow s type
  unfold State.chooseRecord
  dsimp only
  split_ifs
  · exact hw
  · exact (hw.of_eq rfl rfl).trans (State.noteMissing_keepsWindow _ type)
  · exact hw.of_eq rfl rfl

theorem State.record_keepsWindow (s : State) (type : Nat) : s.KeepsWindow (s.record type).2 := by
  have hc := State.chooseRecord_keepsWindow s type
  unfold State.record
  split
  · next h => rw [h] at hc; exact hc
  · next h =>
    rw [h] at hc
    dsimp only
    split_ifs
    · exact hc.trans (State.etchTouch_keepsWindow _ _ _)
    · exact hc

/-! The touch engines follow their conditions. -/

theorem State.writeTafes_keepsWindow (s : State) (h : Nat) (cfg : List Word) : s.KeepsWindow (s.writeTafes h cfg) := by
  refine ((KeepsWindow.refl s).of_eq rfl rfl).trans (KeepsWindow.foldl (fun u k => ?_) _ _)
  dsimp only
  unfold State.sendTo
  split <;> exact (KeepsWindow.refl u).of_eq rfl rfl

theorem State.baseline_keepsWindow (s : State) (h : Nat) (cfg : List Word) : s.KeepsWindow (s.baseline h cfg).2 :=
  (State.record_keepsWindow s (0x5000 + h)).setFld _ (Nat.lt_add_right _ (by decide))

/-- A touch engine that enters a state shows the state, its cause and its provisional nodes. -/
theorem State.touchEntry_keepsWindow (s : State) (h st cause : Nat) (x : TouchState) :
    s.KeepsWindow ((((s.setTouch h x).setFld (F.TOUCH_STATUS_STATE h) st).setFld (F.TOUCH_STATUS_HOLD_CAUSE h) cause).showProv h) :=
  ((((KeepsWindow.refl s).of_eq rfl rfl).setFld _ (Nat.lt_add_right _ (by decide))).setFld _
    (Nat.lt_add_right _ (by decide))).setFld _ (Nat.lt_add_right _ (by decide))

theorem State.enterStarting_keepsWindow (s : State) (h : Nat) : s.KeepsWindow (s.enterStarting h) :=
  ((State.touchEntry_keepsWindow s h _ _ _).trans (State.baseline_keepsWindow _ _ _)).trans (State.writeTafes_keepsWindow _ _ _)

theorem State.enterHeld_keepsWindow (s : State) (h cause : Nat) : s.KeepsWindow (s.enterHeld h cause) :=
  State.touchEntry_keepsWindow s h _ _ _

theorem State.touchJudge_keepsWindow (s : State) (h : Nat) : s.KeepsWindow (s.touchJudge h) := by
  unfold State.touchJudge
  dsimp only
  split_ifs
  · exact State.enterStarting_keepsWindow s h
  · exact State.writeTafes_keepsWindow s h _
  · exact KeepsWindow.refl s
  · exact (KeepsWindow.refl s).setFld _ (Nat.lt_add_right _ (by decide))
  · exact State.enterHeld_keepsWindow s h _
  · exact KeepsWindow.refl s

theorem State.touchJudgeAll_keepsWindow (s : State) : s.KeepsWindow s.touchJudgeAll :=
  KeepsWindow.foldl State.touchJudge_keepsWindow _ s

theorem State.showFurled_keepsWindow (s : State) : s.KeepsWindow s.showFurled :=
  KeepsWindow.foldl (fun u _ => (KeepsWindow.refl u).setFld _ (Nat.lt_add_right _ (by decide))) _ s

/-- R207: the word of CW_MODE itself changes nothing at once, and what follows it spans no register of another block. -/
theorem State.writeRegs_cwMode_keepsWindow (s : State) (w : Word) : s.KeepsWindow (s.writeRegs 0x30000 [w] []) :=
  (State.showFurled_keepsWindow s).trans (State.touchJudgeAll_keepsWindow _)

/-! ### The windows of Table 6-5 -/

/-- No two windows share an address. -/
theorem windows_apart : ∀ v ∈ windows, ∀ w ∈ windows, v = w ∨ v.2.1 < w.1 ∨ w.2.1 < v.1 := by decide

/-- The window that an address lies in is the one that an access to it reaches. -/
theorem windowOf_of_mem {a : Nat} {w : Nat × Nat × WindowKind} (hw : w ∈ windows) (hlo : w.1 ≤ a) (hhi : a ≤ w.2.1) :
    windowOf a = some w := by
  cases hf : windowOf a with
  | none => simpa [hlo, hhi] using List.find?_eq_none.1 hf w hw
  | some v =>
    have hv := List.find?_some hf
    simp only [Bool.and_eq_true, decide_eq_true_eq] at hv
    rcases windows_apart v (List.mem_of_find?_eq_some hf) w hw with rfl | h | h
    · rfl
    · omega
    · omega

theorem windowOf_etch {a : Nat} (hlo : 0x60000000 ≤ a) (hhi : a ≤ 0x603FFFFF) :
    windowOf a = some (0x60000000, 0x603FFFFF, .etch) := windowOf_of_mem (by decide) hlo hhi

theorem windowOf_plate {a : Nat} (hlo : 0x80000000 ≤ a) (hhi : a ≤ 0x81FFFFFF) :
    windowOf a = some (0x80000000, 0x81FFFFFF, .plate) := windowOf_of_mem (by decide) hlo hhi

/-- R271: an aligned access within a window that takes it has no failing word. -/
theorem accessFails_of_fits {a n lo hi : Nat} {k : WindowKind} {write : Bool} (hw : windowOf a = some (lo, hi, k))
    (ha : a % 4 = 0) (hk : (write && k.readOnly) = false) (hn : a + 4 * n ≤ hi + 1) : accessFails a n write = [] := by
  simp [accessFails, hw, failAt, ha, hk, Nat.not_lt.2 hn]

/-! ### REG_READ -/

theorem exec_regRead (s : State) : exec .regRead s = execRegRead s := rfl

/-- A REG_READ that fits its window reads it; a memory window needs the runtime. -/
theorem exec_regRead_fits {s : State} {e : CmdEntry} {lo hi : Nat} {k : WindowKind} (hs : s.starts 0x0A e)
    (hl : e.params.length = 2) (hw : windowOf (par e.params 0).toNat = some (lo, hi, k)) (ha : (par e.params 0).toNat % 4 = 0)
    (h1 : 1 ≤ (par e.params 1).toNat) (h2 : (par e.params 1).toNat ≤ 1024)
    (hn : (par e.params 0).toNat + 4 * (par e.params 1).toNat ≤ hi + 1) (hm : k.memory = false ∨ s.runtime = true) :
    exec .regRead s = .next (finish e (s.popCmd.readWindow k (par e.params 0).toNat (par e.params 1).toNat)) := by
  have hmem : (k.memory && !s.popCmd.runtime) = false := by
    rw [State.runtime_popCmd]
    rcases hm with h | h <;> simp [h]
  have hcount : failAt 1 ((par e.params 1).toNat == 0 || decide (1024 < (par e.params 1).toNat)) = [] := by
    simp [failAt, Nat.not_lt.2 h2, Nat.ne_of_gt h1]
  have hop : isOp 0x0A e = true := isOp_of_starts hs
  obtain ⟨hhead, -, -, hcan⟩ := hs
  rw [exec_regRead, execRegRead, startCmd_starts s e _ _ hhead hcan hop]
  simp only [accessFails_of_fits hw ha (Bool.false_and _) hn, hcount, hl, hw, hmem, beq_self_eq_true, List.nil_append, badIndex,
    minIndex, if_true, Bool.false_eq_true, if_false]

theorem State.readWindow_registers (s : State) {k : WindowKind} (hk : k.memory = false) (a n : Nat) :
    s.readWindow k a n = .done s stOk ((List.range n).map (fun i => s.readAll (a + 4 * i))) := by
  cases k with
  | regs | boot | cw => rfl
  | code | data | stylus | lut | etch | plate => exact absurd hk (by decide)

theorem State.readWindow_ram (s : State) {k : WindowKind} {ram base : Nat} (hk : k.ram = some (ram, base)) (a n : Nat) :
    s.readWindow k a n = .done s stOk (memWords (s.tileByte ram) (a - base) n) := by
  cases k with
  | code | data | stylus | lut => cases hk; rfl
  | regs | boot | cw | etch | plate => cases hk

theorem State.pdOn_popCmd (s : State) (n : Nat) (hne : (F.PWR_PD_STATE n).addr ≠ 0x30004) : s.popCmd.pdOn n = s.pdOn n := by
  unfold State.pdOn State.pdState
  rw [State.fld_popCmd s _ hne]

theorem State.halfOff_popCmd (s : State) (off n : Nat) : s.popCmd.halfOff off n = s.halfOff off n := by
  simp only [State.halfOff, State.pdOn_popCmd s 7 (by decide), State.pdOn_popCmd s 8 (by decide)]

theorem State.etchBusy_popCmd (s : State) (q : EtchQuery) : s.popCmd.etchBusy q = s.etchBusy q := by
  simp only [State.etchBusy, State.popCmd_etch]

/-- R336: no word of the banks is being written. -/
theorem State.etchQuery_done {s : State} {q : EtchQuery} (h : s.etchBusy q = false) :
    s.etchQuery q = .done (s.etchAnswer q).2 stOk (s.etchAnswer q).1 := by
  simp [State.etchQuery, h]

theorem State.etchQuery_wait {s : State} {q : EtchQuery} (h : s.etchBusy q = true) :
    s.etchQuery q = .wait s (.etchRead q) := by
  simp [State.etchQuery, h]

/-- A REG_READ that fits the Etch window, with the store's domain on. -/
theorem exec_regRead_etch {s : State} {e : CmdEntry} (hs : s.starts 0x0A e) (hl : e.params.length = 2) (hr : s.runtime = true)
    (h9 : s.pdOn 9 = true) (hlo : 0x60000000 ≤ (par e.params 0).toNat) (ha : (par e.params 0).toNat % 4 = 0)
    (h1 : 1 ≤ (par e.params 1).toNat) (h2 : (par e.params 1).toNat ≤ 1024)
    (hn : (par e.params 0).toNat + 4 * (par e.params 1).toNat ≤ 0x60400000) :
    exec .regRead s =
      .next (finish e (s.popCmd.etchQuery (.words ((par e.params 0).toNat - 0x60000000) (par e.params 1).toNat))) := by
  rw [exec_regRead_fits hs hl (windowOf_etch hlo (by omega)) ha h1 h2 hn (.inr hr)]
  simp [State.readWindow, State.pdOn_popCmd s 9 (by decide), h9]

/-- A REG_READ that fits the Plate window. -/
theorem exec_regRead_plate {s : State} {e : CmdEntry} (hs : s.starts 0x0A e) (hl : e.params.length = 2) (hr : s.runtime = true)
    (hlo : 0x80000000 ≤ (par e.params 0).toNat) (ha : (par e.params 0).toNat % 4 = 0)
    (h1 : 1 ≤ (par e.params 1).toNat) (h2 : (par e.params 1).toNat ≤ 1024)
    (hn : (par e.params 0).toNat + 4 * (par e.params 1).toNat ≤ 0x82000000) :
    exec .regRead s = .next (finish e (s.popCmd.readPlate ((par e.params 0).toNat - 0x80000000) (par e.params 1).toNat)) := by
  rw [exec_regRead_fits hs hl (windowOf_plate hlo (by omega)) ha h1 h2 hn (.inr hr), State.readWindow]

/-- R278: Plate words that need not wait are a reply at once. -/
theorem State.startWindow_done {s : State} {r : PlateRun} {x : State × PlateRun} (hx : windowLoop r.todo.length s r = x)
    (h : x.2.todo = []) : s.startWindow r = .done x.1 stOk x.2.payload := by
  simp [State.startWindow, hx, h]

/-- R278: with Plate words to come the command waits as client 17 does. -/
theorem State.startWindow_wait {s : State} {r : PlateRun} {x : State × PlateRun} (hx : windowLoop r.todo.length s r = x)
    (h : x.2.todo ≠ []) :
    s.startWindow r = .wait (x.1.setWaiting 17 (x.1.waitingOf 17 ++ [.window])) (.plate x.2) := by
  simp [State.startWindow, hx, h]

/-- R296: a read that touches a half which is off is refused with the half's domain. -/
theorem State.readPlate_off {s : State} {off n d : Nat} (h : s.halfOff off n = some d) :
    s.readPlate off n = .done s stStateRefused [s.stateWord 0x04 d (s.pdState d)] := by
  rw [State.readPlate, h]
  rfl

/-- R278: a read of halves that are on starts on its Plate words. -/
theorem State.readPlate_on {s : State} {off n : Nat} (h : s.halfOff off n = none) :
    s.readPlate off n = s.startWindow ⟨false, off, n, (wordsFrom off (4 * n)).map (fun w => ⟨w, []⟩), [], 0⟩ := by
  rw [State.readPlate, h]

/-! ### REG_WRITE -/

theorem exec_regWrite (s : State) : exec .regWrite s = execRegWrite s := rfl
theorem exec_w1cClear (hw : List Word) (s : State) : exec (.w1cClear hw) s = execW1cClear hw s := rfl
theorem exec_minReset (s : State) : exec .minReset s = execMinReset s := rfl
theorem exec_inCtrlWrite (s : State) : exec .inCtrlWrite s = execInCtrlWrite s := rfl
theorem exec_cwModeWrite (s : State) : exec .cwModeWrite s = execCwModeWrite s := rfl
theorem exec_etchWindowWrite (s : State) : exec .etchWindowWrite s = execEtchWindowWrite s := rfl

/-- A REG_WRITE that fits a window which takes writes, run by the row its words call for, writes the window. -/
theorem startCmd_isWrite_fits {s : State} {e : CmdEntry} {lo hi row : Nat} {k : WindowKind} (hw : List Word)
    (hs : s.starts 0x0B e) (hrow : writeRow e = row) (h2 : 2 ≤ e.params.length) (h1025 : e.params.length ≤ 1025)
    (hwin : windowOf (par e.params 0).toNat = some (lo, hi, k)) (ha : (par e.params 0).toNat % 4 = 0)
    (hn : (par e.params 0).toNat + 4 * (e.params.length - 1) ≤ hi + 1) (hk : k.readOnly = false) :
    startCmd s (isWrite row) (fun s e => s.regWrite e hw) =
      finish e (s.popCmd.writeWindow k (par e.params 0).toNat (e.params.drop 1) hw) := by
  have hreadOnly : (true && k.readOnly) = false := hk
  have hsel : isWrite row e = true := by simp [isWrite, isOp_of_starts hs, hrow]
  obtain ⟨hhead, -, -, hcan⟩ := hs
  rw [startCmd_starts s e _ _ hhead hcan hsel]
  simp only [State.regWrite, h2, h1025, decide_true, Bool.and_self, accessFails_of_fits hwin ha hreadOnly hn, judged_ok, hwin]

/-- R273: the words go to a register block. -/
theorem State.writeWindow_regs_ok (s : State) (a : Nat) (ws hw : List Word) (hr : s.runtime = true)
    (hd : s.defineFails a ws = []) : s.writeWindow .regs a ws hw = Res.ok (s.writeRegs a ws hw) := by
  simp [State.writeWindow, hr, hd, minIndex]

/-- R312: a word that completes a bad surface definition is refused. -/
theorem State.writeWindow_regs_bad (s : State) (a i : Nat) (ws hw : List Word) (hr : s.runtime = true)
    (hd : minIndex (s.defineFails a ws) = some i) : s.writeWindow .regs a ws hw = Res.bad s i := by
  simp [State.writeWindow, hr, hd]

/-- R273: a REG_WRITE into a register block of the runtime, run by any of its rows, writes the registers and answers OK. -/
theorem startCmd_isWrite_regs {s : State} {e : CmdEntry} {lo hi row : Nat} (hw : List Word)
    (hs : s.starts 0x0B e) (hrow : writeRow e = row) (h2 : 2 ≤ e.params.length) (h1025 : e.params.length ≤ 1025)
    (hr : s.runtime = true) (hwin : windowOf (par e.params 0).toNat = some (lo, hi, .regs)) (ha : (par e.params 0).toNat % 4 = 0)
    (hn : (par e.params 0).toNat + 4 * (e.params.length - 1) ≤ hi + 1)
    (hd : s.popCmd.defineFails (par e.params 0).toNat (e.params.drop 1) = []) :
    startCmd s (isWrite row) (fun s e => s.regWrite e hw) =
      (s.popCmd.writeRegs (par e.params 0).toNat (e.params.drop 1) hw).post e stOk [] := by
  rw [startCmd_isWrite_fits hw hs hrow h2 h1025 hwin ha hn rfl,
    State.writeWindow_regs_ok _ _ _ _ ((State.runtime_popCmd s).trans hr) hd]
  rfl

/-! ### CW_MODE_WRITE -/

/-- R207: the reply posted last carries the width, and no other does. -/
theorem State.pendWidth_replyQ (s : State) (l : List Reply) (r : Reply) (w : Nat) (h : s.cw.replyQ = l ++ [r]) :
    (s.pendWidth w).cw.replyQ = l.map (fun (r : Reply) => { r with width := none }) ++ [{ r with width := some w }] := by
  have hold : l.mapIdx (fun i (x : Reply) => { x with width := if i + 1 = (l ++ [r]).length then some w else none }) =
      l.map (fun (x : Reply) => { x with width := none }) := by
    refine List.ext_getElem (by simp) (fun i hi _ => ?_)
    have hlt : i < l.length := by simpa using hi
    simp [Nat.ne_of_lt hlt]
  show (s.cw.replyQ.mapIdx _) = _
  rw [h, List.mapIdx_append, hold]
  simp

theorem widthWritten_cwMode (e : CmdEntry) (h : par e.params 0 = 0x30000) : widthWritten e = getBits (par e.params 1) 0 1 := by
  simp [widthWritten, h]

/-- R206, R207, R258: a REG_WRITE of CW_MODE alone: its OK reply carries the new width, which replaces a pending one; WIDTH
itself waits for the reply's delivery. -/
theorem exec_cwModeWrite_width {s : State} {e : CmdEntry} (hs : s.starts 0x0B e) (hrow : writeRow e = 2)
    (hl : e.params.length = 2) (ha : par e.params 0 = 0x30000) :
    ∃ t, exec .cwModeWrite s = .next t ∧ t.cw.cmdQ = s.cw.cmdQ.tail ∧ t.fld F.CW_MODE_WIDTH = s.fld F.CW_MODE_WIDTH ∧
      t.cw.replyQ = s.cw.replyQ.map (fun (r : Reply) => { r with width := none }) ++
        [⟨e.tag, 0, [], some (getBits (par e.params 1) 0 1)⟩] := by
  have haddr : (par e.params 0).toNat = 0x30000 := by rw [ha]; rfl
  have hdrop : e.params.drop 1 = [par e.params 1] := by
    obtain ⟨x, y, hxy⟩ := List.length_eq_two.1 hl
    simp [hxy, par]
  obtain ⟨hucw, hurd⟩ := State.writeRegs_cwMode_keepsWindow s.popCmd (par e.params 1)
  have hrun : startCmd s (isWrite 2) (fun s e => s.regWrite e []) =
      (s.popCmd.writeRegs 0x30000 [par e.params 1] []).post e stOk [] := by
    rw [startCmd_isWrite_fits [] hs hrow (by omega) (by omega) (k := .cw)
      (by rw [haddr]; exact windowOf_of_mem (w := (0x30000, 0x3FFFF, .cw)) (by decide) (by decide) (by decide))
      (by rw [haddr]) (by rw [haddr, hl]; decide) rfl, haddr, hdrop]
    rfl
  have hq : ((s.popCmd.writeRegs 0x30000 [par e.params 1] []).post e stOk []).cw.replyQ =
      s.cw.replyQ ++ [⟨e.tag, 0, [], none⟩] := by
    simp [State.post, hucw, stOk]
  obtain ⟨tl, htl⟩ := List.head?_eq_some_iff.1 hs.1
  refine ⟨((s.popCmd.writeRegs 0x30000 [par e.params 1] []).post e stOk []).pendWidth (widthWritten e), ?_, ?_, ?_, ?_⟩
  · simp only [exec_cwModeWrite, execCwModeWrite, hrun, htl, hq]
    simp [stOk]
  · simp [State.pendWidth, State.post, hucw]
  · calc _ = s.popCmd.fld F.CW_MODE_WIDTH := congrArg (fun w => getBits w 0 1) hurd
      _ = s.fld F.CW_MODE_WIDTH := State.fld_popCmd s _ (by decide)
  · rw [State.pendWidth_replyQ _ _ _ _ hq, widthWritten_cwMode e ha]

/-! ### ETCH_WINDOW_WRITE -/

/-- What a write of the Etch window needs is not changed by taking the command from its queue. -/
theorem State.presenceMet_popCmd (s : State) (l : List EtchWrite) :
    s.popCmd.presenceMet (s.popCmd.windowClass l) = s.presenceMet (s.windowClass l) := by
  have hprot : s.popCmd.protectedWrite = s.protectedWrite := by
    funext w
    simp only [State.protectedWrite, State.popCmd_etch]
  have hclass : s.popCmd.windowClass l = s.windowClass l := by
    simp only [State.windowClass, hprot]
  rw [hclass]
  simp only [State.presenceMet, State.p1Present, State.p2Present, State.bit_popCmd s F.PRES_STATUS_P1_OPEN (by decide),
    State.bit_popCmd s F.PRES_STATUS_P2 (by decide)]

/-- R277, R374: words for the Etch window that pass every check become a job, and the command waits for it. -/
theorem State.writeWindow_etch (s : State) (a : Nat) (ws hw : List Word) (hr : s.runtime = true)
    (hf : etchFails (a - 0x60000000) ws.length = []) (hride : s.bit F.PWR_STATE_RIDE = false) (h9 : s.pdOn 9 = true)
    (hp : s.presenceMet (s.windowClass (etchPairs (a - 0x60000000) ws)) = true) :
    s.writeWindow .etch a ws hw = .wait { s with etch := { s.etch with
      jobs := s.etch.jobs ++ [⟨.window, etchPairs (a - 0x60000000) ws, none⟩] } } .etchWindow := by
  simp [State.writeWindow, State.writeEtch, hr, hf, minIndex, hride, h9, hp]

/-- R277: an Etch window write without failing words starts at a multiple of 8. -/
theorem mod_eight_of_etchFails {a n : Nat} (h : etchFails a n = []) : a % 8 = 0 := by
  by_contra hne
  simp [etchFails, failAt, hne] at h

theorem exec_etchWindowWrite_waits {s : State} {e : CmdEntry} (hs : s.startsLive 0x0B e) (hrow : writeRow e = 1)
    (h3 : 3 ≤ e.params.length) (h1025 : e.params.length ≤ 1025) (h9 : s.pdOn 9 = true) :
    let a := (par e.params 0).toNat
    0x60000000 ≤ a → a + 4 * (e.params.length - 1) ≤ 0x60400000 → etchFails (a - 0x60000000) (e.params.length - 1) = [] →
    s.presenceMet (s.windowClass (etchPairs (a - 0x60000000) (e.params.drop 1))) = true →
      exec .etchWindowWrite s = .next { s.popCmd with
        cw := { s.popCmd.cw with running := some ⟨e, .etchWindow⟩ },
        etch := { s.etch with jobs := s.etch.jobs ++ [⟨.window, etchPairs (a - 0x60000000) (e.params.drop 1), none⟩] } } := by
  intro a hlo hhi hf hp
  obtain ⟨hstarts, hr, hride⟩ := hs
  have ha8 : (a - 0x60000000) % 8 = 0 := mod_eight_of_etchFails hf
  have hlen : (e.params.drop 1).length = e.params.length - 1 := List.length_drop
  rw [exec_etchWindowWrite, execEtchWindowWrite,
    startCmd_isWrite_fits [] hstarts hrow (by omega) h1025 (windowOf_etch hlo (by omega)) (by omega) hhi rfl,
    State.writeWindow_etch _ _ _ _ ((State.runtime_popCmd s).trans hr) (by rw [hlen]; exact hf) ((State.ride_popCmd s).trans hride)
      ((State.pdOn_popCmd s 9 (by decide)).trans h9) ((State.presenceMet_popCmd s _).trans hp), State.popCmd_etch, finish_wait]

/-! ### One register word -/

/-- R16: MIN_RESET sets MIN_MV with its lowest bit and does nothing without it. -/
theorem State.writeWord_minReset (s : State) (w hw : Word) :
    s.writeWord 0x10028 w hw = if getBits w 0 1 = 1 then s.setFld F.PWR_SUPPLY_STATUS_MIN_MV 0xFFFF else s := rfl

/-- Table 0-2: each bit of a register after a write: what the write leaves or puts there, and the flags that it clears
and hardware sets. -/
theorem State.getLsbD_writeBits (s : State) (a k : Nat) (w hw : Word) :
    ((s.writeBits a w hw).rd a).getLsbD k =
      ((if (BitVec.ofNat 32 (regInfo a).rw).getLsbD k then w.getLsbD k else (s.rd a).getLsbD k) &&
          !(w.getLsbD k && (BitVec.ofNat 32 (regInfo a).w1c).getLsbD k) ||
        hw.getLsbD k && (BitVec.ofNat 32 (regInfo a).w1c).getLsbD k) := by
  by_cases hk : k < 32
  · rw [State.writeBits, State.rd_wr_same]
    simp only [BitVec.getLsbD_or, BitVec.getLsbD_and, BitVec.getLsbD_not, hk, decide_true, Bool.true_and]
    cases (BitVec.ofNat 32 (regInfo a).rw).getLsbD k <;> simp
  · simp [BitVec.getLsbD_of_ge _ k (Nat.le_of_not_lt hk)]

/-- Settles O22: each clause by the lemma on the access, the row or the register word that it speaks of. -/
theorem registerAccess : Obligations.RegisterAccess := by
  unfold Obligations.RegisterAccess
  refine ⟨?registers, ?ram, ?etch, ?plate, ?write, ?cwBlock, ?surface, ?w1c, ?minReset, ?inCtrl, ?cwMode, ?etchWrite, ?flag, ?plain,
    ?others, ?minSet, ?minKept⟩
  case registers =>
    intro s e lo hi k hs hl a n hw ha h1 h2 hn hk
    rw [exec_regRead_fits hs hl hw ha h1 h2 hn (.inl hk), State.readWindow_registers _ hk, finish_done]
  case ram =>
    intro s e lo hi k ram base hs hl hr a n hw hk ha h1 h2 hn
    rw [exec_regRead_fits hs hl hw ha h1 h2 hn (.inr hr), State.readWindow_ram _ hk, finish_done]
  case etch =>
    intro s e hs hl hr h9 a n q hlo ha h1 h2 hn
    have hread : exec .regRead s = .next (finish e (s.popCmd.etchQuery q)) := exec_regRead_etch hs hl hr h9 hlo ha h1 h2 hn
    refine ⟨fun hb => ?_, fun hb => ?_⟩
    · rw [hread, State.etchQuery_done ((State.etchBusy_popCmd s q).trans hb), finish_done, ← State.popCmd_etch s]
      rfl
    · rw [hread, State.etchQuery_wait ((State.etchBusy_popCmd s q).trans hb), finish_wait]
  case plate =>
    intro s e hs hl hr a n r x hlo ha h1 h2 hn
    have hread : exec .regRead s = .next (finish e (s.popCmd.readPlate (a - 0x80000000) n)) :=
      exec_regRead_plate hs hl hr hlo ha h1 h2 hn
    have hon (h : s.halfOff (a - 0x80000000) n = none) : s.popCmd.readPlate (a - 0x80000000) n = s.popCmd.startWindow r :=
      State.readPlate_on ((State.halfOff_popCmd s _ _).trans h)
    have hloop : windowLoop r.todo.length s.popCmd r = x := rfl
    clear_value x r
    refine ⟨fun d hd => ?_, fun hd hx => ?_, fun hd hx => ?_⟩
    · rw [hread, State.readPlate_off ((State.halfOff_popCmd s _ _).trans hd), finish_done]
    · rw [hread, hon hd, State.startWindow_done hloop hx, finish_done]
    · rw [hread, hon hd, State.startWindow_wait hloop hx, finish_wait, State.setWaiting_cw]
  case write =>
    intro s e lo hi hs hrow h2 h1025 hr a hw ha hn hd
    rw [exec_regWrite, execRegWrite, startCmd_isWrite_regs [] hs hrow h2 h1025 hr hw ha hn hd]
  case cwBlock =>
    intro s e lo hi hs hrow h2 h1025 a hw ha hn
    rw [exec_regWrite, execRegWrite, startCmd_isWrite_fits [] hs hrow h2 h1025 hw ha hn rfl]
    rfl
  case surface =>
    intro s e lo hi i hs hrow h2 h1025 hr a hw ha hn hd
    rw [exec_regWrite, execRegWrite, startCmd_isWrite_fits [] hs hrow h2 h1025 hw ha hn rfl,
      State.writeWindow_regs_bad _ _ _ _ _ ((State.runtime_popCmd s).trans hr) hd]
    rfl
  case w1c =>
    intro s e hw lo hi hs hrow h2 h1025 hr a hwin ha hn hd
    rw [exec_w1cClear, execW1cClear, startCmd_isWrite_regs hw hs hrow h2 h1025 hr hwin ha hn hd]
  case minReset =>
    intro s e lo hi hs hrow h2 h1025 hr a hw ha hn hd
    rw [exec_minReset, execMinReset, startCmd_isWrite_regs [] hs hrow h2 h1025 hr hw ha hn hd]
  case inCtrl =>
    intro s e lo hi hs hrow h2 h1025 hr a hw ha hn hd
    rw [exec_inCtrlWrite, execInCtrlWrite, startCmd_isWrite_regs [] hs hrow h2 h1025 hr hw ha hn hd]
  case cwMode => exact fun s e => exec_cwModeWrite_width
  case etchWrite => exact fun s e => exec_etchWindowWrite_waits
  case flag =>
    intro s a k w hw hc hrw
    simp [State.getLsbD_writeBits, hc, hrw]
  case plain =>
    intro s a k w hw hc
    simp [State.getLsbD_writeBits, hc]
  case others => exact fun s a b w hw hne => State.rd_wr_ne s a b _ hne.symm
  case minSet =>
    intro s w hw hset
    rw [State.writeWord_minReset, if_pos hset, State.fld_setFld _ _ _ (by decide)]
    rfl
  case minKept =>
    intro s w hw hclear
    rw [State.writeWord_minReset, if_neg (by omega)]

end Sys2Proof.Machine
end

section
/-! PROOFS. Frame starts, line periods and frame boundaries: what of a head's frame each of their parts keeps, and what a frame
start and a line make of it. -/

namespace Sys2Proof.Machine

/-! ### What the frame events of a head are judged by -/

/-- The part of a head's frame that says where in it the head is. -/
structure FrameCore where
  blank : Bool
  on : Bool
  sent : Bool
  next : Nat
  shown : Nat
  early : Bool
  count : Nat

/-- The head's own record of it. -/
def HeadState.core (x : HeadState) : FrameCore :=
  ⟨x.blank, x.fr.on, x.fr.sent, x.fr.next, x.fr.shown, x.fr.early, x.fr.count⟩

/-- A head's frame as its events leave it: the head's own record of it and what HEAD_x_STATUS and HEAD_x_TT_STATUS show of it; and, of
the rest of the device, the Command Window and the Plate's bytes. -/
@[ext] structure FrameView where
  cw : CwState
  mem : List Host.Cell
  core : FrameCore
  state : Nat
  parity : Nat
  idle : Nat
  line : Nat
  kind : Nat

def State.frameView (s : State) (h : Fin 4) : FrameView :=
  { cw := s.cw, mem := s.plate.mem, core := (s.head h).core
    state := s.fld (F.HEAD_STATUS_STATE h), parity := s.fld (F.HEAD_STATUS_PARITY h), idle := s.fld (F.HEAD_STATUS_IDLE h)
    line := s.fld (F.HEAD_TT_STATUS_LINE h), kind := s.fld (F.HEAD_TT_STATUS_KIND h) }

/-- `t` has the frame of head `h` that `s` has. -/
def State.KeepsFrame (h : Fin 4) (s t : State) : Prop := t.frameView h = s.frameView h

/-- Field `f` shares no bit with those that show the frame of head `h`. -/
def Field.OffFrame (f : Field) (h : Fin 4) : Prop :=
  f.apart (F.HEAD_STATUS_STATE h) ∧ f.apart (F.HEAD_STATUS_PARITY h) ∧ f.apart (F.HEAD_STATUS_IDLE h) ∧
    f.apart (F.HEAD_TT_STATUS_LINE h) ∧ f.apart (F.HEAD_TT_STATUS_KIND h)

theorem Field.offFrame_of_addr {f : Field} {h : Fin 4} (hs : f.addr ≠ 0x80004 + 0x10000 * h.val)
    (ht : f.addr ≠ 0x80104 + 0x10000 * h.val) : f.OffFrame h :=
  ⟨.inl hs, .inl hs, .inl hs, .inl ht, .inl ht⟩

/-- The registers of the heads lie from 0x80000 to 0xBFFFF. -/
theorem Field.offFrame_of_block {f : Field} {h : Fin 4} (hf : f.addr < 0x80000 ∨ 0xC0000 ≤ f.addr) : f.OffFrame h :=
  Field.offFrame_of_addr (by omega) (by omega)

/-- The registers that show a head's frame lie at 4 modulo 16. -/
theorem Field.offFrame_of_mod {f : Field} {h : Fin 4} (hf : f.addr % 16 ≠ 4) : f.OffFrame h :=
  Field.offFrame_of_addr (by omega) (by omega)

theorem State.head_setHead (s : State) (g h : Nat) (x : HeadState) :
    (s.setHead g x).head h = if g = h ∧ g < 4 then x else s.head h := by
  simp only [State.head, State.setHead, List.getD_eq_getElem?_getD, Vector.toList_setIfInBounds, List.getElem?_set,
    Vector.length_toList]
  by_cases hgh : g = h
  · subst hgh
    by_cases hg : g < 4 <;> simp [hg]
  · simp [hgh]

@[simp] theorem State.head_setHead_same (s : State) (h : Fin 4) (x : HeadState) : (s.setHead h x).head h = x := by
  rw [State.head_setHead, if_pos ⟨rfl, h.isLt⟩]

@[simp] theorem State.frameOf_setFrame (s : State) (h : Fin 4) (f : FrameState) : (s.setFrame h f).frameOf h = f := by
  simp [State.frameOf, State.setFrame]

theorem State.frameView_setHead (s : State) (h : Fin 4) (x : HeadState) :
    (s.setHead h x).frameView h = { s.frameView h with core := x.core } := by
  simp only [State.frameView, State.head_setHead_same]
  rfl

/-- A fold keeps what each of its steps keeps. -/
theorem foldl_keeps {σ α β : Type} (view : σ → β) {f : σ → α → σ} (hf : ∀ u a, view (f u a) = view u) (l : List α) :
    ∀ t, view (l.foldl f t) = view t := by
  induction l with
  | nil => exact fun _ => rfl
  | cons a l ih => exact fun t => (ih (f t a)).trans (hf t a)

namespace State.KeepsFrame
variable {h : Fin 4} {s t u : State}

theorem refl (s : State) : KeepsFrame h s s := rfl

theorem trans (k : KeepsFrame h s t) (l : KeepsFrame h t u) : KeepsFrame h s u := Eq.trans l k

theorem ite {c : Prop} [Decidable c] (k : KeepsFrame h s t) (l : KeepsFrame h s u) : KeepsFrame h s (if c then t else u) := by
  split
  · exact k
  · exact l

/-- An update that touches no register, no head, neither the Command Window nor the Plate's bytes. -/
theorem of_eq (k : KeepsFrame h s t) (hcw : u.cw = t.cw) (hmem : u.plate.mem = t.plate.mem) (hregs : u.regs = t.regs)
    (hheads : u.heads = t.heads) : KeepsFrame h s u := by
  refine k.trans ?_
  simp only [KeepsFrame, frameView, State.head, State.fld, State.rd, hcw, hmem, hregs, hheads]

theorem setFld (k : KeepsFrame h s t) {f : Field} (v : Nat) (hf : f.OffFrame h) : KeepsFrame h s (t.setFld f v) := by
  obtain ⟨hstate, hparity, hidle, hline, hkind⟩ := hf
  refine k.trans ?_
  simp only [KeepsFrame, frameView, State.fld_setFld_apart t f _ v hstate, State.fld_setFld_apart t f _ v hparity,
    State.fld_setFld_apart t f _ v hidle, State.fld_setFld_apart t f _ v hline, State.fld_setFld_apart t f _ v hkind]
  rfl

/-- A field outside the blocks of the heads. -/
theorem setOther (k : KeepsFrame h s t) {f : Field} (v : Nat) (hf : f.addr < 0x80000 ∨ 0xC0000 ≤ f.addr) :
    KeepsFrame h s (t.setFld f v) := k.setFld v (Field.offFrame_of_block hf)

theorem raise (k : KeepsFrame h s t) (c : Nat) : KeepsFrame h s (t.raise c) :=
  k.trans (ite (refl t) ((refl t).setOther 1 (.inl (by decide : 0x30004 < 0x80000))))

theorem setHead (k : KeepsFrame h s t) {g : Nat} {x : HeadState} (hx : x.core = (t.head g).core) :
    KeepsFrame h s (t.setHead g x) := by
  refine k.trans ?_
  have hcore : ((t.setHead g x).head h).core = (t.head h).core := by
    rw [State.head_setHead]
    split
    · next hg => rw [hx, hg.1]
    · rfl
  simp only [KeepsFrame, frameView, hcore]
  rfl

theorem foldl {α : Type} {f : State → α → State} (hf : ∀ (u : State) (a : α), KeepsFrame h u (f u a)) (l : List α) (t : State) :
    KeepsFrame h t (l.foldl f t) := foldl_keeps (fun u : State => u.frameView h) hf l t

/-- A fold that carries something beside the state. -/
theorem foldl_fst {α β : Type} {f : State × β → α → State × β} (hf : ∀ a x, KeepsFrame h a.1 (f a x).1) (l : List α)
    (a : State × β) : KeepsFrame h a.1 (l.foldl f a).1 := foldl_keeps (fun a : State × β => a.1.frameView h) hf l a

end State.KeepsFrame

open State (KeepsFrame)

section
variable (h : Fin 4)

/-! ### The Etch store's reads -/

/-- `t` has the heads of `s`, and what their registers show of their frames. -/
def State.KeepsHeads (s t : State) : Prop := t.heads = s.heads ∧ ∀ h : Fin 4, KeepsFrame h s t

namespace State.KeepsHeads
variable {s t u : State}

theorem refl (s : State) : s.KeepsHeads s := ⟨rfl, fun _ => rfl⟩

theorem trans (k : s.KeepsHeads t) (l : t.KeepsHeads u) : s.KeepsHeads u := ⟨l.1.trans k.1, fun h => (k.2 h).trans (l.2 h)⟩

theorem setFld (k : s.KeepsHeads t) {f : Field} (v : Nat) (hf : 0xC0000 ≤ f.addr) : s.KeepsHeads (t.setFld f v) :=
  k.trans ⟨rfl, fun _ => (KeepsFrame.refl t).setOther v (.inr hf)⟩

theorem raise (k : s.KeepsHeads t) (c : Nat) : s.KeepsHeads (t.raise c) :=
  k.trans ⟨State.raise_heads t c, fun _ => (KeepsFrame.refl t).raise c⟩

theorem setEtch (k : s.KeepsHeads t) (e : EtchState) : s.KeepsHeads { t with etch := e } := k.trans ⟨rfl, fun _ => rfl⟩

theorem foldl {α : Type} {f : State → α → State} (hf : ∀ (u : State) (a : α), u.KeepsHeads (f u a)) (l : List α) (t : State) :
    t.KeepsHeads (l.foldl f t) :=
  ⟨foldl_keeps State.heads (fun u a => (hf u a).1) l t, fun _ => KeepsFrame.foldl (fun u a => (hf u a).2 _) l t⟩

end State.KeepsHeads

open State (KeepsHeads)

theorem State.etchTouch_keepsHeads (s : State) (a n : Nat) : s.KeepsHeads (s.etchTouch a n) := by
  refine KeepsHeads.foldl (fun u f => ?_) _ s
  have hue : u.KeepsHeads (u.satAdd F.ETCH_ECC_UE_CNT 1) := (KeepsHeads.refl u).setFld _ (by decide)
  dsimp only
  split_ifs
  · exact ((KeepsHeads.refl u).setFld _ (by decide)).setFld _ (by decide)
  · exact hue
  · exact ((hue.setFld _ (by decide)).setFld _ (by decide)).raise _

theorem State.touchSlot_keepsHeads (s : State) (type k : Nat) : s.KeepsHeads (s.touchSlot type k) :=
  ((State.etchTouch_keepsHeads _ _ _).trans (State.etchTouch_keepsHeads _ _ _)).trans (State.etchTouch_keepsHeads _ _ _)

theorem State.winner_keepsHeads (s : State) (type : Nat) : s.KeepsHeads (s.winner type).2 := by
  unfold State.winner
  split
  · exact KeepsHeads.refl s
  · exact (State.touchSlot_keepsHeads s type 0).trans (State.touchSlot_keepsHeads _ type 1)

theorem State.noteMissing_keepsHeads (s : State) (type : Nat) : s.KeepsHeads (s.noteMissing type) := by
  unfold State.noteMissing
  split
  · exact KeepsHeads.refl s
  · exact (((KeepsHeads.refl s).setFld 1 (by decide : 0xC0000 ≤ 0x1C0010)).raise _).setEtch _

theorem State.chooseRecord_keepsHeads (s : State) (type : Nat) : s.KeepsHeads (s.chooseRecord type).2 := by
  have hw := State.winner_keepsHeads s type
  unfold State.chooseRecord
  dsimp only
  split_ifs
  · exact hw
  · exact (hw.setEtch _).trans (State.noteMissing_keepsHeads _ type)
  · exact hw.setEtch _

theorem State.record_keepsHeads (s : State) (type : Nat) : s.KeepsHeads (s.record type).2 := by
  have hc := State.chooseRecord_keepsHeads s type
  unfold State.record
  split
  · next hr => rwa [hr] at hc
  · next hr =>
    rw [hr] at hc
    dsimp only
    split_ifs
    · exact hc.trans (State.etchTouch_keepsHeads _ _ _)
    · exact hc

/-! ### Chains -/

theorem State.send_keepsFrame (s : State) (c : Nat) (b : List Block) : KeepsFrame h s (s.send c b) := rfl

theorem State.emit_keepsFrame (s : State) (c : Nat) (b : List Block) : KeepsFrame h s (s.emit c b) := rfl

theorem State.quiet_keepsFrame (s : State) (g : Nat) : KeepsFrame h s (s.quiet g) :=
  KeepsFrame.foldl (fun u c => u.send_keepsFrame h c []) _ s

theorem State.sendLine_keepsFrame (s : State) (g n : Nat) (row : Option (Nat × List Pix)) :
    KeepsFrame h s (s.sendLine g n row) := KeepsFrame.foldl (fun u c => u.emit_keepsFrame h c _) _ s

theorem State.sendTo_keepsFrame (s : State) (c : Nat) (b : List Block) : KeepsFrame h s (s.sendTo c b) :=
  KeepsFrame.ite rfl rfl

theorem State.sendLevel_keepsFrame (s : State) (g : Nat) : KeepsFrame h s (s.sendLevel g) :=
  KeepsFrame.ite (KeepsFrame.setHead (t := s.send _ _) rfl rfl) rfl

/-! ### Touch engines -/

theorem State.writeTafes_keepsFrame (s : State) (g : Nat) (cfg : List Word) : KeepsFrame h s (s.writeTafes g cfg) :=
  KeepsFrame.trans (t := s.setTouch g _) rfl (KeepsFrame.foldl (fun u _ => u.sendTo_keepsFrame h _ _) _ _)

theorem State.stopTafes_keepsFrame (s : State) (cfg : List Word) : KeepsFrame h s (s.stopTafes cfg) :=
  KeepsFrame.foldl (fun u _ => KeepsFrame.ite (u.sendTo_keepsFrame h _ _) rfl) _ s

/-- Every register of the touch engines lies above those of the heads. -/
theorem State.setTouchFld_keepsFrame {s t : State} (k : KeepsFrame h s t) (g o lo w v : Nat) :
    KeepsFrame h s (t.setFld ⟨0x140000 + o + 0x100 * g, lo, w⟩ v) := k.setOther v (.inr (by dsimp only; omega))

theorem State.baseline_keepsFrame (s : State) (g : Nat) (cfg : List Word) : KeepsFrame h s (s.baseline g cfg).2 :=
  State.setTouchFld_keepsFrame h ((s.record_keepsHeads _).2 h) g 0x40 24 1 _

/-- A touch engine that enters a state shows the state, its cause and its provisional nodes. -/
theorem State.touchEntry_keepsFrame (s : State) (g st cause : Nat) (x : TouchState) :
    KeepsFrame h s ((((s.setTouch g x).setFld (F.TOUCH_STATUS_STATE g) st).setFld (F.TOUCH_STATUS_HOLD_CAUSE g) cause).showProv g) :=
  have hset : KeepsFrame h s (s.setTouch g x) := rfl
  have hstate := State.setTouchFld_keepsFrame h hset g 0x40 28 4 st
  State.setTouchFld_keepsFrame h (State.setTouchFld_keepsFrame h hstate g 0x40 25 3 cause) g 0x40 23 1 _

theorem State.enterStarting_keepsFrame (s : State) (g : Nat) : KeepsFrame h s (s.enterStarting g) :=
  ((s.touchEntry_keepsFrame h g _ _ _).trans (State.baseline_keepsFrame h _ _ _)).trans (State.writeTafes_keepsFrame h _ _ _)

theorem State.enterHeld_keepsFrame (s : State) (g cause : Nat) : KeepsFrame h s (s.enterHeld g cause) :=
  s.touchEntry_keepsFrame h g _ _ _

theorem State.touchJudge_keepsFrame (s : State) (g : Nat) : KeepsFrame h s (s.touchJudge g) := by
  unfold State.touchJudge
  dsimp only
  split_ifs
  · exact s.enterStarting_keepsFrame h g
  · exact s.writeTafes_keepsFrame h g _
  · exact KeepsFrame.refl s
  · exact State.setTouchFld_keepsFrame h (KeepsFrame.refl s) g 0x40 25 3 _
  · exact s.enterHeld_keepsFrame h g _
  · exact KeepsFrame.refl s

theorem State.touchOn_keepsFrame (s : State) (g : Nat) : KeepsFrame h s (s.touchOn g) :=
  KeepsFrame.ite (s.enterStarting_keepsFrame h g) (s.enterHeld_keepsFrame h g _)

theorem State.touchOff_keepsFrame (s : State) (g : Nat) : KeepsFrame h s (s.touchOff g) :=
  have hstop := (s.touchEntry_keepsFrame h g _ _ _).trans (State.stopTafes_keepsFrame h _ _)
  KeepsFrame.ite (hstop.trans (State.touchOn_keepsFrame h _ g)) hstop

theorem State.discardSet_keepsFrame (s : State) (g : Nat) : KeepsFrame h s (s.discardSet g) :=
  have hcut : KeepsFrame h s ((s.setTouch g _).satAdd (F.TOUCH_COUNT_CUT_CNT g) 1) :=
    State.setTouchFld_keepsFrame h (t := s.setTouch g _) rfl g 0x44 8 8 _
  hcut.trans (KeepsFrame.ite (State.touchOff_keepsFrame h _ g) rfl)

theorem State.slotOpened_keepsFrame (s : State) (g k : Nat) : KeepsFrame h s (s.slotOpened g k) :=
  KeepsFrame.ite (KeepsFrame.of_eq (KeepsFrame.ite (c := (s.touchOf g).set.isSome) (s.discardSet_keepsFrame h g)
    (KeepsFrame.refl s)) rfl rfl rfl rfl) rfl

/-! ### TOUCH slots -/

theorem State.setFrame_keepsFrame {s t : State} (k : KeepsFrame h s t) {g : Nat} {f : FrameState}
    (hf : ({ t.head g with fr := f } : HeadState).core = (t.head g).core) : KeepsFrame h s (t.setFrame g f) := k.setHead hf

/-- The chains of `l` that are UNFURLED send `b`. -/
theorem State.emitUnfurled_keepsFrame (s : State) (l : List Nat) (b : List Block) :
    KeepsFrame h s (s.each l (fun s c => if s.lane c = laneUnfurled then s.emit c b else s)) :=
  KeepsFrame.foldl (fun u c => KeepsFrame.ite (u.emit_keepsFrame h c b) (KeepsFrame.refl u)) l s

theorem State.openSlot_keepsFrame (s : State) (g n : Nat) : KeepsFrame h s (s.openSlot g n) := by
  unfold State.openSlot
  extract_lets f ts k s1 s2
  have k1 : KeepsFrame h s s1 := State.setFrame_keepsFrame h (KeepsFrame.refl s) rfl
  have k2 : KeepsFrame h s1 s2 := s1.emitUnfurled_keepsFrame h _ _
  exact (k1.trans k2).trans (s2.slotOpened_keepsFrame h g k)

theorem State.closeSlot_keepsFrame (s : State) (g : Nat) : KeepsFrame h s (s.closeSlot g) := by
  have hset : KeepsFrame h s (s.setFrame g { s.frameOf g with slotLeft := 0 }) :=
    State.setFrame_keepsFrame h (KeepsFrame.refl s) rfl
  exact hset.trans (State.emitUnfurled_keepsFrame h _ _ _)

/-! ### Registers of a head that show no part of its frame -/

theorem apart_status_tt (lo w lo' w' : Nat) :
    Field.apart ⟨0x80004 + 0x10000 * h, lo, w⟩ ⟨0x80104 + 0x10000 * h, lo', w'⟩ := .inl (by simp)

theorem apart_tt_status (lo w lo' w' : Nat) :
    Field.apart ⟨0x80104 + 0x10000 * h, lo, w⟩ ⟨0x80004 + 0x10000 * h, lo', w'⟩ := .inl (by simp)

theorem apart_of_below {a lo w lo' w' : Nat} (hb : lo + w ≤ lo') : Field.apart ⟨a, lo, w⟩ ⟨a, lo', w'⟩ := .inr (.inl hb)

theorem apart_of_above {a lo w lo' w' : Nat} (hb : lo' + w' ≤ lo) : Field.apart ⟨a, lo, w⟩ ⟨a, lo', w'⟩ := .inr (.inr hb)

theorem offFrame_mode : (F.HEAD_STATUS_MODE h).OffFrame h :=
  ⟨apart_of_below (by decide), apart_of_above (by decide), apart_of_above (by decide), apart_status_tt h _ _ _ _,
    apart_status_tt h _ _ _ _⟩

theorem offFrame_cold : (F.HEAD_STATUS_COLD h).OffFrame h :=
  ⟨apart_of_below (by decide), apart_of_below (by decide), apart_of_above (by decide), apart_status_tt h _ _ _ _,
    apart_status_tt h _ _ _ _⟩

theorem offFrame_fphase : (F.HEAD_STATUS_FPHASE h).OffFrame h :=
  ⟨apart_of_below (by decide), apart_of_below (by decide), apart_of_above (by decide), apart_status_tt h _ _ _ _,
    apart_status_tt h _ _ _ _⟩

theorem offFrame_histValid : (F.HEAD_STATUS_HIST_VALID h).OffFrame h :=
  ⟨apart_of_below (by decide), apart_of_below (by decide), apart_of_above (by decide), apart_status_tt h _ _ _ _,
    apart_status_tt h _ _ _ _⟩

theorem offFrame_ttReject : (F.HEAD_TT_STATUS_TT_REJECT h).OffFrame h :=
  ⟨apart_tt_status h _ _ _ _, apart_tt_status h _ _ _ _, apart_tt_status h _ _ _ _, apart_of_above (by decide),
    apart_of_above (by decide)⟩

/-- HEAD_x_OD stands between HEAD_x_STATUS and HEAD_x_TT_STATUS. -/
theorem offFrame_od (lo w : Nat) : Field.OffFrame ⟨0x80008 + 0x10000 * h, lo, w⟩ h :=
  Field.offFrame_of_mod (by dsimp only; omega)

/-! ### Surfaces and write-back -/

theorem State.headEvent_keepsFrame (s : State) (g : Nat) : KeepsFrame h s (s.headEvent g) := by
  unfold State.headEvent
  extract_lets x self t
  have kt : KeepsFrame h s t := KeepsFrame.setHead (KeepsFrame.refl s) rfl
  exact kt.of_eq rfl rfl rfl rfl

theorem State.surfaceEvent_keepsFrame (s : State) (n : Nat) : KeepsFrame h s (s.surfaceEvent n) :=
  KeepsFrame.foldl (fun u g => KeepsFrame.ite (u.headEvent_keepsFrame h g) (KeepsFrame.refl u)) _ s

/-- SURFn_STATE lies at 0x14 modulo 0x20. -/
theorem State.setSurfState_keepsFrame {s t : State} (k : KeepsFrame h s t) (n lo w v : Nat) :
    KeepsFrame h s (t.setFld ⟨0x51014 + 0x20 * n, lo, w⟩ v) :=
  k.setFld v (Field.offFrame_of_addr (by dsimp only; omega) (by dsimp only; omega))

theorem State.refront_keepsFrame (s : State) (n : Nat) : KeepsFrame h s (s.refront n) := by
  unfold State.refront
  split
  · exact KeepsFrame.refl s
  · split
    · exact State.setSurfState_keepsFrame h (KeepsFrame.refl s) n 25 1 0
    · next k _ =>
      have ht : KeepsFrame h s ((s.setFld (F.SURF_STATUS_FRONT n) k).setFld (F.SURF_STATUS_FRONT_VALID n) 1) :=
        State.setSurfState_keepsFrame h (State.setSurfState_keepsFrame h (KeepsFrame.refl s) n 30 2 k) n 25 1 1
      exact KeepsFrame.ite ht (ht.trans (State.surfaceEvent_keepsFrame h _ n))

theorem State.startBuf_keepsFrame (s : State) (n b : Nat) : KeepsFrame h s (s.startBuf n b) :=
  KeepsFrame.trans rfl (State.refront_keepsFrame h _ n)

theorem State.completeBuf_keepsFrame (s : State) (n b : Nat) : KeepsFrame h s (s.completeBuf n b) :=
  KeepsFrame.trans rfl (State.refront_keepsFrame h _ n)

theorem State.wbStop_keepsFrame (s : State) : KeepsFrame h s s.wbStop :=
  have hoff : KeepsFrame h s ((s.setFld F.WB_CTRL_EN 0).setFld F.WB_STATUS_ACTIVE 0) :=
    ((KeepsFrame.refl s).setOther 0 (.inl (by decide))).setOther 0 (.inl (by decide))
  hoff.of_eq rfl rfl rfl rfl

theorem State.wbEnable_keepsFrame (s : State) (g n : Nat) (single : Bool) : KeepsFrame h s (s.wbEnable g n single) := by
  unfold State.wbEnable
  extract_lets s1
  have ken : KeepsFrame h s (s.setFld F.WB_CTRL_EN 1) := (KeepsFrame.refl s).setOther _ (.inl (by decide))
  have khead : KeepsFrame h s ((s.setFld F.WB_CTRL_EN 1).setFld F.WB_CTRL_HEAD g) := ken.setOther _ (.inl (by decide))
  have k1 : KeepsFrame h s s1 := (khead.setOther (f := F.WB_CTRL_SURF) n (.inl (by decide))).setOther _ (.inl (by decide))
  exact k1.of_eq rfl rfl rfl rfl

theorem State.wbFrameStart_keepsFrame (s : State) (g : Nat) (compose : Bool) : KeepsFrame h s (s.wbFrameStart g compose) := by
  have hactive : KeepsFrame h s (s.setFld F.WB_STATUS_ACTIVE 1) := (KeepsFrame.refl s).setOther 1 (.inl (by decide))
  unfold State.wbFrameStart
  dsimp only
  split_ifs
  · exact KeepsFrame.refl s
  · exact (s.wbStop_keepsFrame h).setOther 1 (.inl (by decide))
  · exact hactive.of_eq rfl rfl rfl rfl
  · split
    · exact hactive.of_eq rfl rfl rfl rfl
    · exact (hactive.trans (State.startBuf_keepsFrame h _ _ _)).of_eq rfl rfl rfl rfl

theorem State.wbEnd_keepsFrame (s : State) (f : WbFrame) : KeepsFrame h s (s.wbEnd f) := by
  unfold State.wbEnd
  extract_lets _ s1 t
  have k1 : KeepsFrame h s s1 := rfl
  have kt : KeepsFrame h s t := (k1.setOther _ (.inl (by decide : F.WB_STATUS_FRAMES.addr < _))).trans
    (State.completeBuf_keepsFrame h _ _ _)
  split
  · exact (k1.setOther _ (.inl (by decide))).setOther _ (.inl (by decide))
  · exact KeepsFrame.ite (kt.trans (t.wbStop_keepsFrame h)) kt

theorem State.wbFrameEnd_keepsFrame (s : State) (g : Nat) : KeepsFrame h s (s.wbFrameEnd g) := by
  unfold State.wbFrameEnd
  extract_lets s1
  have k1 : KeepsFrame h s s1 := by
    unfold s1
    split
    · exact KeepsFrame.refl s
    · exact KeepsFrame.ite (s.wbEnd_keepsFrame h _) (KeepsFrame.refl s)
  have kstop : KeepsFrame h s s1.wbStop := k1.trans (s1.wbStop_keepsFrame h)
  split
  · split
    · exact kstop
    · exact kstop.trans (State.wbEnable_keepsFrame h _ _ _ _)
  · exact k1

/-! ### Stages, layers and the composition block -/

theorem State.showStages_keepsFrame (s : State) : KeepsFrame h s s.showStages :=
  ((KeepsFrame.refl s).setOther _ (.inl (by decide))).setOther _ (.inl (by decide))

theorem State.applyStage_keepsFrame (s : State) (t : Stage) : KeepsFrame h s (s.applyStage t) := rfl

theorem State.applyStages_keepsFrame (s : State) (g : Nat) : KeepsFrame h s (s.applyStages g) :=
  KeepsFrame.ite (KeepsFrame.refl s)
    ((KeepsFrame.foldl (fun u t => u.applyStage_keepsFrame h t) _ s).trans (State.showStages_keepsFrame h _))

theorem State.applyIdle_keepsFrame (s : State) : KeepsFrame h s s.applyIdle :=
  KeepsFrame.ite (KeepsFrame.refl s)
    ((KeepsFrame.foldl (fun u t => u.applyStage_keepsFrame h t) _ s).trans (State.showStages_keepsFrame h _))

/-- The eight layers have their status registers from 0x60300. -/
theorem State.setLayerStatus_keepsFrame {s t : State} (k : KeepsFrame h s t) {l : Nat} (hl : l < 8) (lo w v : Nat) :
    KeepsFrame h s (t.setFld ⟨0x60300 + 4 * l, lo, w⟩ v) := k.setOther v (.inl (by dsimp only; omega))

theorem State.latchFor_keepsFrame (s : State) (g : Nat) {l : Nat} (hl : l < 8) : KeepsFrame h s (s.latchFor g l) := by
  unfold State.latchFor
  extract_lets s0 s1 x y s2
  have k0 : KeepsFrame h s s0 := KeepsFrame.ite
    (State.setLayerStatus_keepsFrame h (t := s.setOwner l none) rfl hl 31 1 0) (KeepsFrame.refl s)
  have k1 : KeepsFrame h s s1 := by
    unfold s1
    split
    · exact k0.of_eq rfl rfl rfl rfl
    · exact k0
  have khead : KeepsFrame h s (s1.setHead g { y with layers := y.layers ++ [x] }) := k1.setHead rfl
  have k2 : KeepsFrame h s s2 := khead.of_eq rfl rfl rfl rfl
  split_ifs
  · have kshown := State.setLayerStatus_keepsFrame h k2 hl 31 1 (if x.shown then 1 else 0)
    have kerr := State.setLayerStatus_keepsFrame h kshown hl 30 1 (if !x.valid then 1 else 0)
    have kbuf := State.setLayerStatus_keepsFrame h kerr hl 28 2 x.buf
    exact State.setLayerStatus_keepsFrame h kbuf hl 27 1 _
  · exact State.setLayerStatus_keepsFrame h (State.setLayerStatus_keepsFrame h k0 hl 31 1 0) hl 30 1 0
  · exact k0

/-- COMPx_W6 and COMPx_W7 show what was latched. -/
theorem State.latchComp_keepsFrame (s : State) (g : Nat) : KeepsFrame h s (s.latchComp g) := by
  unfold State.latchComp
  extract_lets bl p a k tm c _ s1
  have k1 : KeepsFrame h s s1 := (KeepsFrame.refl s).setHead rfl
  have hw6 (lo w : Nat) : Field.OffFrame ⟨0x60418 + 0x20 * g, lo, w⟩ h := Field.offFrame_of_mod (by dsimp only; omega)
  have hw7 : (F.COMP_W7_BL_NOW g).OffFrame h := Field.offFrame_of_mod (by simp only [F.COMP_W7_BL_NOW]; omega)
  exact KeepsFrame.ite (((k1.setFld _ (hw6 16 16)).setFld _ (hw6 8 8)).setFld _ hw7) k1

theorem State.latchLayers_keepsFrame (s : State) (g : Nat) (l : List Nat) (hl : ∀ i ∈ l, i < 8) :
    KeepsFrame h s (s.each l (fun s l => s.latchFor g l)) := by
  induction l generalizing s with
  | nil => exact KeepsFrame.refl s
  | cons i l ih =>
    exact (s.latchFor_keepsFrame h g (hl i (by simp))).trans (ih (s.latchFor g i) fun j hj => hl j (by simp [hj]))

theorem State.latchHead_keepsFrame (s : State) (g : Nat) : KeepsFrame h s (s.latchHead g) := by
  have hnone : KeepsFrame h s (s.setHead g { s.head g with layers := [] }) := (KeepsFrame.refl s).setHead rfl
  have hlayers := hnone.trans (State.latchLayers_keepsFrame h _ g (List.range 8) (by simp))
  exact (hlayers.trans (State.applyIdle_keepsFrame h _)).trans (State.latchComp_keepsFrame h _ g)

/-! ### The mode of the frame and what it scans out -/

theorem State.ledgerAdd_keepsFrame (s : State) (g : Nat) : KeepsFrame h s (s.ledgerAdd g) :=
  KeepsFrame.ite (KeepsFrame.setHead (KeepsFrame.refl s) rfl) (KeepsFrame.refl s)

theorem State.setMode_keepsFrame (s : State) (m : Nat) : KeepsFrame h s (s.setMode h m) := by
  unfold State.setMode
  split
  · exact KeepsFrame.refl s
  · have kledger : KeepsFrame h s (s.setHead h { s.head h with fr := { (s.head h).fr with ledger := (0, 0) } }) :=
      (KeepsFrame.refl s).setHead rfl
    exact kledger.setFld m (offFrame_mode h)

theorem State.setHeadMode_keepsFrame (s : State) {x : HeadState} (m : Nat) (hx : x.core = (s.head h).core) :
    KeepsFrame h s ((s.setHead h x).setMode h m) := ((KeepsFrame.refl s).setHead hx).trans (State.setMode_keepsFrame h _ m)

theorem State.modeFrame_keepsFrame (s : State) : KeepsFrame h s (s.modeFrame h) := by
  unfold State.modeFrame
  extract_lets x req n _ x1 scanNow compose _ x2
  have hx1 : x1.core = (s.head h).core := by unfold x1; split <;> rfl
  have hscan : KeepsFrame h s (scanNow s x1) := s.setHeadMode_keepsFrame h _ hx1
  have hcompose : KeepsFrame h s (compose s x1) := (KeepsFrame.refl s).setHead hx1
  split_ifs
  · exact hscan
  · exact hcompose
  · split
    · exact hscan
    · exact KeepsFrame.ite hscan (hcompose.trans (State.setMode_keepsFrame h _ _))
  · exact s.setHeadMode_keepsFrame h _ hx1

theorem State.saDrop_keepsFrame (s : State) : KeepsFrame h s s.saDrop := by
  have hset : KeepsFrame h s ({ s with boot := { s.boot with saStopped := false } }.setFld F.BOOT_SA_STATUS_INPUT 0) :=
    KeepsFrame.setOther (t := { s with boot := { s.boot with saStopped := false } }) rfl 0 (.inl (by decide))
  exact KeepsFrame.ite (hset.of_eq rfl rfl rfl rfl) (KeepsFrame.refl s)

theorem State.saScan_keepsFrame (s : State) : KeepsFrame h s s.saScan := (s.saDrop_keepsFrame h).setHead rfl

theorem State.holdScan_keepsFrame (s : State) (g : Nat) : KeepsFrame h s (s.holdScan g) := by
  unfold State.holdScan
  split
  · exact KeepsFrame.refl s
  · exact KeepsFrame.ite (KeepsFrame.refl s) (KeepsFrame.ite rfl (KeepsFrame.setHead (KeepsFrame.refl s) rfl))

theorem State.judgeTimetable_keepsFrame (s : State) : KeepsFrame h s (s.judgeTimetable h) :=
  have hset (tt : Nat × Nat) : KeepsFrame h s (s.setHead h { s.head h with fr := { (s.head h).fr with tt := tt } }) :=
    (KeepsFrame.refl s).setHead rfl
  KeepsFrame.ite (hset _) (KeepsFrame.ite (hset _) ((hset _).setFld 1 (offFrame_ttReject h)))

theorem State.seeTimetable_keepsFrame (s : State) (g : Nat) : KeepsFrame h s (s.seeTimetable g) :=
  (KeepsFrame.refl s).setHead rfl

/-! ### Overdrive -/

theorem State.odJudge_keepsFrame (s : State) (g : Nat) : KeepsFrame h s (s.odJudge g) := (KeepsFrame.refl s).setHead rfl

theorem State.odCold_keepsFrame (s : State) : KeepsFrame h s (s.odCold h) := by
  unfold State.odCold
  extract_lets x tp en cold
  have kcold : KeepsFrame h s (s.setHead h { x with od := { x.od with cold := if cold then x.od.cold + 1 else 0 } }) :=
    (KeepsFrame.refl s).setHead rfl
  exact kcold.setFld _ (offFrame_cold h)

theorem State.odBracket_keepsFrame (s : State) : KeepsFrame h s (s.odBracket h) := by
  unfold State.odBracket
  split
  split
  extract_lets x s1
  have k1 : KeepsFrame h s s1 := ((KeepsFrame.refl s).setFld _ (offFrame_od h 20 12)).setFld _ (offFrame_od h 7 1)
  have kset (o : OdState) : KeepsFrame h s (s1.setHead h { x with od := o }) := k1.setHead rfl
  split
  · exact (((kset _).setFld _ (offFrame_od h 6 1)).setFld _ (offFrame_od h 16 3)).setFld _ (offFrame_od h 8 8)
  · exact (kset _).setFld 1 (offFrame_od h 6 1)

theorem State.odFrame_keepsFrame (s : State) : KeepsFrame h s (s.odFrame h) :=
  KeepsFrame.ite (KeepsFrame.refl s)
    ((((s.odJudge_keepsFrame h h).trans (State.odCold_keepsFrame h _)).trans (State.odBracket_keepsFrame h _)).setFld _
      (offFrame_histValid h))

theorem State.odFrameEnd_keepsFrame (s : State) (g : Nat) : KeepsFrame h s (s.odFrameEnd g) :=
  KeepsFrame.ite (KeepsFrame.setHead (KeepsFrame.refl s) rfl) (KeepsFrame.refl s)

/-! ### Telltales -/

/-- The registers of the bunting plane lie above those of the heads. -/
theorem State.setSlotStatus_keepsFrame {s t : State} (k : KeepsFrame h s t) (g i lo w v : Nat) :
    KeepsFrame h s (t.setFld ⟨0xC000C + 0x400 * g + 0x10 * i, lo, w⟩ v) := k.setOther v (.inr (by dsimp only; omega))

theorem State.slotFails_keepsFrame (s : State) (g k : Nat) (kinds : List Nat) (anew : Bool) :
    KeepsFrame h s (s.slotFails g k kinds anew) := by
  unfold State.slotFails
  extract_lets x s1 s2
  have k1 : KeepsFrame h s s1 := (KeepsFrame.refl s).setHead rfl
  have k2 : KeepsFrame h s s2 := State.setSlotStatus_keepsFrame h (State.setSlotStatus_keepsFrame h k1 g k 29 1 1) g k 26 3 _
  have kfault : KeepsFrame h s (s2.setFld ⟨0xC1080 + 4 * g, k, 1⟩ 1) := k2.setOther 1 (.inr (by dsimp only; omega))
  exact KeepsFrame.ite (KeepsFrame.ite kfault k2) (kfault.raise _)

theorem State.sampleSlot_keepsFrame (s : State) (g : Nat) (absent : List (Nat × Nat)) (l : LatchedSlot) :
    KeepsFrame h s (s.sampleSlot g absent l).1 := by
  unfold State.sampleSlot
  extract_lets w sh k s1 x s2
  have k1 : KeepsFrame h s s1 := State.setSlotStatus_keepsFrame h (KeepsFrame.refl s) g l.slot 31 1 _
  have k2 : KeepsFrame h s s2 := KeepsFrame.ite k1 (k1.setHead rfl)
  exact KeepsFrame.ite k2 (k2.trans (s2.slotFails_keepsFrame h _ _ _ _))

theorem State.decideSlot_keepsFrame (s : State) (g n : Nat) (l : LatchedSlot) (wrong : Bool) :
    KeepsFrame h s (s.decideSlot g n l wrong) := by
  unfold State.decideSlot
  extract_lets shown img out off kinds
  have kdraw : KeepsFrame h s (if shown && wrong then s.draw else (Config.checkCrc l.count l.colour n, s)).2 := by
    split <;> rfl
  split
  next crc s0 hpair =>
  rw [hpair] at kdraw
  extract_lets s1 x
  have k1 : KeepsFrame h s s1 := KeepsFrame.ite (State.setSlotStatus_keepsFrame h kdraw g l.slot 0 16 crc) kdraw
  have kpass : KeepsFrame h s (s1.setHead g { x with failing := failStep x.failing l.slot false true }) := k1.setHead rfl
  exact KeepsFrame.ite (k1.trans (s1.slotFails_keepsFrame h _ _ _ _)) (KeepsFrame.ite k1
    (State.setSlotStatus_keepsFrame h (State.setSlotStatus_keepsFrame h kpass g l.slot 29 1 0) g l.slot 26 3 0))

theorem State.latchSlots_keepsFrame (s : State) (g n va : Nat) (absent : List (Nat × Nat)) :
    KeepsFrame h s (s.latchSlots g n va absent) := by
  unfold State.latchSlots
  extract_lets _ s0 r
  have k0 : KeepsFrame h s s0 := (KeepsFrame.refl s).setHead rfl
  have kr : KeepsFrame h s0 r.1 := by
    refine KeepsFrame.foldl_fst (fun acc l => ?_) _ (s0, [])
    split
    split_ifs
    · exact (acc.1.sampleSlot_keepsFrame h g absent l).trans (State.decideSlot_keepsFrame h _ _ _ _ _)
    · exact KeepsFrame.refl acc.1
  exact (k0.trans kr).setHead rfl

theorem State.sampleRow_keepsFrame (s : State) (g va y : Nat) (up : Bool) (absent : List (Nat × Nat)) :
    KeepsFrame h s (s.sampleRow g va y up absent) := by
  unfold State.sampleRow
  extract_lets r
  have kr : KeepsFrame h s r.1 := by
    refine KeepsFrame.foldl_fst (fun acc l => ?_) _ (s, [])
    split_ifs
    · exact acc.1.sampleSlot_keepsFrame h g absent l
    · exact KeepsFrame.refl acc.1
  exact kr.setHead rfl

theorem State.checkRow_keepsFrame (s : State) (g n hw va y : Nat) (up : Bool) (wrong : List Nat) :
    KeepsFrame h s (s.checkRow g n hw va y up wrong) := by
  unfold State.checkRow
  extract_lets ls r
  have kr : KeepsFrame h s r.1 := by
    refine KeepsFrame.foldl_fst (fun acc l => ?_) _ (s, [])
    extract_lets l1
    split_ifs
    · exact acc.1.decideSlot_keepsFrame h _ _ _ _
    · exact KeepsFrame.refl acc.1
  exact kr.setHead rfl

open State (KeepsFrame KeepsHeads)

/-! ### Plate words of a row -/

theorem State.countOff_keepsFrame (s : State) : KeepsFrame h s s.countOff :=
  ((KeepsFrame.refl s).setOther _ (.inr (by decide))).setOther 1 (.inr (by decide))

/-- The PBA's counters of refused requests and its flags lie at 8 and 12 modulo 16. -/
theorem State.countRefuse_keepsFrame (s : State) (c : Nat) : KeepsFrame h s (s.countRefuse c) := by
  have hcnt : (F.PBA_REFUSE_REFUSE_CNT c).OffFrame h := Field.offFrame_of_mod (by simp only [F.PBA_REFUSE_REFUSE_CNT]; omega)
  have hflag : (F.PBA_FLAGS_REFUSED c).OffFrame h := Field.offFrame_of_mod (by simp only [F.PBA_FLAGS_REFUSED]; omega)
  have kcnt : KeepsFrame h s (s.satAdd (F.PBA_REFUSE_REFUSE_CNT c) 1) := (KeepsFrame.refl s).setFld _ hcnt
  exact KeepsFrame.ite kcnt ((kcnt.setFld 1 hflag).raise _)

/-- A request that drains no buffer takes nothing from the Command Window. -/
theorem State.popIfDrain_of_ne (s : State) (c : Nat) {r : ReqBody} (hr : r ≠ .drain) : s.popIfDrain c r = s := by
  cases r with
  | drain => exact absurd rfl hr
  | _ => rfl

theorem State.present_keepsFrame (s : State) (c : Nat) {r : ReqBody} (hr : r ≠ .drain) (a : ReqBody) :
    KeepsFrame h s (s.present c r a) := by
  unfold State.present
  extract_lets s1 s2
  have k1 : KeepsFrame h s s1 := by unfold s1; rw [s.popIfDrain_of_ne c hr]; exact KeepsFrame.refl s
  have k2 : KeepsFrame h s s2 := KeepsFrame.ite k1 (k1.of_eq rfl rfl rfl rfl)
  exact k2.of_eq rfl rfl rfl rfl

theorem State.offHit_keepsFrame (s : State) (c : Nat) {r : ReqBody} (hr : r ≠ .drain) (a : ReqBody) :
    KeepsFrame h s (s.offHit c r a) := by
  have koff := s.countOff_keepsFrame h
  unfold State.offHit
  rw [s.popIfDrain_of_ne c hr]
  dsimp only
  split
  · exact koff.of_eq rfl rfl rfl rfl
  · exact koff

theorem State.refuseReq_keepsFrame (s : State) (c : Nat) {r : ReqBody} (hr : r ≠ .drain) (a : ReqBody) :
    KeepsFrame h s (s.refuseReq c r a) := by
  unfold State.refuseReq
  dsimp only
  split
  · exact absurd rfl hr
  · exact (s.countRefuse_keepsFrame h _).of_eq rfl rfl rfl rfl

theorem State.judgeReq_keepsFrame (s : State) (c : Nat) {r : ReqBody} (hr : r ≠ .drain) : KeepsFrame h s (s.judgeReq c r) := by
  have kwait (l : List ReqBody) : KeepsFrame h s (s.setWaiting c l) := rfl
  have kpresent (a : ReqBody) := s.present_keepsFrame h c hr a
  unfold State.judgeReq
  split
  · exact KeepsFrame.refl s
  · split_ifs
    · exact KeepsFrame.refl s
    · exact kwait _
    · exact s.offHit_keepsFrame h c hr _
    · exact KeepsFrame.refl s
    · exact kpresent _
    · exact kpresent _
    · exact kwait _
    · exact kpresent _
    · exact s.refuseReq_keepsFrame h c hr _

theorem State.plateRead_keepsFrame (s : State) (c a : Nat) : KeepsFrame h s (s.plateRead c a).2 := by
  have hce : KeepsFrame h s (s.satAdd F.PLATE_ECC_CE_CNT 1) := (KeepsFrame.refl s).setOther _ (.inr (by decide))
  have hue : KeepsFrame h s (s.satAdd F.PLATE_ECC_UE_CNT 1) := (KeepsFrame.refl s).setOther _ (.inr (by decide))
  unfold State.plateRead
  extract_lets w m d s1 s2 s1' s2'
  split_ifs
  · exact KeepsFrame.refl s
  · exact (KeepsFrame.ite hce ((hce.setOther 1 (.inr (by decide))).raise _) : KeepsFrame h s s2).trans
      (s2.judgeReq_keepsFrame h 20 (by simp))
  · exact KeepsFrame.ite hce ((hce.setOther 1 (.inr (by decide))).raise _)
  · have k2 : KeepsFrame h s s2' := KeepsFrame.ite hue
      (((hue.setOther _ (.inr (by decide))).setOther _ (.inr (by decide))).setOther 1 (.inr (by decide)))
    exact k2.raise _

theorem State.fetchWord_keepsFrame (c : Nat) (s : State) (w : Nat) : KeepsFrame h s (s.fetchWord c w) := by
  unfold State.fetchWord
  extract_lets t
  have kt : KeepsFrame h s t := State.plateRead_keepsFrame h (s.setCredit c (s.credit c - 1)) c w
  split_ifs
  · exact KeepsFrame.refl s
  · exact s.countOff_keepsFrame h
  · exact s.plateRead_keepsFrame h c w
  · exact kt.of_eq rfl rfl rfl rfl
  · exact s.refuseReq_keepsFrame h c (by simp) _

theorem State.fetchWords_keepsFrame (s : State) (c : Nat) (l : List Nat) : KeepsFrame h s (s.fetchWords c l) :=
  KeepsFrame.foldl (fun u w => u.fetchWord_keepsFrame h c w) l s

theorem State.dropFetched_keepsFrame (s : State) (c : Nat) (l : List Nat) : KeepsFrame h s (s.dropFetched c l) := rfl

/-! ### DISPLAY lines -/

theorem State.fetchRow_keepsFrame (s : State) (g y : Nat) : KeepsFrame h s (s.fetchRow g y) := by
  unfold State.fetchRow
  dsimp only
  split
  · exact (s.fetchWords_keepsFrame h _ _).trans (State.dropFetched_keepsFrame h _ _ _)
  · exact KeepsFrame.foldl (fun u l => u.fetchWords_keepsFrame h _ _) _ s

theorem State.fetchHistory_keepsFrame (s : State) (g y : Nat) : KeepsFrame h s (s.fetchHistory g y) :=
  have k1 := s.fetchWords_keepsFrame h 6 (s.histWords g (s.head g).od.plane 1 y)
  KeepsFrame.ite (KeepsFrame.refl s) (KeepsFrame.ite (k1.trans (State.fetchWords_keepsFrame h _ _ _)) k1)

theorem State.doneRow_keepsFrame (s : State) (g y : Nat) : KeepsFrame h s (s.doneRow g y) :=
  KeepsFrame.foldl (fun u (l : LatchedLayer) =>
    KeepsFrame.ite (c := l.reuses) (KeepsFrame.refl u) (u.dropFetched_keepsFrame h (7 + l.layer) _)) _ s

theorem State.wbRow_keepsFrame (s : State) (g y : Nat) (row : List Pix) : KeepsFrame h s (s.wbRow g y row) := by
  unfold State.wbRow
  split
  · exact KeepsFrame.refl s
  · exact KeepsFrame.ite (KeepsFrame.refl s)
      (KeepsFrame.ite rfl (KeepsFrame.of_eq (s.countRefuse_keepsFrame h 15) rfl rfl rfl rfl))

theorem State.panelRow_keepsFrame (s : State) (g y : Nat) (row : List Pix) : KeepsFrame h s (s.panelRow g y row).2 :=
  KeepsFrame.ite rfl rfl

theorem State.doneHistory_keepsFrame (s : State) (g y : Nat) : KeepsFrame h s (s.doneHistory g y) := rfl

/-- IN_STATUS lies at 8 modulo 0x40. -/
theorem offFrame_vc1Late (p : Nat) : (F.IN_STATUS_VC1_LATE p).OffFrame h :=
  Field.offFrame_of_mod (by simp only [F.IN_STATUS_VC1_LATE]; omega)

theorem State.useDirect_keepsFrame (s : State) (g y : Nat) (up : Bool) : KeepsFrame h s (s.useDirect g y up) := by
  refine KeepsFrame.foldl (fun u l => ?_) _ s
  split
  · exact KeepsFrame.refl u
  · next p n _ =>
    extract_lets k x got used s1
    have k1 : KeepsFrame h u s1 := rfl
    exact KeepsFrame.ite (KeepsFrame.refl u) (KeepsFrame.ite k1 (k1.setFld 1 (offFrame_vc1Late h p)))

/-- R571: a DISPLAY line is one more row shown, and nothing else of the frame. -/
theorem State.displayLine_eq (s : State) (n : Nat) (wrong : List Nat) : ∃ t, KeepsFrame h s t ∧
    s.displayLine h n wrong = t.setFrame h { t.frameOf h with shown := (t.frameOf h).shown + 1 } := by
  unfold State.displayLine
  extract_lets e va up y bits s0 src s1
  have k0 : KeepsFrame h s s0 := (s.fetchRow_keepsFrame h h y).trans (State.fetchHistory_keepsFrame h _ _ _)
  have k1 : KeepsFrame h s0 s1 := (s0.doneRow_keepsFrame h h y).trans (State.wbRow_keepsFrame h _ _ _ _)
  have kpanel := s1.panelRow_keepsFrame h h y src
  split
  next row s2 hpanel =>
  rw [hpanel] at kpanel
  extract_lets s3 out s4
  have k3 : KeepsFrame h s2 s3 := ((s2.doneHistory_keepsFrame h h y).trans (State.useDirect_keepsFrame h _ _ _ _)).trans
    (State.sampleRow_keepsFrame h _ _ _ _ _ _)
  have k4 : KeepsFrame h s3 s4 := (s3.sendLine_keepsFrame h h n _).trans (State.checkRow_keepsFrame h _ _ _ _ _ _ _ _)
  exact ⟨s4, (((k0.trans k1).trans kpanel).trans k3).trans k4, rfl⟩

theorem State.frameView_displayLine (s : State) (n : Nat) (wrong : List Nat) :
    (s.displayLine h n wrong).frameView h =
      { s.frameView h with core := { (s.frameView h).core with shown := (s.frameView h).core.shown + 1 } } := by
  obtain ⟨t, k, ht⟩ := s.displayLine_eq h n wrong
  rw [ht, State.setFrame, State.frameView_setHead, ← k]
  rfl

/-! ### What an event shows of the frame -/

theorem State.frameView_setState (s : State) (v : Nat) :
    (s.setFld (F.HEAD_STATUS_STATE h) v).frameView h = { s.frameView h with state := v % 16 } :=
  have keeps (g : Field) := State.fld_setFld_apart s (F.HEAD_STATUS_STATE h) g v
  FrameView.ext rfl rfl rfl (State.fld_setFld s (F.HEAD_STATUS_STATE h) v (by decide : 28 + 4 ≤ 32))
    (keeps _ (apart_of_above (by decide))) (keeps _ (apart_of_above (by decide))) (keeps _ (apart_status_tt h _ _ _ _))
    (keeps _ (apart_status_tt h _ _ _ _))

theorem State.frameView_setParity (s : State) (v : Nat) :
    (s.setFld (F.HEAD_STATUS_PARITY h) v).frameView h = { s.frameView h with parity := v % 2 } :=
  have keeps (g : Field) := State.fld_setFld_apart s (F.HEAD_STATUS_PARITY h) g v
  FrameView.ext rfl rfl rfl (keeps _ (apart_of_below (by decide)))
    (State.fld_setFld s (F.HEAD_STATUS_PARITY h) v (by decide : 25 + 1 ≤ 32)) (keeps _ (apart_of_above (by decide)))
    (keeps _ (apart_status_tt h _ _ _ _)) (keeps _ (apart_status_tt h _ _ _ _))

theorem State.frameView_setIdle (s : State) (v : Nat) :
    (s.setFld (F.HEAD_STATUS_IDLE h) v).frameView h = { s.frameView h with idle := v % 2 } :=
  have keeps (g : Field) := State.fld_setFld_apart s (F.HEAD_STATUS_IDLE h) g v
  FrameView.ext rfl rfl rfl (keeps _ (apart_of_below (by decide))) (keeps _ (apart_of_below (by decide)))
    (State.fld_setFld s (F.HEAD_STATUS_IDLE h) v (by decide : 20 + 1 ≤ 32)) (keeps _ (apart_status_tt h _ _ _ _))
    (keeps _ (apart_status_tt h _ _ _ _))

theorem State.frameView_setLine (s : State) (v : Nat) :
    (s.setFld (F.HEAD_TT_STATUS_LINE h) v).frameView h = { s.frameView h with line := v % 65536 } :=
  have keeps (g : Field) := State.fld_setFld_apart s (F.HEAD_TT_STATUS_LINE h) g v
  FrameView.ext rfl rfl rfl (keeps _ (apart_tt_status h _ _ _ _)) (keeps _ (apart_tt_status h _ _ _ _))
    (keeps _ (apart_tt_status h _ _ _ _)) (State.fld_setFld s (F.HEAD_TT_STATUS_LINE h) v (by decide : 0 + 16 ≤ 32))
    (keeps _ (apart_of_below (by decide)))

theorem State.frameView_setKind (s : State) (v : Nat) :
    (s.setFld (F.HEAD_TT_STATUS_KIND h) v).frameView h = { s.frameView h with kind := v % 4 } :=
  have keeps (g : Field) := State.fld_setFld_apart s (F.HEAD_TT_STATUS_KIND h) g v
  FrameView.ext rfl rfl rfl (keeps _ (apart_tt_status h _ _ _ _)) (keeps _ (apart_tt_status h _ _ _ _))
    (keeps _ (apart_tt_status h _ _ _ _)) (keeps _ (apart_of_above (by decide)))
    (State.fld_setFld s (F.HEAD_TT_STATUS_KIND h) v (by decide : 28 + 2 ≤ 32))

/-! ### Frame starts -/

/-- A frame as its start leaves it. -/
def FrameView.started (v : FrameView) (early : Bool) : FrameView :=
  { v with
    core := ⟨false, true, true, 0, 0, early, (v.core.count + 1) % 65536⟩
    parity := if v.core.sent then 1 - v.parity else 0
    idle := 0, line := 0, kind := kindDisplay }

/-- R573. -/
theorem State.nextParity_eq (s : State) :
    s.nextParity h = if (s.frameView h).core.sent then 1 - (s.frameView h).parity else 0 := rfl

theorem State.nextParity_lt (s : State) : s.nextParity h < 2 := by
  rw [s.nextParity_eq h]
  split <;> omega

/-- R685: the UNFURLED chains of a head take part in the frame that starts. -/
theorem State.joinAll_keepsFrame (s : State) (g : Nat) : KeepsFrame h s (s.each (s.chainsOf g) (fun s c =>
    if s.chainState c = chUnfurled then s.setChain c { s.chain c with joined := true } else s)) := by
  refine KeepsFrame.foldl (fun u c => ?_) _ s
  exact KeepsFrame.ite rfl (KeepsFrame.refl u)

/-- R445, R573: the new frame of a frame start follows from the frame before it alone. -/
theorem State.frameView_startFrame (s : State) (early : Bool) :
    (s.startFrame h early).frameView h = (s.frameView h).started early := by
  unfold State.startFrame
  extract_lets x0 s0 s1 x par _ s2 s2' _ s3 s4 s5 s6 s7 s8 s9 _ _ s10
  have k1 : KeepsFrame h s s1 :=
    (KeepsFrame.ite (s.ledgerAdd_keepsFrame h h) (KeepsFrame.refl s) : KeepsFrame h s s0).trans (s0.applyStages_keepsFrame h h)
  have hpar : par = if (s.frameView h).core.sent then 1 - (s.frameView h).parity else 0 := by rw [← k1]; rfl
  have v2 : s2.frameView h =
      { s1.frameView h with core := ⟨false, true, true, 0, 0, early, ((s1.frameView h).core.count + 1) % 65536⟩ } :=
    s1.frameView_setHead h _
  have v4 : s4.frameView h = { s3.frameView h with parity := par } := by
    rw [s3.frameView_setParity h par, Nat.mod_eq_of_lt (s1.nextParity_lt h)]
  clear_value s1 s2
  have k2' : KeepsFrame h s2 s2' := KeepsFrame.ite (s2.saScan_keepsFrame h)
    ((s2.modeFrame_keepsFrame h).trans (State.holdScan_keepsFrame h _ _))
  clear_value s2'
  have k3 : KeepsFrame h s2 s3 := k2'.setHead rfl
  clear_value s3 s4
  have k5 : KeepsFrame h s4 s5 :=
    ((KeepsFrame.refl s4).setFld _ (offFrame_fphase h)).trans (State.judgeTimetable_keepsFrame h _)
  clear_value s5
  have k6 : KeepsFrame h s5 s6 := KeepsFrame.ite (s5.latchHead_keepsFrame h h) (KeepsFrame.refl s5)
  clear_value s6
  have k7 : KeepsFrame h s6 s7 := (s6.wbFrameStart_keepsFrame h h _).trans (State.odFrame_keepsFrame h _)
  clear_value s7
  have k8 : KeepsFrame h s7 s8 := s7.joinAll_keepsFrame h h
  clear_value s8
  have k9 : KeepsFrame h s8 s9 := s8.latchSlots_keepsFrame h h _ _ _
  clear_value s9
  have k10 : KeepsFrame h s9 s10 := (KeepsFrame.refl s9).setHead rfl
  clear_value s10
  calc _ = { s10.frameView h with idle := 0, line := 0, kind := kindDisplay } := by
        rw [State.frameView_setKind, State.frameView_setLine, State.frameView_setIdle]; rfl
    _ = (s.frameView h).started early := by rw [k10, k9, k8, k7, k6, k5, v4, k3, v2, k1, hpar]; rfl

open State (KeepsFrame KeepsHeads)

/-! ### Line periods -/

/-- The frame while its line `n`, of kind `kind`, is sent. -/
def FrameView.lineOf (v : FrameView) (n kind : Nat) : FrameView :=
  { v with
    core := { v.core with shown := v.core.shown + (if kind = kindDisplay then 1 else 0) }
    idle := 0, line := n, kind := kind }

theorem State.frameView_showLine (s : State) {n kind : Nat} (hn : n < 65536) (hk : kind < 4) :
    (s.showLine h n kind false).frameView h = { s.frameView h with idle := 0, line := n, kind := kind } := by
  unfold State.showLine State.setBit
  rw [State.frameView_setIdle, State.frameView_setKind, State.frameView_setLine, Nat.min_eq_left (by omega), Nat.mod_eq_of_lt hn,
    Nat.mod_eq_of_lt hk]
  rfl

theorem lineKind_lt (va vt g ts i : Nat) : lineKind va vt g ts i < 4 := by
  unfold lineKind
  split_ifs <;> decide

/-- R400: the kind of line `n` of head `h` by its profile and the timetable in force. -/
def State.kindOf (s : State) (n : Nat) : Nat :=
  lineKind (entVact (s.entry h)) (entVtotal (s.entry h)) (s.frameOf h).tt.1 (s.frameOf h).tt.2 n

theorem State.frameView_layoutLine (s : State) {n : Nat} (hn : n < 65536) (wrong : List Nat) :
    (s.layoutLine h n wrong).frameView h = (s.frameView h).lineOf n (s.kindOf h n) := by
  have hk : s.kindOf h n < 4 := lineKind_lt ..
  have hshow : (s.showLine h n (s.kindOf h n) false).frameView h = _ := s.frameView_showLine h hn hk
  have hline : s.layoutLine h n wrong =
      if s.kindOf h n = kindDisplay then (s.showLine h n (s.kindOf h n) false).displayLine h n wrong
      else (if s.kindOf h n = kindTouch ∧ ((s.showLine h n (s.kindOf h n) false).frameOf h).slotLeft = 0 then
        (s.showLine h n (s.kindOf h n) false).openSlot h n else s.showLine h n (s.kindOf h n) false).sendLine h n none := rfl
  rw [hline]
  split
  · next hd =>
    rw [State.frameView_displayLine, hshow, FrameView.lineOf, if_pos hd]
  · next hd =>
    generalize s.showLine h n (s.kindOf h n) false = t at hshow ⊢
    have kslot : KeepsFrame h t (if s.kindOf h n = kindTouch ∧ (t.frameOf h).slotLeft = 0 then t.openSlot h n else t) :=
      KeepsFrame.ite (t.openSlot_keepsFrame h h n) (KeepsFrame.refl t)
    rw [(kslot.trans (State.sendLine_keepsFrame h _ h n none) :), hshow, FrameView.lineOf, if_neg hd]
    rfl

/-! What a line does before it is sent leaves the layout of the frame. -/

/-- `t` has the profile and the timetable in force of `s`, and its frame. -/
def State.KeepsLayout (s t : State) : Prop := KeepsFrame h s t ∧ t.entry h = s.entry h ∧ (t.frameOf h).tt = (s.frameOf h).tt

variable {h} in
theorem State.KeepsLayout.trans {s t u : State} (k : s.KeepsLayout h t) (l : t.KeepsLayout h u) : s.KeepsLayout h u :=
  ⟨k.1.trans l.1, l.2.1.trans k.2.1, l.2.2.trans k.2.2⟩

/-- The registers, the heads, the Command Window and the Plate. -/
def State.base (s : State) : List (Nat × Word) × Vector HeadState 4 × CwState × PlateState := (s.regs, s.heads, s.cw, s.plate)

theorem State.keepsLayout_of_base {s t : State} (hb : t.base = s.base) : s.KeepsLayout h t := by
  obtain ⟨hregs, hheads, hcw, hplate⟩ : t.regs = s.regs ∧ t.heads = s.heads ∧ t.cw = s.cw ∧ t.plate = s.plate := by
    simpa [State.base] using hb
  refine ⟨KeepsFrame.of_eq (KeepsFrame.refl s) hcw (by rw [hplate]) hregs hheads, ?_, ?_⟩
  · simp only [State.entry, State.rd, hregs]
  · simp only [State.frameOf, State.head, hheads]

theorem State.quiet_keepsLayout (s : State) : s.KeepsLayout h (s.quiet h) :=
  State.keepsLayout_of_base h (foldl_keeps State.base (f := fun (u : State) (c : Nat) => u.send c []) (fun _ _ => rfl) _ s)

theorem State.emitAll_keepsLayout (s : State) (b : List Block) : s.KeepsLayout h (s.emitAll h b) :=
  State.keepsLayout_of_base h (foldl_keeps State.base (f := fun (u : State) (c : Nat) => u.emit c b) (fun _ _ => rfl) _ s)

theorem State.upset_keepsLayout (s : State) (l : List (Fin 32 × Fin 2 × Nat × Word)) : s.KeepsLayout h (s.upset l) :=
  State.keepsLayout_of_base h (by
    refine foldl_keeps State.base (fun u x => ?_) l s
    rfl)

theorem State.setFrame_keepsLayout (s : State) {f : FrameState} (hcore : ({ s.head h with fr := f } : HeadState).core = (s.head h).core)
    (htt : f.tt = (s.frameOf h).tt) : s.KeepsLayout h (s.setFrame h f) :=
  ⟨State.setFrame_keepsFrame h (KeepsFrame.refl s) hcore, rfl, by rw [State.frameOf_setFrame, htt]⟩

theorem State.closeSlot_keepsLayout (s : State) : s.KeepsLayout h (s.closeSlot h) := by
  have hset := s.setFrame_keepsLayout h (f := { s.frameOf h with slotLeft := 0 }) rfl rfl
  refine hset.trans (State.keepsLayout_of_base h (foldl_keeps State.base (fun u c => ?_) _ _))
  split <;> rfl

theorem State.passSlot_keepsLayout (s : State) : s.KeepsLayout h (s.passSlot h).2 := by
  unfold State.passSlot
  dsimp only
  split_ifs
  · exact State.keepsLayout_of_base h rfl
  · exact s.closeSlot_keepsLayout h
  · exact s.setFrame_keepsLayout h rfl rfl

theorem State.idleFrom_lt (s : State) : s.idleFrom h < 65536 := by
  have hv : entVtotal (s.entry h) < 8192 := Nat.mod_lt _ (by decide)
  unfold State.idleFrom
  omega

/-- R400, R406: a line before the CAL line and the idle lines is sent as the layout of its frame has it. -/
theorem State.frameView_nextLine (s : State) (wrong : List Nat) (hn : (s.frameOf h).next < s.idleFrom h) :
    (s.nextLine h wrong).frameView h =
      ({ s.frameView h with core := { (s.frameView h).core with next := (s.frameOf h).next + 1 } } : FrameView).lineOf
        (s.frameOf h).next (s.kindOf h (s.frameOf h).next) := by
  unfold State.nextLine
  generalize (s.frameOf h).next = n at hn ⊢
  have hpass : s.KeepsLayout h ((s.quiet h).passSlot h).2 := (s.quiet_keepsLayout h).trans (State.passSlot_keepsLayout h _)
  generalize (s.quiet h).passSlot h = r at hpass ⊢
  obtain ⟨closed, s1⟩ := r
  generalize hs2 : (if (s1.frameOf h).early && n == 0 then
    s1.emitAll h [frameStartBlock (s1.fld (F.HEAD_STATUS_PARITY h)) (s1.fld (F.HEAD_STATUS_FPHASE h)) (s1.frameOf h).count]
    else s1) = s2
  have k2 : s.KeepsLayout h s2 := by
    rw [← hs2]
    split
    · exact hpass.trans (State.emitAll_keepsLayout h s1 _)
    · exact hpass
  generalize hs3 : s2.setFrame h { s2.frameOf h with next := n + 1 } = s3
  have k3 : s3.entry h = s.entry h ∧ (s3.frameOf h).tt = (s.frameOf h).tt := by
    rw [← hs3, State.frameOf_setFrame]
    exact k2.2
  have v3 : s3.frameView h = { s.frameView h with core := { (s.frameView h).core with next := n + 1 } } := by
    rw [← hs3, ← k2.1]
    exact s2.frameView_setHead h _
  have hn3 : n < s3.idleFrom h := by
    unfold State.idleFrom at hn ⊢
    rwa [k3.1]
  dsimp only
  rw [hs2, hs3, if_pos hn3, s3.frameView_layoutLine h (hn3.trans (s3.idleFrom_lt h)), v3, State.kindOf, k3.1, k3.2]
  rfl

open State (KeepsFrame KeepsHeads)

/-! ### Frame boundaries -/

theorem State.draw_keepsFrame (s : State) : KeepsFrame h s s.draw.2 := rfl

theorem State.firstFrame_keepsFrame (s : State) (g : Nat) : KeepsFrame h s (s.firstFrame g) := by
  have kset : KeepsFrame h s ((s.draw.2.setFld F.BOOT_SA_STATUS_FIRST_FRAME 1).setFld F.BOOT_T_FIRST_FRAME_T_US
      (max 1 (1000 * s.ticks + s.draw.1 % 1000))) :=
    ((s.draw_keepsFrame h).setOther 1 (.inl (by decide))).setOther _ (.inl (by decide))
  exact KeepsFrame.ite kset (KeepsFrame.refl s)

theorem State.faultReady_keepsFrame (s : State) : KeepsFrame h s s.faultReady :=
  KeepsFrame.ite ((KeepsFrame.refl s).setOther 1 (.inr (by decide))) (KeepsFrame.refl s)

theorem State.dropRefused_keepsFrame (s : State) (g : Nat) : KeepsFrame h s (s.dropRefused g) := rfl

/-- R27: a boundary begins with the vertical blanking of its head; the rest of it changes nothing of the frame. -/
theorem State.boundary_keepsFrame (s : State) :
    KeepsFrame h (s.setHead h { s.head h with blank := true }) (s.boundary h) := by
  unfold State.boundary
  extract_lets _ s1
  have k1 : KeepsFrame h (s.setHead h { s.head h with blank := true }) s1 :=
    (((State.seeTimetable_keepsFrame h _ h).trans (State.wbFrameEnd_keepsFrame h _ h)).trans
      (State.odFrameEnd_keepsFrame h _ h)).trans (State.dropRefused_keepsFrame h _ h)
  exact (KeepsFrame.ite (k1.trans (s1.faultReady_keepsFrame h)) k1).trans (State.firstFrame_keepsFrame h _ h)

theorem State.frameView_boundary (s : State) :
    (s.boundary h).frameView h = { s.frameView h with core := { (s.frameView h).core with blank := true } } := by
  rw [s.boundary_keepsFrame h, State.frameView_setHead]
  rfl

theorem State.saTake_keepsFrame (s : State) (i : Nat) : KeepsFrame h s (s.saTake i) := by
  unfold State.saTake
  extract_lets j x b _ s1 s2
  have k2 : KeepsFrame h s s2 := rfl
  exact k2.setOther _ (.inl (by decide))

theorem State.saSelect_keepsFrame (s : State) : KeepsFrame h s s.saSelect :=
  KeepsFrame.ite (KeepsFrame.refl s) (KeepsFrame.ite (s.saTake_keepsFrame h 2)
    (KeepsFrame.ite (s.saTake_keepsFrame h 0) (KeepsFrame.refl s)))

theorem State.saUncounted_keepsFrame (s : State) : KeepsFrame h s s.saUncounted :=
  KeepsFrame.ite (s.saDrop_keepsFrame h) (KeepsFrame.refl s)

/-- R28, R562: at a boundary a head that is not STOPPING goes on. -/
theorem State.anyBoundary_keepsFrame (s : State) (hs : s.headState h ≠ 3) : KeepsFrame h s (s.anyBoundary h) := by
  unfold State.anyBoundary
  extract_lets s0 s1
  have k0 : KeepsFrame h s s0 := KeepsFrame.ite rfl (KeepsFrame.refl s)
  have k1 : KeepsFrame h s s1 := KeepsFrame.ite
    ((k0.trans (s0.saSelect_keepsFrame h)).trans (State.saUncounted_keepsFrame h _)) k0
  have hs1 : s1.headState h ≠ 3 := by
    rwa [show s1.headState h = s.headState h from congrArg FrameView.state k1]
  rw [if_neg hs1]
  exact k1.trans (s1.touchJudge_keepsFrame h h)

/-! ### The events -/

theorem State.ifLive_of_on {s : State} (hs : s.off = false) (t : State) : s.ifLive t = t := by
  rw [State.ifLive, hs]
  rfl

theorem exec_firstCountedFrame (s : State) : exec (.firstCountedFrame h) s = execFirstCountedFrame h s := rfl
theorem exec_frameStart (s : State) : exec (.frameStart h) s = execFrameStart h s := rfl
theorem exec_linePeriod (wrong : List Nat) (ups : List (Fin 32 × Fin 2 × Nat × Word)) (s : State) :
    exec (.linePeriod h wrong ups) s = execLinePeriod h wrong ups s := rfl
theorem exec_frameBoundary (s : State) : exec (.frameBoundary h) s = execFrameBoundary h s := rfl
theorem exec_urgentFrameStart (s : State) : exec (.urgentFrameStart h) s = execUrgentFrameStart h s := rfl
theorem exec_holdMaxExpiry (s : State) : exec (.holdMaxExpiry h) s = execHoldMaxExpiry h s := rfl
theorem exec_tableLoad (k : Fin 6) (s : State) : exec (.tableLoad h k) s = execTableLoad h k s := rfl

/-- What follows a frame start in its row changes nothing of the new frame. -/
theorem State.frameView_begun (s : State) (early : Bool) :
    (((s.startFrame h early).sendLevel h).touchJudge h).frameView h = (s.frameView h).started early := by
  rw [((State.sendLevel_keepsFrame h _ h).trans (State.touchJudge_keepsFrame h _ h) :), State.frameView_startFrame]

/-- R69, R403, R560: the first counted frame of a STARTING head. -/
theorem firstCountedFrame_starts {s : State} (hs : s.off = false) (hstate : s.headState h = 1)
    (hready : s.chainsReady h = true) (hdue : (s.head h).od.due = []) :
    ∃ t, exec (.firstCountedFrame h) s = .next t ∧ t.frameView h = { (s.frameView h).started true with state := 2 } := by
  refine ⟨_, by rw [exec_firstCountedFrame, execFirstCountedFrame, State.ifLive_of_on hs,
    if_pos ⟨hstate, hready, by simp [hdue]⟩], ?_⟩
  rw [State.frameView_begun, ((State.quiet_keepsFrame h _ h).trans (State.seeTimetable_keepsFrame h _ h) :),
    State.frameView_setState]
  rfl

theorem firstCountedFrame_waits {s : State} (hs : s.off = false)
    (hwait : s.chainsReady h = false ∨ (s.head h).od.due ≠ []) : exec (.firstCountedFrame h) s = .next s := by
  rw [exec_firstCountedFrame, execFirstCountedFrame, State.ifLive_of_on hs, if_neg]
  rintro ⟨-, hready, hdue⟩
  rcases hwait with hc | hd
  · exact absurd hready (by simp [hc])
  · exact hd (by simpa using hdue)

/-- R489, R573: the frame after a CAL line. -/
theorem frameStart_starts {s : State} (hs : s.off = false) (hrun : s.headRunning h = true) (hon : (s.frameOf h).on = true)
    (hcal : s.calBegun h = true) :
    ∃ t, exec (.frameStart h) s = .next t ∧ t.frameView h = (s.frameView h).started false := by
  refine ⟨_, by rw [exec_frameStart, execFrameStart, State.ifLive_of_on hs, if_pos ⟨hrun, hon, hcal⟩], ?_⟩
  rw [State.frameView_begun, s.quiet_keepsFrame h h]

/-- R412, R607: an urgent request ends idle lines with a frame that no CAL line precedes. -/
theorem urgentFrameStart_starts {s : State} (hs : s.off = false) (hstate : s.headState h = 2) (hon : (s.frameOf h).on = true)
    (hidle : s.bit (F.HEAD_STATUS_IDLE h) = true) (hevent : (s.head h).event = true) (hfurl : s.headFurled h = false) :
    ∃ t, exec (.urgentFrameStart h) s = .next t ∧ t.frameView h = (s.frameView h).started true := by
  have kslot : KeepsFrame h s (if (s.frameOf h).slotLeft = 0 then s.quiet h else (s.quiet h).closeSlot h) :=
    KeepsFrame.ite (s.quiet_keepsFrame h h) ((s.quiet_keepsFrame h h).trans (State.closeSlot_keepsFrame h _ h))
  refine ⟨_, by rw [exec_urgentFrameStart, execUrgentFrameStart, State.ifLive_of_on hs, if_neg (by simp [hstate, hon, hidle, hevent]),
    if_neg (by simp [hfurl])], ?_⟩
  rw [State.frameView_begun, kslot]

/-- R400: a line period of a frame's own layout. -/
theorem linePeriod_sends {s : State} (wrong : List Nat) (ups : List (Fin 32 × Fin 2 × Nat × Word)) (hs : s.off = false)
    (hrun : s.headRunning h = true) (hon : (s.frameOf h).on = true) (hcal : s.calBegun h = false)
    (hidle : s.bit (F.HEAD_STATUS_IDLE h) = false)
    (hin : (s.head h).blank = true ∨ (s.frameOf h).next ≤ s.lastActive h) (hn : (s.frameOf h).next < s.idleFrom h) :
    ∃ t, exec (.linePeriod h wrong ups) s = .next t ∧ t.frameView h =
      ({ s.frameView h with core := { (s.frameView h).core with next := (s.frameOf h).next + 1 } } : FrameView).lineOf
        (s.frameOf h).next (s.kindOf h (s.frameOf h).next) := by
  obtain ⟨kf, hentry, htt⟩ := s.upset_keepsLayout h ups
  have hnext : ((s.upset ups).frameOf h).next = (s.frameOf h).next := congrArg (fun v => v.core.next) kf
  have hidleFrom : (s.upset ups).idleFrom h = s.idleFrom h := by rw [State.idleFrom, State.idleFrom, hentry]
  have hgo : (!s.headRunning h || !(s.frameOf h).on || s.calBegun h ||
      (!(s.head h).blank && decide (s.lastActive h < (s.frameOf h).next))) = false := by
    rcases hin with hb | hle
    · simp [hrun, hon, hcal, hb]
    · simp [hrun, hon, hcal, Nat.not_lt.2 hle]
  refine ⟨_, by rw [exec_linePeriod, execLinePeriod, State.ifLive_of_on hs, if_neg (by simp [hgo]), if_neg (by simp [hidle]),
    if_neg (by simp [hidle])], ?_⟩
  rw [State.frameView_nextLine h _ wrong (by rwa [hnext, hidleFrom]), kf, hnext, State.kindOf, hentry, htt]
  rfl

/-- R27: a counted frame's boundary falls behind its last active line. -/
theorem frameBoundary_falls {s : State} (hs : s.off = false) (hrun : s.headRunning h = true) (hon : (s.frameOf h).on = true)
    (hblank : (s.head h).blank = false) (hlast : (s.frameOf h).next = s.lastActive h + 1) :
    exec (.frameBoundary h) s = .next ((s.boundary h).anyBoundary h) := by
  rw [exec_frameBoundary, execFrameBoundary, State.ifLive_of_on hs, if_pos (by simp [hrun, hon]),
    if_neg (by simp [hblank, hlast])]

theorem frameBoundary_waits {s : State} (hs : s.off = false) (hrun : s.headRunning h = true) (hon : (s.frameOf h).on = true)
    (hwait : (s.head h).blank = true ∨ (s.frameOf h).next ≠ s.lastActive h + 1) : exec (.frameBoundary h) s = .next s := by
  rw [exec_frameBoundary, execFrameBoundary, State.ifLive_of_on hs, if_pos (by simp [hrun, hon]), if_pos (by simpa using hwait)]

/-- R27: from its boundary on a RUNNING head is in vertical blanking. -/
theorem State.blank_boundary (s : State) (hstate : s.headState h = 2) :
    (((s.boundary h).anyBoundary h).head h).blank = true := by
  have hb := s.frameView_boundary h
  have hgoes : (s.boundary h).headState h ≠ 3 := by
    rw [show (s.boundary h).headState h = s.headState h from congrArg FrameView.state hb, hstate]
    decide
  calc (((s.boundary h).anyBoundary h).head h).blank
    _ = ((s.boundary h).frameView h).core.blank :=
      congrArg (fun v => v.core.blank) ((s.boundary h).anyBoundary_keepsFrame h hgoes)
    _ = true := by rw [hb]

/-! ### Holds and table loads -/

/-- R608. -/
theorem holdMaxExpiry_ends {s : State} (hs : s.off = false) (hrun : s.headRunning h = true) (hon : (s.frameOf h).on = true)
    (hhold : (s.frameOf h).planned = none) (ht : (s.frameOf h).at_ + 1000 * entHoldMax (s.entry h) ≤ s.ticks) :
    exec (.holdMaxExpiry h) s = .next (s.setFrame h { s.frameOf h with holdOver := true }) := by
  rw [exec_holdMaxExpiry, execHoldMaxExpiry, State.ifLive_of_on hs, if_pos ⟨hrun, hon, by simp [hhold], ht⟩]

theorem holdMaxExpiry_waits {s : State} (hs : s.off = false)
    (ht : s.ticks < (s.frameOf h).at_ + 1000 * entHoldMax (s.entry h)) : exec (.holdMaxExpiry h) s = .next s := by
  rw [exec_holdMaxExpiry, execHoldMaxExpiry, State.ifLive_of_on hs, if_neg (fun ⟨_, _, _, hover⟩ => absurd hover (Nat.not_le.2 ht))]

/-- R601: a load that is due and whose area is free is carried out. -/
theorem tableLoad_loads {s : State} (k : Fin 6) (hs : s.off = false) (hrun : s.runtime = true) (hhalt : s.boot.halted = false)
    (hdue : k.val ∈ (s.head h).od.due) (hfree : s.areaUsed h k = false) (hhead : s.pdOn (15 + h.val / 2) = true)
    (hetch : s.pdOn 9 = true) : exec (.tableLoad h k) s = .next (s.loadTable h k) := by
  rw [exec_tableLoad, execTableLoad, State.ifLive_of_on hs,
    if_pos ⟨by simp [State.runtimeWorks, hrun, hhalt], by simpa using hdue, by simp [hfree], hhead, hetch⟩]

/-- R601, R603: a load is due no longer once it has been carried out, whatever it found. -/
theorem State.due_loadTable (s : State) (k : Nat) :
    ((s.loadTable h k).head h).od.due = (s.head h).od.due.filter (· != k) := by
  have hrec := (s.record_keepsHeads (0x3000 + 8 * h + k)).1
  unfold State.loadTable
  generalize s.record (0x3000 + 8 * h + k) = r at hrec ⊢
  obtain ⟨p, s1⟩ := r
  have hhead : s1.head h = s.head h := by simp only [State.head]; rw [hrec]
  have hset (x : HeadState) (hx : x.od.due = (s.head h).od.due.filter (· != k)) :
      ((s1.setHead h x).head h).od.due = (s.head h).od.due.filter (· != k) := by rw [State.head_setHead_same, hx]
  dsimp only
  rw [hhead]
  split_ifs <;> exact hset _ rfl

end

/-- Settles O47: each clause by the lemma on its event, and what the event shows by the frame that it leaves. -/
theorem frameEvents : Obligations.FrameEvents := by
  unfold Obligations.FrameEvents
  refine ⟨?first, ?start, ?line, ?boundary, ?urgent, ?hold, ?table⟩
  case first =>
    intro s h hs hstate
    refine ⟨fun hready hdue => ?_, firstCountedFrame_waits h hs⟩
    obtain ⟨t, ht, hv⟩ := firstCountedFrame_starts h hs hstate hready hdue
    have shows {α : Type} (f : FrameView → α) := congrArg f hv
    exact ⟨t, ht, shows (·.state), shows (·.core.on), shows (·.core.next), shows (·.core.count), shows (·.core.blank), shows (·.cw)⟩
  case start =>
    intro s h hs hrun hon hcal
    obtain ⟨t, ht, hv⟩ := frameStart_starts h hs hrun hon hcal
    have shows {α : Type} (f : FrameView → α) := congrArg f hv
    refine ⟨t, ht, shows (·.state), shows (·.core.on), shows (·.core.next), shows (·.core.count), shows (·.core.blank),
      shows (·.cw), fun hsent => ?_⟩
    exact (shows (·.parity)).trans (if_pos hsent)
  case line =>
    intro s h wrong ups hs hrun hon hcal hidle hin e n kind hn
    obtain ⟨t, ht, hv⟩ := linePeriod_sends h wrong ups hs hrun hon hcal hidle hin hn
    have shows {α : Type} (f : FrameView → α) := congrArg f hv
    exact ⟨t, ht, shows (·.core.next), shows (·.line), shows (·.kind), shows (·.core.shown), shows (·.state), shows (·.cw),
      shows (·.mem)⟩
  case boundary =>
    intro s h hs hrun hon
    exact ⟨fun hblank hlast => ⟨frameBoundary_falls h hs hrun hon hblank hlast, s.blank_boundary h⟩,
      frameBoundary_waits h hs hrun hon⟩
  case urgent =>
    intro s h hs hstate hon hidle hevent hfurl
    obtain ⟨t, ht, hv⟩ := urgentFrameStart_starts h hs hstate hon hidle hevent hfurl
    have shows {α : Type} (f : FrameView → α) := congrArg f hv
    exact ⟨t, ht, shows (·.core.on), shows (·.core.next), shows (·.core.early), shows (·.core.count), shows (·.idle), shows (·.cw)⟩
  case hold =>
    intro s h hs hrun hon hhold
    exact ⟨holdMaxExpiry_ends h hs hrun hon hhold, holdMaxExpiry_waits h hs⟩
  case table =>
    intro s h k hs hrun hhalt hdue hfree hhead hetch
    exact ⟨tableLoad_loads h k hs hrun hhalt hdue hfree hhead hetch, s.due_loadTable h k⟩

end Sys2Proof.Machine
end

section
/-! PROOFS. What of the device neither the bring-up of the stand-alone mode nor the work of the commit instant touches: the download's
phase and lock, the strap and the fuses, the commit queue, the Etch store's bytes and, while no command executes, the Command Window. -/

namespace Sys2Proof.Machine

/-! ### What a bring-up and a commit keep -/

/-- The register fields that only the bring-up's first step and the hand-over set. -/
def startFields : List Field :=
  [F.BOOT_STATUS_PHASE, F.BOOT_STATUS_KEYLOCK, F.BOOT_STATUS_GATE_STALLED, F.BOOT_RUNTIME_VERSION_VERSION,
    F.BOOT_SA_STATUS_SA_ACTIVE, F.BOOT_SA_STATUS_PROF_STRAP, F.FUSE_STATUS_ENROL_LOCK, F.FUSE_STATUS_DEBUG_LOCK,
    F.FUSE_STATUS_ROLLBACK_STEPS]

/-- The parts of the state beyond the registers that go with them. -/
structure StartCore where
  off : Bool
  porst : Bool
  ticks : Nat
  pending : List Instr
  fuses : Fuses
  hdr : List Byte
  commitQ : List (Nat × Word)
  stalled : Option (Nat × Word)
  mem : List Host.Cell
  retireDue : Bool

def State.startCore (s : State) : StartCore :=
  { off := s.off, porst := s.porst, ticks := s.ticks, pending := s.pending, fuses := s.fuses, hdr := s.boot.hdr
    commitQ := s.boot.commitQ, stalled := s.boot.stalled, mem := s.etch.mem, retireDue := s.etch.retireDue }

@[simp] theorem State.wr_startCore (s : State) (a : Nat) (w : Word) : (s.wr a w).startCore = s.startCore := rfl
@[simp] theorem State.setFld_startCore (s : State) (f : Field) (v : Nat) : (s.setFld f v).startCore = s.startCore := rfl

/-- `t` has the fields and parts that `s` has and, if `s` executes no command, its Command Window. -/
structure State.KeepsStart (s t : State) : Prop where
  fld : ∀ f ∈ startFields, t.fld f = s.fld f
  core : t.startCore = s.startCore
  cw : s.cw.running = none → t.cw = s.cw

theorem startFields_addr : ∀ g ∈ startFields, g.addr ≤ 0x48 ∨ (0x20000 ≤ g.addr ∧ g.addr ≤ 0x20010) := by decide

theorem State.fld_of_regs {s t : State} (h : t.regs = s.regs) (f : Field) : t.fld f = s.fld f := by
  unfold State.fld State.rd
  rw [h]

namespace State.KeepsStart
variable {s t u : State}

theorem refl (s : State) : s.KeepsStart s := ⟨fun _ _ => rfl, rfl, fun _ => rfl⟩

theorem trans (k : s.KeepsStart t) (l : t.KeepsStart u) : s.KeepsStart u where
  fld f hf := (l.fld f hf).trans (k.fld f hf)
  core := l.core.trans k.core
  cw hs := (l.cw (by rw [k.cw hs, hs])).trans (k.cw hs)

theorem bit (k : s.KeepsStart t) {f : Field} (hf : f ∈ startFields) : t.bit f = s.bit f := by
  unfold State.bit
  rw [k.fld f hf]

theorem ite {c : Prop} [Decidable c] (k : s.KeepsStart t) (l : s.KeepsStart u) : s.KeepsStart (if c then t else u) := by
  split
  · exact k
  · exact l

/-- An update that touches no register. -/
theorem of_eq (k : s.KeepsStart t) (hregs : u.regs = t.regs) (hcore : u.startCore = t.startCore) (hcw : u.cw = t.cw) :
    s.KeepsStart u :=
  k.trans ⟨fun f _ => State.fld_of_regs hregs f, hcore, fun _ => hcw⟩

/-- A register that holds none of the fields. -/
theorem wrOff (k : s.KeepsStart t) {a : Nat} (w : Word) (ha : ∀ g ∈ startFields, a ≠ g.addr) : s.KeepsStart (t.wr a w) :=
  k.trans ⟨fun g hg => by unfold State.fld; rw [State.rd_wr_ne t a _ w (ha g hg)], rfl, fun _ => rfl⟩

/-- Every register above BOOT_SA_STATUS. -/
theorem wr (k : s.KeepsStart t) {a : Nat} (w : Word) (ha : 0x20010 < a) : s.KeepsStart (t.wr a w) :=
  k.wrOff w fun g hg => by have := startFields_addr g hg; omega

theorem setFldApart (k : s.KeepsStart t) {f : Field} (v : Nat) (hf : ∀ g ∈ startFields, f.apart g) : s.KeepsStart (t.setFld f v) :=
  k.trans ⟨fun g hg => State.fld_setFld_apart t f g v (hf g hg), rfl, fun _ => rfl⟩

theorem setFld (k : s.KeepsStart t) {f : Field} (v : Nat) (hf : 0x20010 < f.addr) : s.KeepsStart (t.setFld f v) := k.wr _ hf

/-- A register of an array above BOOT_SA_STATUS. -/
theorem setReg (k : s.KeepsStart t) {base o lo w : Nat} (v : Nat) (hb : 0x20010 < base) :
    s.KeepsStart (t.setFld ⟨base + o, lo, w⟩ v) := k.setFld v (Nat.lt_add_right o hb)

/-- The registers of PWR lie between the fuse shadow and BOOT. -/
theorem setPwrFld (k : s.KeepsStart t) {f : Field} (v : Nat) (hlo : 0x48 < f.addr) (hhi : f.addr < 0x20000) :
    s.KeepsStart (t.setFld f v) :=
  k.wrOff _ fun g hg => by have := startFields_addr g hg; omega

theorem raise (k : s.KeepsStart t) (c : Nat) : s.KeepsStart (t.raise c) :=
  k.trans (ite (refl t) ((refl t).setFld 1 (by decide : 0x20010 < 0x30004)))

theorem setEtch (k : s.KeepsStart t) {e : EtchState} (hmem : e.mem = t.etch.mem)
    (hdue : e.retireDue = t.etch.retireDue) : s.KeepsStart { t with etch := e } :=
  k.of_eq rfl (by simp only [State.startCore, hmem, hdue]) rfl

theorem setHead (k : s.KeepsStart t) (h : Nat) (x : HeadState) : s.KeepsStart (t.setHead h x) := k.of_eq rfl rfl rfl

theorem setInput (k : s.KeepsStart t) (i : Nat) (x : InputState) : s.KeepsStart (t.setInput i x) := k.of_eq rfl rfl rfl

theorem foldl {α : Type} {f : State → α → State} (hf : ∀ (u : State) (a : α), u.KeepsStart (f u a)) (l : List α) :
    ∀ t : State, t.KeepsStart (l.foldl f t) := by
  induction l with
  | nil => exact refl
  | cons a l ih => exact fun t => (hf t a).trans (ih (f t a))

/-- A fold whose step keeps the start for the elements of its list. -/
theorem foldlMem {α : Type} {f : State → α → State} (l : List α) (hf : ∀ (u : State), ∀ a ∈ l, u.KeepsStart (f u a)) :
    ∀ t : State, t.KeepsStart (l.foldl f t) := by
  induction l with
  | nil => exact refl
  | cons a l ih =>
    exact fun t => (hf t a (List.mem_cons_self ..)).trans (ih (fun u b hb => hf u b (List.mem_cons_of_mem _ hb)) (f t a))

end State.KeepsStart

open State (KeepsStart)

/-! ### The Etch store's reads -/

theorem State.etchTouch_keepsStart (s : State) (a n : Nat) : s.KeepsStart (s.etchTouch a n) := by
  refine KeepsStart.foldl (fun u f => ?_) _ s
  have hue : u.KeepsStart (u.satAdd F.ETCH_ECC_UE_CNT 1) := (KeepsStart.refl u).setFld _ (by decide)
  dsimp only
  split_ifs
  · exact ((KeepsStart.refl u).setFld _ (by decide)).setFld _ (by decide)
  · exact hue
  · exact ((hue.setFld _ (by decide)).setFld _ (by decide)).raise _

theorem State.touchSlot_keepsStart (s : State) (type k : Nat) : s.KeepsStart (s.touchSlot type k) :=
  ((State.etchTouch_keepsStart _ _ _).trans (State.etchTouch_keepsStart _ _ _)).trans (State.etchTouch_keepsStart _ _ _)

theorem State.touchPair_keepsStart (s : State) (type : Nat) : s.KeepsStart (s.touchPair type) :=
  (s.touchSlot_keepsStart type 0).trans (State.touchSlot_keepsStart _ type 1)

theorem State.winner_keepsStart (s : State) (type : Nat) : s.KeepsStart (s.winner type).2 := by
  unfold State.winner
  split
  · exact KeepsStart.refl s
  · dsimp only
    exact s.touchPair_keepsStart type

theorem State.noteMissing_keepsStart (s : State) (type : Nat) : s.KeepsStart (s.noteMissing type) := by
  unfold State.noteMissing
  split
  · exact KeepsStart.refl s
  · exact (((KeepsStart.refl s).setFld 1 (by decide : 0x20010 < 0x1C0010)).raise _).setEtch rfl rfl

theorem State.chooseRecord_keepsStart (s : State) (type : Nat) : s.KeepsStart (s.chooseRecord type).2 := by
  have hw := s.winner_keepsStart type
  unfold State.chooseRecord
  generalize s.winner type = x at hw
  have kchosen (l : List (Nat × Nat)) : s.KeepsStart { x.2 with etch := { x.2.etch with chosen := l } } := hw.setEtch rfl rfl
  dsimp only
  split_ifs
  · exact hw
  · exact (kchosen _).trans (State.noteMissing_keepsStart _ type)
  · exact kchosen _

theorem State.record_keepsStart (s : State) (type : Nat) : s.KeepsStart (s.record type).2 := by
  have hc := s.chooseRecord_keepsStart type
  unfold State.record
  split
  · next h => rw [h] at hc; exact hc
  · next h =>
    rw [h] at hc
    exact KeepsStart.ite (hc.trans (State.etchTouch_keepsStart _ _ _)) hc

/-! ### Events of heads and surfaces -/

theorem State.headEvent_keepsStart (s : State) (h : Nat) : s.KeepsStart (s.headEvent h) :=
  (KeepsStart.refl s).of_eq rfl rfl rfl

theorem State.surfaceEvent_keepsStart (s : State) (n : Nat) : s.KeepsStart (s.surfaceEvent n) :=
  KeepsStart.foldl (fun u h => KeepsStart.ite (u.headEvent_keepsStart h) (KeepsStart.refl u)) _ s

theorem State.refront_keepsStart (s : State) (n : Nat) : s.KeepsStart (s.refront n) := by
  have kfront (k : Nat) :
      s.KeepsStart ((s.setFld (F.SURF_STATUS_FRONT n) k).setFld (F.SURF_STATUS_FRONT_VALID n) 1) :=
    ((KeepsStart.refl s).setReg k (by decide)).setReg 1 (by decide)
  unfold State.refront
  split
  · exact KeepsStart.refl s
  · split
    · exact (KeepsStart.refl s).setReg 0 (by decide)
    · exact KeepsStart.ite (kfront _) ((kfront _).trans (State.surfaceEvent_keepsStart _ n))

theorem State.judgeSurf_keepsStart (s : State) (n : Nat) : s.KeepsStart (s.judgeSurf n) :=
  (KeepsStart.refl s).setReg _ (by decide)

/-! ### Inputs -/

theorem State.setVid_keepsStart (s : State) (i : Nat) (vc1 : Bool) (v : VidIn) : s.KeepsStart (s.setVid i vc1 v) :=
  (KeepsStart.refl s).setInput i _

theorem State.tear_keepsStart (s : State) (i : Nat) (vc1 : Bool) : s.KeepsStart (s.tear i vc1) := by
  unfold State.tear
  extract_lets v t
  have kt : s.KeepsStart t :=
    (((s.setVid_keepsStart i vc1 _).setReg _ (by decide)).setReg 1 (by decide)).raise _
  refine KeepsStart.ite (KeepsStart.refl s) (KeepsStart.ite (kt.setFldApart 1 ?_) kt)
  unfold Field.apart
  decide

theorem State.cutFrame_keepsStart (s : State) (i : Nat) (vc1 : Bool) : s.KeepsStart (s.cutFrame i vc1) :=
  (KeepsStart.ite (c := ((s.input i).vid vc1).cap.isSome) (s.tear_keepsStart i vc1) (KeepsStart.refl s)).trans
    (State.setVid_keepsStart _ i vc1 _)

theorem State.cutFrames_keepsStart (s : State) (i : Nat) : s.KeepsStart (s.cutFrames i) :=
  (s.cutFrame_keepsStart i false).trans (State.cutFrame_keepsStart _ i true)

theorem State.releaseTargets_keepsStart (s : State) (i : Nat) : s.KeepsStart (s.releaseTargets i) :=
  (KeepsStart.foldl (fun u n => (KeepsStart.refl u).setReg 0 (by decide)) _ s).setInput i _

theorem State.claim_keepsStart (s : State) (i n use : Nat) : s.KeepsStart (s.claim i n use) :=
  ((KeepsStart.refl s).setReg use (by decide)).setInput i _

theorem State.startInput_keepsStart (s : State) (i : Nat) : s.KeepsStart (s.startInput i) := by
  unfold State.startInput
  extract_lets s1 a s2 s3
  have k1 : s.KeepsStart s1 := (KeepsStart.refl s).setInput i _
  have ka : s.KeepsStart a := (k1.trans (s1.claim_keepsStart i _ 2)).trans (State.refront_keepsStart _ _)
  have k2 : s.KeepsStart s2 := KeepsStart.ite
    (((k1.trans (s1.claim_keepsStart i _ 3)).setReg 0 (by decide)).setReg 1 (by decide))
    (KeepsStart.ite ((ka.trans (a.claim_keepsStart i _ 2)).trans (State.refront_keepsStart _ _)) ka)
  have k3 : s.KeepsStart s3 := KeepsStart.ite (k2.setReg 0 (by decide)) k2
  exact k3.setReg _ (by decide)

theorem State.judgeInput_keepsStart (s : State) (i : Nat) : s.KeepsStart (s.judgeInput i) := by
  have koff (v : Nat) : s.KeepsStart ((s.setInState i inOff).setFld (F.IN_STATUS_CFG_ERR i) v) :=
    ((KeepsStart.refl s).setReg _ (by decide)).setReg v (by decide)
  exact KeepsStart.ite (koff 0) (KeepsStart.ite ((s.startInput_keepsStart i).setReg 0 (by decide)) (koff 1))

theorem State.writeInCtrl_keepsStart (s : State) (i : Nat) (w mask : Word) : s.KeepsStart (s.writeInCtrl i w mask) := by
  unfold State.writeInCtrl
  extract_lets a s1
  have k1 : s.KeepsStart s1 := KeepsStart.ite (s.cutFrames_keepsStart i) (KeepsStart.refl s)
  exact ((k1.trans (s1.releaseTargets_keepsStart i)).wr _ (by omega)).trans (State.judgeInput_keepsStart _ i)

theorem State.inputUp_keepsStart (s : State) (i : Nat) : s.KeepsStart (s.inputUp i) := by
  have kr := s.releaseTargets_keepsStart i
  exact KeepsStart.ite (KeepsStart.refl s) (KeepsStart.ite (kr.trans (State.startInput_keepsStart _ i)) kr)

theorem State.dropInput_keepsStart (s : State) (i : Nat) : s.KeepsStart (s.dropInput i) :=
  ((s.cutFrames_keepsStart i).setReg 0 (by decide)).setReg _ (by decide)

theorem State.saInput_keepsStart (s : State) (e : List Word) (i : Nat) : s.KeepsStart (s.saInput e i) := by
  unfold State.saInput
  extract_lets s1 s2
  have k1 : s.KeepsStart s1 := ((KeepsStart.refl s).setReg 1 (by decide)).setReg 63 (by decide)
  have k2 : s.KeepsStart s2 := KeepsStart.ite (k1.setFld _ (by decide))
    (((k1.setReg _ (by decide)).setReg _ (by decide)).setReg _ (by decide))
  exact (k2.setInput i _).setReg _ (by decide)

end Sys2Proof.Machine
end

section
/-! PROOFS. The frame of `KeepsStart` for the domains (R842 to R849), the chains' lane power (R724 to R736) and the heads' start and
stop. -/

namespace Sys2Proof.Machine
open State (KeepsStart)

/-! ### Domains -/

/-- The registers of PWR that show a domain. -/
theorem State.setPd_keepsStart {s t : State} (k : s.KeepsStart t) {n : Nat} (hn : n < 32) (lo w v : Nat) :
    s.KeepsStart (t.setFld ⟨0x10100 + 4 * n, lo, w⟩ v) := k.setPwrFld v (by dsimp only; omega) (by dsimp only; omega)

theorem State.markOn_keepsStart (s : State) {n : Nat} (hn : n < 32) : s.KeepsStart (s.markOn n) :=
  have kstate := State.setPd_keepsStart (KeepsStart.refl s) hn 28 4 2
  have kreg := State.setPd_keepsStart kstate hn 27 1 1
  have kclk := State.setPd_keepsStart kreg hn 26 1 1
  have kmem := State.setPd_keepsStart kclk hn 25 1 1
  State.setPd_keepsStart kmem hn 24 1 1

theorem State.ramSelfTest_keepsStart (s : State) (n : Nat) (repair : Word) : s.KeepsStart (s.ramSelfTest n repair) := by
  unfold State.ramSelfTest
  split
  · exact KeepsStart.refl s
  · next r _ =>
    extract_lets t t' s1 s2
    have k1 : s.KeepsStart s1 := (KeepsStart.refl s).of_eq rfl rfl rfl
    have k2 : s.KeepsStart s2 := KeepsStart.ite (k1.setFld 1 (f := ⟨0x200030, 16 + r, 1⟩) (by decide : 0x20010 < 0x200030)) k1
    refine KeepsStart.ite (KeepsStart.refl s) ?_
    have k3 (c : Prop) [Decidable c] : s.KeepsStart (if c then s2.setFld ⟨0x200030, r, 1⟩ 1 else s2) :=
      KeepsStart.ite (k2.setFld 1 (by decide : 0x20010 < 0x200030)) k2
    exact (k3 _).setReg _ (by decide)

theorem State.plateHalfFill_keepsStart (s : State) (n : Nat) : s.KeepsStart (s.plateHalfFill n) := by
  have kclear (u : Bool) : s.KeepsStart { s with plate := s.plate.clearHalf u } := (KeepsStart.refl s).of_eq rfl rfl rfl
  unfold State.plateHalfFill
  refine KeepsStart.ite ?_ (KeepsStart.ite ?_ (KeepsStart.refl s))
  · exact ((kclear false).setFld 1 (by decide)).of_eq rfl rfl rfl
  · exact ((kclear true).setFld 1 (by decide)).of_eq rfl rfl rfl

theorem State.pbaStart_keepsStart (s : State) : s.KeepsStart s.pbaStart := by
  have kcount : s.KeepsStart ((s.setFld F.PBA_STATUS_RUNNING 1).wrapAdd F.PBA_PERIOD_COUNT 1) :=
    ((KeepsStart.refl s).setFld 1 (by decide)).setFld _ (by decide)
  exact kcount.of_eq rfl rfl rfl

theorem State.powerUp_keepsStart (s : State) {n : Nat} (hn : n < 32) (repair : Word) : s.KeepsStart (s.powerUp n repair) := by
  unfold State.powerUp
  extract_lets s1
  have k1 : s.KeepsStart s1 :=
    ((s.ramSelfTest_keepsStart n repair).trans (State.plateHalfFill_keepsStart _ n)).trans (State.markOn_keepsStart _ hn)
  exact KeepsStart.ite (KeepsStart.refl s) (KeepsStart.ite (k1.trans s1.pbaStart_keepsStart) k1)

theorem State.loadTrims_keepsStart (s : State) (l : List Nat) : s.KeepsStart (s.loadTrims l) :=
  KeepsStart.foldl (fun u e => (KeepsStart.refl u).of_eq (u := u.setApplied e _) rfl rfl rfl) l s

theorem State.showLoaded_keepsStart (s : State) : s.KeepsStart s.showLoaded := (KeepsStart.refl s).setFld _ (by decide)

theorem State.iconsRestore_keepsStart (s : State) : s.KeepsStart s.iconsRestore :=
  have kicons (l : Vector Icon 32) : s.KeepsStart { s with icons := l } := (KeepsStart.refl s).of_eq rfl rfl rfl
  KeepsStart.ite (KeepsStart.refl s) ((kicons _).trans (State.showLoaded_keepsStart _))

theorem State.tablesDue_keepsStart (s : State) (h : Nat) : s.KeepsStart (s.tablesDue h) := (KeepsStart.refl s).setHead h _

theorem State.domainUp_keepsStart (s : State) {n : Nat} (hn : n < 32) (repair : Word) : s.KeepsStart (s.domainUp n repair) := by
  unfold State.domainUp
  extract_lets s1
  have k1 : s.KeepsStart s1 := (s.powerUp_keepsStart hn repair).trans (State.loadTrims_keepsStart _ _)
  refine KeepsStart.ite (KeepsStart.refl s) (KeepsStart.ite ?inputs01 (KeepsStart.ite ?inputs23 (KeepsStart.ite ?icons
    (KeepsStart.ite ?tables k1))))
  case inputs01 => exact (k1.trans (s1.inputUp_keepsStart 0)).trans (State.inputUp_keepsStart _ 1)
  case inputs23 => exact (k1.trans (s1.inputUp_keepsStart 2)).trans (State.inputUp_keepsStart _ 3)
  case icons => exact k1.trans s1.iconsRestore_keepsStart
  case tables =>
    exact k1.trans (KeepsStart.foldl (fun u h => KeepsStart.ite (u.tablesDue_keepsStart h) (KeepsStart.refl u)) _ s1)

/-! ### Chains: blocks and lane power -/

theorem State.setChain_keepsStart (s : State) (c : Nat) (x : ChainState) : s.KeepsStart (s.setChain c x) :=
  (KeepsStart.refl s).of_eq rfl rfl rfl

theorem State.send_keepsStart (s : State) (c : Nat) (b : List Block) : s.KeepsStart (s.send c b) := s.setChain_keepsStart c _

/-- `t` differs from `s` in the chains and in registers from 0x100000 on only. -/
def State.OnlyChains (s t : State) : Prop :=
  (∃ r l, t = { s with regs := r, chains := l }) ∧ ∀ a < 0x100000, t.rd a = s.rd a

namespace State.OnlyChains
variable {s t u : State}

theorem refl (s : State) : s.OnlyChains s := ⟨⟨s.regs, s.chains, rfl⟩, fun _ _ => rfl⟩

theorem trans (k : s.OnlyChains t) (l : t.OnlyChains u) : s.OnlyChains u := by
  obtain ⟨⟨r, c, rfl⟩, hr⟩ := k
  obtain ⟨⟨r', c', rfl⟩, hr'⟩ := l
  exact ⟨⟨r', c', rfl⟩, fun a ha => (hr' a ha).trans (hr a ha)⟩

theorem ite {c : Prop} [Decidable c] (k : s.OnlyChains t) (l : s.OnlyChains u) : s.OnlyChains (if c then t else u) := by
  split
  · exact k
  · exact l

theorem setChain (k : s.OnlyChains t) (c : Nat) (x : ChainState) : s.OnlyChains (t.setChain c x) :=
  k.trans ⟨⟨t.regs, _, rfl⟩, fun _ _ => rfl⟩

theorem setReg (k : s.OnlyChains t) {base o lo w : Nat} (v : Nat) (hb : 0x100000 ≤ base) :
    s.OnlyChains (t.setFld ⟨base + o, lo, w⟩ v) :=
  k.trans ⟨⟨_, t.chains, rfl⟩, fun a ha => State.rd_setFld_ne t _ v a (by dsimp only; omega)⟩

theorem foldl {α : Type} {f : State → α → State} (hf : ∀ (u : State) (a : α), u.OnlyChains (f u a)) (l : List α) :
    ∀ t : State, t.OnlyChains (l.foldl f t) := by
  induction l with
  | nil => exact refl
  | cons a l ih => exact fun t => (hf t a).trans (ih (f t a))

theorem keepsStart (k : s.OnlyChains t) : s.KeepsStart t := by
  obtain ⟨⟨r, l, rfl⟩, hr⟩ := k
  refine ⟨fun g hg => ?_, rfl, fun _ => rfl⟩
  have := startFields_addr g hg
  unfold State.fld
  rw [hr g.addr (by omega)]

/-- The registers of the heads lie below those of the chains. -/
theorem headState (k : s.OnlyChains t) (h : Fin 4) : t.headState h = s.headState h := by
  unfold State.headState State.fld
  rw [k.2 _ (by simp only [F.HEAD_STATUS_STATE]; omega)]

end State.OnlyChains

open State (OnlyChains)

theorem State.pauseRun_onlyChains (s : State) (c : Nat) : s.OnlyChains (s.pauseRun c) := by
  unfold State.pauseRun
  split
  · exact OnlyChains.refl s
  · exact OnlyChains.ite (((OnlyChains.refl s).setReg _ (by decide)).setChain c _)
      (OnlyChains.ite (((OnlyChains.refl s).setReg _ (by decide)).setChain c _) (OnlyChains.refl s))

theorem State.leaveSlack_onlyChains (s : State) (c : Nat) : s.OnlyChains (s.leaveSlack c) :=
  have ksend (u : State) (l : List Block) : u.OnlyChains (u.send c l) := (OnlyChains.refl u).setChain c _
  (((OnlyChains.refl s).setReg _ (by decide)).trans (ksend _ _)).trans (State.pauseRun_onlyChains _ c)

theorem State.towardGoal_onlyChains (s : State) (c : Nat) : s.OnlyChains (s.towardGoal c) := by
  have kunfurl : s.OnlyChains (s.startUnfurl c) := ((OnlyChains.refl s).setChain c _).setReg 0 (by decide)
  have kfurl (g : Nat) : s.OnlyChains (s.startFurl c g false) := ((OnlyChains.refl s).setChain c _).setChain c _
  unfold State.towardGoal
  extract_lets x
  split
  · exact OnlyChains.refl s
  · exact OnlyChains.ite (OnlyChains.refl s) (OnlyChains.ite ((OnlyChains.refl s).setChain c _) (OnlyChains.ite kunfurl
      (OnlyChains.ite ((s.leaveSlack_onlyChains c).setChain c _) (kfurl _))))

theorem State.aim_onlyChains (s : State) (c g : Nat) : s.OnlyChains (s.aim c g) :=
  ((OnlyChains.refl s).setChain c _).trans (State.towardGoal_onlyChains _ c)

theorem State.unfurlFor_onlyChains (s : State) (h : Nat) : s.OnlyChains (s.unfurlFor h) := by
  refine OnlyChains.foldl (fun u c => ?_) _ s
  have kreq : u.OnlyChains (u.setFld (F.LINK_PWR_REQ c) laneUnfurled) := (OnlyChains.refl u).setReg _ (by decide)
  exact OnlyChains.ite (OnlyChains.ite (kreq.trans (State.aim_onlyChains _ c _)) kreq) (OnlyChains.refl u)

/-! ### Heads that start and stop -/

theorem State.odFresh_keepsStart (s : State) (h : Nat) : s.KeepsStart (s.odFresh h) :=
  ((KeepsStart.refl s).setHead h _).setReg 0 (by decide)

theorem State.startHead_keepsStart (s : State) (h : Nat) : s.KeepsStart (s.startHead h) := by
  have kstate : s.KeepsStart (s.setFld (F.HEAD_STATUS_STATE h) 1) := (KeepsStart.refl s).setReg 1 (by decide)
  exact ((kstate.trans (State.odFresh_keepsStart _ h)).setHead h _).trans (State.unfurlFor_onlyChains _ h).keepsStart

/-- R560: a head that starts is STARTING. -/
theorem State.headState_startHead (s : State) (h : Fin 4) : (s.startHead h).headState h = 1 := by
  have hcold (u : State) : (u.odFresh h).headState h = u.headState h :=
    State.fld_setFld_apart _ (F.HEAD_STATUS_COLD h) (F.HEAD_STATUS_STATE h) 0
      (.inr (.inl (by simp [F.HEAD_STATUS_COLD, F.HEAD_STATUS_STATE])))
  have hset (u : State) (x : HeadState) : (u.setHead h x).headState h = u.headState h := rfl
  unfold State.startHead
  dsimp only
  rw [(State.unfurlFor_onlyChains _ h).headState h, hset, hcold]
  exact State.fld_setFld s (F.HEAD_STATUS_STATE h) 1 (by simp [F.HEAD_STATUS_STATE])

theorem State.endHold_keepsStart (s : State) (h : Nat) : s.KeepsStart (s.endHold h) :=
  KeepsStart.ite ((KeepsStart.refl s).of_eq rfl rfl rfl) (KeepsStart.refl s)

theorem State.haltHead_keepsStart (s : State) (h : Nat) : s.KeepsStart (s.haltHead h) :=
  KeepsStart.ite ((KeepsStart.refl s).setReg 3 (by decide)) (KeepsStart.refl s)

theorem State.runWritten_keepsStart (s : State) (h : Nat) : s.KeepsStart (s.runWritten h) :=
  KeepsStart.ite
    (KeepsStart.ite (KeepsStart.ite (s.startHead_keepsStart h) ((KeepsStart.refl s).setReg 0 (by decide)))
      (KeepsStart.refl s))
    ((s.endHold_keepsStart h).trans (State.haltHead_keepsStart _ h))

end Sys2Proof.Machine
end

section
/-! PROOFS. The frame of `KeepsStart` for the touch engines, the levels, pins and telltales, the register writes and the parts of
the commit instant. -/

namespace Sys2Proof.Machine
open State (KeepsStart)

/-! ### Touch engines -/

theorem State.setTouch_keepsStart (s : State) (h : Nat) (x : TouchState) : s.KeepsStart (s.setTouch h x) :=
  (KeepsStart.refl s).of_eq rfl rfl rfl

theorem State.sendTo_keepsStart (s : State) (c : Nat) (b : List Block) : s.KeepsStart (s.sendTo c b) :=
  KeepsStart.ite (s.setChain_keepsStart c _) (s.setChain_keepsStart c _)

theorem State.writeTafes_keepsStart (s : State) (h : Nat) (cfg : List Word) : s.KeepsStart (s.writeTafes h cfg) :=
  (s.setTouch_keepsStart h _).trans (KeepsStart.foldl (fun u _ => u.sendTo_keepsStart _ _) _ _)

theorem State.stopTafes_keepsStart (s : State) (cfg : List Word) : s.KeepsStart (s.stopTafes cfg) :=
  KeepsStart.foldl (fun u _ => KeepsStart.ite (u.sendTo_keepsStart _ _) (KeepsStart.refl u)) _ s

theorem State.baseline_keepsStart (s : State) (h : Nat) (cfg : List Word) : s.KeepsStart (s.baseline h cfg).2 :=
  (s.record_keepsStart (0x5000 + h)).setReg _ (by decide)

/-- A touch engine that enters a state shows the state, its cause and its provisional nodes. -/
theorem State.touchEntry_keepsStart (s : State) (h st cause : Nat) (x : TouchState) :
    s.KeepsStart ((((s.setTouch h x).setFld (F.TOUCH_STATUS_STATE h) st).setFld (F.TOUCH_STATUS_HOLD_CAUSE h) cause).showProv h) :=
  (((s.setTouch_keepsStart h x).setReg st (by decide)).setReg cause (by decide)).setReg _ (by decide)

theorem State.enterStarting_keepsStart (s : State) (h : Nat) : s.KeepsStart (s.enterStarting h) :=
  ((s.touchEntry_keepsStart h _ _ _).trans (State.baseline_keepsStart _ _ _)).trans (State.writeTafes_keepsStart _ _ _)

theorem State.enterHeld_keepsStart (s : State) (h cause : Nat) : s.KeepsStart (s.enterHeld h cause) :=
  s.touchEntry_keepsStart h _ _ _

theorem State.touchJudge_keepsStart (s : State) (h : Nat) : s.KeepsStart (s.touchJudge h) :=
  KeepsStart.ite
    (KeepsStart.ite
      (KeepsStart.ite (s.enterStarting_keepsStart h) (KeepsStart.ite (s.writeTafes_keepsStart h _) (KeepsStart.refl s)))
      (KeepsStart.ite ((KeepsStart.refl s).setReg _ (by decide)) (s.enterHeld_keepsStart h _)))
    (KeepsStart.refl s)

theorem State.touchJudgeAll_keepsStart (s : State) : s.KeepsStart s.touchJudgeAll :=
  KeepsStart.foldl State.touchJudge_keepsStart _ s

theorem State.touchOn_keepsStart (s : State) (h : Nat) : s.KeepsStart (s.touchOn h) :=
  KeepsStart.ite (s.enterStarting_keepsStart h) (s.enterHeld_keepsStart h _)

theorem State.touchOff_keepsStart (s : State) (h : Nat) : s.KeepsStart (s.touchOff h) :=
  have hstop := (s.touchEntry_keepsStart h _ _ _).trans (State.stopTafes_keepsStart _ _)
  KeepsStart.ite (hstop.trans (State.touchOn_keepsStart _ h)) hstop

theorem State.touchSettle_keepsStart (s : State) (h : Nat) : s.KeepsStart (s.touchSettle h) :=
  KeepsStart.ite (s.touchOff_keepsStart h) (KeepsStart.refl s)

theorem State.touchApply_keepsStart (s : State) (h : Nat) (old : List Word) : s.KeepsStart (s.touchApply h old) := by
  unfold State.touchApply
  extract_lets new st grid s1
  have kstop : s.KeepsStart ((s.setFld (F.TOUCH_STATUS_STATE h) toStopping).setFld (F.TOUCH_STATUS_HOLD_CAUSE h) 0) :=
    ((KeepsStart.refl s).setReg _ (by decide)).setReg _ (by decide)
  have k1 : s.KeepsStart s1 := KeepsStart.ite (s.writeTafes_keepsStart h new) (KeepsStart.refl s)
  exact KeepsStart.ite (KeepsStart.ite (KeepsStart.refl s) (kstop.trans (State.touchSettle_keepsStart _ h)))
    (KeepsStart.ite (s.touchOn_keepsStart h) (KeepsStart.ite (KeepsStart.refl s)
      (KeepsStart.ite ((s.enterStarting_keepsStart h).trans (State.touchJudge_keepsStart _ h))
        (k1.trans (s1.touchJudge_keepsStart h)))))

/-! ### Levels, pins, telltales -/

theorem State.showLevel_keepsStart (s : State) (h : Nat) : s.KeepsStart (s.showLevel h) := by
  unfold State.showLevel
  extract_lets own lv s1
  have k1 : s.KeepsStart s1 := (KeepsStart.refl s).setReg lv (by decide)
  exact KeepsStart.ite k1 (k1.setReg lv (by decide))

theorem State.sendLevel_keepsStart (s : State) (h : Nat) : s.KeepsStart (s.sendLevel h) :=
  KeepsStart.ite ((s.send_keepsStart _ _).setHead h _) (KeepsStart.refl s)

theorem State.showLevels_keepsStart (s : State) : s.KeepsStart s.showLevels :=
  KeepsStart.foldl (fun u h => KeepsStart.ite (u.showLevel_keepsStart h)
    ((u.showLevel_keepsStart h).trans (State.sendLevel_keepsStart _ h))) _ s

theorem State.showPins_keepsStart (s : State) : s.KeepsStart s.showPins := (KeepsStart.refl s).setFld _ (by decide)

theorem State.showFurled_keepsStart (s : State) : s.KeepsStart s.showFurled :=
  KeepsStart.foldl (fun u _ => (KeepsStart.refl u).setReg _ (by decide)) _ s

theorem telltaleChange_keepsStart (s t : State) : t.KeepsStart (telltaleChange s t) :=
  KeepsStart.foldl (fun u h => KeepsStart.ite (KeepsStart.ite ((KeepsStart.refl u).setHead h _) (KeepsStart.refl u))
    (KeepsStart.refl u)) _ t

/-! ### Register writes -/

/-- R14: none of the fields can be written. -/
theorem startFields_readOnly : ∀ g ∈ startFields, (regInfo g.addr).rw = 0 ∧ (regInfo g.addr).w1c = 0 := by decide

theorem State.writeBits_keepsStart (s : State) (a : Nat) (w hw : Word) : s.KeepsStart (s.writeBits a w hw) := by
  refine ⟨fun g hg => ?_, rfl, fun _ => rfl⟩
  obtain ⟨hrw, hw1c⟩ := startFields_readOnly g hg
  unfold State.fld State.writeBits
  by_cases ha : a = g.addr
  · subst ha
    simp [hrw, hw1c, -BitVec.reduceNot, -BitVec.reduceAllOnes]
  · rw [State.rd_wr_ne s a g.addr _ ha]

theorem State.wbStop_keepsStart (s : State) : s.KeepsStart s.wbStop := by
  have koff : s.KeepsStart ((s.setFld F.WB_CTRL_EN 0).setFld F.WB_STATUS_ACTIVE 0) :=
    ((KeepsStart.refl s).setFld 0 (by decide)).setFld 0 (by decide)
  exact koff.of_eq rfl rfl rfl

theorem State.wbDisable_keepsStart (s : State) : s.KeepsStart s.wbDisable := by
  have koff : s.KeepsStart (s.setFld F.WB_CTRL_EN 0) := (KeepsStart.refl s).setFld 0 (by decide)
  exact KeepsStart.ite ((KeepsStart.refl s).of_eq rfl rfl rfl) (KeepsStart.ite (KeepsStart.refl s)
    (KeepsStart.ite (koff.of_eq rfl rfl rfl) s.wbStop_keepsStart))

theorem State.writeWb_keepsStart (s : State) (w : Word) : s.KeepsStart (s.writeWb w) :=
  KeepsStart.ite s.wbDisable_keepsStart (s.writeBits_keepsStart _ w 0)

theorem State.writeSurf_keepsStart (s : State) (n off : Nat) (w mask : Word) : s.KeepsStart (s.writeSurf n off w mask) :=
  KeepsStart.ite ((KeepsStart.refl s).setReg 1 (by decide))
    (((KeepsStart.refl s).wr _ (by omega)).trans (State.judgeSurf_keepsStart _ n))

theorem State.showRegions_keepsStart (s : State) : s.KeepsStart s.showRegions :=
  ((KeepsStart.refl s).setFld _ (by decide)).setFld _ (by decide)

theorem State.writeWord_keepsStart (s : State) (a : Nat) (w hw : Word) : s.KeepsStart (s.writeWord a w hw) := by
  unfold State.writeWord
  split_ifs
  · exact KeepsStart.refl s
  · exact (KeepsStart.refl s).setPwrFld _ (by decide) (by decide)
  · exact KeepsStart.refl s
  · exact s.writeInCtrl_keepsStart _ w _
  · exact (s.writeBits_keepsStart a w 0).trans (State.showRegions_keepsStart _)
  · exact KeepsStart.refl s
  · exact s.writeSurf_keepsStart _ _ w _
  · exact s.writeWb_keepsStart w
  · exact (s.writeBits_keepsStart a w hw).trans (State.runWritten_keepsStart _ _)
  · exact s.writeBits_keepsStart a _ hw

theorem State.compWritten_keepsStart (s t : State) (a n : Nat) : t.KeepsStart (s.compWritten t a n) := by
  refine KeepsStart.trans (KeepsStart.foldl (fun u l => ?_) _ t) (KeepsStart.foldl State.headEvent_keepsStart _ _)
  exact KeepsStart.ite (u.headEvent_keepsStart _) ((u.headEvent_keepsStart _).trans (State.headEvent_keepsStart _ _))

theorem State.settleWrite_keepsStart (s t : State) (a n : Nat) : t.KeepsStart (s.settleWrite t a n) := by
  unfold State.settleWrite
  extract_lets t1 t2 t3
  have k1 : t.KeepsStart t1 :=
    KeepsStart.ite (t.showPins_keepsStart.trans (telltaleChange_keepsStart s _)) (KeepsStart.refl t)
  have k2 : t.KeepsStart t2 := k1.trans (KeepsStart.foldl (fun u h => u.touchApply_keepsStart h _) _ t1)
  have k3 : t.KeepsStart t3 := KeepsStart.ite (k2.trans t2.showLevels_keepsStart) k2
  exact ((k3.trans (s.compWritten_keepsStart t3 a n)).trans (State.showFurled_keepsStart _)).trans (State.touchJudgeAll_keepsStart _)

theorem State.writeRegs_keepsStart (s : State) (a : Nat) (ws hw : List Word) : s.KeepsStart (s.writeRegs a ws hw) :=
  (KeepsStart.foldl (fun u _ => u.writeWord_keepsStart _ _ _) _ s).trans (s.settleWrite_keepsStart _ a _)

/-! ### The commit instant -/

/-- Every domain of Table 18-3 has a number below 32. -/
theorem commitDomains_lt : ∀ n ∈ runOn ++ switchable, n < 32 := by decide

theorem State.commitDomains_keepsStart (s : State) (repair : List Word) : s.KeepsStart (s.commitDomains repair) := by
  refine KeepsStart.trans (KeepsStart.foldlMem _ (fun u n hn => u.domainUp_keepsStart (commitDomains_lt n hn) _) s)
    (KeepsStart.foldlMem _ (fun u n hn => ?_) _)
  exact State.setPd_keepsStart (KeepsStart.refl u) (commitDomains_lt n (List.mem_append_right _ hn)) 22 1 1

theorem State.setBufs_keepsStart (s : State) (n : Nat) (b : SurfBufs) : s.KeepsStart (s.setBufs n b) :=
  (KeepsStart.refl s).of_eq rfl rfl rfl

theorem State.commitSurface_keepsStart (s : State) (sel front : Option Nat) : s.KeepsStart (s.commitSurface sel front) := by
  unfold State.commitSurface
  extract_lets d s1 s2 s3 s4
  have k1 : s.KeepsStart s1 :=
    (((KeepsStart.refl s).setFld 0 (by decide)).setFld 0x1000000 (by decide)).setFld 0 (by decide)
  have k2 : s.KeepsStart s2 := ((k1.setFld d.width (by decide)).setFld d.height (by decide)).setFld 0 (by decide)
  have k3 : s.KeepsStart s3 := ((k2.setFld 2 (by decide)).setFld _ (by decide)).trans (State.judgeSurf_keepsStart _ 63)
  have k4 : s.KeepsStart s4 := (k3.setFld _ (by decide)).setFld _ (by decide)
  split
  · exact (k4.setInput _ _).setFld 2 (by decide)
  · exact k4.trans (State.setBufs_keepsStart _ 63 _)

theorem State.loadLinear_keepsStart (s : State) : s.KeepsStart s.loadLinear :=
  have ktile (u : State) (x : TileState) : u.KeepsStart { u with tile := x } := (KeepsStart.refl u).of_eq rfl rfl rfl
  KeepsStart.foldl (fun u _ => ktile u _) _ s

theorem State.makeLive_keepsStart (s : State) (k : Nat) : s.KeepsStart (s.makeLive k) :=
  have kicon (x : Icon) : s.KeepsStart (s.setIcon k x) := (KeepsStart.refl s).of_eq rfl rfl rfl
  (kicon _).trans (State.showLoaded_keepsStart _)

theorem State.loadIconRecord_keepsStart (s : State) (k : Nat) : s.KeepsStart (s.loadIconRecord k) := by
  have hrec := s.record_keepsStart (0x4000 + k)
  have kicon (u : State) (x : Icon) : u.KeepsStart (u.setIcon k x) := (KeepsStart.refl u).of_eq rfl rfl rfl
  unfold State.loadIconRecord
  split
  · next t h => rw [h] at hrec; exact hrec
  · next p t h =>
    rw [h] at hrec
    exact KeepsStart.ite ((hrec.trans (kicon _ _)).trans (State.makeLive_keepsStart _ k)) (hrec.setFld 1 (by decide))

end Sys2Proof.Machine
end

section
/-! PROOFS. The commit instant (O30): which steps hand the device over, what each of them leaves and what stands at its end. -/

namespace Sys2Proof.Machine
open State (KeepsStart)

/-! ### The hand-over -/

theorem State.fld_wr_ne (s : State) {a : Nat} (w : Word) {f : Field} (h : a ≠ f.addr) : (s.wr a w).fld f = s.fld f := by
  unfold State.fld
  rw [State.rd_wr_ne s a _ w h]

theorem State.fld_raise_ne (s : State) (k : Nat) {f : Field} (h : f.addr ≠ 0x30004) : (s.raise k).fld f = s.fld f := by
  unfold State.fld
  rw [State.rd_raise_ne s k _ h]

theorem State.fld_setPhase_apart (s : State) (p : Nat) {f : Field} (hp : F.BOOT_STATUS_PHASE.apart f) (h : f.addr ≠ 0x30004) :
    (s.setPhase p).fld f = s.fld f := by
  unfold State.setPhase
  split
  · rfl
  · rw [State.fld_raise_ne _ _ h, State.fld_setFld_apart _ _ _ _ hp]

theorem State.phase_setPhase (s : State) {p : Nat} (hp : p < 16) : (s.setPhase p).phase = p := by
  unfold State.setPhase
  split
  · assumption
  · exact (State.fld_raise_ne _ _ (by decide)).trans ((State.fld_setFld s _ p (by decide)).trans (Nat.mod_eq_of_lt hp))

theorem State.setPhase_startCore (s : State) (p : Nat) : (s.setPhase p).startCore = s.startCore := by
  unfold State.setPhase
  split
  · rfl
  · exact ((KeepsStart.refl _).raise causeBoot).core

theorem State.setPhase_cw (s : State) (p : Nat) : (s.setPhase p).cw = s.cw := by
  unfold State.setPhase
  split
  · rfl
  · exact State.raise_cw _ _

theorem State.phase_handOver (s : State) : s.handOver.phase = 5 := State.phase_setPhase _ (by decide)

theorem State.keylock_handOver (s : State) : s.handOver.bit F.BOOT_STATUS_KEYLOCK = true := by
  unfold State.bit State.handOver
  dsimp only
  rw [State.fld_setPhase_apart _ 5 (.inr (.inr (by decide))) (by decide), State.fld_setFld_apart _ _ _ 0 (.inl (by decide)),
    State.fld_setFld_apart _ _ _ _ (.inl (by decide)), State.fld_wr_ne _ _ (by decide), State.fld_setFld _ _ 1 (by decide)]
  rfl

theorem State.standAlone_handOver (s : State) : s.handOver.standAlone = false := by
  unfold State.standAlone State.bit State.handOver
  dsimp only
  rw [State.fld_setPhase_apart _ 5 (.inl (by decide)) (by decide), State.fld_setFld _ _ 0 (by decide)]
  rfl

theorem State.version_handOver (s : State) : s.handOver.fld F.BOOT_RUNTIME_VERSION_VERSION = hdrVersion s.boot.hdr % 2 ^ 32 := by
  unfold State.handOver
  dsimp only
  rw [State.fld_setPhase_apart _ 5 (.inl (by decide)) (by decide), State.fld_setFld_apart _ _ _ 0 (.inl (by decide)),
    State.fld_setFld _ _ _ (by decide)]
  rfl

theorem State.handOver_startCore (s : State) : s.handOver.startCore = s.startCore := by
  unfold State.handOver
  simp only [State.setPhase_startCore, State.setFld_startCore, State.wr_startCore]

theorem State.handOver_cw (s : State) : s.handOver.cw = s.cw := by
  unfold State.handOver
  simp only [State.setPhase_cw, State.setFld_cw, State.wr_cw]

/-! ### The commit queue -/

/-- The state in which the entries of the commit queue take effect: the queue is empty and Scribe no longer stalls on it. -/
def State.queueCleared (s : State) : State :=
  { s.setFld F.BOOT_STATUS_GATE_STALLED 0 with boot := { s.boot with commitQ := [], stalled := none } }

theorem State.applyQueue_keepsStart (s : State) : s.queueCleared.KeepsStart s.applyQueue := by
  have kwrite (u : State) (e : Nat × Word) : u.KeepsStart (u.writeRegs e.1 [e.2] []) := u.writeRegs_keepsStart e.1 [e.2] []
  exact KeepsStart.foldl kwrite (s.boot.commitQ ++ s.boot.stalled.toList) s.queueCleared

theorem State.fld_queueCleared_setFld (s : State) (f : Field) :
    s.queueCleared.fld f = (s.setFld F.BOOT_STATUS_GATE_STALLED 0).fld f := State.fld_of_regs rfl f

theorem State.gateStalled_queueCleared (s : State) : s.queueCleared.bit F.BOOT_STATUS_GATE_STALLED = false := by
  unfold State.bit
  rw [s.fld_queueCleared_setFld, State.fld_setFld s _ 0 (by decide)]
  rfl

theorem State.fld_queueCleared (s : State) {f : Field} (hf : F.BOOT_STATUS_GATE_STALLED.apart f) : s.queueCleared.fld f = s.fld f :=
  (s.fld_queueCleared_setFld f).trans (State.fld_setFld_apart s _ f 0 hf)

/-! ### The commit instant as a whole -/

/-- What the commit instant leaves of the start: the hand-over's fields, the queue emptied, the losers' retirement due. -/
structure State.Committed (s t : State) : Prop where
  fld : ∃ u, s.KeepsStart u ∧ ∀ f ∈ startFields, F.BOOT_STATUS_GATE_STALLED.apart f → t.fld f = u.handOver.fld f
  gate : t.bit F.BOOT_STATUS_GATE_STALLED = false
  core : t.startCore = { s.startCore with commitQ := [], stalled := none, retireDue := true }
  cw : s.cw.running = none → t.cw = s.cw

theorem State.commit_committed (s : State) (repair : List Word) : s.Committed (s.commit repair) := by
  unfold State.commit
  extract_lets code sel front s1 s2 b e s3 s4 s5
  have ksurf : s.KeepsStart (s.commitSurface sel front) := s.commitSurface_keepsStart sel front
  have k2 : s1.KeepsStart s2 := KeepsStart.foldl State.dropInput_keepsStart _ s1
  have kdom : s3.KeepsStart ((s3.commitDomains repair).loadLinear.tablesDue 0) :=
    ((s3.commitDomains_keepsStart repair).trans (State.loadLinear_keepsStart _)).trans (State.tablesDue_keepsStart _ 0)
  have kend : ((s3.commitDomains repair).loadLinear.tablesDue 0).queueCleared.KeepsStart
      (telltaleChange s5 (s5.each (List.range 32) State.loadIconRecord)) :=
    (((State.applyQueue_keepsStart _).of_eq (u := s5) rfl rfl rfl).trans (KeepsStart.foldl State.loadIconRecord_keepsStart _ s5)).trans
      (telltaleChange_keepsStart s5 _)
  generalize (s3.commitDomains repair).loadLinear.tablesDue 0 = u at kdom kend
  have hcore3 : s3.startCore = { s.startCore with retireDue := true } := by
    have hs2 : s2.startCore = s.startCore := k2.core.trans ((State.handOver_startCore _).trans ksurf.core)
    rw [← hs2]
    rfl
  refine ⟨⟨_, ksurf, fun f hf hgate => ?fields⟩, ?gate, ?core, fun hrun => ?window⟩
  case fields =>
    calc _ = u.queueCleared.fld f := kend.fld f hf
      _ = u.fld f := u.fld_queueCleared hgate
      _ = s3.fld f := kdom.fld f hf
      _ = s1.fld f := k2.fld f hf
  case gate => rw [kend.bit (by decide), u.gateStalled_queueCleared]
  case core =>
    have hcleared : u.queueCleared.startCore = { u.startCore with commitQ := [], stalled := none } := rfl
    rw [kend.core, hcleared, kdom.core, hcore3]
  case window =>
    have hs1 : s1.cw = s.cw := (State.handOver_cw _).trans (ksurf.cw hrun)
    have hs3 : s3.cw = s.cw := (k2.cw (by rw [hs1, hrun])).trans hs1
    have hu : u.cw = s.cw := (kdom.cw (by rw [hs3, hrun])).trans hs3
    exact (kend.cw (hu ▸ hrun)).trans hu

theorem exec_commitInstant (repair : List Word) (s : State) : exec (.commitInstant repair) s = execCommitInstant repair s := rfl
theorem exec_loserRetirement (s : State) : exec .loserRetirement s = execLoserRetirement s := rfl

/-- R140: before the commit point and outside PASSED nothing happens. -/
theorem commitInstant_waits {s : State} (repair : List Word) (h : s.phase ≠ 4 ∨ s.atCommitPoint = false) :
    exec (.commitInstant repair) s = .next s := by
  have hnot : ¬ (s.phase = 4 ∧ s.atCommitPoint = true) := by
    rintro ⟨hphase, hpoint⟩
    rcases h with h | h
    · exact h hphase
    · rw [hpoint] at h
      cases h
  rw [exec_commitInstant, execCommitInstant, if_neg hnot]
  unfold State.ifLive
  rw [ite_self]

theorem commitInstant_commits {s : State} (repair : List Word) (hs : s.off = false) (hphase : s.phase = 4)
    (hpoint : s.atCommitPoint = true) : exec (.commitInstant repair) s = .next (s.commit repair) := by
  rw [exec_commitInstant, execCommitInstant, if_pos ⟨hphase, hpoint⟩, State.ifLive_of_on hs]

theorem State.atCommitPoint_iff (s : State) :
    s.atCommitPoint = true ↔ s.boot.passAt < s.boot.edges ∧ (s.headRunning 0 = true → (s.head 0).blank = true) := by
  unfold State.atCommitPoint
  cases s.headRunning 0 <;> simp

/-! ### The retirement of the losers -/

theorem State.etchTouch_etch (s : State) (a n : Nat) : (s.etchTouch a n).etch = s.etch := by
  refine foldl_keeps State.etch (fun u f => ?_) _ s
  dsimp only
  split_ifs
  · rfl
  · rfl
  · exact State.raise_etch _ _

theorem State.touchPair_etch (s : State) (type : Nat) : (s.touchPair type).etch = s.etch := by
  simp only [State.touchPair, State.touchSlot, State.etchTouch_etch]

/-- A look at the records leaves the store as it is. -/
theorem State.touchRecords_etch (s : State) : s.touchRecords.etch = s.etch := by
  refine foldl_keeps State.etch (fun u r => ?_) _ s
  split
  · rfl
  · exact foldl_keeps State.etch (fun v i => v.touchPair_etch _) _ u

theorem loserRetirement_queues {s : State} (hs : s.off = false) (hrun : s.runtime = true) (hhalt : s.boot.halted = false)
    (hdue : s.etch.retireDue = true) (hpd : s.pdOn 9 = true) (hsusp : s.bit F.ETCH_STATUS_SUSPENDED = false) :
    exec .loserRetirement s = .next { s.touchRecords with etch := { s.etch with
      retireDue := false, jobs := s.etch.jobs ++ s.etch.doubles.map (fun t => ⟨.retire t, [], none⟩) } } := by
  have hworks : s.runtimeWorks = true := by rw [State.runtimeWorks, hrun, hhalt]; rfl
  rw [exec_loserRetirement, execLoserRetirement, State.ifLive_of_on hs,
    if_pos ⟨hworks, hdue, hpd, by rw [hsusp]; rfl⟩]
  dsimp only
  rw [State.touchRecords_etch]

/-- Settles O30: what a commit leaves by the chain of its steps, the other clauses by the lemma on each event. -/
theorem commitInstant : Obligations.CommitInstant := by
  unfold Obligations.CommitInstant
  refine ⟨?commits, ?waits, State.atCommitPoint_iff, ?retires⟩
  case commits =>
    intro s repair hs hphase hpoint
    have hexec := commitInstant_commits repair hs hphase hpoint
    have hcommit := s.commit_committed repair
    generalize s.commit repair = t at hexec hcommit
    obtain ⟨⟨u, ku, hfld⟩, hgate, hcore, hcw⟩ := hcommit
    have hhdr : u.boot.hdr = s.boot.hdr := congrArg StartCore.hdr ku.core
    have hbit (f : Field) (hf : f ∈ startFields) (ha : F.BOOT_STATUS_GATE_STALLED.apart f) : t.bit f = u.handOver.bit f := by
      unfold State.bit
      rw [hfld f hf ha]
    refine ⟨t, hexec, ?_, ?_, congrArg StartCore.commitQ hcore, congrArg StartCore.stalled hcore, hgate, ?_, ?_,
      congrArg StartCore.retireDue hcore, hcw⟩
    · exact (hfld F.BOOT_STATUS_PHASE (by decide) (.inr (.inl (by decide)))).trans u.phase_handOver
    · exact (hbit F.BOOT_STATUS_KEYLOCK (by decide) (.inr (.inl (by decide)))).trans u.keylock_handOver
    · exact (hbit F.BOOT_SA_STATUS_SA_ACTIVE (by decide) (.inl (by decide))).trans u.standAlone_handOver
    · rw [hfld F.BOOT_RUNTIME_VERSION_VERSION (by decide) (.inl (by decide)), u.version_handOver, hhdr]
  case waits => exact fun s repair => commitInstant_waits repair
  case retires => exact fun s => loserRetirement_queues

end Sys2Proof.Machine
end

section
/-! PROOFS. Power-on reset, PORST_N and WAKE_N (O24): what the bring-up of the stand-alone mode (Table 2-1) keeps of the state that
the latching of the strap leaves, and what the pulses do. -/

namespace Sys2Proof.Machine
open State (KeepsStart)

/-! ### The Plate behind a chain's run -/

theorem State.countOff_keepsStart (s : State) : s.KeepsStart s.countOff :=
  ((KeepsStart.refl s).setFld _ (by decide)).setFld 1 (by decide)

theorem State.countRefuse_keepsStart (s : State) (c : Nat) : s.KeepsStart (s.countRefuse c) := by
  have kcount : s.KeepsStart (s.satAdd (F.PBA_REFUSE_REFUSE_CNT c) 1) := (KeepsStart.refl s).setReg _ (by decide)
  exact KeepsStart.ite kcount ((kcount.setReg 1 (by decide)).raise _)

theorem State.setPlate_keepsStart (s : State) (x : PlateState) : s.KeepsStart { s with plate := x } :=
  (KeepsStart.refl s).of_eq rfl rfl rfl

theorem State.deliver_keepsStart (s : State) (c w : Nat) (d : List Byte) : s.KeepsStart (s.deliver c w d) :=
  (KeepsStart.refl s).of_eq rfl rfl rfl

theorem State.setPba_keepsStart (s : State) (x : PbaState) : s.KeepsStart { s with pba := x } :=
  (KeepsStart.refl s).of_eq rfl rfl rfl

theorem State.plateWrite_keepsStart (s : State) (a : Nat) (d : List Byte) : s.KeepsStart (s.plateWrite a d) :=
  (KeepsStart.refl s).of_eq rfl rfl rfl

theorem State.setCredit_keepsStart (s : State) (c n : Nat) : s.KeepsStart (s.setCredit c n) :=
  (KeepsStart.refl s).of_eq rfl rfl rfl

theorem State.setPresented_keepsStart (s : State) (c : Nat) (l : List ReqBody) : s.KeepsStart (s.setPresented c l) :=
  (KeepsStart.refl s).of_eq rfl rfl rfl

/-- A request that drains no buffer leaves the Command Window's push buffer. -/
theorem State.present_keepsStart (s : State) (c : Nat) {r : ReqBody} (hr : r ≠ .drain) (a : ReqBody) :
    s.KeepsStart (s.present c r a) := by
  unfold State.present
  rw [s.popIfDrain_of_ne c hr]
  exact (KeepsStart.ite (KeepsStart.refl s) (s.setCredit_keepsStart c _)).trans (State.setPresented_keepsStart _ c _)

theorem State.offHit_keepsStart (s : State) (c : Nat) {r : ReqBody} (hr : r ≠ .drain) (a : ReqBody) :
    s.KeepsStart (s.offHit c r a) := by
  unfold State.offHit
  rw [s.popIfDrain_of_ne c hr]
  extract_lets u
  have koff : s.KeepsStart u := s.countOff_keepsStart
  split
  · exact koff.trans (u.setPlate_keepsStart _)
  · exact koff

theorem State.refuseReq_keepsStart (s : State) (c : Nat) {r : ReqBody} (hr : r ≠ .drain) (a : ReqBody) :
    s.KeepsStart (s.refuseReq c r a) := by
  unfold State.refuseReq
  extract_lets u
  have kcount : s.KeepsStart u := s.countRefuse_keepsStart c
  split
  · exact absurd rfl hr
  · exact kcount.trans (u.setPba_keepsStart _)

theorem State.judgeReq_keepsStart (s : State) (c : Nat) {r : ReqBody} (hr : r ≠ .drain) : s.KeepsStart (s.judgeReq c r) := by
  have kwait (l : List ReqBody) : s.KeepsStart (s.setWaiting c l) := (KeepsStart.refl s).of_eq rfl rfl rfl
  have kpresent (a : ReqBody) := s.present_keepsStart c hr a
  unfold State.judgeReq
  split
  · exact KeepsStart.refl s
  · exact KeepsStart.ite (KeepsStart.refl s) (KeepsStart.ite (KeepsStart.ite (kwait _) (s.offHit_keepsStart c hr _))
      (KeepsStart.ite (KeepsStart.refl s) (KeepsStart.ite (kpresent _) (KeepsStart.ite (KeepsStart.ite (kpresent _) (kwait _))
        (KeepsStart.ite (kpresent _) (s.refuseReq_keepsStart c hr _))))))

theorem State.plateRead_keepsStart (s : State) (c a : Nat) : s.KeepsStart (s.plateRead c a).2 := by
  have kce : s.KeepsStart (s.satAdd F.PLATE_ECC_CE_CNT 1) := (KeepsStart.refl s).setFld _ (by decide)
  have kue : s.KeepsStart (s.satAdd F.PLATE_ECC_UE_CNT 1) := (KeepsStart.refl s).setFld _ (by decide)
  unfold State.plateRead
  extract_lets w m d s1 s2 s1' s2'
  have k2 : s.KeepsStart s2 := KeepsStart.ite kce ((kce.setFld 1 (by decide)).raise _)
  have k2' : s.KeepsStart s2' :=
    KeepsStart.ite kue (((kue.setFld _ (by decide)).setFld _ (by decide)).setFld 1 (by decide))
  split_ifs
  · exact KeepsStart.refl s
  · exact k2.trans (s2.judgeReq_keepsStart 20 (r := .write w d) (by simp))
  · exact k2
  · exact (k2'.raise causePlate : s.KeepsStart (s2'.raise causePlate))

theorem State.carryOut_keepsStart (s : State) (c : Nat) (r : ReqBody) : s.KeepsStart (s.carryOut c r) := by
  cases r with
  | write a d =>
    exact KeepsStart.ite (s.plateWrite_keepsStart a d) ((s.plateRead_keepsStart c a).trans (State.plateWrite_keepsStart _ _ _))
  | read a => exact (s.plateRead_keepsStart c a).trans (State.deliver_keepsStart _ c _ _)
  | drain => exact KeepsStart.refl s
  | window => exact KeepsStart.refl s
  | copy n => exact KeepsStart.refl s

theorem State.flush_keepsStart (s : State) (c : Nat) : s.KeepsStart (s.flush c) := by
  unfold State.flush
  extract_lets p q s1
  have kwrite (u : State) (m : Merge) : u.KeepsStart (u.plateWrite m.addr m.data) := u.plateWrite_keepsStart m.addr m.data
  have k0 : s.KeepsStart { s with plate := { p with delivered := [] }, pba := { q with merging := q.merging.filter (·.client != c) } } :=
    (KeepsStart.refl s).of_eq rfl rfl rfl
  have k1 : s.KeepsStart s1 := k0.trans (KeepsStart.foldl kwrite _ _)
  exact (k1.trans (s1.setPresented_keepsStart c [])).trans (KeepsStart.foldl (fun u r => u.carryOut_keepsStart c r) _ _)

theorem State.serve_keepsStart (s : State) (c : Nat) (a : ReqBody) : s.KeepsStart (s.serve c a) :=
  ((s.flush_keepsStart c).trans (State.setCredit_keepsStart _ c _)).trans (State.carryOut_keepsStart _ c a)

/-! ### Training -/

theorem State.capture_keepsStart (s : State) (c a : Nat) (d : List Byte) : s.KeepsStart (s.capture c a d) :=
  KeepsStart.ite s.countOff_keepsStart
    (KeepsStart.ite (s.serve_keepsStart 20 _) ((s.countRefuse_keepsStart 20).setReg 1 (by decide)))

theorem State.endRun_keepsStart (s : State) (c st : Nat) : s.KeepsStart (s.endRun c st) := by
  have kflush (d : DiagRun) (n : Nat) : s.KeepsStart (s.flushRecs c d n) :=
    KeepsStart.ite (KeepsStart.refl s) ((s.capture_keepsStart c _ _).trans (State.setChain_keepsStart _ c _))
  unfold State.endRun
  refine KeepsStart.setReg ?_ st (by decide)
  split
  · exact KeepsStart.refl s
  · exact KeepsStart.ite (KeepsStart.refl s) (kflush _ _)

theorem State.loseRun_keepsStart (s : State) (c : Nat) : s.KeepsStart (s.loseRun c) :=
  KeepsStart.ite (s.endRun_keepsStart c _) (KeepsStart.refl s)

/-- A command that is answered was executing. -/
theorem State.finishRunning_keepsStart (s : State) (status : Nat) (payload : List Word) :
    s.KeepsStart (s.finishRunning status payload) := by
  unfold State.finishRunning
  split
  · exact KeepsStart.refl s
  · next r hr =>
    refine KeepsStart.ite (KeepsStart.refl s) ⟨fun f _ => State.fld_of_regs rfl f, rfl, fun hnone => ?_⟩
    rw [hnone] at hr
    cases hr

theorem State.settleFurl_keepsStart (s : State) : s.KeepsStart s.settleFurl := by
  unfold State.settleFurl
  split
  · exact KeepsStart.ite (s.finishRunning_keepsStart _ _) (KeepsStart.refl s)
  · exact KeepsStart.refl s

theorem State.settleBroadcast_keepsStart (s : State) : s.KeepsStart s.settleBroadcast := by
  unfold State.settleBroadcast
  split
  · exact KeepsStart.ite (s.finishRunning_keepsStart _ _) (KeepsStart.refl s)
  · exact KeepsStart.refl s

theorem State.setChainState_keepsStart (s : State) (c st : Nat) : s.KeepsStart (s.setChainState c st) := by
  unfold State.setChainState
  extract_lets old x s1 s2 y s3 s4
  have k1 : s.KeepsStart s1 := s.setChain_keepsStart c _
  have k2 : s.KeepsStart s2 := ((k1.setReg st (by decide)).setReg _ (by decide)).raise _
  have k3 : s.KeepsStart s3 := KeepsStart.ite ((k2.trans (s2.setChain_keepsStart c _)).setReg 0 (by decide)) k2
  have k4 : s.KeepsStart s4 := KeepsStart.ite (k3.trans (s3.loseRun_keepsStart c)) k3
  exact KeepsStart.ite k1 (KeepsStart.ite (k4.trans s4.settleBroadcast_keepsStart)
    (KeepsStart.ite ((k4.trans (s4.towardGoal_onlyChains c).keepsStart).trans (State.settleFurl_keepsStart _)) k4))

theorem State.failTo_keepsStart (s : State) (c st cause next wait : Nat) : s.KeepsStart (s.failTo c st cause next wait) :=
  (((((KeepsStart.refl s).setReg st (by decide)).setReg cause (by decide)).setReg _ (by decide)).trans
    (State.setChainState_keepsStart _ c chDark)).trans
    (State.setChain_keepsStart _ c _)

theorem State.failAttempt_keepsStart (s : State) (c st cause : Nat) : s.KeepsStart (s.failAttempt c st cause) :=
  KeepsStart.ite (s.failTo_keepsStart c st cause _ _)
    (KeepsStart.ite (s.failTo_keepsStart c st cause _ _) (s.failTo_keepsStart c st cause _ _))

theorem State.startAttempt_keepsStart (s : State) (c n st : Nat) : s.KeepsStart (s.startAttempt c n st) := by
  unfold State.startAttempt
  extract_lets s0 x w0 w4 fixed s1 s2 s3 s4
  have k1 : s.KeepsStart s1 := ((KeepsStart.refl s).setReg n (by decide)).trans (s0.setChain_keepsStart c _)
  have k2 : s.KeepsStart s2 := (k1.setReg _ (by decide)).setReg _ (by decide)
  have k3 : s.KeepsStart s3 :=
    ((((k2.trans (s2.setChain_keepsStart c _)).setReg _ (by decide)).setReg 0 (by decide)).setReg 0 (by decide)).setReg _ (by decide)
  have k4 : s.KeepsStart s4 := (k3.trans (s3.loadTrims_keepsStart _)).trans (State.setChainState_keepsStart _ c st)
  exact KeepsStart.ite (k2.trans (s2.failAttempt_keepsStart c _ _))
    ((KeepsStart.ite (k4.trans (s4.setChain_keepsStart c _)) k4).trans (State.send_keepsStart _ c _))

theorem State.trainChain_keepsStart (s : State) (c : Nat) : s.KeepsStart (s.trainChain c) := by
  unfold State.trainChain
  extract_lets s1 x s2
  have k2 : s.KeepsStart s2 := ((s.setChainState_keepsStart c chDark).setReg _ (by decide)).trans (s1.setChain_keepsStart c _)
  exact KeepsStart.ite (k2.trans (s2.startAttempt_keepsStart c 1 _)) k2

theorem State.darken_keepsStart (s : State) (c : Nat) : s.KeepsStart (s.darken c) :=
  ((s.setChainState_keepsStart c chDark).trans (State.loseRun_keepsStart _ c)).trans (State.setChain_keepsStart _ c _)

theorem State.bindChains_keepsStart (s : State) (h : Nat) (e : List Word) : s.KeepsStart (s.bindChains h e) := by
  refine KeepsStart.trans (KeepsStart.foldl (fun u c => ?unbind) _ s) (KeepsStart.foldl (fun u c => ?bind) _ _)
  case unbind =>
    have koff : u.KeepsStart ((u.setFld (F.LINK_CFG3_BOUND c) 0).setFld (F.LINK_PWR_BOUND_NOW c) 0) :=
      ((KeepsStart.refl u).setReg 0 (by decide)).setReg 0 (by decide)
    exact KeepsStart.ite (koff.trans (State.darken_keepsStart _ c)) (KeepsStart.refl u)
  case bind =>
    have kcfg (v : State) (k : Nat) (w : Word) : v.KeepsStart (v.wr (cfgReg c k) w) :=
      (KeepsStart.refl v).wr w (by unfold cfgReg; omega)
    exact KeepsStart.ite ((KeepsStart.foldl (fun v k => kcfg v k _) _ u).trans (State.trainChain_keepsStart _ c)) (KeepsStart.refl u)

/-! ### The bring-up of stand-alone mode (Table 2-1) -/

theorem State.setMode_keepsStart (s : State) (h m : Nat) : s.KeepsStart (s.setMode h m) :=
  KeepsStart.ite (KeepsStart.refl s) (((KeepsStart.refl s).setHead h _).setReg m (by decide))

theorem State.backlightFromProfile_keepsStart (s : State) (h : Nat) : s.KeepsStart (s.backlightFromProfile h) :=
  (((KeepsStart.refl s).setReg 0 (by decide)).setReg 0 (by decide)).setReg _ (by decide)

theorem State.applyProfile_keepsStart (s : State) (h : Nat) (e : List Word) : s.KeepsStart (s.applyProfile h e) := by
  unfold State.applyProfile
  extract_lets s1 s2 s3 x fr s4 s5 s6
  have k1 : s.KeepsStart s1 := KeepsStart.foldl (fun u k => (KeepsStart.refl u).wr _ (by omega)) _ s
  have k2 : s.KeepsStart s2 :=
    (((((k1.setReg _ (by decide)).setReg _ (by decide)).setReg _ (by decide)).setReg _ (by decide)).setReg _ (by decide)).setReg _
      (by decide)
  have k3 : s.KeepsStart s3 := ((k2.setReg _ (by decide)).setReg 0 (by decide)).trans (State.setMode_keepsStart _ h _)
  have k4 : s.KeepsStart s4 := k3.setHead h _
  have k5 : s.KeepsStart s5 := ((k4.trans (s4.endHold_keepsStart h)).trans (State.odFresh_keepsStart _ h)).trans
    (State.backlightFromProfile_keepsStart _ h)
  have k6 : s.KeepsStart s6 := KeepsStart.ite k5 (k5.trans (s5.tablesDue_keepsStart h))
  exact k6.trans (s6.bindChains_keepsStart h e)

theorem State.bringUp_keepsStart (s : State) (ds : List Nat) (hds : ∀ n ∈ ds, n < 32) (b : BootFinds) : s.KeepsStart (s.bringUp ds b) :=
  KeepsStart.foldlMem ds (fun u n hn => u.domainUp_keepsStart (hds n hn) _) s

/-- A field of BOOT_SA_STATUS below PROF_STRAP. -/
theorem State.KeepsStart.setSaFld {s t : State} (k : s.KeepsStart t) {lo w : Nat} (v : Nat) (h : lo + w ≤ 28) :
    s.KeepsStart (t.setFld ⟨0x20010, lo, w⟩ v) := by
  have hapart : ∀ g ∈ startFields, g.addr = 0x20010 → 28 ≤ g.lo := by decide
  refine k.setFldApart v fun g hg => ?_
  by_cases ha : g.addr = 0x20010
  · exact .inr (.inl (h.trans (hapart g hg ha)))
  · exact .inl (Ne.symm ha)

theorem State.plateTested_keepsStart (s : State) (b : BootFinds) : s.KeepsStart (s.plateTested b) := by
  unfold State.plateTested
  extract_lets s1 s2
  have k1 : s.KeepsStart s1 := ((KeepsStart.refl s).setFld 1 (by decide)).setFld _ (by decide)
  have k2 : s.KeepsStart s2 := k1.trans (KeepsStart.foldl (fun u r => (KeepsStart.refl u).wr _ (by omega)) _ s1)
  split
  · exact k2
  · exact ((k2.setFld 1 (by decide)).setFld _ (by decide)).setSaFld 1 (by decide)

theorem State.findLog_keepsStart (s : State) : s.KeepsStart s.findLog :=
  ((s.etchTouch_keepsStart _ _).setFld _ (by decide)).setFld _ (by decide)

theorem State.useRom_keepsStart (s : State) (n : Nat) : s.KeepsStart (s.useRom n).2 :=
  ((KeepsStart.refl s).setSaFld _ (by decide)).setSaFld _ (by decide)

theorem State.profilesRecord_keepsStart (s : State) : s.KeepsStart s.profilesRecord.2 := by
  have hrec := s.record_keepsStart 0x2000
  unfold State.profilesRecord
  split
  · next h =>
    rw [h] at hrec
    exact hrec
  · next h =>
    rw [h] at hrec
    exact hrec

theorem State.pickProfile_keepsStart (s : State) (n : Nat) : s.KeepsStart (s.pickProfile n).2 := by
  have k1 := s.profilesRecord_keepsStart
  have kuse (f : Field) (t : State) (k : s.KeepsStart (t.setFld f 1)) := k.trans (State.useRom_keepsStart _ n)
  unfold State.pickProfile
  dsimp only
  split
  · exact kuse _ _ (k1.setSaFld 1 (by decide))
  · split_ifs
    · exact k1
    · exact kuse _ _ (k1.setSaFld 1 (by decide))

theorem State.showUsable_keepsStart (s : State) (sets : List (Option (List Int))) : s.KeepsStart (s.showUsable sets) := by
  have kusable (v : Nat) : s.KeepsStart (s.setFld F.CAL_STATUS_USABLE v) := (KeepsStart.refl s).setFld v (by decide)
  exact KeepsStart.ite ((kusable _).setSaFld 1 (by decide)) (kusable _)

theorem State.retarget_keepsStart (s : State) : s.KeepsStart s.retarget := by
  unfold State.retarget
  extract_lets s0 sets s1 src
  have k1 : s.KeepsStart s1 :=
    (KeepsStart.foldl (fun u k => u.record_keepsStart (0x1000 + k)) _ s).trans (s0.showUsable_keepsStart sets)
  have ktemp (w lo : Nat) : s.KeepsStart ((s1.setFld F.CAL_TEMP_W w).setFld F.CAL_TEMP_SET_LO lo) :=
    (k1.setFld w (by decide)).setFld lo (by decide)
  have kcal (t : State) (x : CalState) : t.KeepsStart { t with cal := x } := (KeepsStart.refl t).of_eq rfl rfl rfl
  split
  exact (KeepsStart.ite (ktemp _ _) k1).trans (kcal _ _)

theorem State.saSlots_keepsStart (s : State) : s.KeepsStart s.saSlots := by
  refine KeepsStart.foldl (fun u i => ?_) _ s
  extract_lets h k a
  have kslot (w0 w1 w2 : Word) : u.KeepsStart (((u.wr a w0).wr (a + 4) w1).wr (a + 8) w2) :=
    (((KeepsStart.refl u).wr w0 (by omega)).wr w1 (by omega)).wr w2 (by omega)
  exact KeepsStart.ite (kslot _ _ _) (kslot 0 0 0)

theorem State.saShow_keepsStart (s : State) (e : List Word) : s.KeepsStart (s.saShow e) := by
  unfold State.saShow
  extract_lets s1 x s2
  have k1 : s.KeepsStart s1 := ((KeepsStart.refl s).setSaFld _ (by decide)).setSaFld _ (by decide)
  exact (((k1.setHead 0 _).trans (s2.showLevel_keepsStart 0)).trans (State.saSlots_keepsStart _)).trans (State.showPins_keepsStart _)

theorem laneDomain_lt {c : Nat} (hc : c < 8) : laneDomain c < 32 := by
  unfold laneDomain
  omega

/-- Step 5's domains: those of head A's path and the lane pairs that the profile names. -/
theorem startDomains_lt (p : Nat → Bool) : ∀ n ∈ [15, 17, 10, 11] ++ ((List.range 8).filter p).map laneDomain, n < 32 := by
  intro n hn
  rcases List.mem_append.1 hn with hn | hn
  · exact (by decide : ∀ m ∈ [15, 17, 10, 11], m < 32) n hn
  · obtain ⟨c, hc, rfl⟩ := List.mem_map.1 hn
    exact laneDomain_lt (List.mem_range.1 (List.mem_filter.1 hc).1)

/-- The registers of the inputs show nothing of a head. -/
theorem State.headState_saInput (s : State) (e : List Word) {i : Nat} (hi : i < 4) (h : Nat) :
    (s.saInput e i).headState h = s.headState h := by
  have hset (u : State) (f : Field) (v : Nat) (hf : f.addr < 0x80000) : (u.setFld f v).headState h = u.headState h :=
    State.fld_setFld_apart u f _ v (.inl (by simp only [F.HEAD_STATUS_STATE]; omega))
  have hin (u : State) (x : InputState) : (u.setInput i x).headState h = u.headState h := rfl
  have haddr (o : Nat) (ho : o < 0x40) : 0x50000 + o + 0x40 * i < 0x80000 := by omega
  unfold State.saInput State.setInState
  extract_lets s1 s2
  have h1 : s1.headState h = s.headState h := (hset _ _ _ (haddr 0 (by decide))).trans (hset _ _ _ (haddr 0 (by decide)))
  have h2 : s2.headState h = s.headState h := by
    unfold s2
    split
    · exact (hset _ _ _ (by decide)).trans h1
    · exact (hset _ _ _ (haddr 0 (by decide))).trans ((hset _ _ _ (haddr 0 (by decide))).trans
        ((hset _ _ _ (haddr 0 (by decide))).trans h1))
  exact (hset _ _ _ (haddr 8 (by decide))).trans ((hin s2 _).trans h2)

/-- Table 2-1: what follows the latching of the strap keeps the start. -/
theorem State.standAloneBoot_keepsStart (s : State) (prof : Nat) (b : BootFinds) :
    (s.latchStrap prof).KeepsStart (s.standAloneBoot prof b) := by
  unfold State.standAloneBoot
  extract_lets s1 s2
  have k2 : (s.latchStrap prof).KeepsStart s2 :=
    (((s.latchStrap prof).bringUp_keepsStart _ (by decide) b).trans (State.plateTested_keepsStart _ b)).trans s1.findLog_keepsStart
  have k3 := k2.trans (s2.pickProfile_keepsStart prof)
  cases hp : s2.pickProfile prof with
  | mk e s3 =>
    rw [hp] at k3
    dsimp -zeta only
    extract_lets s4 lanes s5 s6
    have k4 : (s.latchStrap prof).KeepsStart s4 := (k3.setFld _ (by decide)).trans (State.retarget_keepsStart _)
    have k5 : (s.latchStrap prof).KeepsStart s5 :=
      ((k4.trans (s4.bringUp_keepsStart _ (startDomains_lt _) b)).trans (State.applyProfile_keepsStart _ 0 e)).trans
        (State.saShow_keepsStart _ e)
    have k6 : (s.latchStrap prof).KeepsStart s6 := (k5.setFld 1 (by decide)).trans (State.startHead_keepsStart _ 0)
    exact k6.trans (KeepsStart.foldl (fun u i => u.saInput_keepsStart e i) [0, 2] s6)

/-- R50: head A is STARTING at the end of the bring-up. -/
theorem State.headState_standAloneBoot (s : State) (prof : Nat) (b : BootFinds) : (s.standAloneBoot prof b).headState 0 = 1 := by
  unfold State.standAloneBoot
  extract_lets s1 s2
  cases s2.pickProfile prof with
  | mk e s3 =>
    dsimp -zeta only
    extract_lets s4 lanes s5 s6
    calc _ = s6.headState 0 := (State.headState_saInput _ e (by decide) 0).trans (s6.headState_saInput e (by decide) 0)
      _ = 1 := State.headState_startHead _ 0

/-! ### The latched strap and the fuse shadow -/

theorem State.latchStrap_startCore (s : State) (prof : Nat) : (s.latchStrap prof).startCore = s.startCore := by
  unfold State.latchStrap State.setBit
  simp only [State.setFld_startCore]

theorem State.latchStrap_cw (s : State) (prof : Nat) : (s.latchStrap prof).cw = s.cw := by
  unfold State.latchStrap
  simp only [State.setFld_cw, State.setBit_cw]

/-- A field of another register than FUSE_STATUS and BOOT_SA_STATUS. -/
theorem State.fld_latchStrap_ne (s : State) (prof : Nat) {f : Field} (hf : F.FUSE_STATUS_ENROL_LOCK.addr ≠ f.addr)
    (hs : F.BOOT_SA_STATUS_SA_ACTIVE.addr ≠ f.addr) : (s.latchStrap prof).fld f = s.fld f := by
  unfold State.latchStrap State.setBit
  dsimp only
  simp only [State.fld_setFld_apart _ F.BOOT_SA_STATUS_SA_ACTIVE f _ (.inl hs),
    State.fld_setFld_apart _ F.BOOT_SA_STATUS_PROF_STRAP f _ (.inl hs),
    State.fld_setFld_apart _ F.FUSE_STATUS_ROLLBACK_STEPS f _ (.inl hf),
    State.fld_setFld_apart _ F.FUSE_STATUS_DK_PRESENT f _ (.inl hf),
    State.fld_setFld_apart _ F.FUSE_STATUS_DEBUG_LOCK f _ (.inl hf),
    State.fld_setFld_apart _ F.FUSE_STATUS_ENROL_LOCK f _ (.inl hf)]

theorem State.standAlone_latchStrap (s : State) (prof : Nat) : (s.latchStrap prof).bit F.BOOT_SA_STATUS_SA_ACTIVE = true := by
  unfold State.bit State.latchStrap
  dsimp only
  rw [State.fld_setFld _ _ 1 (by decide)]
  rfl

theorem State.strap_latchStrap (s : State) {prof : Nat} (hp : prof < 8) :
    (s.latchStrap prof).fld F.BOOT_SA_STATUS_PROF_STRAP = prof := by
  unfold State.latchStrap
  dsimp only
  rw [State.fld_setFld_apart _ _ _ 1 (.inr (.inr (by decide))), State.fld_setFld _ _ prof (by decide)]
  exact Nat.mod_eq_of_lt hp

theorem State.bit_setBit (s : State) {f : Field} (b : Bool) (hw : f.width = 1) (hf : f.lo + f.width ≤ 32) :
    (s.setBit f b).bit f = b := by
  unfold State.bit State.setBit
  rw [State.fld_setFld _ _ _ hf, hw]
  cases b <;> rfl

theorem State.bit_setFld_apart (s : State) {f g : Field} (v : Nat) (h : f.apart g) : (s.setFld f v).bit g = s.bit g := by
  unfold State.bit
  rw [State.fld_setFld_apart s f g v h]

theorem State.enrolLock_latchStrap (s : State) (prof : Nat) : (s.latchStrap prof).bit F.FUSE_STATUS_ENROL_LOCK = s.fuses.enrolLock := by
  unfold State.latchStrap
  extract_lets f s1
  rw [State.bit_setFld_apart _ 1 (.inl (by decide)), State.bit_setFld_apart _ prof (.inl (by decide)),
    State.bit_setFld_apart _ _ (.inr (.inl (by decide))), State.setBit, State.bit_setFld_apart _ _ (.inr (.inl (by decide)))]
  unfold s1
  rw [State.setBit, State.bit_setFld_apart _ _ (.inr (.inl (by decide)))]
  exact s.bit_setBit _ rfl (by decide)

theorem State.debugLock_latchStrap (s : State) (prof : Nat) : (s.latchStrap prof).bit F.FUSE_STATUS_DEBUG_LOCK = s.fuses.debugLock := by
  unfold State.latchStrap
  extract_lets f s1
  rw [State.bit_setFld_apart _ 1 (.inl (by decide)), State.bit_setFld_apart _ prof (.inl (by decide)),
    State.bit_setFld_apart _ _ (.inr (.inl (by decide))), State.setBit, State.bit_setFld_apart _ _ (.inr (.inl (by decide)))]
  unfold s1
  exact State.bit_setBit _ _ rfl (by decide)

theorem State.rollback_latchStrap (s : State) (prof : Nat) (h : s.fuses.rollback ≤ 64) :
    (s.latchStrap prof).fld F.FUSE_STATUS_ROLLBACK_STEPS = s.fuses.rollback := by
  unfold State.latchStrap
  dsimp only
  rw [State.fld_setFld_apart _ _ _ 1 (.inl (by decide)), State.fld_setFld_apart _ _ _ prof (.inl (by decide)),
    State.fld_setFld _ _ _ (by decide)]
  exact Nat.mod_eq_of_lt (Nat.lt_of_le_of_lt h (by decide))

/-- R177: the shadow shows the fuses of a state once the strap is latched. -/
theorem State.KeepsStart.shadowed {s t : State} {prof : Nat} (k : (s.latchStrap prof).KeepsStart t) (h : s.fuses.rollback ≤ 64) :
    t.shadowed = true := by
  have hfuses : t.fuses = s.fuses := congrArg StartCore.fuses (k.core.trans (s.latchStrap_startCore prof))
  unfold State.shadowed
  rw [k.bit (by decide), k.bit (by decide), k.fld _ (by decide), hfuses, s.enrolLock_latchStrap, s.debugLock_latchStrap,
    s.rollback_latchStrap prof h]
  simp

/-! ### PORST_N low and WAKE_N -/

theorem State.beginUpdate_keepsStart (s : State) (type flags : Nat) (payload : List Byte) :
    s.KeepsStart (s.beginUpdate type flags payload).2 :=
  KeepsStart.ite (s.winner_keepsStart type) ((s.winner_keepsStart type).trans (State.etchTouch_keepsStart _ _ _))

/-- A job whose words are laid out is looked up in the store; nothing of the start goes. -/
theorem State.headJob_keepsStart {s : State} {x : EtchJob × State} (h : s.headJob = some x) : s.KeepsStart x.2 := by
  have kjobs (l : List EtchJob) : s.KeepsStart { s with etch := { s.etch with jobs := l } } := (KeepsStart.refl s).setEtch rfl rfl
  unfold State.headJob at h
  split at h
  · cases h
  · next j l _ =>
    have k1 := kjobs (j :: l)
    dsimp only at h
    generalize { s with etch := { s.etch with jobs := j :: l } } = s1 at h k1
    split at h
    · next t f p _ =>
      obtain rfl := Option.some.inj h
      exact k1.trans (s1.beginUpdate_keepsStart t f p)
    · next t _ _ =>
      obtain rfl := Option.some.inj h
      dsimp only
      exact k1.trans (s1.touchPair_keepsStart t)
    · obtain rfl := Option.some.inj h
      exact k1

theorem State.tearNext_fuses (s : State) (log : Bool) : (s.tearNext log).fuses = s.fuses := by
  unfold State.tearNext
  split
  · split
    · split <;> rfl
    · rfl
  · split
    · next j t h =>
      split
      · exact congrArg StartCore.fuses (State.headJob_keepsStart h).core
      · rfl
    · rfl

/-- R334: a cut word attempt leaves the fuses. -/
theorem State.cutWord_fuses (s : State) (cut : Option Bool) : (s.cutWord cut).fuses = s.fuses := by
  unfold State.cutWord
  split
  · split
    · exact s.tearNext_fuses _
    · rfl
  · rfl

/-! ### What a reset loses -/

/-- The device while PORST_N is low. -/
def State.pulledDown (s : State) : State := { s.volatileLost with off := true, porst := true }

theorem State.volatileLost_startCore (s : State) : s.volatileLost.startCore =
    { State.reset.startCore with pending := s.pending, fuses := s.fuses, mem := s.etch.mem } := rfl

theorem State.volatileLost_cw (s : State) : s.volatileLost.cw = CwState.reset := rfl

theorem State.phase_volatileLost (s : State) : s.volatileLost.phase = 0 := by
  have hrd : s.volatileLost.rd 0x20000 = 0 := by
    show regReset 0x20000 = 0
    decide
  unfold State.phase State.fld
  rw [show F.BOOT_STATUS_PHASE.addr = 0x20000 from rfl, hrd]
  decide

theorem State.phase_pulledDown (s : State) : s.pulledDown.phase = 0 :=
  (State.fld_of_regs rfl F.BOOT_STATUS_PHASE).trans s.phase_volatileLost

/-- R55: all that is volatile is lost while PORST_N is low; the fuses stay. -/
theorem State.pulledDown_parts (s : State) : s.pulledDown.off = true ∧ s.pulledDown.porst = true ∧ s.pulledDown.fuses = s.fuses ∧
    s.pulledDown.cw = CwState.reset ∧ s.pulledDown.plate = PlateState.reset ∧ s.pulledDown.tile = TileState.reset :=
  ⟨rfl, rfl, rfl, rfl, rfl, rfl⟩

theorem exec_powerOnReset (prof : Fin 8) (b : BootFinds) (s : State) :
    exec (.powerOnReset prof b) s = .next (s.volatileLost.standAloneBoot prof.val b) := rfl
theorem exec_porstNLowPulse_short (cut : Option Bool) (s : State) : exec (.porstNLowPulse false cut) s = .next s := rfl
theorem exec_porstNLowPulse_long (cut : Option Bool) (s : State) :
    exec (.porstNLowPulse true cut) s = .next (s.cutWord cut).pulledDown := rfl
theorem exec_wakeNColdBoot (prof : Fin 8) (b : BootFinds) (s : State) :
    exec (.wakeNColdBoot prof b) s = execWakeNColdBoot prof b s := rfl

/-- What a bring-up after a reset keeps of the reset state, and the strap that it latched. -/
theorem State.KeepsStart.booted {s t : State} {prof : Fin 8} (k : (s.volatileLost.latchStrap prof.val).KeepsStart t) :
    t.off = false ∧ t.porst = false ∧ t.phase = 0 ∧ t.fld F.BOOT_SA_STATUS_PROF_STRAP = prof.val ∧ t.standAlone = true ∧
      t.cw = CwState.reset := by
  have hcore := (k.core.trans (State.latchStrap_startCore _ _)).trans s.volatileLost_startCore
  have hcw := (s.volatileLost.latchStrap_cw prof.val).trans s.volatileLost_cw
  refine ⟨congrArg StartCore.off hcore, congrArg StartCore.porst hcore, ?_, ?_, ?_, (k.cw ?_).trans hcw⟩
  · exact (k.fld F.BOOT_STATUS_PHASE (by decide)).trans
      ((State.fld_latchStrap_ne _ prof.val (by decide) (by decide)).trans s.phase_volatileLost)
  · exact (k.fld F.BOOT_SA_STATUS_PROF_STRAP (by decide)).trans (State.strap_latchStrap _ prof.isLt)
  · exact (k.bit (f := F.BOOT_SA_STATUS_SA_ACTIVE) (by decide)).trans (State.standAlone_latchStrap _ prof.val)
  · rw [hcw]
    rfl

/-- What a reset does not take away, after the bring-up. -/
theorem State.KeepsStart.survived {s t : State} {prof : Nat} (k : (s.volatileLost.latchStrap prof).KeepsStart t) :
    t.fuses = s.fuses ∧ t.etch.mem = s.etch.mem ∧ t.pending = s.pending ∧ t.ticks = 0 ∧
      (s.fuses.rollback ≤ 64 → t.shadowed = true) := by
  have hcore := (k.core.trans (State.latchStrap_startCore _ _)).trans s.volatileLost_startCore
  exact ⟨congrArg StartCore.fuses hcore, congrArg StartCore.mem hcore, congrArg StartCore.pending hcore,
    congrArg StartCore.ticks hcore, k.shadowed⟩

/-- R838: WAKE_N starts the sequence of power-on reset from OFF. -/
theorem wakeNColdBoot_boots {s : State} (prof : Fin 8) (b : BootFinds) (hoff : s.off = true) (hporst : s.porst = false) :
    exec (.wakeNColdBoot prof b) s = .next (s.volatileLost.standAloneBoot prof.val b) := by
  rw [exec_wakeNColdBoot, execWakeNColdBoot, if_pos ⟨hoff, by rw [hporst]; rfl⟩]

/-- Settles O24: the bring-up keeps what the latching of the strap leaves; the pulses by their two cases. -/
theorem powerOn : Obligations.PowerOn := by
  unfold Obligations.PowerOn
  refine ⟨?reset, ?short, ?long, ?wake⟩
  case reset =>
    intro s prof b
    have k := s.volatileLost.standAloneBoot_keepsStart prof.val b
    obtain ⟨hoff, hporst, hphase, hstrap, hactive, hcw⟩ := k.booted
    exact ⟨_, exec_powerOnReset prof b s, hoff, hporst, hphase, hstrap, hactive, s.volatileLost.headState_standAloneBoot prof.val b,
      hcw, k.survived⟩
  case short => exact fun s cut => exec_porstNLowPulse_short cut s
  case long =>
    intro s cut
    obtain ⟨hoff, hporst, hfuses, hcw, hplate, htile⟩ := (s.cutWord cut).pulledDown_parts
    exact ⟨_, exec_porstNLowPulse_long cut s, hoff, hporst, hfuses.trans (s.cutWord_fuses cut), hcw,
      (s.cutWord cut).phase_pulledDown, hplate, htile⟩
  case wake =>
    intro s prof b hoff hporst
    have hwake := wakeNColdBoot_boots prof b hoff hporst
    exact ⟨hwake, hwake.trans (exec_powerOnReset prof b s).symm⟩

end Sys2Proof.Machine
end

section
/-! PROOFS. The commands that read status: what each answers, and what the clear of COUNTERS changes. -/

namespace Sys2Proof.Machine

/-! ### A catalogue command that starts -/

/-- A command with opcode `op` leaves the queue and runs. -/
theorem startCmd_isOp {s : State} {op : Nat} {e : CmdEntry} (h : s.starts op e) (run : State → CmdEntry → Res) :
    startCmd s (isOp op) run = finish e (run s.popCmd e) :=
  startCmd_starts s e (isOp op) run h.1 h.2.2.2 (isOp_of_starts h)

/-- Leaving the command queue changes no register that software reads, but CW_IRQ_STATUS. -/
theorem State.readReg_popCmd (s : State) {a : Nat} (h : a ≠ 0x30004) : s.popCmd.readReg a = s.readReg a := by
  simp only [State.readReg, if_neg h, State.rd_popCmd_ne s a h, State.popCmd_pres, State.popCmd_boot]

theorem exec_nop (s : State) : exec .nop s = execNop s := rfl
theorem exec_getInfo (s : State) : exec .getInfo s = execGetInfo s := rfl
theorem exec_getDetail (s : State) : exec .getDetail s = execGetDetail s := rfl
theorem exec_bootStatus (s : State) : exec .bootStatus s = execBootStatus s := rfl
theorem exec_presenceStatus (s : State) : exec .presenceStatus s = execPresenceStatus s := rfl
theorem exec_sealStatus (s : State) : exec .sealStatus s = execSealStatus s := rfl
theorem exec_counters (s : State) : exec .counters s = execCounters s := rfl

/-- R265: GET_DETAIL of a selector that the manual gives. -/
theorem exec_getDetail_selector {s : State} {e : CmdEntry} (h : s.starts 0x02 e) {k : Word} (hp : e.params = [k])
    (hk : k.toNat ≤ 5) : exec .getDetail s = .next (finish e (s.popCmd.detail k.toNat)) := by
  have hbits : parBits [k] 0 0 8 = k.toNat := by
    simp only [parBits, par, getBits, bitsOf, List.getD_cons_zero, Nat.pow_zero, Nat.div_one]
    omega
  have hstray : strayBits [k] 0 0xFF = false := by
    have hand : k.toNat &&& (0xFFFFFFFF - 0xFF) = 0 := by
      interval_cases k.toNat <;> rfl
    simp [strayBits, par, hand]
  have hgood : failAt 0 (strayBits [k] 0 0xFF || decide (5 < k.toNat)) = [] := by
    simp [failAt, hstray, Nat.not_lt.2 hk]
  rw [exec_getDetail, execGetDetail, startCmd_isOp h, hp]
  simp only [hbits, hgood, List.length_singleton, beq_self_eq_true, judged_ok]

/-! ### COUNTERS -/

/-- The registers that are set to zero one after the other, and no others, are zero. -/
theorem State.rd_foldl_wr_zero (l : List Nat) (a : Nat) :
    ∀ s : State, (l.foldl (fun (s : State) b => s.wr b 0) s).rd a = if a ∈ l then 0 else s.rd a := by
  induction l with
  | nil => intro s; simp
  | cons b l ih =>
    intro s
    rw [List.foldl_cons, ih, State.rd_wr]
    by_cases ha : a ∈ l
    · simp [ha]
    · by_cases hb : b = a
      · simp [hb]
      · simp [ha, hb, Ne.symm hb]

/-- R399: the clear of a group of plain counts. -/
theorem State.rd_clearCounters (s : State) {g : Nat} (a : Nat) (hg : g ≠ 2) :
    (s.clearCounters g).rd a = if a ∈ counterRegs g then 0 else s.rd a := by
  rw [State.clearCounters, if_neg hg]
  exact State.rd_foldl_wr_zero (counterRegs g) a s

theorem State.clearCounters_two (s : State) : s.clearCounters 2 =
    ((s.setFld F.PLATE_ECC_CE_CNT 0).setFld F.PLATE_ECC_UE_CNT 0).setFld F.PLATE_OFF_HIT_COUNT 0 := rfl

/-- R399: the clear of group 2 leaves the fields beside its three counts. -/
theorem State.fld_clearCounters_two (s : State) {f : Field} (hce : F.PLATE_ECC_CE_CNT.apart f) (hue : F.PLATE_ECC_UE_CNT.apart f)
    (hoff : F.PLATE_OFF_HIT_COUNT.apart f) : (s.clearCounters 2).fld f = s.fld f := by
  rw [s.clearCounters_two, State.fld_setFld_apart _ _ _ 0 hoff, State.fld_setFld_apart _ _ _ 0 hue, State.fld_setFld_apart _ _ _ 0 hce]

/-- R399: COUNTERS of one of its groups. -/
theorem exec_counters_group {s : State} {e : CmdEntry} (h : s.starts 0xB2 e) (hr : s.runtime = true) (hl : e.params.length = 1)
    (hstray : strayBits e.params 0 0xFF000001 = false) (h1 : 1 ≤ parUnit e.params) (h5 : parUnit e.params ≤ 5) :
    exec .counters s = .next ((if parBits e.params 0 0 1 = 1 then s.popCmd.clearCounters (parUnit e.params) else s.popCmd).post e
      stOk ((counterRegs (parUnit e.params)).map s.popCmd.rd)) := by
  have hgood : failAt 0 (strayBits e.params 0 0xFF000001 || parUnit e.params == 0 || decide (5 < parUnit e.params)) = [] := by
    simp [failAt, hstray, Nat.ne_of_gt h1, Nat.not_lt.2 h5]
  rw [exec_counters, execCounters, startCmd_isOp h]
  simp only [hl, hgood, runtimeCmd, State.runtime_popCmd, hr, beq_self_eq_true, List.nil_append, Bool.not_true, Bool.false_and, if_true,
    Bool.false_eq_true, if_false, judged_ok, finish_done]

/-- Settles O21: each command by the lemma on its start, the clear of COUNTERS by what its writes leave. -/
theorem statusCommands : Obligations.StatusCommands := by
  unfold Obligations.StatusCommands
  refine ⟨?nop, ?info, ?versions, ?domains, ?sense, ?uptime, ?chains, ?heads, ?boot, ?presence, ?sealState, ?counters, ?cleared, ?others, ?two⟩
  case nop =>
    intro s e h hp
    rw [exec_nop, execNop, startCmd_isOp h, hp]
    rfl
  case info =>
    intro s e h hp
    rw [exec_getInfo, execGetInfo, startCmd_isOp h, hp]
    simp only [State.rd_popCmd_ne s _ (by decide : 0x10 ≠ 0x30004), State.rd_popCmd_ne s _ (by decide : 0x14 ≠ 0x30004),
      State.rd_popCmd_ne s _ (by decide : 0x2000C ≠ 0x30004), s.readReg_popCmd (by decide : 0x20000 ≠ 0x30004)]
    rfl
  case versions =>
    intro s e h hp
    rw [exec_getDetail_selector h hp (by decide), ← s.popCmd_boot, ← State.rd_popCmd_ne s 0x48 (by decide)]
    rfl
  case domains =>
    intro s e h hp
    rw [exec_getDetail_selector h hp (by decide)]
    rfl
  case sense =>
    intro s e h hp
    rw [exec_getDetail_selector h hp (by decide)]
    rfl
  case uptime =>
    intro s e h hp
    rw [exec_getDetail_selector h hp (by decide), ← s.popCmd_free, ← s.popCmd_ticks]
    rfl
  case chains =>
    intro s e h hp hr
    rw [exec_getDetail_selector h hp (by decide), show (4 : Word).toNat = 4 from rfl]
    simp [State.detail, hr, finish_done]
  case heads =>
    intro s e h hp hr
    rw [exec_getDetail_selector h hp (by decide), show (5 : Word).toNat = 5 from rfl]
    simp [State.detail, hr, finish_done]
  case boot =>
    intro s e h hp
    rw [exec_bootStatus, execBootStatus, startCmd_isOp h, hp]
    simp only [s.readReg_popCmd (by decide : 0x20000 ≠ 0x30004), s.readReg_popCmd (by decide : 0x20004 ≠ 0x30004),
      s.readReg_popCmd (by decide : 0x20008 ≠ 0x30004), s.readReg_popCmd (by decide : 0x2000C ≠ 0x30004)]
    rfl
  case presence =>
    intro s e h hp
    rw [exec_presenceStatus, execPresenceStatus, startCmd_isOp h, hp, s.readReg_popCmd (by decide)]
    rfl
  case sealState =>
    intro s e h hp
    rw [exec_sealStatus, execSealStatus, startCmd_isOp h, hp, s.readReg_popCmd (by decide), s.readReg_popCmd (by decide)]
    rfl
  case counters => exact fun s e => exec_counters_group
  case cleared =>
    intro s g a hg ha
    rw [s.rd_clearCounters a hg, if_pos ha]
  case others =>
    intro s g a hg ha
    rw [s.rd_clearCounters a hg, if_neg ha]
  case two =>
    intro s
    refine ⟨?_, ?_, State.fld_setFld _ _ 0 (by decide), ?_, ?_, ?_⟩
    · rw [s.clearCounters_two, State.fld_setFld_apart _ _ _ 0 (.inl (by decide)), State.fld_setFld_apart _ _ _ 0 (.inr (.inl (by decide))),
        State.fld_setFld _ _ 0 (by decide)]
      rfl
    · rw [s.clearCounters_two, State.fld_setFld_apart _ _ _ 0 (.inl (by decide)), State.fld_setFld _ _ 0 (by decide)]
      rfl
    · exact s.fld_clearCounters_two (.inr (.inr (by decide))) (.inr (.inr (by decide))) (.inl (by decide))
    · exact s.fld_clearCounters_two (.inr (.inr (by decide))) (.inr (.inr (by decide))) (.inl (by decide))
    · rw [s.clearCounters_two, State.rd_setFld_ne _ _ 0 _ (by decide), State.rd_setFld_ne _ _ 0 _ (by decide),
        State.rd_setFld_ne _ _ 0 _ (by decide)]

end Sys2Proof.Machine
end

section
/-! PROOFS. The runtime download (chapter 03): LOAD_BEGIN, LOAD_SEGMENT and what an accepted chunk does, the release of the cores,
PRESENT_TAG, the ends of a download and FAIL. -/

namespace Sys2Proof.Machine

theorem exec_loadBegin (repair : List Word) (s : State) : exec (.loadBegin repair) s = execLoadBegin repair s := rfl
theorem exec_loadSegment (fetch : Option (Fin 1048576)) (s : State) : exec (.loadSegment fetch) s = execLoadSegment fetch s := rfl
theorem exec_startEarly (s : State) : exec .startEarly s = execStartEarly s := rfl
theorem exec_scribeRelease (s : State) : exec .scribeRelease s = execScribeRelease s := rfl
theorem exec_stylusRelease (s : State) : exec .stylusRelease s = execStylusRelease s := rfl
theorem exec_presentTag (s : State) : exec .presentTag s = execPresentTag s := rfl
theorem exec_tagTimeout (s : State) : exec .tagTimeout s = execTagTimeout s := rfl
theorem exec_loadStalled (s : State) : exec .loadStalled s = execLoadStalled s := rfl
theorem exec_scribeFault (s : State) : exec .scribeFault s = execScribeFault s := rfl
theorem exec_etchFetchFault (s : State) : exec .etchFetchFault s = execEtchFetchFault s := rfl

@[simp] theorem State.ifLive_live {s : State} (t : State) (h : s.off = false) : s.ifLive t = t := by
  rw [State.ifLive, h]
  rfl

@[simp] theorem State.ifLive_self (s : State) : s.ifLive s = s := by
  unfold State.ifLive
  split <;> rfl

/-! ### Entering a phase -/

@[simp] theorem State.setPhase_boot (s : State) (p : Nat) : (s.setPhase p).boot = s.boot := by
  unfold State.setPhase
  split
  · rfl
  · exact State.raise_boot _ _

@[simp] theorem State.setPhase_tile (s : State) (p : Nat) : (s.setPhase p).tile = s.tile := by
  unfold State.setPhase
  split
  · rfl
  · exact State.raise_tile _ _

@[simp] theorem State.setPhase_plate (s : State) (p : Nat) : (s.setPhase p).plate = s.plate := by
  unfold State.setPhase
  split
  · rfl
  · exact State.raise_plate _ _

@[simp] theorem State.setPhase_etch (s : State) (p : Nat) : (s.setPhase p).etch = s.etch := by
  unfold State.setPhase
  split
  · rfl
  · exact State.raise_etch _ _

/-- A field outside PHASE, in a register that raises no cause. -/
theorem State.bit_setPhase_apart (s : State) (p : Nat) {f : Field} (hp : F.BOOT_STATUS_PHASE.apart f) (h : f.addr ≠ 0x30004) :
    (s.setPhase p).bit f = s.bit f := by
  unfold State.bit
  rw [State.fld_setPhase_apart s p hp h]

theorem State.phase_of_regs {s t : State} (h : t.regs = s.regs) : t.phase = s.phase := State.fld_of_regs h _

theorem State.bit_of_regs {s t : State} (h : t.regs = s.regs) (f : Field) : t.bit f = s.bit f := by
  unfold State.bit
  rw [State.fld_of_regs h f]

/-! ### LOAD_BEGIN -/

/-- A LOAD_BEGIN of the right length in IDLE or LOADING judges its header. -/
theorem exec_loadBegin_judges {s : State} {e : CmdEntry} (repair : List Word) (h : s.starts 0x10 e) (hl : e.params.length = 64) :
    exec (.loadBegin repair) s = .next (finish e (s.popCmd.loadBegin (byteString e.params) repair)) := by
  rw [exec_loadBegin, execLoadBegin, startCmd_isOp h]
  simp only [hl, beq_self_eq_true, judged_ok]

/-- R106: a header that fails a check. -/
theorem State.loadBegin_bad {s : State} {hdr : List Byte} (repair : List Word) (hphase : s.phase ≤ 1) (hc : headerCheck s hdr ≠ 0) :
    s.loadBegin hdr repair =
      Res.bad (s.setFld F.BOOT_STATUS_LAST_REJECT (headerCheck s hdr)) (headerCheckWord (headerCheck s hdr)) := by
  simp [State.loadBegin, show ¬ 2 ≤ s.phase by omega, hc]

/-- R106, R111, R115, R198: a good header finds KEYLOCK, an open enrolment session, or is accepted. -/
theorem State.loadBegin_good {s : State} {hdr : List Byte} (repair : List Word) (hphase : s.phase ≤ 1) (hc : headerCheck s hdr = 0) :
    s.loadBegin hdr repair =
      if s.bit F.BOOT_STATUS_KEYLOCK then Res.stat s stLocked
      else if s.boot.enrol.isSome then Res.stat s stBusy
      else Res.ok (s.acceptHeader hdr repair) := by
  simp [State.loadBegin, show ¬ 2 ≤ s.phase by omega, hc]

/-! ### LOAD_SEGMENT -/

/-- Scribe's fetching changes no register. -/
@[simp] theorem State.fetched_regs (s : State) (fetch : Option (Fin 1048576)) : (s.fetched fetch).regs = s.regs := by
  unfold State.fetched
  split
  · split <;> rfl
  · rfl

@[simp] theorem State.fetched_free (s : State) (fetch : Option (Fin 1048576)) : (s.fetched fetch).free = s.free := by
  unfold State.fetched
  split
  · split <;> rfl
  · rfl

@[simp] theorem State.fetched_tile (s : State) (fetch : Option (Fin 1048576)) : (s.fetched fetch).tile = s.tile := by
  unfold State.fetched
  split
  · split <;> rfl
  · rfl

@[simp] theorem State.fetched_hdr (s : State) (fetch : Option (Fin 1048576)) : (s.fetched fetch).boot.hdr = s.boot.hdr := by
  unfold State.fetched
  split
  · split <;> rfl
  · rfl

theorem State.fld_fetched (s : State) (fetch : Option (Fin 1048576)) (f : Field) : (s.fetched fetch).fld f = s.fld f :=
  State.fld_of_regs (s.fetched_regs fetch) f

theorem State.bit_fetched (s : State) (fetch : Option (Fin 1048576)) (f : Field) : (s.fetched fetch).bit f = s.bit f :=
  State.bit_of_regs (s.fetched_regs fetch) f

theorem State.phase_fetched (s : State) (fetch : Option (Fin 1048576)) : (s.fetched fetch).phase = s.phase :=
  State.phase_of_regs (s.fetched_regs fetch)

/-- The state that judges a chunk: the command has left its queue, and Scribe has gone on fetching. -/
theorem State.fld_popCmd_fetched (s : State) (fetch : Option (Fin 1048576)) {f : Field} (h : f.addr ≠ 0x30004) :
    (s.popCmd.fetched fetch).fld f = s.fld f :=
  (s.popCmd.fld_fetched fetch f).trans (s.fld_popCmd f h)

theorem State.bit_popCmd_fetched (s : State) (fetch : Option (Fin 1048576)) {f : Field} (h : f.addr ≠ 0x30004) :
    (s.popCmd.fetched fetch).bit f = s.bit f :=
  (s.popCmd.bit_fetched fetch f).trans (s.bit_popCmd f h)

theorem exec_loadSegment_judges {s : State} {e : CmdEntry} (fetch : Option (Fin 1048576)) (h : s.starts 0x11 e)
    (h2 : 2 ≤ e.params.length) (h1025 : e.params.length ≤ 1025) :
    exec (.loadSegment fetch) s = .next (finish e ((s.popCmd.fetched fetch).loadSegment e.params)) := by
  rw [exec_loadSegment, execLoadSegment, startCmd_isOp h]
  simp only [h2, h1025, decide_true, Bool.and_self, judged_ok]

/-- R108: chunk `p` of LOAD_SEGMENT is the next one of the download and stays within its segment. -/
def State.placed (u : State) (p : List Word) : Bool :=
  chunkFits u.boot.hdr (parUnit p) (parBits p 0 0 24) (u.fld F.BOOT_PROGRESS_NEXT_SEG) (u.fld F.BOOT_PROGRESS_NEXT_OFFSET)
    (byteString (p.drop 1)).length

/-- R120: chunk `p` touches the bank of Code RAM that a running Scribe fetches from. -/
def State.chunkOnBank (u : State) (p : List Word) : Prop :=
  u.bit F.BOOT_STATUS_SCRIBE_RUN = true ∧ (hdrSeg u.boot.hdr (parUnit p)).target = 1 ∧
    touchesBank ((hdrSeg u.boot.hdr (parUnit p)).off + parBits p 0 0 24) (byteString (p.drop 1)).length u.fetchBank = true

/-- R121: chunk `p` is for the RAM of a running Stylus. -/
def State.chunkOnStylus (u : State) (p : List Word) : Prop :=
  u.bit F.BOOT_STATUS_STYLUS_RUN = true ∧ (hdrSeg u.boot.hdr (parUnit p)).target = 3

section
variable {u : State} {p : List Word}

theorem State.loads_of_phase (h : u.phase = 1 ∨ u.phase = 2) : (!(u.phase == 1 || u.phase == 2)) = false := by
  rcases h with h | h <;> simp [h]

theorem State.loadSegment_misplaced (hphase : u.phase = 1 ∨ u.phase = 2) (hfit : u.placed p = false) :
    u.loadSegment p =
      .done u stBadParam [positionWord (u.fld F.BOOT_PROGRESS_NEXT_SEG) (u.fld F.BOOT_PROGRESS_NEXT_OFFSET)] := by
  unfold State.placed at hfit
  simp only [State.loadSegment, State.loads_of_phase hphase, hfit, Bool.not_false, Bool.false_eq_true, if_false, if_true]

theorem State.loadSegment_bankExecuting (hphase : u.phase = 1 ∨ u.phase = 2) (hfit : u.placed p = true) (hbank : u.chunkOnBank p) :
    u.loadSegment p = Res.refuse u.draw.2 0x0C u.fetchBank (u.draw.1 % 256) := by
  unfold State.placed at hfit
  unfold State.chunkOnBank at hbank
  simp only [State.loadSegment, State.loads_of_phase hphase, hfit, if_pos hbank, Bool.not_true, Bool.false_eq_true, if_false]

/-- R121: a chunk for the RAM of a running Stylus is no chunk for Code RAM. -/
theorem State.loadSegment_stylusRuns (hphase : u.phase = 1 ∨ u.phase = 2) (hfit : u.placed p = true) (hstylus : u.chunkOnStylus p) :
    u.loadSegment p = Res.refuse u.draw.2 0x0D 0 (u.draw.1 % 256) := by
  unfold State.placed at hfit
  unfold State.chunkOnStylus at hstylus
  have hcode : ¬ (hdrSeg u.boot.hdr (parUnit p)).target = 1 := by omega
  simp only [State.loadSegment, State.loads_of_phase hphase, hfit, hcode, if_pos hstylus, Bool.not_true, Bool.false_eq_true, if_false,
    false_and, and_false]

/-- R109: every other chunk that is placed right is accepted. -/
theorem State.loadSegment_accepts (hphase : u.phase = 1 ∨ u.phase = 2) (hfit : u.placed p = true) (hbank : ¬ u.chunkOnBank p)
    (hstylus : ¬ u.chunkOnStylus p) :
    let t := u.acceptChunk (hdrSeg u.boot.hdr (parUnit p)) (parUnit p) (parBits p 0 0 24) (byteString (p.drop 1))
    u.loadSegment p =
      .done t stOk [positionWord (t.fld F.BOOT_PROGRESS_NEXT_SEG) (t.fld F.BOOT_PROGRESS_NEXT_OFFSET)] := by
  unfold State.placed at hfit
  unfold State.chunkOnBank at hbank
  unfold State.chunkOnStylus at hstylus
  simp only [State.loadSegment, State.loads_of_phase hphase, hfit, if_neg hbank, if_neg hstylus, Bool.not_true, Bool.false_eq_true, if_false]

end

/-! What the command's start and Scribe's fetching leave of the download. -/

section
variable (s : State) (fetch : Option (Fin 1048576))

theorem State.phase_popCmd_fetched : (s.popCmd.fetched fetch).phase = s.phase := by
  rw [State.phase_fetched, State.phase_popCmd]

theorem State.hdr_popCmd_fetched : (s.popCmd.fetched fetch).boot.hdr = s.boot.hdr := by
  rw [State.fetched_hdr, State.popCmd_boot]

theorem State.draw_popCmd_fetched :
    (s.popCmd.fetched fetch).draw = (Config.freeValue s.free, { s.popCmd.fetched fetch with free := s.free + 1 }) := by
  rw [State.draw, State.fetched_free, State.popCmd_free]

theorem State.placed_popCmd_fetched (p : List Word) : (s.popCmd.fetched fetch).placed p = s.placed p := by
  unfold State.placed
  rw [s.hdr_popCmd_fetched, s.fld_popCmd_fetched fetch (by decide), s.fld_popCmd_fetched fetch (by decide)]

end

/-- Settles O26: the outcome of R121, in the state that judges the chunk. -/
theorem stylusRamIsHeld : Obligations.StylusRamIsHeld := by
  unfold Obligations.StylusRamIsHeld
  intro s e fetch h h2 h1025 hphase g hfit hrun ht u
  have hstylus : (s.popCmd.fetched fetch).chunkOnStylus e.params :=
    ⟨(s.bit_popCmd_fetched fetch (by decide)).trans hrun, by rwa [s.hdr_popCmd_fetched]⟩
  rw [exec_loadSegment_judges fetch h h2 h1025, State.loadSegment_stylusRuns (by rwa [s.phase_popCmd_fetched])
    ((s.placed_popCmd_fetched fetch _).trans hfit) hstylus, s.draw_popCmd_fetched]
  rfl

/-! ### The release of the cores -/

theorem exec_startEarly_starts {s : State} {e : CmdEntry} (h : s.starts 0x12 e) (hp : e.params = []) :
    exec .startEarly s = .next (finish e (
      if s.phase = 1 ∧ s.popCmd.entryLoaded then Res.ok (s.popCmd.armRelease.setPhase 2)
      else if s.phase = 3 ∧ !s.bit F.BOOT_STATUS_SCRIBE_RUN then Res.ok s.popCmd.armRelease
      else Res.refuse s.popCmd 0 0 0)) := by
  rw [exec_startEarly, execStartEarly, startCmd_isOp h, hp]
  simp only [State.phase_popCmd, s.bit_popCmd F.BOOT_STATUS_SCRIBE_RUN (by decide), List.isEmpty_nil, judged_ok]

/-- R125: Scribe, running, releases Stylus. -/
theorem exec_stylusRelease_active {s : State} (hoff : s.off = false) (ha : s.scribeActive = true) (h2 : 2 ≤ s.phase)
    (h5 : s.phase ≤ 5) : exec .stylusRelease s = .next (s.setFld F.BOOT_STATUS_STYLUS_RUN 1) := by
  rw [exec_stylusRelease, execStylusRelease, State.ifLive_live _ hoff, if_pos ⟨ha, h2, h5⟩]

/-! ### PRESENT_TAG -/

theorem exec_presentTag_judges {s : State} {e : CmdEntry} (h : s.starts 0x13 e) (hl : e.params.length = 8) :
    exec .presentTag s = .next (finish e (s.popCmd.presentTag (byteString e.params))) := by
  rw [exec_presentTag, execPresentTag, startCmd_isOp h]
  simp only [hl, beq_self_eq_true, judged_ok]

/-- R123, R124: the state after a tag that matches. -/
def State.tagPassed (s : State) : State :=
  { s.releaseScribe with boot := { s.releaseScribe.boot with passAt := s.releaseScribe.boot.edges } }.setPhase 4

theorem State.presentTag_match {s : State} {tag : List Byte} (hphase : s.phase = 3) (ht : tag = deviceTag s.boot.msg) :
    s.presentTag tag = Res.ok s.tagPassed := by
  rw [State.presentTag, if_neg (not_not.2 hphase), if_pos ht, State.tagPassed]

theorem State.presentTag_differs {s : State} {tag : List Byte} (hphase : s.phase = 3) (ht : tag ≠ deviceTag s.boot.msg) :
    s.presentTag tag = Res.stat (s.failDownload 1) stCheckFailed := by
  rw [State.presentTag, if_neg (not_not.2 hphase), if_neg ht]

theorem State.scribeRun_releaseScribe (s : State) : s.releaseScribe.bit F.BOOT_STATUS_SCRIBE_RUN = true := by
  have hregs : s.releaseScribe.regs = (s.setFld F.BOOT_STATUS_SCRIBE_RUN 1).regs := rfl
  rw [State.bit_of_regs hregs, State.bit, State.fld_setFld _ _ 1 (by decide)]
  rfl

theorem State.scribeRun_tagPassed (s : State) : s.tagPassed.bit F.BOOT_STATUS_SCRIBE_RUN = true := by
  rw [State.tagPassed, State.bit_setPhase_apart _ 4 (.inr (.inr (by decide))) (by decide)]
  exact (State.bit_of_regs rfl _).trans s.scribeRun_releaseScribe

theorem State.tagPassed_boot (s : State) :
    s.tagPassed.boot = { s.releaseScribe.boot with passAt := s.boot.edges } := State.setPhase_boot _ 4

/-- Settles O25: each clause by the lemma on its command. -/
theorem loadCommands : Obligations.LoadCommands := by
  unfold Obligations.LoadCommands
  refine ⟨?accepted, ?badHeader, ?locked, ?busy, ?chunk, ?misplaced, ?bank, ?early, ?late, ?scribe, ?stylus, ?passed, ?failed⟩
  case accepted =>
    intro s e repair h hl hphase hc hkey henrol
    rw [exec_loadBegin_judges repair h hl, State.loadBegin_good repair (by rwa [State.phase_popCmd]) hc,
      State.bit_popCmd s _ (by decide), hkey, State.popCmd_boot, henrol]
    rfl
  case badHeader =>
    intro s e repair c h hl hphase hc hne
    subst hc
    rw [exec_loadBegin_judges repair h hl, State.loadBegin_bad repair (by rwa [State.phase_popCmd]) hne]
    rfl
  case locked =>
    intro s e repair h hl hphase hc hkey
    rw [exec_loadBegin_judges repair h hl, State.loadBegin_good repair (by rw [State.phase_popCmd]; omega) hc,
      State.bit_popCmd s _ (by decide), hkey]
    rfl
  case busy =>
    intro s e repair h hl hphase hc hkey henrol
    rw [exec_loadBegin_judges repair h hl, State.loadBegin_good repair (by rwa [State.phase_popCmd]) hc,
      State.bit_popCmd s _ (by decide), hkey, State.popCmd_boot, henrol]
    rfl
  case chunk =>
    intro s e fetch h h2 h1025 hphase seg off d g u hfit hbank hstylus t
    have hbank' : ¬ u.chunkOnBank e.params := by
      rw [State.chunkOnBank, s.bit_popCmd_fetched fetch (by decide), s.hdr_popCmd_fetched]
      rintro ⟨hrun, ht, hb⟩
      rcases hbank with h' | h' | h'
      · exact Bool.false_ne_true (h'.symm.trans hrun)
      · exact h' ht
      · exact Bool.false_ne_true (h'.symm.trans hb)
    have hstylus' : ¬ u.chunkOnStylus e.params := by
      rw [State.chunkOnStylus, s.bit_popCmd_fetched fetch (by decide), s.hdr_popCmd_fetched]
      rintro ⟨hrun, ht⟩
      rcases hstylus with h' | h'
      · exact Bool.false_ne_true (h'.symm.trans hrun)
      · exact h' ht
    rw [exec_loadSegment_judges fetch h h2 h1025, State.loadSegment_accepts (by rwa [s.phase_popCmd_fetched])
      ((s.placed_popCmd_fetched fetch _).trans hfit) hbank' hstylus', s.hdr_popCmd_fetched, finish_done]
  case misplaced =>
    intro s e fetch h h2 h1025 hphase ns no hfit
    rw [exec_loadSegment_judges fetch h h2 h1025, State.loadSegment_misplaced (by rwa [s.phase_popCmd_fetched])
      ((s.placed_popCmd_fetched fetch _).trans hfit), s.fld_popCmd_fetched fetch (by decide), s.fld_popCmd_fetched fetch (by decide),
      finish_done]
  case bank =>
    intro s e fetch h h2 h1025 hphase seg off d g u hfit hrun ht hb
    have hbank : (s.popCmd.fetched fetch).chunkOnBank e.params := by
      rw [State.chunkOnBank, s.bit_popCmd_fetched fetch (by decide), s.hdr_popCmd_fetched]
      exact ⟨hrun, ht, hb⟩
    rw [exec_loadSegment_judges fetch h h2 h1025, State.loadSegment_bankExecuting (by rwa [s.phase_popCmd_fetched])
      ((s.placed_popCmd_fetched fetch _).trans hfit) hbank, s.draw_popCmd_fetched]
    rfl
  case early =>
    intro s e h hp hphase hentry
    rw [exec_startEarly_starts h hp, if_pos ⟨hphase, hentry⟩]
    rfl
  case late =>
    intro s e h hp hphase hrun
    rw [exec_startEarly_starts h hp, if_neg (by omega), if_pos ⟨hphase, by rw [hrun]; rfl⟩]
    rfl
  case scribe =>
    intro s hoff hdue
    rw [exec_scribeRelease, execScribeRelease, State.ifLive_live _ hoff, if_pos hdue]
    rfl
  case stylus => exact fun s => exec_stylusRelease_active
  case passed =>
    intro s e h hl hphase htag
    refine ⟨s.popCmd.tagPassed, ?_, State.phase_setPhase _ (by decide), s.popCmd.scribeRun_tagPassed, ?_, ?_, ?_⟩
    · rw [exec_presentTag_judges h hl, State.presentTag_match ((State.phase_popCmd s).trans hphase) (by rwa [State.popCmd_boot])]
      rfl
    · rw [State.tagPassed_boot]
      rfl
    · rw [State.tagPassed_boot, ← s.popCmd_boot]
      rfl
    · rw [State.tagPassed_boot, s.popCmd_boot]
  case failed =>
    intro s e h hl hphase htag
    rw [exec_presentTag_judges h hl, State.presentTag_differs ((State.phase_popCmd s).trans hphase) (by rwa [State.popCmd_boot])]
    rfl

end Sys2Proof.Machine
end

section
/-! PROOFS. What an accepted chunk of the download writes and where the download goes on; the ends of a download, and what FAIL does. -/

namespace Sys2Proof.Machine

/-! ### An accepted chunk -/

/-- R109, R112: the chunk `d` for offset `a` of RAM `target` is written and hashed, and the download goes on at `ns`, `no`. -/
def State.chunkStored (s : State) (target a : Nat) (d : List Byte) (ns no : Nat) : State :=
  (({ s with
      tile := s.tile.put target a d
      boot := { s.boot with msg := s.boot.msg ++ d, lastChunk := s.ticks } } : State).setFld F.BOOT_PROGRESS_NEXT_SEG ns).setFld
    F.BOOT_PROGRESS_NEXT_OFFSET no

/-- R117: segment `seg` shows as loaded. -/
def State.segLoaded (s : State) (seg : Nat) : State := s.setFld ⟨0x20000, seg, 1⟩ 1

/-- R118: every segment is loaded; the time of R145 starts. -/
def State.awaitTag (s : State) (now : Nat) : State := { s with boot := { s.boot with lastSeg := now } }.setPhase 3

section
variable (s : State) {g : Seg} {seg off : Nat} {d : List Byte}

/-- R109: a chunk that leaves its segment incomplete. -/
theorem State.acceptChunk_within (hg : g = hdrSeg s.boot.hdr seg) (h : off + d.length < g.len) :
    s.acceptChunk g seg off d = s.chunkStored g.target (g.off + off) d seg (off + d.length) := by
  subst hg
  simp only [State.acceptChunk, advance, if_neg (Nat.ne_of_lt h), if_true]
  rfl

/-- R109, R117: a chunk that completes its segment. -/
theorem State.acceptChunk_completes (hg : g = hdrSeg s.boot.hdr seg) (h : off + d.length = g.len) :
    s.acceptChunk g seg off d =
      let t := (s.chunkStored g.target (g.off + off) d (seg + 1) 0).segLoaded seg
      if seg + 1 < hdrSegCount s.boot.hdr then t else t.awaitTag s.ticks := by
  subst hg
  simp only [State.acceptChunk, advance, if_pos h, if_neg (Nat.succ_ne_self seg)]
  rfl

end

/-- A field outside the position of the download. -/
theorem State.fld_chunkStored_apart (s : State) (target a : Nat) (d : List Byte) (ns no : Nat) {f : Field}
    (hf : f.addr ≠ F.BOOT_PROGRESS_NEXT_SEG.addr) : (s.chunkStored target a d ns no).fld f = s.fld f := by
  have hseg : F.BOOT_PROGRESS_NEXT_SEG.apart f := .inl hf.symm
  have hoff : F.BOOT_PROGRESS_NEXT_OFFSET.apart f := .inl hf.symm
  rw [State.chunkStored, State.fld_setFld_apart _ _ f no hoff, State.fld_setFld_apart _ _ f ns hseg]
  exact State.fld_of_regs rfl f

theorem State.nextSeg_chunkStored (s : State) (target a : Nat) (d : List Byte) {ns : Nat} (no : Nat) (h : ns < 32) :
    (s.chunkStored target a d ns no).fld F.BOOT_PROGRESS_NEXT_SEG = ns := by
  rw [State.chunkStored, State.fld_setFld_apart _ _ _ no (.inr (.inl (by decide))), State.fld_setFld _ _ ns (by decide)]
  exact Nat.mod_eq_of_lt h

theorem State.nextOffset_chunkStored (s : State) (target a : Nat) (d : List Byte) (ns : Nat) {no : Nat} (h : no < 2 ^ 24) :
    (s.chunkStored target a d ns no).fld F.BOOT_PROGRESS_NEXT_OFFSET = no := by
  rw [State.chunkStored, State.fld_setFld _ _ no (by decide)]
  exact Nat.mod_eq_of_lt h

/-- A field in another register than BOOT_STATUS. -/
theorem State.fld_segLoaded_ne (s : State) (seg : Nat) {f : Field} (hf : f.addr ≠ 0x20000) : (s.segLoaded seg).fld f = s.fld f :=
  State.fld_setFld_apart s _ f 1 (.inl hf.symm)

theorem State.phase_segLoaded (s : State) {seg : Nat} (h : seg < 16) : (s.segLoaded seg).phase = s.phase :=
  State.fld_setFld_apart s _ F.BOOT_STATUS_PHASE 1 (.inr (.inl (by show seg + 1 ≤ 28; omega)))

/-- A bit of a field is a bit of its register. -/
theorem bitsOf_getBits (x : Word) {w i : Nat} (h : i < w) : bitsOf (getBits x 0 w) i 1 = getBits x i 1 := by
  apply Nat.eq_of_testBit_eq
  intro j
  rw [testBit_bitsOf, testBit_getBits, testBit_getBits]
  by_cases hj : j = 0
  · simp [hj, h]
  · simp [show ¬ j < 1 by omega]

theorem State.segLoaded_shows (s : State) {seg : Nat} (h : seg < 16) :
    bitsOf ((s.segLoaded seg).fld F.BOOT_STATUS_SEG_LOADED) seg 1 = 1 := by
  calc bitsOf ((s.segLoaded seg).fld F.BOOT_STATUS_SEG_LOADED) seg 1
      = (s.segLoaded seg).fld ⟨0x20000, seg, 1⟩ := bitsOf_getBits _ h
    _ = 1 := State.fld_setFld s ⟨0x20000, seg, 1⟩ 1 (by show seg + 1 ≤ 32; omega)

theorem State.fld_awaitTag_apart (s : State) (now : Nat) {f : Field} (hp : F.BOOT_STATUS_PHASE.apart f) (h : f.addr ≠ 0x30004) :
    (s.awaitTag now).fld f = s.fld f :=
  (State.fld_setPhase_apart _ 3 hp h).trans (State.fld_of_regs rfl f)

theorem State.phase_awaitTag (s : State) (now : Nat) : (s.awaitTag now).phase = 3 := State.phase_setPhase _ (by decide)

/-- R109, R112: whatever the chunk completes, its bytes are written and hashed. -/
theorem State.acceptChunk_writes (s : State) (g : Seg) (seg off : Nat) (d : List Byte) :
    (s.acceptChunk g seg off d).tile = s.tile.put g.target (g.off + off) d ∧
      (s.acceptChunk g seg off d).boot.msg = s.boot.msg ++ d ∧ (s.acceptChunk g seg off d).boot.hdr = s.boot.hdr := by
  unfold State.acceptChunk
  dsimp only
  split_ifs
  · exact ⟨rfl, rfl, rfl⟩
  · exact ⟨rfl, rfl, rfl⟩
  · simp only [State.setPhase_tile, State.setPhase_boot]
    exact ⟨rfl, rfl, rfl⟩

/-- Settles O27: the two kinds of chunk, the last of its segment and another. -/
theorem chunkIsWrittenAndHashed : Obligations.ChunkIsWrittenAndHashed := by
  unfold Obligations.ChunkIsWrittenAndHashed
  intro s g seg off d hseg hoff _ hg _ _ _ hcount t
  obtain ⟨htile, hmsg, hhdr⟩ := s.acceptChunk_writes g seg off d
  refine ⟨htile, hmsg, hhdr, fun hlt => ?within, fun hend => ?completes⟩
  case within =>
    have ht : t = s.chunkStored g.target (g.off + off) d seg (off + d.length) := s.acceptChunk_within hg hlt
    rw [ht]
    exact ⟨s.nextSeg_chunkStored _ _ _ _ (by omega), s.nextOffset_chunkStored _ _ _ _ hoff,
      s.fld_chunkStored_apart _ _ _ _ _ (by decide), s.fld_chunkStored_apart _ _ _ _ _ (by decide)⟩
  case completes =>
    let u := (s.chunkStored g.target (g.off + off) d (seg + 1) 0).segLoaded seg
    have hns : u.fld F.BOOT_PROGRESS_NEXT_SEG = seg + 1 :=
      (State.fld_segLoaded_ne _ seg (by decide)).trans (s.nextSeg_chunkStored _ _ _ _ (by omega))
    have hno : u.fld F.BOOT_PROGRESS_NEXT_OFFSET = 0 :=
      (State.fld_segLoaded_ne _ seg (by decide)).trans (s.nextOffset_chunkStored _ _ _ _ (by decide))
    have hphase : u.phase = s.phase := (State.phase_segLoaded _ hseg).trans (s.fld_chunkStored_apart _ _ _ _ _ (by decide))
    have ht : t = if seg + 1 < hdrSegCount s.boot.hdr then u else u.awaitTag s.ticks := s.acceptChunk_completes hg hend
    by_cases hmore : seg + 1 < hdrSegCount s.boot.hdr
    · rw [ht, if_pos hmore, if_neg (Nat.ne_of_lt hmore)]
      exact ⟨hns, hno, State.segLoaded_shows _ hseg, hphase⟩
    · rw [ht, if_neg hmore, if_pos (by omega)]
      refine ⟨?_, ?_, ?_, u.phase_awaitTag s.ticks⟩
      · rwa [u.fld_awaitTag_apart s.ticks (.inl (by decide)) (by decide)]
      · rwa [u.fld_awaitTag_apart s.ticks (.inl (by decide)) (by decide)]
      · rw [u.fld_awaitTag_apart s.ticks (.inr (.inr (by decide))) (by decide)]
        exact State.segLoaded_shows _ hseg

/-! ### FAIL -/

/-- R146, R147: the cores are held, the commit queue is discarded, and the three RAMs are zeroised. -/
def State.zeroised (s : State) : State :=
  ({ ((s.setFld F.BOOT_STATUS_SCRIBE_RUN 0).setFld F.BOOT_STATUS_STYLUS_RUN 0).setFld F.BOOT_STATUS_GATE_STALLED 0 with
      boot := { s.boot with commitQ := [], stalled := none, releaseDue := false }
      tile := { s.tile with code := [], data := [], stylus := [] } } : State).setFld F.BOOT_STATUS_ZEROISED 1

/-- R147: PD02 to PD05 are off. -/
def State.coresOff (s : State) : State := (((s.powerDown 2).powerDown 3).powerDown 4).powerDown 5

theorem State.failDownload_eq (s : State) (cause : Nat) :
    s.failDownload cause = (s.zeroised.coresOff.setFld F.BOOT_STATUS_FAIL_CAUSE cause).setPhase 6 := rfl

/-- Table 18-3: what the domains of the cores lose: the content of their RAMs alone. -/
theorem State.loseMemory_core (s : State) {n : Nat} (h5 : n ≤ 5) : s.loseMemory n = { s with tile := s.tile.zero n } := by
  simp [State.loseMemory, show n ≠ 7 by omega, show n ≠ 8 by omega, show n ≠ 13 by omega, show n ≠ 16 by omega]

/-- A field outside the register of the domain that goes off. -/
theorem State.fld_markDown_ne (s : State) (n st : Nat) {f : Field} (hf : f.addr ≠ 0x10100 + 4 * n) :
    (s.markDown n st).fld f = s.fld f := by
  unfold State.markDown
  rw [State.fld_setFld_apart _ _ f 0 (.inl hf.symm), State.fld_setFld_apart _ _ f 0 (.inl hf.symm),
    State.fld_setFld_apart _ _ f 0 (.inl hf.symm), State.fld_setFld_apart _ _ f 0 (.inl hf.symm),
    State.fld_setFld_apart _ _ f st (.inl hf.symm)]

theorem State.fld_powerDown_ne (s : State) {n : Nat} (h5 : n ≤ 5) {f : Field} (hf : f.addr ≠ 0x10100 + 4 * n) :
    (s.powerDown n).fld f = s.fld f := by
  rw [State.powerDown, State.fld_markDown_ne _ n 0 hf, s.loseMemory_core h5]
  exact State.fld_of_regs rfl f

theorem State.pdState_powerDown_same (s : State) (n : Nat) : (s.powerDown n).pdState n = 0 := by
  unfold State.pdState State.powerDown State.markDown
  rw [State.fld_setFld_apart _ _ _ 0 (.inr (.inl (by decide : 24 + 1 ≤ 28))),
    State.fld_setFld_apart _ _ _ 0 (.inr (.inl (by decide : 25 + 1 ≤ 28))),
    State.fld_setFld_apart _ _ _ 0 (.inr (.inl (by decide : 26 + 1 ≤ 28))),
    State.fld_setFld_apart _ _ _ 0 (.inr (.inl (by decide : 27 + 1 ≤ 28))), State.fld_setFld _ _ 0 (by decide : 28 + 4 ≤ 32)]
  rfl

theorem State.pdState_powerDown_ne (s : State) {m n : Nat} (h5 : n ≤ 5) (hne : m ≠ n) : (s.powerDown n).pdState m = s.pdState m :=
  s.fld_powerDown_ne h5 (by show 0x10100 + 4 * m ≠ 0x10100 + 4 * n; omega)

/-- A field above the registers of those domains. -/
theorem State.fld_coresOff (s : State) {f : Field} (hf : 0x10114 < f.addr) : s.coresOff.fld f = s.fld f := by
  rw [State.coresOff, State.fld_powerDown_ne _ (by decide) (by omega), State.fld_powerDown_ne _ (by decide) (by omega),
    State.fld_powerDown_ne _ (by decide) (by omega), State.fld_powerDown_ne _ (by decide) (by omega)]

theorem State.pdState_coresOff (s : State) {n : Nat} (h2 : 2 ≤ n) (h5 : n ≤ 5) : s.coresOff.pdState n = 0 := by
  unfold State.coresOff
  have hn : n = 2 ∨ n = 3 ∨ n = 4 ∨ n = 5 := by omega
  rcases hn with rfl | rfl | rfl | rfl
  · rw [State.pdState_powerDown_ne _ (by decide) (by decide), State.pdState_powerDown_ne _ (by decide) (by decide),
      State.pdState_powerDown_ne _ (by decide) (by decide), State.pdState_powerDown_same]
  · rw [State.pdState_powerDown_ne _ (by decide) (by decide), State.pdState_powerDown_ne _ (by decide) (by decide),
      State.pdState_powerDown_same]
  · rw [State.pdState_powerDown_ne _ (by decide) (by decide), State.pdState_powerDown_same]
  · exact State.pdState_powerDown_same _ 5

/-- A field of BOOT_STATUS after FAIL, as the zeroising leaves it. -/
theorem State.bit_failDownload (s : State) (cause : Nat) {f : Field} (ha : f.addr = 0x20000) (hf : f.lo + f.width ≤ 24) :
    (s.failDownload cause).bit f = s.zeroised.bit f := by
  have hphase : F.BOOT_STATUS_PHASE.apart f := .inr (.inr (le_trans hf (by decide)))
  have hcause : F.BOOT_STATUS_FAIL_CAUSE.apart f := .inr (.inr hf)
  rw [s.failDownload_eq, State.bit_setPhase_apart _ 6 hphase (by omega), State.bit_setFld_apart _ _ hcause]
  unfold State.bit
  rw [State.fld_coresOff _ (by omega)]

theorem State.bit_zeroised (s : State) (f : Field) :
    s.zeroised.bit f = ((((s.setFld F.BOOT_STATUS_SCRIBE_RUN 0).setFld F.BOOT_STATUS_STYLUS_RUN 0).setFld
      F.BOOT_STATUS_GATE_STALLED 0).setFld F.BOOT_STATUS_ZEROISED 1).bit f := State.bit_of_regs rfl f

theorem State.scribeRun_zeroised (s : State) : s.zeroised.bit F.BOOT_STATUS_SCRIBE_RUN = false := by
  rw [s.bit_zeroised, State.bit_setFld_apart _ 1 (.inr (.inl (by decide))), State.bit_setFld_apart _ 0 (.inr (.inl (by decide))),
    State.bit_setFld_apart _ 0 (.inr (.inl (by decide))), State.bit, State.fld_setFld _ _ 0 (by decide)]
  rfl

theorem State.stylusRun_zeroised (s : State) : s.zeroised.bit F.BOOT_STATUS_STYLUS_RUN = false := by
  rw [s.bit_zeroised, State.bit_setFld_apart _ 1 (.inr (.inl (by decide))), State.bit_setFld_apart _ 0 (.inr (.inl (by decide))),
    State.bit, State.fld_setFld _ _ 0 (by decide)]
  rfl

theorem State.zeroised_shows (s : State) : s.zeroised.bit F.BOOT_STATUS_ZEROISED = true := by
  rw [s.bit_zeroised, State.bit, State.fld_setFld _ _ 1 (by decide)]
  rfl

theorem State.keylock_zeroised (s : State) : s.zeroised.bit F.BOOT_STATUS_KEYLOCK = s.bit F.BOOT_STATUS_KEYLOCK := by
  rw [s.bit_zeroised, State.bit_setFld_apart _ 1 (.inr (.inl (by decide))), State.bit_setFld_apart _ 0 (.inr (.inl (by decide))),
    State.bit_setFld_apart _ 0 (.inr (.inl (by decide))), State.bit_setFld_apart _ 0 (.inr (.inl (by decide)))]

/-- R147: FAIL_CAUSE. -/
theorem State.failCause_failDownload (s : State) {cause : Nat} (h : cause < 8) :
    (s.failDownload cause).fld F.BOOT_STATUS_FAIL_CAUSE = cause := by
  rw [s.failDownload_eq, State.fld_setPhase_apart _ 6 (.inr (.inr (by decide))) (by decide), State.fld_setFld _ _ cause (by decide)]
  exact Nat.mod_eq_of_lt (lt_trans h (by decide))

theorem State.pdState_failDownload (s : State) (cause : Nat) {n : Nat} (h2 : 2 ≤ n) (h5 : n ≤ 5) : (s.failDownload cause).pdState n = 0 := by
  have haddr : (F.PWR_PD_STATE n).addr = 0x10100 + 4 * n := rfl
  have hset : (s.failDownload cause).fld (F.PWR_PD_STATE n) = s.zeroised.coresOff.fld (F.PWR_PD_STATE n) := by
    rw [s.failDownload_eq, State.fld_setPhase_apart _ 6 (.inl (by rw [haddr]; show 0x20000 ≠ _; omega)) (by omega),
      State.fld_setFld_apart _ _ _ cause (.inl (by rw [haddr]; show 0x20000 ≠ _; omega))]
  exact hset.trans (s.zeroised.pdState_coresOff h2 h5)

/-- Switching off a domain of the cores changes its RAM and registers alone. -/
theorem State.powerDown_core (s : State) {n : Nat} (h5 : n ≤ 5) :
    (s.powerDown n).tile = s.tile.zero n ∧ (s.powerDown n).boot = s.boot ∧ (s.powerDown n).plate = s.plate ∧
      (s.powerDown n).etch = s.etch ∧ (s.powerDown n).cw = s.cw := by
  simp only [State.powerDown, State.markDown, s.loseMemory_core h5, State.setFld_tile, State.setFld_boot, State.setFld_plate,
    State.setFld_etch, State.setFld_cw, and_self]

theorem State.coresOff_parts (s : State) :
    s.coresOff.tile = (((s.tile.zero 2).zero 3).zero 4).zero 5 ∧ s.coresOff.boot = s.boot ∧ s.coresOff.plate = s.plate ∧
      s.coresOff.etch = s.etch ∧ s.coresOff.cw = s.cw := by
  obtain ⟨ht2, hb2, hp2, he2, hc2⟩ := s.powerDown_core (n := 2) (by decide)
  obtain ⟨ht3, hb3, hp3, he3, hc3⟩ := (s.powerDown 2).powerDown_core (n := 3) (by decide)
  obtain ⟨ht4, hb4, hp4, he4, hc4⟩ := ((s.powerDown 2).powerDown 3).powerDown_core (n := 4) (by decide)
  obtain ⟨ht5, hb5, hp5, he5, hc5⟩ := (((s.powerDown 2).powerDown 3).powerDown 4).powerDown_core (n := 5) (by decide)
  unfold State.coresOff
  exact ⟨by rw [ht5, ht4, ht3, ht2], by rw [hb5, hb4, hb3, hb2], by rw [hp5, hp4, hp3, hp2], by rw [he5, he4, he3, he2],
    by rw [hc5, hc4, hc3, hc2]⟩

/-- R147: the entry into FAIL with its cause changes registers alone. -/
theorem State.enterFail_parts (s : State) (cause : Nat) :
    ((s.setFld F.BOOT_STATUS_FAIL_CAUSE cause).setPhase 6).tile = s.tile ∧
      ((s.setFld F.BOOT_STATUS_FAIL_CAUSE cause).setPhase 6).boot = s.boot ∧
      ((s.setFld F.BOOT_STATUS_FAIL_CAUSE cause).setPhase 6).plate = s.plate ∧
      ((s.setFld F.BOOT_STATUS_FAIL_CAUSE cause).setPhase 6).etch = s.etch ∧
      ((s.setFld F.BOOT_STATUS_FAIL_CAUSE cause).setPhase 6).cw = s.cw := by
  simp only [State.setPhase_boot, State.setPhase_tile, State.setPhase_plate, State.setPhase_etch, State.setPhase_cw,
    State.setFld_boot, State.setFld_tile, State.setFld_plate, State.setFld_etch, State.setFld_cw, and_self]

/-- R146 to R148: what FAIL does beyond the registers. -/
theorem State.failDownload_parts (s : State) (cause : Nat) :
    (s.failDownload cause).tile = { s.tile with code := [], data := [], stylus := [] } ∧
      (s.failDownload cause).boot = { s.boot with commitQ := [], stalled := none, releaseDue := false } ∧
      (s.failDownload cause).plate = s.plate ∧ (s.failDownload cause).etch = s.etch ∧ (s.failDownload cause).cw = s.cw := by
  obtain ⟨htile, hboot, hplate, hetch, hcw⟩ := s.zeroised.coresOff_parts
  obtain ⟨htile', hboot', hplate', hetch', hcw'⟩ := s.zeroised.coresOff.enterFail_parts cause
  rw [s.failDownload_eq]
  exact ⟨htile'.trans htile, hboot'.trans hboot, hplate'.trans hplate, hetch'.trans hetch, hcw'.trans hcw⟩

/-! ### The ends of a download -/

/-- R127: a core fault before the commit instant. -/
theorem State.coreFault_fails {s : State} (h1 : 1 ≤ s.phase) (h4 : s.phase ≤ 4) (hrun : s.bit F.BOOT_STATUS_SCRIBE_RUN = true) :
    s.coreFault = s.failDownload 4 := if_pos ⟨h1, h4, hrun⟩

theorem State.scribeRun_of_active {s : State} (h : s.scribeActive = true) : s.bit F.BOOT_STATUS_SCRIBE_RUN = true := by
  simp only [State.scribeActive, Bool.and_eq_true] at h
  exact h.1.1

/-- R340: an instruction fetch from the Etch window: Scribe halts after the commit instant, and faults before it. -/
theorem exec_etchFetchFault_active {s : State} (hoff : s.off = false) (ha : s.scribeActive = true) :
    exec .etchFetchFault s = .next (
      let t := s.setFld F.ETCH_STATUS_FETCH_FAULT 1
      if t.runtime then { t with boot := { t.boot with halted := true } } else t.coreFault) := by
  rw [exec_etchFetchFault, execEtchFetchFault, State.ifLive_live _ hoff]
  simp only [ha, Bool.not_true, Bool.false_eq_true, if_false]

/-- Settles O28: the ends by the conditions of their events, FAIL by what each of its parts leaves. -/
theorem downloadFails : Obligations.DownloadFails := by
  unfold Obligations.DownloadFails
  have hfault (s : State) : (s.setFld F.ETCH_STATUS_FETCH_FAULT 1).phase = s.phase :=
    State.fld_setFld_apart s _ _ 1 (.inl (by decide))
  refine ⟨?timeout, ?waits, ?stalled, ?fault, ?fetch, ?halt, ?fail⟩
  case timeout =>
    intro s hoff hphase hdue hnone
    rw [exec_tagTimeout, execTagTimeout, State.ifLive_live _ hoff, if_pos ⟨hphase, hdue, by rw [hnone]; rfl⟩]
  case waits =>
    intro s hwait
    have hnot : ¬ (s.phase = 3 ∧ s.boot.lastSeg + 2000 ≤ s.ticks ∧ (!s.cw.cmdQ.any (isOp 0x13)) = true) := by
      rintro ⟨-, hdue, hnone⟩
      rcases hwait with h | h
      · rw [h] at hnone
        exact Bool.false_ne_true hnone
      · omega
    rw [exec_tagTimeout, execTagTimeout, if_neg hnot, State.ifLive_self]
  case stalled =>
    intro s hoff hphase hdue
    rw [exec_loadStalled, execLoadStalled, State.ifLive_live _ hoff, if_pos ⟨hphase, hdue⟩]
  case fault =>
    intro s hoff h1 h4 hrun
    rw [exec_scribeFault, execScribeFault, State.ifLive_live _ hoff, State.coreFault_fails h1 h4 hrun]
  case fetch =>
    intro s hoff ha h1 h4
    have hearly : (s.setFld F.ETCH_STATUS_FETCH_FAULT 1).runtime = false := by
      rw [State.runtime, hfault]
      exact beq_eq_false_iff_ne.2 (by omega)
    have hrun : (s.setFld F.ETCH_STATUS_FETCH_FAULT 1).bit F.BOOT_STATUS_SCRIBE_RUN = true :=
      (State.bit_setFld_apart s 1 (.inl (by decide))).trans (State.scribeRun_of_active ha)
    rw [exec_etchFetchFault_active hoff ha]
    simp only [hearly, Bool.false_eq_true, if_false, State.coreFault_fails ((hfault s).symm ▸ h1) ((hfault s).symm ▸ h4) hrun]
  case halt =>
    intro s hoff ha hphase
    have hruntime : (s.setFld F.ETCH_STATUS_FETCH_FAULT 1).runtime = true := by
      rw [State.runtime, hfault, hphase]
      rfl
    rw [exec_etchFetchFault_active hoff ha]
    simp only [hruntime, if_true, State.setFld_boot]
  case fail =>
    intro s cause hcause t
    obtain ⟨htile, hboot, hplate, hetch, hcw⟩ := s.failDownload_parts cause
    refine ⟨State.phase_setPhase _ (by decide), s.failCause_failDownload hcause, ?_, ?_, ?_, congrArg BootState.commitQ hboot,
      congrArg BootState.stalled hboot, htile, fun n => s.pdState_failDownload cause, ?_, hplate, hetch, hcw⟩
    · exact (s.bit_failDownload cause rfl (by decide)).trans s.scribeRun_zeroised
    · exact (s.bit_failDownload cause rfl (by decide)).trans s.stylusRun_zeroised
    · exact (s.bit_failDownload cause rfl (by decide)).trans s.zeroised_shows
    · exact (s.bit_failDownload cause rfl (by decide)).trans s.keylock_zeroised

end Sys2Proof.Machine
end

section
/-! PROOFS. What Scribe writes: its DMA into the Tile RAMs and the Plate, and its writes to registers before and after the commit
instant. -/

namespace Sys2Proof.Machine

theorem exec_scribeGatedWrite (a : Nat) (w : Word) (s : State) : exec (.scribeGatedWrite a w) s = execScribeGatedWrite a w s := rfl
theorem exec_scribeDmaWrite (target : Fin 8) (off : Nat) (d : List Byte) (fetch : Option (Fin 1048576)) (portA : Option PortOp)
    (s : State) : exec (.scribeDmaWrite target off d fetch portA) s = execScribeDmaWrite target off d fetch portA s := rfl

/-! ### Scribe DMA (R122, R132) -/

/-- A running Scribe's transfer to a Tile RAM whose domains are on, within its size. -/
theorem exec_scribeDmaWrite_ram {s : State} {target : Fin 8} {off n : Nat} {d : List Byte} (fetch : Option (Fin 1048576))
    (portA : Option PortOp) (hoff : s.off = false) (hrun : s.bit F.BOOT_STATUS_SCRIBE_RUN = true) (hhalt : s.boot.halted = false)
    (hd : d ≠ []) (h3 : target.val ≤ 3) (hsize : targetSize target.val = some n) (hn : off + d.length ≤ n)
    (hon : (targetDomains target.val).all s.pdOn = true) :
    exec (.scribeDmaWrite target off d fetch portA) s = .next ((s.fetched fetch).portB target.val off d portA) := by
  rw [exec_scribeDmaWrite, execScribeDmaWrite, State.ifLive_live _ hoff]
  simp [hrun, hhalt, hd, hsize, hon, h3, show target.val ≠ 7 by omega, show ¬ 4 < target.val by omega, Nat.not_lt.2 hn]

/-- R122: a refused transfer leaves the RAM to port A. -/
theorem State.portB_refused (s : State) {t off : Nat} {d : List Byte} (a : Option PortOp) (h : s.bankExecuting t off d.length = true) :
    s.portB t off d a = { s with tile := s.tile.portWrite t a, boot := { s.boot with dmaRefused := true } } := by
  simp only [State.portB, h, if_true]
  rfl

/-- R318: another transfer is written after what port A writes. -/
theorem State.portB_written (s : State) {t off : Nat} {d : List Byte} (a : Option PortOp) (h : s.bankExecuting t off d.length = false) :
    s.portB t off d a =
      { s with tile := (s.tile.portWrite t a).put t off d, boot := { s.boot with dmaRefused := false } } := by
  simp only [State.portB, h, Bool.false_eq_true, if_false]
  rfl

theorem TileState.put_data (m : TileState) (a : Nat) (d : List Byte) : m.put 2 a d = { m with data := memPut m.data a d } := rfl

/-- What port A does to Data RAM changes nothing but its bytes. -/
theorem TileState.portWrite_data (m : TileState) (a : Option PortOp) : m.portWrite 2 a = { m with data := (m.portWrite 2 a).data } := by
  unfold TileState.portWrite
  split <;> rfl

/-- The state after a transfer into Data RAM. -/
def State.dataWritten (s : State) (fetch : Option (Fin 1048576)) (portA : Option PortOp) (off : Nat) (d : List Byte) : State :=
  { s.fetched fetch with
    tile := { s.tile with data := memPut (s.tile.portWrite 2 portA).data off d }
    boot := { (s.fetched fetch).boot with dmaRefused := false } }

theorem exec_scribeDmaWrite_data {s : State} {off : Nat} {d : List Byte} (fetch : Option (Fin 1048576)) (portA : Option PortOp)
    (hoff : s.off = false) (hrun : s.bit F.BOOT_STATUS_SCRIBE_RUN = true) (hhalt : s.boot.halted = false) (hd : d ≠ [])
    (hn : off + d.length ≤ 0x80000) (hon : s.pdOn 5 = true) :
    exec (.scribeDmaWrite 2 off d fetch portA) s = .next (s.dataWritten fetch portA off d) := by
  have hon' : (targetDomains (2 : Fin 8).val).all s.pdOn = true := by simpa [targetDomains] using hon
  have hwritten : (s.fetched fetch).portB 2 off d portA = s.dataWritten fetch portA off d := by
    rw [State.portB_written _ portA (by rfl), State.fetched_tile, TileState.portWrite_data, TileState.put_data]
    rfl
  rw [exec_scribeDmaWrite_ram fetch portA hoff hrun hhalt hd (by decide) rfl hn hon', ← hwritten]
  rfl

theorem exec_scribeDmaWrite_executing {s : State} {off : Nat} {d : List Byte} (fetch : Option (Fin 1048576)) (portA : Option PortOp)
    (hoff : s.off = false) (hrun : s.bit F.BOOT_STATUS_SCRIBE_RUN = true) (hhalt : s.boot.halted = false) (hd : d ≠ [])
    (hn : off + d.length ≤ 0x100000) (hon : s.pdOn 4 = true) (hbank : touchesBank off d.length (s.fetched fetch).fetchBank = true) :
    exec (.scribeDmaWrite 1 off d fetch portA) s = .next { s.fetched fetch with
      tile := s.tile.portWrite 1 portA, boot := { (s.fetched fetch).boot with dmaRefused := true } } := by
  have hon' : (targetDomains (1 : Fin 8).val).all s.pdOn = true := by simpa [targetDomains] using hon
  have hexec : (s.fetched fetch).bankExecuting 1 off d.length = true := by
    simp [State.bankExecuting, State.bit_fetched, hrun, hbank]
  rw [exec_scribeDmaWrite_ram fetch portA hoff hrun hhalt hd (by decide) rfl hn hon', ← s.fetched_tile fetch]
  exact congrArg Host.Outcome.next (State.portB_refused _ portA hexec)

/-- R132: a transfer into the Plate before the commit instant is dropped. -/
theorem exec_scribeDmaWrite_plate {s : State} (off : Nat) {d : List Byte} (fetch : Option (Fin 1048576)) (portA : Option PortOp)
    (hoff : s.off = false) (hrun : s.bit F.BOOT_STATUS_SCRIBE_RUN = true) (hhalt : s.boot.halted = false) (hd : d ≠ [])
    (hphase : s.phase ≤ 4) : exec (.scribeDmaWrite 7 off d fetch portA) s = .next (s.fetched fetch).plateDrop := by
  have hearly : (s.fetched fetch).runtime = false := by
    rw [State.runtime, State.phase_fetched]
    exact beq_eq_false_iff_ne.2 (by omega)
  rw [exec_scribeDmaWrite, execScribeDmaWrite, State.ifLive_live _ hoff]
  simp [hrun, hhalt, hd, State.dmaPlate, hearly]

/-! ### Scribe's writes to addresses (R129 to R132, R134, R137) -/

/-- Before the commit instant. -/
theorem exec_scribeGatedWrite_early {s : State} {a : Nat} (w : Word) (hoff : s.off = false) (hact : s.scribeActive = true)
    (hphase : s.phase ≤ 4) (ha : a % 4 = 0) : exec (.scribeGatedWrite a w) s = .next (s.scribeWrite a w) := by
  rw [exec_scribeGatedWrite, execScribeGatedWrite, State.ifLive_live _ hoff, if_pos ⟨hact, ha⟩, if_pos hphase]

/-- From the commit instant on. -/
theorem exec_scribeGatedWrite_runtime {s : State} {a : Nat} (w : Word) (hoff : s.off = false) (hact : s.scribeActive = true)
    (hphase : s.phase = 5) (ha : a % 4 = 0) : exec (.scribeGatedWrite a w) s = .next (s.scribeStore a w) := by
  have hruntime : s.runtime = true := by rw [State.runtime, hphase]; rfl
  rw [exec_scribeGatedWrite, execScribeGatedWrite, State.ifLive_live _ hoff, if_pos ⟨hact, ha⟩, if_neg (by omega), if_pos hruntime]

theorem State.stalled_of_active {s : State} (h : s.scribeActive = true) : s.boot.stalled = none := by
  simp only [State.scribeActive, Bool.and_eq_true, Option.isNone_iff_eq_none] at h
  exact h.1.2

theorem State.scribeWrite_gated (s : State) {a : Nat} (w : Word) (hg : isGated a = true) : s.scribeWrite a w = s.gateWrite a w := if_pos hg

/-- R129: a commit queue with room takes the write. -/
theorem State.gateWrite_queues {s : State} (a : Nat) (w : Word) (hstall : s.boot.stalled = none) (hroom : s.boot.commitQ.length < 4096) :
    s.gateWrite a w = { s.setFld F.BOOT_GATE_HIGH_WATER (max (s.fld F.BOOT_GATE_HIGH_WATER) (s.boot.commitQ ++ [(a, w)]).length) with
      boot := { s.boot with commitQ := s.boot.commitQ ++ [(a, w)] } } := by
  simp only [State.gateWrite, hstall, Option.isSome_none, Bool.false_eq_true, if_false, if_neg (Nat.not_le.2 hroom)]

/-- R130: a full one stalls Scribe. -/
theorem State.gateWrite_stalls {s : State} (a : Nat) (w : Word) (hstall : s.boot.stalled = none) (hfull : s.boot.commitQ.length = 4096) :
    s.gateWrite a w = { s.setFld F.BOOT_STATUS_GATE_STALLED 1 with boot := { s.boot with stalled := some (a, w) } } := by
  simp only [State.gateWrite, hstall, Option.isSome_none, Bool.false_eq_true, if_false, if_pos (Nat.le_of_eq hfull.symm)]

theorem State.rd_of_regs {s t : State} (h : t.regs = s.regs) (a : Nat) : t.rd a = s.rd a := by
  unfold State.rd
  rw [h]

/-- The Plate window is no register group. -/
theorem State.scribeWrite_plate (s : State) {a : Nat} (w : Word) (hlo : 0x80000000 ≤ a) (hhi : a < 0x82000000) :
    s.scribeWrite a w = s.plateDrop := by
  have hgate : isGated a = false := by
    simp only [isGated, Bool.or_eq_false_iff, Bool.and_eq_false_iff, decide_eq_false_iff_not]
    omega
  have hin : isInBlock a = false := by
    simp only [isInBlock, Bool.and_eq_false_iff, decide_eq_false_iff_not]
    omega
  simp [State.scribeWrite, hgate, hin, windowOf_plate hlo (by omega)]

/-- R449: no gated group lies in the IN block. -/
theorem State.scribeWrite_inBlock (s : State) {a : Nat} (w : Word) (h : isInBlock a = true) : s.scribeWrite a w = s := by
  have hgate : isGated a = false := by
    simp only [isInBlock, Bool.and_eq_true, decide_eq_true_eq] at h
    simp only [isGated, Bool.or_eq_false_iff, Bool.and_eq_false_iff, decide_eq_false_iff_not]
    omega
  simp [State.scribeWrite, hgate, h]

/-- R128, Table 6-5: every gated group lies in the register blocks of the runtime. -/
theorem windowOf_gated {a : Nat} (h : isGated a = true) : ∃ lo hi, windowOf a = some (lo, hi, .regs) ∧ a ≠ 0x30000 := by
  simp only [isGated, Bool.or_eq_true, Bool.and_eq_true, decide_eq_true_eq] at h
  have hw (lo hi : Nat) (hmem : (lo, hi, WindowKind.regs) ∈ windows) (h1 : lo ≤ a) (h2 : a ≤ hi) (hne : a ≠ 0x30000) :
      ∃ lo hi, windowOf a = some (lo, hi, .regs) ∧ a ≠ 0x30000 := ⟨lo, hi, windowOf_of_mem hmem h1 h2, hne⟩
  by_cases hfuse : a < 0x10000
  · exact hw 0 0xFFFF (by decide) (by omega) (by omega) (by omega)
  by_cases hpwr : a < 0x20000
  · exact hw 0x10000 0x1FFFF (by decide) (by omega) (by omega) (by omega)
  by_cases hcomp : a < 0x80000
  · exact hw 0x60000 0x7FFFF (by decide) (by omega) (by omega) (by omega)
  by_cases hhead : a < 0xC0000
  · exact hw 0x80000 0xBFFFF (by decide) (by omega) (by omega) (by omega)
  by_cases htell : a < 0xD0000
  · exact hw 0xC0000 0xCFFFF (by decide) (by omega) (by omega) (by omega)
  by_cases hlink : a < 0x108000
  · exact hw 0x100000 0x107FFF (by decide) (by omega) (by omega) (by omega)
  by_cases htouch : a < 0x150000
  · exact hw 0x140000 0x14FFFF (by decide) (by omega) (by omega) (by omega)
  · exact hw 0x1C0000 0x1CFFFF (by decide) (by omega) (by omega) (by omega)

/-- R137: a gated register takes the write at once after the commit instant. -/
theorem State.scribeStore_gated (s : State) {a : Nat} (w : Word) (h : isGated a = true) : s.scribeStore a w = s.writeRegs a [w] [] := by
  obtain ⟨lo, hi, hw, hne⟩ := windowOf_gated h
  simp only [State.scribeStore, hw, State.storeReg, if_neg hne]

/-- Settles O29: each clause by the lemma on its transfer or its write. -/
theorem scribeWrites : Obligations.ScribeWrites := by
  unfold Obligations.ScribeWrites
  refine ⟨?executing, ?data, ?queued, ?full, ?plate, ?plateDma, ?inBlock, ?runtime⟩
  case executing => exact fun s off d fetch portA => exec_scribeDmaWrite_executing fetch portA
  case data =>
    intro s off d fetch portA hoff hrun hhalt hd hn hon
    exact ⟨s.dataWritten fetch portA off d, exec_scribeDmaWrite_data fetch portA hoff hrun hhalt hd hn hon, rfl,
      fun a ha => memGet_put_out d _ off a ha, fun i hi => memGet_put_in d _ off i hi⟩
  case queued =>
    intro s a w hoff hact hphase ha hg hroom
    refine ⟨s.gateWrite a w, ?_, ?_⟩
    · rw [exec_scribeGatedWrite_early w hoff hact hphase ha, s.scribeWrite_gated w hg]
    · rw [State.gateWrite_queues a w (State.stalled_of_active hact) hroom]
      refine ⟨rfl, rfl, fun b hb => ?_⟩
      exact (State.rd_of_regs rfl b).trans (State.rd_setFld_ne s F.BOOT_GATE_HIGH_WATER _ b hb.symm)
  case full =>
    intro s a w hoff hact hphase ha hg hfull
    rw [exec_scribeGatedWrite_early w hoff hact hphase ha, s.scribeWrite_gated w hg,
      State.gateWrite_stalls a w (State.stalled_of_active hact) hfull]
  case plate =>
    intro s a w hoff hact hphase ha hlo hhi
    rw [exec_scribeGatedWrite_early w hoff hact hphase ha, s.scribeWrite_plate w hlo hhi]
    rfl
  case plateDma =>
    intro s off d fetch portA hoff hrun hhalt hd hphase
    rw [exec_scribeDmaWrite_plate off fetch portA hoff hrun hhalt hd hphase, ← s.fld_fetched fetch]
    rfl
  case inBlock =>
    intro s a w hoff hact hphase ha hin
    rw [exec_scribeGatedWrite_early w hoff hact hphase ha, s.scribeWrite_inBlock w hin]
  case runtime =>
    intro s a w hoff hact hphase ha hg
    rw [exec_scribeGatedWrite_runtime w hoff hact hphase ha, s.scribeStore_gated w hg]

end Sys2Proof.Machine
end

section
/-! PROOFS. The bound on the queues and buffers is not kept from every state that meets it. -/

namespace Sys2Proof.Machine

/-- R933, R443: the black rows of a frame are padded to whole Plate words where the model queues them (State.blackRows), but State.bounded
does not say so of the rows that wait. Here a row of one byte waits behind an elastic buffer of 65,536 bytes whose oldest word holds one byte,
and capture asks for that word's drain; the lower half of the Plate is off, so that the word leaves the buffer at once (R295). -/
def State.oddBlackRow : State :=
  { State.reset with
    pending := [.plateRequest 15 .drain]
    elastic := ⟨0, [0]⟩ :: ⟨32, List.replicate 31 0⟩ :: List.replicate 2047 ⟨64, List.replicate 32 0⟩
    black := [⟨0, 0, 0, 0, 1, [0]⟩] }

theorem State.oddBlackRow_bounded : State.oddBlackRow.bounded = true := by decide +kernel

/-- R389: the row's one byte fits the byte that is free, and enters as a Plate word of 32. -/
theorem step_oddBlackRow : ∃ t, step State.oddBlackRow = .next t ∧ bufBytes t.elastic = 65567 := ⟨_, rfl, by decide +kernel⟩

theorem State.elastic_of_bounded {s : State} (h : s.bounded = true) : bufBytes s.elastic ≤ 65536 := by
  simp only [State.bounded, Bool.and_eq_true, decide_eq_true_eq] at h
  exact h.1.2

/-- Refutes O5: the bound of R389 fails after a step from a state in which a black row waits that is no whole number of Plate words. -/
theorem not_queuesStayBounded : ¬ Obligations.QueuesStayBounded := by
  unfold Obligations.QueuesStayBounded
  intro h
  obtain ⟨t, hstep, hbytes⟩ := step_oddBlackRow
  have hle : bufBytes t.elastic ≤ 65536 := State.elastic_of_bounded (h _ t State.oddBlackRow_bounded hstep)
  omega

end Sys2Proof.Machine
end

section
/-! PROOFS. What the operations of the machine leave alone: the fuses, and the Command Window unless a command executes. The operations
that the frame of `KeepsStart` covers. -/

namespace Sys2Proof.Machine
open State (KeepsStart)

/-! ### What a command leaves of the fuses and of the Command Window -/

/-- `t` has the fuses of `s` and, if `s` executes no command, its Command Window. -/
@[simp] abbrev State.Spares (s t : State) : Prop := t.fuses = s.fuses ∧ (s.cw.running = none → t.cw = s.cw)

theorem State.KeepsStart.spares {s t : State} (k : s.KeepsStart t) : s.Spares t := ⟨congrArg StartCore.fuses k.core, k.cw⟩

@[simp] theorem State.fuses_ite (c : Prop) [Decidable c] (s t : State) :
    (if c then s else t).fuses = if c then s.fuses else t.fuses := apply_ite _ c s t

@[simp] theorem State.cw_ite (c : Prop) [Decidable c] (s t : State) : (if c then s else t).cw = if c then s.cw else t.cw :=
  apply_ite _ c s t

@[simp] theorem foldl_fuses {α : Type} {f : State → α → State} (hf : ∀ u a, (f u a).fuses = u.fuses) (l : List α) (s : State) :
    (l.foldl f s).fuses = s.fuses := foldl_keeps State.fuses hf l s

@[simp] theorem State.each_fuses {f : State → Nat → State} (hf : ∀ u a, (f u a).fuses = u.fuses) (l : List Nat) (s : State) :
    (s.each l f).fuses = s.fuses := foldl_fuses hf l s

@[simp] theorem forEach_fuses {α : Type} {f : State → α → State} (hf : ∀ u a, (f u a).fuses = u.fuses) (l : List α) (s : State) :
    (forEach l s f).fuses = s.fuses := foldl_fuses hf l s

@[simp] theorem foldl_cw {α : Type} {f : State → α → State} (hf : ∀ u a, u.cw.running = none → (f u a).cw = u.cw) (l : List α) :
    ∀ s : State, s.cw.running = none → (l.foldl f s).cw = s.cw := by
  induction l with
  | nil => exact fun _ _ => rfl
  | cons a l ih => exact fun s hs => (ih (f s a) (by rw [hf s a hs, hs])).trans (hf s a hs)

@[simp] theorem State.each_cw {f : State → Nat → State} (hf : ∀ u a, u.cw.running = none → (f u a).cw = u.cw) (l : List Nat) (s : State)
    (hs : s.cw.running = none) : (s.each l f).cw = s.cw := foldl_cw hf l s hs

@[simp] theorem forEach_cw {α : Type} {f : State → α → State} (hf : ∀ u a, u.cw.running = none → (f u a).cw = u.cw) (l : List α)
    (s : State) (hs : s.cw.running = none) : (forEach l s f).cw = s.cw := foldl_cw hf l s hs

@[simp] theorem State.pbaStart_spares (s : State) : s.Spares s.pbaStart :=
  (State.pbaStart_keepsStart s).spares

@[simp] theorem State.releaseTargets_spares (s : State) (i : Nat) : s.Spares (s.releaseTargets i) :=
  (State.releaseTargets_keepsStart s i).spares

@[simp] theorem State.headEvent_spares (s : State) (h : Nat) : s.Spares (s.headEvent h) :=
  (State.headEvent_keepsStart s h).spares

@[simp] theorem State.refront_spares (s : State) (n : Nat) : s.Spares (s.refront n) :=
  (State.refront_keepsStart s n).spares

@[simp] theorem State.showLoaded_spares (s : State) : s.Spares s.showLoaded :=
  (State.showLoaded_keepsStart s).spares

@[simp] theorem State.etchTouch_spares (s : State) (a : Nat) (n : Nat) : s.Spares (s.etchTouch a n) :=
  (State.etchTouch_keepsStart s a n).spares

@[simp] theorem State.touchPair_spares (s : State) (type : Nat) : s.Spares (s.touchPair type) :=
  (State.touchPair_keepsStart s type).spares

@[simp] theorem State.record_spares (s : State) (type : Nat) : s.Spares (s.record type).2 :=
  (State.record_keepsStart s type).spares

@[simp] theorem State.tablesDue_spares (s : State) (h : Nat) : s.Spares (s.tablesDue h) :=
  (State.tablesDue_keepsStart s h).spares

@[simp] theorem State.profilesRecord_spares (s : State) : s.Spares s.profilesRecord.2 :=
  (State.profilesRecord_keepsStart s).spares

@[simp] theorem State.retarget_spares (s : State) : s.Spares s.retarget :=
  (State.retarget_keepsStart s).spares

@[simp] theorem State.showPins_spares (s : State) : s.Spares s.showPins :=
  (State.showPins_keepsStart s).spares

@[simp] theorem State.saSlots_spares (s : State) : s.Spares s.saSlots :=
  (State.saSlots_keepsStart s).spares

@[simp] theorem State.showLevel_spares (s : State) (h : Nat) : s.Spares (s.showLevel h) :=
  (State.showLevel_keepsStart s h).spares

@[simp] theorem State.setMode_spares (s : State) (h : Nat) (m : Nat) : s.Spares (s.setMode h m) :=
  (State.setMode_keepsStart s h m).spares

@[simp] theorem State.backlightFromProfile_spares (s : State) (h : Nat) : s.Spares (s.backlightFromProfile h) :=
  (State.backlightFromProfile_keepsStart s h).spares

@[simp] theorem State.endHold_spares (s : State) (h : Nat) : s.Spares (s.endHold h) :=
  (State.endHold_keepsStart s h).spares

@[simp] theorem State.countOff_spares (s : State) : s.Spares s.countOff :=
  (State.countOff_keepsStart s).spares

@[simp] theorem State.plateWrite_spares (s : State) (a : Nat) (d : List Byte) : s.Spares (s.plateWrite a d) :=
  (State.plateWrite_keepsStart s a d).spares

@[simp] theorem State.countRefuse_spares (s : State) (c : Nat) : s.Spares (s.countRefuse c) :=
  (State.countRefuse_keepsStart s c).spares

@[simp] theorem State.plateRead_spares (s : State) (c : Nat) (a : Nat) : s.Spares (s.plateRead c a).2 :=
  (State.plateRead_keepsStart s c a).spares

@[simp] theorem State.deliver_spares (s : State) (c : Nat) (w : Nat) (d : List Byte) : s.Spares (s.deliver c w d) :=
  (State.deliver_keepsStart s c w d).spares

@[simp] theorem State.flush_spares (s : State) (c : Nat) : s.Spares (s.flush c) :=
  (State.flush_keepsStart s c).spares

@[simp] theorem State.serve_spares (s : State) (c : Nat) (a : ReqBody) : s.Spares (s.serve c a) :=
  (State.serve_keepsStart s c a).spares

@[simp] theorem State.capture_spares (s : State) (c : Nat) (a : Nat) (d : List Byte) : s.Spares (s.capture c a d) :=
  (State.capture_keepsStart s c a d).spares

@[simp] theorem State.endRun_spares (s : State) (c : Nat) (st : Nat) : s.Spares (s.endRun c st) :=
  (State.endRun_keepsStart s c st).spares

@[simp] theorem State.loseRun_spares (s : State) (c : Nat) : s.Spares (s.loseRun c) :=
  (State.loseRun_keepsStart s c).spares

@[simp] theorem State.finishRunning_spares (s : State) (status : Nat) (payload : List Word) : s.Spares (s.finishRunning status payload) :=
  (State.finishRunning_keepsStart s status payload).spares

@[simp] theorem State.settleBroadcast_spares (s : State) : s.Spares s.settleBroadcast :=
  (State.settleBroadcast_keepsStart s).spares

@[simp] theorem State.settleFurl_spares (s : State) : s.Spares s.settleFurl :=
  (State.settleFurl_keepsStart s).spares

@[simp] theorem State.pauseRun_spares (s : State) (c : Nat) : s.Spares (s.pauseRun c) :=
  (State.pauseRun_onlyChains s c).keepsStart.spares

@[simp] theorem State.send_spares (s : State) (c : Nat) (b : List Block) : s.Spares (s.send c b) :=
  (State.send_keepsStart s c b).spares

@[simp] theorem State.towardGoal_spares (s : State) (c : Nat) : s.Spares (s.towardGoal c) :=
  (State.towardGoal_onlyChains s c).keepsStart.spares

@[simp] theorem State.setChainState_spares (s : State) (c : Nat) (st : Nat) : s.Spares (s.setChainState c st) :=
  (State.setChainState_keepsStart s c st).spares

@[simp] theorem State.darken_spares (s : State) (c : Nat) : s.Spares (s.darken c) :=
  (State.darken_keepsStart s c).spares

@[simp] theorem State.failTo_spares (s : State) (c : Nat) (st : Nat) (cause : Nat) (next : Nat) (wait : Nat) :
    s.Spares (s.failTo c st cause next wait) :=
  (State.failTo_keepsStart s c st cause next wait).spares

@[simp] theorem State.failAttempt_spares (s : State) (c : Nat) (st : Nat) (cause : Nat) : s.Spares (s.failAttempt c st cause) :=
  (State.failAttempt_keepsStart s c st cause).spares

@[simp] theorem State.startAttempt_spares (s : State) (c : Nat) (n : Nat) (st : Nat) : s.Spares (s.startAttempt c n st) :=
  (State.startAttempt_keepsStart s c n st).spares

@[simp] theorem State.trainChain_spares (s : State) (c : Nat) : s.Spares (s.trainChain c) :=
  (State.trainChain_keepsStart s c).spares

@[simp] theorem State.applyProfile_spares (s : State) (h : Nat) (e : List Word) : s.Spares (s.applyProfile h e) :=
  (State.applyProfile_keepsStart s h e).spares

@[simp] theorem State.aim_spares (s : State) (c : Nat) (g : Nat) : s.Spares (s.aim c g) :=
  (State.aim_onlyChains s c g).keepsStart.spares

@[simp] theorem State.unfurlFor_spares (s : State) (h : Nat) : s.Spares (s.unfurlFor h) :=
  (State.unfurlFor_onlyChains s h).keepsStart.spares

@[simp] theorem State.startHead_spares (s : State) (h : Nat) : s.Spares (s.startHead h) :=
  (State.startHead_keepsStart s h).spares

@[simp] theorem State.sendTo_spares (s : State) (c : Nat) (b : List Block) : s.Spares (s.sendTo c b) :=
  (State.sendTo_keepsStart s c b).spares

@[simp] theorem State.baseline_spares (s : State) (h : Nat) (cfg : List Word) : s.Spares (s.baseline h cfg).2 :=
  (State.baseline_keepsStart s h cfg).spares

@[simp] theorem State.touchJudge_spares (s : State) (h : Nat) : s.Spares (s.touchJudge h) :=
  (State.touchJudge_keepsStart s h).spares

@[simp] theorem State.sendLevel_spares (s : State) (h : Nat) : s.Spares (s.sendLevel h) :=
  (State.sendLevel_keepsStart s h).spares

@[simp] theorem State.wbStop_spares (s : State) : s.Spares s.wbStop :=
  (State.wbStop_keepsStart s).spares

@[simp] theorem State.showLevels_spares (s : State) : s.Spares s.showLevels :=
  (State.showLevels_keepsStart s).spares

@[simp] theorem telltaleChange_spares (s : State) (t : State) : t.Spares (telltaleChange s t) :=
  (telltaleChange_keepsStart s t).spares

@[simp] theorem State.showRegions_spares (s : State) : s.Spares s.showRegions :=
  (State.showRegions_keepsStart s).spares

@[simp] theorem State.setVid_spares (s : State) (i : Nat) (vc1 : Bool) (v : VidIn) : s.Spares (s.setVid i vc1 v) :=
  (State.setVid_keepsStart s i vc1 v).spares

@[simp] theorem State.tear_spares (s : State) (i : Nat) (vc1 : Bool) : s.Spares (s.tear i vc1) :=
  (State.tear_keepsStart s i vc1).spares

@[simp] theorem State.cutFrames_spares (s : State) (i : Nat) : s.Spares (s.cutFrames i) :=
  (State.cutFrames_keepsStart s i).spares

@[simp] theorem State.judgeSurf_spares (s : State) (n : Nat) : s.Spares (s.judgeSurf n) :=
  (State.judgeSurf_keepsStart s n).spares

@[simp] theorem State.judgeInput_spares (s : State) (i : Nat) : s.Spares (s.judgeInput i) :=
  (State.judgeInput_keepsStart s i).spares

@[simp] theorem State.haltHead_spares (s : State) (h : Nat) : s.Spares (s.haltHead h) :=
  (State.haltHead_keepsStart s h).spares

@[simp] theorem State.runWritten_spares (s : State) (h : Nat) : s.Spares (s.runWritten h) :=
  (State.runWritten_keepsStart s h).spares

@[simp] theorem State.touchJudgeAll_spares (s : State) : s.Spares s.touchJudgeAll :=
  (State.touchJudgeAll_keepsStart s).spares

@[simp] theorem State.showFurled_spares (s : State) : s.Spares s.showFurled :=
  (State.showFurled_keepsStart s).spares

@[simp] theorem State.wbDisable_spares (s : State) : s.Spares s.wbDisable :=
  (State.wbDisable_keepsStart s).spares

@[simp] theorem State.touchSettle_spares (s : State) (h : Nat) : s.Spares (s.touchSettle h) :=
  (State.touchSettle_keepsStart s h).spares

@[simp] theorem State.touchApply_spares (s : State) (h : Nat) (old : List Word) : s.Spares (s.touchApply h old) :=
  (State.touchApply_keepsStart s h old).spares

@[simp] theorem State.writeRegs_spares (s : State) (a : Nat) (ws : List Word) (hw : List Word) : s.Spares (s.writeRegs a ws hw) :=
  (State.writeRegs_keepsStart s a ws hw).spares

@[simp] theorem State.commitSurface_spares (s : State) (sel : Option Nat) (front : Option Nat) : s.Spares (s.commitSurface sel front) :=
  (State.commitSurface_keepsStart s sel front).spares

@[simp] theorem State.dropInput_spares (s : State) (i : Nat) : s.Spares (s.dropInput i) :=
  (State.dropInput_keepsStart s i).spares

@[simp] theorem State.loadLinear_spares (s : State) : s.Spares s.loadLinear :=
  (State.loadLinear_keepsStart s).spares

@[simp] theorem State.commitDomains_spares (s : State) (repair : List Word) : s.Spares (s.commitDomains repair) :=
  (State.commitDomains_keepsStart s repair).spares

@[simp] theorem State.makeLive_spares (s : State) (k : Nat) : s.Spares (s.makeLive k) :=
  (State.makeLive_keepsStart s k).spares

@[simp] theorem State.loadIconRecord_spares (s : State) (k : Nat) : s.Spares (s.loadIconRecord k) :=
  (State.loadIconRecord_keepsStart s k).spares

end Sys2Proof.Machine
end

section
/-! PROOFS. The fuses and the Command Window, left alone by the operations that the commands share. -/

namespace Sys2Proof.Machine
open State (Spares)

theorem State.Spares.trans {s t u : State} (k : s.Spares t) (l : t.Spares u) : s.Spares u :=
  ⟨l.1.trans k.1, fun hs => (l.2 (by rw [k.2 hs, hs])).trans (k.2 hs)⟩

theorem foldl_spares {α : Type} {f : State → α → State} (hf : ∀ (u : State) (a : α), u.Spares (f u a)) (l : List α) (s : State) :
    s.Spares (l.foldl f s) :=
  ⟨foldl_fuses (fun u a => (hf u a).1) l s, foldl_cw (fun u a => (hf u a).2) l s⟩

theorem State.each_spares {f : State → Nat → State} (hf : ∀ (u : State) (a : Nat), u.Spares (f u a)) (l : List Nat) (s : State) :
    s.Spares (s.each l f) := foldl_spares hf l s

@[simp] theorem State.ramSelfTest_spares (s : State) (n : Nat) (repair : Word) : s.Spares (s.ramSelfTest n repair) :=
  (s.ramSelfTest_keepsStart n repair).spares

@[simp] theorem State.plateHalfFill_spares (s : State) (n : Nat) : s.Spares (s.plateHalfFill n) :=
  (s.plateHalfFill_keepsStart n).spares

theorem State.setFld_spares (s : State) (f : Field) (v : Nat) : s.Spares (s.setFld f v) := by simp

theorem State.raise_spares (s : State) (k : Nat) : s.Spares (s.raise k) := by simp

theorem State.setPwr_spares (s : State) (p : PowerState) : s.Spares (s.setPwr p) := by simp

@[simp] theorem State.setApplied_spares (s : State) (e : Nat) (t : ℤ) : s.Spares (s.setApplied e t) := by
  simp [State.setApplied]

@[simp] theorem State.markOn_spares (s : State) (n : Nat) : s.Spares (s.markOn n) := by
  simp [State.markOn]

@[simp] theorem State.histHit_spares (s : State) (upper : Bool) : s.Spares (s.histHit upper) := by
  simp [State.histHit]

@[simp] theorem State.refreshPeriod_spares (s : State) : s.Spares s.refreshPeriod := by
  simp [State.refreshPeriod]

@[simp] theorem State.powerUp_spares (s : State) (n : Nat) (repair : Word) : s.Spares (s.powerUp n repair) := by
  unfold State.powerUp
  extract_lets s1
  have k1 : s.Spares s1 := ((s.ramSelfTest_spares n repair).trans (State.plateHalfFill_spares _ n)).trans (State.markOn_spares _ n)
  split_ifs
  · simp
  · exact k1.trans s1.pbaStart_spares
  · exact k1

@[simp] theorem State.setInState_spares (s : State) (i : Nat) (v : Nat) : s.Spares (s.setInState i v) := by
  simp [State.setInState]

@[simp] theorem State.touchLog_spares (s : State) : s.Spares s.touchLog := by
  simp +contextual [State.touchLog]

@[simp] theorem State.setDiag_spares (s : State) (c : Nat) (d : DiagRun) : s.Spares (s.setDiag c d) := by
  simp [State.setDiag]

@[simp] theorem State.setBudgetFlag_spares (s : State) (f : Field) : s.Spares (s.setBudgetFlag f) := by
  simp [State.setBudgetFlag]

@[simp] theorem State.listRefused_spares (s : State) (h : Nat) (w : Nat) : s.Spares (s.listRefused h w) := by
  simp [State.listRefused]

@[simp] theorem State.mergeRead_spares (s : State) (c : Nat) (a : Nat) (d : List Byte) : s.Spares (s.mergeRead c a d).2 := by
  simp +contextual [State.mergeRead]

@[simp] theorem State.flushRecs_spares (s : State) (c : Nat) (d : DiagRun) (next : Nat) : s.Spares (s.flushRecs c d next) := by
  simp +contextual [State.flushRecs]

@[simp] theorem State.startUnfurl_spares (s : State) (c : Nat) : s.Spares (s.startUnfurl c) := by
  simp [State.startUnfurl]

@[simp] theorem State.startFurl_spares (s : State) (c : Nat) (t : Nat) (head : Bool) : s.Spares (s.startFurl c t head) := by
  simp +contextual [State.startFurl]

@[simp] theorem State.setRate_spares (s : State) (c : Nat) (code : Nat) : s.Spares (s.setRate c code) := by
  simp [State.setRate]

@[simp] theorem State.loadLanes_spares (s : State) (c : Nat) : s.Spares (s.loadLanes c) := by
  simp [State.loadLanes]

@[simp] theorem State.draw_spares (s : State) : s.Spares s.draw.2 := by
  simp [State.draw]

@[simp] theorem State.showProv_spares (s : State) (h : Nat) : s.Spares (s.showProv h) := by
  simp [State.showProv]

@[simp] theorem State.sendLevelAfter_spares (s : State) (h : Nat) (pre : List Block) : s.Spares (s.sendLevelAfter h pre) := by
  simp +contextual [State.sendLevelAfter]

@[simp] theorem State.showStages_spares (s : State) : s.Spares s.showStages := by
  simp [State.showStages]

@[simp] theorem State.applyStage_spares (s : State) (t : Stage) : s.Spares (s.applyStage t) := by
  simp [State.applyStage]

@[simp] theorem State.applyIdle_spares (s : State) : s.Spares s.applyIdle := by
  unfold State.applyIdle
  dsimp only
  split_ifs
  · simp
  · exact (foldl_spares State.applyStage_spares _ s).trans (State.showStages_spares _)

@[simp] theorem State.wakeDomain_spares (s : State) (n : Nat) : s.Spares (s.wakeDomain n) := by
  simp [State.wakeDomain]

@[simp] theorem State.shutDown_spares (s : State) (n : Nat) : s.Spares (s.shutDown n) := by
  simp [State.shutDown]

@[simp] theorem State.rsvTail_spares (s : State) : s.Spares s.rsvTail := by
  simp [State.rsvTail]

@[simp] theorem State.rsvCopy_spares (s : State) : s.Spares s.rsvCopy := by
  simp [State.rsvCopy]

@[simp] theorem State.chargeLong_spares (s : State) (c : Nat) (n : Nat) : s.Spares (s.chargeLong c n) := by
  simp +contextual [State.chargeLong]

@[simp] theorem State.rsvCharge_spares (s : State) : s.Spares s.rsvCharge := by
  simp +contextual [State.rsvCharge]

@[simp] theorem State.entryStep_spares (s : State) : s.Spares s.entryStep := by
  have kaim (t : State) (l : List Nat) : t.Spares (t.each l (fun u c => u.aim c laneFurled)) :=
    State.each_spares (fun u c => u.aim_spares c _) l t
  have kpause (t : State) : t.Spares (t.each (List.range 8) State.pauseRun) := State.each_spares State.pauseRun_spares _ t
  have kshut (t : State) (l : List Nat) : t.Spares (t.each l State.shutDown) := State.each_spares State.shutDown_spares l t
  have kcopy : s.Spares s.rsvCharge.rsvCopy.rsvTail :=
    (s.rsvCharge_spares.trans (State.rsvCopy_spares _)).trans (State.rsvTail_spares _)
  unfold State.entryStep
  split
  · simp
  · dsimp only
    split_ifs
    · exact ((s.setPwr_spares _).trans (kaim _ _)).trans (kpause _)
    · exact s.setPwr_spares _
    · exact (s.setPwr_spares _).trans (State.wakeDomain_spares _ 8)
    · simp
    · exact kaim s _
    · exact (s.setPwr_spares _).trans (kshut _ _)
    · exact (kcopy.trans (State.setPwr_spares _ _)).trans (kshut _ _)
    · simp
    · exact s.setPwr_spares _
    · simp
    · exact s.setPwr_spares _
    · simp
    · simp

@[simp] theorem State.entryProgress_spares (s : State) : s.Spares s.entryProgress :=
  (s.entryStep_spares.trans (State.entryStep_spares _)).trans (State.entryStep_spares _)

@[simp] theorem State.etchAnswer_spares (s : State) (q : EtchQuery) : s.Spares (s.etchAnswer q).2 := by
  unfold State.etchAnswer
  split
  · simp +contextual
  · dsimp only
    split
    · exact foldl_spares (fun u i => u.touchPair_spares _) _ s
    · exact s.touchLog_spares

@[simp] theorem State.urgent_spares (s : State) (h : Nat) : s.Spares (s.urgent h) := by
  simp [State.urgent]

@[simp] theorem State.markDown_spares (s : State) (n : Nat) (st : Nat) : s.Spares (s.markDown n st) := by
  simp [State.markDown]

@[simp] theorem State.loseMemory_spares (s : State) (n : Nat) : s.Spares (s.loseMemory n) := by
  simp +contextual [State.loseMemory]

@[simp] theorem State.powerDown_spares (s : State) (n : Nat) : s.Spares (s.powerDown n) := by
  simp +contextual [State.powerDown]

@[simp] theorem State.endEnrol_spares (s : State) : s.Spares s.endEnrol := by
  unfold State.endEnrol
  split <;> simp +contextual

@[simp] theorem State.pushEvent_spares (s : State) (ev : Nat) (detail : Nat) : s.Spares (s.pushEvent ev detail) := by
  simp [State.pushEvent]

@[simp] theorem State.headDetail_spares (s : State) (h : Nat) : s.Spares (s.headDetail h).2 := by
  unfold State.headDetail
  dsimp only
  split <;> simp +contextual

@[simp] theorem State.headDetails_spares (s : State) : s.Spares s.headDetails.2 :=
  (((s.headDetail_spares 0).trans (State.headDetail_spares _ 1)).trans (State.headDetail_spares _ 2)).trans
    (State.headDetail_spares _ 3)

@[simp] theorem State.touchSoftReset_spares (s : State) : s.Spares s.touchSoftReset :=
  State.each_spares (fun u h => by simp) _ s

@[simp] theorem State.diagSoftReset_spares (s : State) : s.Spares s.diagSoftReset :=
  State.each_spares (fun u c => by simp) _ s

@[simp] theorem State.calPauses_spares (s : State) (on : Bool) : s.Spares (s.calPauses on) := by
  simp +contextual [State.calPauses]

@[simp] theorem State.setDiagStale_spares (s : State) (on : Bool) : s.Spares (s.setDiagStale on) :=
  foldl_spares (fun u n => by simp) _ s

@[simp] theorem State.setStale_spares (s : State) (v : Nat) : s.Spares (s.setStale v) :=
  foldl_spares (fun u n => by simp) _ s

@[simp] theorem State.calEnd_spares (s : State) (st cause : Nat) : s.Spares (s.calEnd st cause) := by
  have kpaused (t : State) : t.Spares ((((t.setStale 0).setDiagStale false).calPauses false).raise causeCal) :=
    (((t.setStale_spares 0).trans (State.setDiagStale_spares _ false)).trans (State.calPauses_spares _ false)).trans
      (State.raise_spares _ _)
  refine Spares.trans ?_ (kpaused _)
  simp

@[simp] theorem State.calSoftReset_spares (s : State) : s.Spares s.calSoftReset := by
  simp +contextual [State.calSoftReset]

@[simp] theorem State.settleUse_spares (s : State) (n : Nat) : s.Spares (s.settleUse n) := by
  simp [State.settleUse]

@[simp] theorem State.regionsSoftReset_spares (s : State) : s.Spares s.regionsSoftReset := by
  have kend (t : State) (l : List Nat) : t.Spares ((t.each l State.settleUse).setFld F.REGION_POOL_SIZE_SIZE 0).showRegions :=
    ((State.each_spares State.settleUse_spares l t).trans (State.setFld_spares _ _ _)).trans (State.showRegions_spares _)
  refine Spares.trans ?_ (kend _ _)
  simp

@[simp] theorem State.endWork_spares (s : State) : s.Spares s.endWork := by
  unfold State.endWork
  extract_lets s1
  have k1 : s.Spares s1 := (((s.wbStop_spares.trans (State.regionsSoftReset_spares _)).trans (State.calSoftReset_spares _)).trans
    (State.diagSoftReset_spares _)).trans (State.touchSoftReset_spares _)
  exact k1.trans (by simp)

@[simp] theorem State.resetChains_spares (s : State) : s.Spares s.resetChains := by
  simp +contextual [State.resetChains]

@[simp] theorem State.countTorn_spares (s : State) (i : Nat) : s.Spares (s.countTorn i) := by
  simp [State.countTorn]

@[simp] theorem State.stopInput_spares (s : State) (i : Nat) : s.Spares (s.stopInput i) := by
  simp +contextual [State.stopInput]

@[simp] theorem State.clearEnables_spares (s : State) : s.Spares s.clearEnables :=
  Spares.trans (by simp) (State.each_spares (fun u h => by simp) _ (s.setFld F.WB_CTRL_EN 0))

@[simp] theorem State.softRegs_spares (s : State) : s.Spares s.softRegs :=
  foldl_spares (fun u e => by simp) _ s

@[simp] theorem State.blackHead_spares (s : State) : s.Spares s.blackHead := by
  unfold State.blackHead
  extract_lets s1 x comp fr s2
  have k1 : s.Spares s1 := by simp +contextual [s1]
  have k2 : s1.Spares s2 := by simp [s2]
  exact ((k1.trans k2).trans (s2.endHold_spares 0)).trans (by simp)

@[simp] theorem State.headsSoftReset_spares (s : State) : s.Spares s.headsSoftReset := by
  unfold State.headsSoftReset
  extract_lets s1 x fr s2
  have k1 : s.Spares s1 := State.each_spares (fun u h => by simp) _ s
  refine k1.trans (Spares.trans ?_ (State.backlightFromProfile_spares _ 0))
  simp [s2]

@[simp] theorem State.softReset_spares (s : State) : s.Spares s.softReset := by
  unfold State.softReset
  extract_lets changed s1 s2 s3 s4
  have kstop : s.Spares (s.each changed State.stopInput) := State.each_spares State.stopInput_spares changed s
  have k1 : s.Spares s1 := (kstop.trans (State.resetChains_spares _)).trans (State.endWork_spares _)
  have kregs : s1.Spares (s1.softRegs.clearEnables.setFld F.PWR_STATE_STATE 0) :=
    (s1.softRegs_spares.trans (State.clearEnables_spares _)).trans (by simp)
  have k2 : s1.Spares s2 := kregs.trans (State.each_spares State.judgeSurf_spares _ _)
  have kin : s2.Spares (s2.each changed State.judgeInput) := State.each_spares State.judgeInput_spares changed s2
  have k3 : s2.Spares s3 := (((kin.trans (State.saSlots_spares _)).trans (State.showStages_spares _)).trans
    (State.headsSoftReset_spares _)).trans (State.blackHead_spares _)
  have k4 : s3.Spares s4 := ((s3.runWritten_spares 0).trans (State.regionsSoftReset_spares _)).trans (State.showPins_spares _)
  have kend : s4.Spares s4.showFurled.touchJudgeAll := s4.showFurled_spares.trans (State.touchJudgeAll_spares _)
  exact ((((k1.trans k2).trans k3).trans k4).trans kend).trans (telltaleChange_spares s _)

@[simp] theorem State.windowStep_spares (s : State) (r : PlateRun) : s.Spares (s.windowStep r).1 := by
  unfold State.windowStep
  split
  · simp
  · dsimp only
    split_ifs <;> simp +contextual

@[simp] theorem windowLoop_spares (n : Nat) : ∀ (s : State) (r : PlateRun), s.Spares (windowLoop n s r).1 := by
  induction n with
  | zero => intro s r; simp [windowLoop]
  | succ n ih =>
    intro s r
    unfold windowLoop
    split
    · simp
    · split_ifs
      · exact (s.windowStep_spares r).trans (ih _ _)
      · simp

@[simp] theorem State.recorded_spares (s : State) (h : Nat) : s.Spares (s.recorded h) := by
  simp +contextual [State.recorded]

@[simp] theorem State.powerUpAll_spares (s : State) (ds : List Nat) (repair : List Word) : s.Spares (s.powerUpAll ds repair) := by
  simp +contextual [State.powerUpAll]

@[simp] theorem State.setPhase_spares (s : State) (p : Nat) : s.Spares (s.setPhase p) := by
  simp [State.setPhase]

@[simp] theorem State.acceptHeader_spares (s : State) (h : List Byte) (repair : List Word) : s.Spares (s.acceptHeader h repair) := by
  simp +contextual [State.acceptHeader]

@[simp] theorem State.acceptChunk_spares (s : State) (g : Seg) (seg : Nat) (off : Nat) (d : List Byte) :
    s.Spares (s.acceptChunk g seg off d) := by
  simp +contextual [State.acceptChunk]

@[simp] theorem State.fetched_spares (s : State) (fetch : Option (Fin 1048576)) : s.Spares (s.fetched fetch) := by
  unfold State.fetched
  split <;> simp

@[simp] theorem State.armRelease_spares (s : State) : s.Spares s.armRelease := by
  simp [State.armRelease]

@[simp] theorem State.releaseScribe_spares (s : State) : s.Spares s.releaseScribe := by
  simp [State.releaseScribe]

@[simp] theorem State.failDownload_spares (s : State) (cause : Nat) : s.Spares (s.failDownload cause) := by
  have kend (t : State) (l : List Nat) : t.Spares (((forEach l t State.powerDown).setFld F.BOOT_STATUS_FAIL_CAUSE cause).setPhase 6) :=
    ((foldl_spares State.powerDown_spares l t).trans (State.setFld_spares _ _ _)).trans (State.setPhase_spares _ 6)
  refine Spares.trans ?_ (kend _ _)
  simp

@[simp] theorem State.openEnrol_spares (s : State) (h : List Byte) : s.Spares (s.openEnrol h) := by
  simp +contextual [State.openEnrol]

@[simp] theorem State.fuseEvent_spares (s : State) (code : Nat) (k : Nat) : s.Spares (s.fuseEvent code k) := by
  simp +contextual [State.fuseEvent]

@[simp] theorem State.levelsOff_spares (s : State) : s.Spares s.levelsOff := by
  simp +contextual [State.levelsOff]

@[simp] theorem State.calAbort_spares (s : State) (cause : Nat) : s.Spares (s.calAbort cause) := by
  simp +contextual [State.calAbort]

@[simp] theorem State.startEntry_spares (s : State) (t : Nat) : s.Spares (s.startEntry t) := by
  unfold State.startEntry
  extract_lets live p s1 s2
  have k1 : s.Spares s1 := by simp [s1]
  have k2 : s1.Spares s2 := (s1.calAbort_spares 2).trans (State.levelsOff_spares _)
  have khalt := State.each_spares (f := fun s h => (s.setFld (F.HEAD_CTRL_RUN h) 0).haltHead h) (fun u h => by simp +contextual) live s2
  exact ((k1.trans k2).trans khalt).trans (State.touchJudgeAll_spares _)

@[simp] theorem State.dropStaging_spares (s : State) : s.Spares s.dropStaging := by
  simp [State.dropStaging]

@[simp] theorem State.etchFlip_spares (s : State) (a : Nat) (m : Nat) : s.Spares (s.etchFlip a m) := by
  simp [State.etchFlip]

@[simp] theorem State.queueUpdate_spares (s : State) (type : Nat) (flags : Nat) (payload : List Byte) :
    s.Spares (s.queueUpdate type flags payload) := by
  simp [State.queueUpdate]

@[simp] theorem State.completeBuf_spares (s : State) (n : Nat) (b : Nat) : s.Spares (s.completeBuf n b) := by
  simp +contextual [State.completeBuf]

theorem State.cancelRegion_fuses (s : State) (r : Nat) : (s.cancelRegion r).fuses = s.fuses := by
  simp [State.cancelRegion]

@[simp] theorem State.takeSurface_spares (s : State) (n : Nat) : s.Spares (s.takeSurface n) := by
  simp +contextual [State.takeSurface]

@[simp] theorem State.startFence_spares (s : State) : s.Spares s.startFence := by
  unfold State.startFence
  dsimp only
  exact foldl_spares (fun u k => by simp) _ s

@[simp] theorem State.wbEnable_spares (s : State) (h : Nat) (n : Nat) (single : Bool) : s.Spares (s.wbEnable h n single) := by
  simp [State.wbEnable]

@[simp] theorem State.profileSource_spares (s : State) (p : List Word) : s.Spares (s.profileSource p).2 := by
  unfold State.profileSource
  dsimp only
  split_ifs <;> simp +contextual

@[simp] theorem State.takeProfile_spares (s : State) (h : Nat) (e : List Word) : s.Spares (s.takeProfile h e) := by
  unfold State.takeProfile
  extract_lets x s1
  have k1 : s.Spares s1 := by simp +contextual [s1]
  exact (k1.trans s1.showFurled_spares).trans (State.touchJudgeAll_spares _)

@[simp] theorem State.writeWords_spares (s : State) (p : List Word) (first base : Nat) (mask : Nat → Word) :
    s.Spares (s.writeWords p first base mask) := State.each_spares (fun u i => by simp) _ s

@[simp] theorem State.putStage_spares (s : State) (t : Stage) (hold : Bool) : s.Spares (s.putStage t hold) := by
  simp +contextual [State.putStage]

@[simp] theorem State.accessChain_spares (s : State) (c : Nat) (b : List Block) : s.Spares (s.accessChain c b) := by
  simp +contextual [State.accessChain]

@[simp] theorem State.newRun_spares (s : State) (c : Nat) (d : DiagRun) : s.Spares (s.newRun c d) := by
  simp +contextual [State.newRun]

@[simp] theorem State.readLong_spares (s : State) (c a n : Nat) : s.Spares (s.readLong c a n) := by
  have koff (t : State) (l : List Nat) : t.Spares (l.foldl (fun (u : State) _ => u.countOff) t) :=
    foldl_spares (fun u _ => u.countOff_spares) l t
  exact ((koff s _).trans (State.chargeLong_spares _ c _)).trans (foldl_spares (fun u w => u.plateRead_spares c w) _ _)

@[simp] theorem State.abortRun_spares (s : State) (c : Nat) : s.Spares (s.abortRun c) := by
  unfold State.abortRun
  (repeat' split) <;> simp +contextual

@[simp] theorem State.clearCounters_spares (s : State) (g : Nat) : s.Spares (s.clearCounters g) := by
  unfold State.clearCounters
  split_ifs
  · simp
  · exact State.each_spares (fun u a => by simp) _ s

@[simp] theorem State.reportRead_spares (s : State) (h : Nat) : s.Spares (s.reportRead h) := by
  simp [State.reportRead]

@[simp] theorem State.hostRebase_spares (s : State) (h : Nat) : s.Spares (s.hostRebase h) := by
  simp [State.hostRebase]

@[simp] theorem State.calStart_spares (s : State) (scope : Nat) : s.Spares (s.calStart scope) := by
  have kpaused (t : State) : t.Spares (((t.setStale 1).setDiagStale true).calPauses true) :=
    ((t.setStale_spares 1).trans (State.setDiagStale_spares _ true)).trans (State.calPauses_spares _ true)
  exact Spares.trans (by simp) (kpaused _)

end Sys2Proof.Machine
end

section
/-! PROOFS. What the run of a command leaves of the Command Window, and which run each row of the catalogue starts. -/

namespace Sys2Proof.Machine
open State (Spares)

/-! ### What a command's run leaves of the Command Window -/

/-- The state that a run ends in. -/
def Res.state : Res → State
  | .done s _ _ => s
  | .wait s _ => s

/-- `t` has the fuses of `s` and, if `s` executes no command, its command queue and its reply queue, and executes none. -/
@[simp] abbrev State.KeepsDesk (s t : State) : Prop :=
  t.fuses = s.fuses ∧ (s.cw.running = none → t.cw.cmdQ = s.cw.cmdQ ∧ t.cw.replyQ = s.cw.replyQ ∧ t.cw.running = none)

/-- A run in `s` that posts no reply of its own and starts no other command. -/
def State.Runs (s : State) (r : Res) : Prop := s.KeepsDesk r.state

theorem State.Spares.keepsDesk {s t : State} (k : s.Spares t) : s.KeepsDesk t :=
  ⟨k.1, fun hs => by rw [k.2 hs]; exact ⟨rfl, rfl, hs⟩⟩

theorem State.KeepsDesk.trans {s t u : State} (k : s.KeepsDesk t) (l : t.KeepsDesk u) : s.KeepsDesk u := by
  refine ⟨l.1.trans k.1, fun hs => ?_⟩
  obtain ⟨hcmd, hreply, hrun⟩ := k.2 hs
  obtain ⟨hcmd', hreply', hrun'⟩ := l.2 hrun
  exact ⟨hcmd'.trans hcmd, hreply'.trans hreply, hrun'⟩

theorem State.Runs.of_keepsDesk {s t : State} {r : Res} (h : t.Runs r) (k : s.KeepsDesk t) : s.Runs r := k.trans h

section
variable (s t : State)

@[simp] theorem State.runs_done (st : Nat) (p : List Word) : s.Runs (.done t st p) ↔ s.KeepsDesk t := Iff.rfl
@[simp] theorem State.runs_wait (w : Waiting) : s.Runs (.wait t w) ↔ s.KeepsDesk t := Iff.rfl
@[simp] theorem State.runs_ok : s.Runs (Res.ok t) ↔ s.KeepsDesk t := Iff.rfl
@[simp] theorem State.runs_bad (i : Nat) : s.Runs (Res.bad t i) ↔ s.KeepsDesk t := Iff.rfl
@[simp] theorem State.runs_refuse (cls idx st : Nat) : s.Runs (Res.refuse t cls idx st) ↔ s.KeepsDesk t := Iff.rfl
@[simp] theorem State.runs_stat (st : Nat) : s.Runs (Res.stat t st) ↔ s.KeepsDesk t := Iff.rfl
@[simp] theorem State.runs_domainOff (n : Nat) : s.Runs (Res.domainOff t n) ↔ s.KeepsDesk t := Iff.rfl
@[simp] theorem State.runs_chainRefused (c : Nat) : s.Runs (Res.chainRefused t c) ↔ s.KeepsDesk t := Iff.rfl

end

@[simp] theorem State.runs_ite (s : State) (c : Prop) [Decidable c] (a b : Res) :
    s.Runs (if c then a else b) ↔ (c → s.Runs a) ∧ (¬c → s.Runs b) := by
  split <;> simp [*]

theorem State.runs_judged {s t : State} {r : Res} (h : s.Runs r) (k : s.KeepsDesk t) (lenOk : Bool) (fails : List Nat) :
    s.Runs (judged t lenOk fails r) := by
  unfold judged
  split
  · exact k
  · exact h

theorem State.runs_runtimeCmd {s : State} {r : Res} (h : s.Runs r) (lenOk : Bool) (unitFails fails : List Nat) (ride : Bool) :
    s.Runs (runtimeCmd s lenOk unitFails fails ride r) := by
  have hrefuse : s.Runs (Res.refuse s 0 0 0) := by simp
  unfold runtimeCmd
  split_ifs
  · exact State.runs_judged hrefuse (by simp) _ _
  · exact State.runs_judged h (by simp) _ _
  · exact State.runs_judged hrefuse (by simp) _ _

theorem State.needing_runs {s : State} {r : Res} (h : s.Runs r) (n : Nat) (needed : Bool) : s.Runs (s.needing n needed r) := by
  unfold State.needing
  split_ifs
  · simp
  · exact h

/-! ### The runs of the commands' shared operations -/

theorem State.detail_runs (s : State) (k : Nat) : s.Runs (s.detail k) := by
  have ksame : s.KeepsDesk s := by simp
  unfold State.detail
  dsimp only
  split_ifs
  · exact ksame
  · exact ksame
  · exact ksame
  · exact s.draw_spares.keepsDesk
  · exact ksame
  · exact ksame
  · exact s.headDetails_spares.keepsDesk

theorem State.etchQuery_runs (s : State) (q : EtchQuery) : s.Runs (s.etchQuery q) := by
  simp +contextual [State.etchQuery]

theorem State.startWindow_runs (s : State) (r : PlateRun) : s.Runs (s.startWindow r) := by
  simp +contextual [State.startWindow]

theorem State.readPlate_runs (s : State) (off n : Nat) : s.Runs (s.readPlate off n) := by
  unfold State.readPlate
  split
  · simp
  · exact s.startWindow_runs _

theorem State.readWindow_runs (s : State) (k : WindowKind) (a n : Nat) : s.Runs (s.readWindow k a n) := by
  cases k with
  | etch => simp [State.readWindow, s.etchQuery_runs]
  | plate => simp [State.readWindow, s.readPlate_runs]
  | regs | boot | cw | code | data | stylus | lut => simp [State.readWindow]

theorem State.writeEtch_runs (s : State) (e : Nat) (ws : List Word) : s.Runs (s.writeEtch e ws) := by
  simp +contextual [State.writeEtch]

theorem State.writePlate_runs (s : State) (off : Nat) (ws : List Word) : s.Runs (s.writePlate off ws) := by
  unfold State.writePlate
  split
  · simp
  · exact s.startWindow_runs _

theorem State.writeWindow_runs (s : State) (k : WindowKind) (a : Nat) (ws hw : List Word) : s.Runs (s.writeWindow k a ws hw) := by
  have kregs : s.Runs (Res.ok (s.writeRegs a ws hw)) := (s.writeRegs_spares a ws hw).keepsDesk
  cases k with
  | boot => simp [State.writeWindow]
  | cw => exact kregs
  | plate => simp [State.writeWindow, s.writePlate_runs]
  | etch =>
    unfold State.writeWindow
    dsimp only
    split_ifs
    · simp
    · split
      · simp
      · exact s.writeEtch_runs _ ws
  | regs | code | data | stylus | lut =>
    unfold State.writeWindow
    dsimp only
    split_ifs
    · simp
    · split
      · simp
      · exact kregs

theorem State.regWrite_runs (s : State) (e : CmdEntry) (hw : List Word) : s.Runs (s.regWrite e hw) := by
  refine State.runs_judged ?_ (by simp) _ _
  split
  · simp
  · exact s.writeWindow_runs _ _ _ hw

theorem State.loadBegin_runs (s : State) (h : List Byte) (repair : List Word) : s.Runs (s.loadBegin h repair) := by
  simp +contextual [State.loadBegin]

theorem State.loadSegment_runs (s : State) (p : List Word) : s.Runs (s.loadSegment p) := by
  simp +contextual [State.loadSegment]

theorem State.presentTag_runs (s : State) (tag : List Byte) : s.Runs (s.presentTag tag) := by
  simp +contextual [State.presentTag]

theorem State.enrolPresence_runs {s : State} {r : Res} (h : s.Runs r) : s.Runs (s.enrolPresence r) := by
  simp [State.enrolPresence, h]

theorem State.enrolBegin_runs (s : State) (h : List Byte) : s.Runs (s.enrolBegin h) := by
  have kopen : s.Runs (s.enrolPresence (Res.ok (s.openEnrol h))) := State.enrolPresence_runs (s.openEnrol_spares h).keepsDesk
  simp [State.enrolBegin, kopen]

theorem State.inSession_runs {s : State} {run : Enrol → Res} (h : ∀ n, s.Runs (run n)) (bad : Enrol → Bool) :
    s.Runs (s.inSession bad run) := by
  unfold State.inSession
  split_ifs
  · simp
  · split
    · exact (s.draw_spares).keepsDesk
    · split_ifs
      · simp
      · exact State.enrolPresence_runs (h _)

theorem State.enrolData_runs (s : State) (p : List Word) : s.Runs (s.enrolData p) :=
  State.inSession_runs (fun n => by simp +contextual) _

theorem State.enrolEnd_runs (s : State) : s.Runs s.enrolEnd :=
  State.inSession_runs (fun n => by simp +contextual) _

theorem State.stagePart_runs (s : State) (type flags total : Nat) (more : Bool) (part : List Byte) :
    s.Runs (s.stagePart type flags total more part) := by
  simp +contextual [State.stagePart]

theorem State.writeRecord_runs (s : State) (type flags total : Nat) (more : Bool) (part : List Byte) :
    s.Runs (s.writeRecord type flags total more part) := by
  unfold State.writeRecord
  dsimp only
  split
  · simp +contextual
  · simp +contextual
  · simp [s.stagePart_runs]

theorem State.openRegion_runs (s : State) (n x y w h : Nat) : s.Runs (s.openRegion n x y w h) := by
  unfold State.openRegion
  dsimp only
  split
  · simp
  · split
    · simp
    · simp +contextual

theorem State.iconLoad_runs (s : State) (k first : Nat) (d : List Word) (hold : Bool) : s.Runs (s.iconLoad k first d hold) := by
  simp +contextual [State.iconLoad]

theorem State.budgetSet_runs (s : State) (c v : Nat) : s.Runs (s.budgetSet c v) := by
  simp +contextual [State.budgetSet]

theorem State.each_keepsDesk {f : State → Nat → State} (hf : ∀ (u : State) (a : Nat), u.KeepsDesk (f u a)) (l : List Nat) :
    ∀ s : State, s.KeepsDesk (s.each l f) := by
  induction l with
  | nil => exact fun _ => ⟨rfl, fun hs => ⟨rfl, rfl, hs⟩⟩
  | cons a l ih => exact fun s => (hf s a).trans (ih (f s a))

theorem State.cancelRegion_keepsDesk (s : State) (r : Nat) : s.KeepsDesk (s.cancelRegion r) := by
  simp +contextual [State.cancelRegion]

/-! ### The rows of the catalogue -/

/-- Row `c` starts the command at the head of the queue and runs it; the entry that `picksEntry` gives it is one that it starts. -/
def StartsRun (c : Instr) (op : Nat) : Prop :=
  ∀ s : State, ∃ (sel : CmdEntry → Bool) (run : State → CmdEntry → Res), exec c s = .next (startCmd s sel run) ∧
    (∀ e, s.starts op e → picksEntry s c e = true → sel e = true) ∧ ∀ (u : State) (e : CmdEntry), u.Runs (run u e)

theorem StartsRun.of_sel {c : Instr} {op : Nat} {sel : State → CmdEntry → Bool} {run : State → CmdEntry → Res}
    (h : ∀ s, exec c s = .next (startCmd s (sel s) run))
    (hsel : ∀ s e, s.starts op e → picksEntry s c e = true → sel s e = true) (k : ∀ (u : State) (e : CmdEntry), u.Runs (run u e)) :
    StartsRun c op :=
  fun s => ⟨sel s, run, h s, hsel s, k⟩

theorem StartsRun.of_isOp {c : Instr} {op : Nat} {run : State → CmdEntry → Res}
    (h : ∀ s, exec c s = .next (startCmd s (isOp op) run)) (k : ∀ (u : State) (e : CmdEntry), u.Runs (run u e)) : StartsRun c op :=
  StartsRun.of_sel h (fun _ _ hs _ => isOp_of_starts hs) k

/-- A row of REG_WRITE. -/
theorem StartsRun.of_isWrite {c : Instr} {n : Nat} {run : State → CmdEntry → Res}
    (h : ∀ s, exec c s = .next (startCmd s (isWrite n) run)) (hrow : ∀ s e, picksEntry s c e = true → writeRow e = n)
    (k : ∀ (u : State) (e : CmdEntry), u.Runs (run u e)) : StartsRun c 0x0B :=
  StartsRun.of_sel h (fun s e hs hp => by simp [isWrite, isOp_of_starts hs, hrow s e hp]) k

/-- A sub-operation of a command. -/
theorem StartsRun.of_isSubOp {c : Instr} {op lo n k : Nat} {run : State → CmdEntry → Res}
    (h : ∀ s, exec c s = .next (startCmd s (isSubOp op lo n k) run))
    (hsub : ∀ s e, picksEntry s c e = true → (parBits e.params 0 lo n == k) = true)
    (hrun : ∀ (u : State) (e : CmdEntry), u.Runs (run u e)) :
    StartsRun c op :=
  StartsRun.of_sel h (fun s e hs hp => by rw [isSubOp, isOp_of_starts hs, hsub s e hp, Bool.and_self]) hrun

/-- START of a diagnostic run. -/
theorem StartsRun.of_diagStart {c : Instr} {op : Nat} {run : State → CmdEntry → Res}
    (h : ∀ s, exec c s = .next (startCmd s (diagStart op) run))
    (hsub : ∀ s e, picksEntry s c e = true → (parBits e.params 0 16 8 != 1 && parBits e.params 0 16 8 != 2) = true)
    (hrun : ∀ (u : State) (e : CmdEntry), u.Runs (run u e)) : StartsRun c op := by
  refine StartsRun.of_sel h (fun s e hs hp => ?_) hrun
  simpa [diagStart, diagSub, isSubOp, isOp_of_starts hs] using hsub s e hp

/-- R227: a command on a region, with no push in the buffer. -/
theorem StartsRun.of_handleDrained {c : Instr} {op : Nat} {run : State → CmdEntry → Res}
    (h : ∀ s, exec c s = .next (startCmd s (s.handleDrained op) run))
    (hpush : ∀ s e, picksEntry s c e = true → s.cw.pushBuf.isEmpty = true) (hrun : ∀ (u : State) (e : CmdEntry), u.Runs (run u e)) :
    StartsRun c op := by
  refine StartsRun.of_sel h (fun s e hs hp => ?_) hrun
  simp [State.handleDrained, isOp_of_starts hs, State.drained, List.isEmpty_iff.1 (hpush s e hp)]

theorem startsRun_nop : StartsRun .nop 0x00 :=
  StartsRun.of_isOp (fun _ => rfl) (fun u _ => State.runs_judged (by simp +contextual) (by simp) _ _)

theorem startsRun_getInfo : StartsRun .getInfo 0x01 :=
  StartsRun.of_isOp (fun _ => rfl) (fun u _ => State.runs_judged (by simp +contextual) (by simp) _ _)

theorem startsRun_getDetail : StartsRun .getDetail 0x02 :=
  StartsRun.of_isOp (fun _ => rfl) (fun u _ => State.runs_judged (u.detail_runs _) (by simp) _ _)

theorem startsRun_softReset : StartsRun .softReset 0x03 :=
  StartsRun.of_isOp (fun _ => rfl) (fun u _ => State.runs_runtimeCmd (by simp +contextual) _ _ _ _)

theorem startsRun_regRead : StartsRun .regRead 0x0A := by
  refine StartsRun.of_isOp (fun _ => rfl) (fun u _ => ?_)
  dsimp only
  split
  · simp
  · split
    · simp
    · split_ifs
      · simp
      · exact u.readWindow_runs _ _ _

theorem startsRun_regWrite : StartsRun .regWrite 0x0B :=
  StartsRun.of_isWrite (fun _ => rfl) (fun s e h => by simpa [picksEntry] using h) (fun u e => u.regWrite_runs e [])

theorem startsRun_w1cClear (hw : List Word) : StartsRun (.w1cClear hw) 0x0B :=
  StartsRun.of_isWrite (fun _ => rfl) (fun s e h => by simpa [picksEntry] using h) (fun u e => u.regWrite_runs e hw)

theorem startsRun_minReset : StartsRun .minReset 0x0B :=
  StartsRun.of_isWrite (fun _ => rfl) (fun s e h => by simpa [picksEntry] using h) (fun u e => u.regWrite_runs e [])

theorem startsRun_inCtrlWrite : StartsRun .inCtrlWrite 0x0B :=
  StartsRun.of_isWrite (fun _ => rfl) (fun s e h => by simpa [picksEntry] using h) (fun u e => u.regWrite_runs e [])

theorem startsRun_etchWindowWrite : StartsRun .etchWindowWrite 0x0B :=
  StartsRun.of_isWrite (fun _ => rfl) (fun s e h => by simpa [picksEntry] using h) (fun u e => u.regWrite_runs e [])

theorem startsRun_loadBegin (repair : List Word) : StartsRun (.loadBegin repair) 0x10 :=
  StartsRun.of_isOp (fun _ => rfl) (fun u _ => State.runs_judged (u.loadBegin_runs _ repair) (by simp) _ _)

theorem startsRun_loadSegment (fetch : Option (Fin 1048576)) : StartsRun (.loadSegment fetch) 0x11 :=
  StartsRun.of_isOp (fun _ => rfl) (fun u _ => State.runs_judged
    ((State.loadSegment_runs _ _).of_keepsDesk (u.fetched_spares fetch).keepsDesk) (by simp) _ _)

theorem startsRun_startEarly : StartsRun .startEarly 0x12 :=
  StartsRun.of_isOp (fun _ => rfl) (fun u _ => State.runs_judged (by simp +contextual) (by simp) _ _)

theorem startsRun_presentTag : StartsRun .presentTag 0x13 :=
  StartsRun.of_isOp (fun _ => rfl) (fun u _ => State.runs_judged (u.presentTag_runs _) (by simp) _ _)

theorem startsRun_bootStatus : StartsRun .bootStatus 0x14 :=
  StartsRun.of_isOp (fun _ => rfl) (fun u _ => State.runs_judged (by simp +contextual) (by simp) _ _)

theorem startsRun_enrolBegin : StartsRun .enrolBegin 0x15 :=
  StartsRun.of_sel (fun _ => rfl) (fun s e hs hp => by simpa [isOp_of_starts hs, picksEntry] using hp)
    (fun u _ => State.runs_judged (u.enrolBegin_runs _) (by simp) _ _)

theorem startsRun_enrolData : StartsRun .enrolData 0x15 :=
  StartsRun.of_isSubOp (fun _ => rfl) (fun _ _ h => h) (fun u _ => State.runs_judged (u.enrolData_runs _) (by simp) _ _)

theorem startsRun_enrolEnd : StartsRun .enrolEnd 0x15 :=
  StartsRun.of_isSubOp (fun _ => rfl) (fun _ _ h => h) (fun u _ => State.runs_judged u.enrolEnd_runs (by simp) _ _)

theorem startsRun_enrolAbort : StartsRun .enrolAbort 0x15 :=
  StartsRun.of_isSubOp (fun _ => rfl) (fun _ _ h => h)
    (fun u _ => State.runs_judged (State.inSession_runs (fun _ => (State.runs_ok u _).2 u.endEnrol_spares.keepsDesk) _) (by simp) _ _)

theorem startsRun_powerState : StartsRun .powerState 0x20 :=
  StartsRun.of_isOp (fun _ => rfl) (fun u _ => State.runs_runtimeCmd (by simp +contextual) _ _ _ _)

theorem startsRun_domainCtrl : StartsRun .domainCtrl 0x21 :=
  StartsRun.of_isOp (fun _ => rfl) (fun u _ => State.runs_runtimeCmd (by simp +contextual) _ _ _ _)

theorem startsRun_wakeConfig : StartsRun .wakeConfig 0x22 :=
  StartsRun.of_isOp (fun _ => rfl) (fun u _ => State.runs_runtimeCmd (by simp +contextual) _ _ _ _)

theorem startsRun_supplyConfig : StartsRun .supplyConfig 0x23 :=
  StartsRun.of_isOp (fun _ => rfl) (fun u _ => State.runs_runtimeCmd (by simp +contextual) _ _ _ _)

theorem startsRun_headConfig : StartsRun .headConfig 0x30 := by
  refine StartsRun.of_isOp (fun _ => rfl) (fun u e => ?_)
  refine State.runs_runtimeCmd ?_ _ _ _ _
  have kwrite := State.each_spares
    (f := fun s i => s.wr (headReg (parUnit e.params) (parBits e.params 0 0 4 + i)) (par e.params (i + 1)))
    (fun v i => by simp) (List.range (e.params.length - 1)) u
  dsimp only
  generalize u.each _ _ = t at kwrite
  have ktouch (v : State) (k : u.Spares v) (st : Nat) : u.Runs (Res.stat (v.touchJudge (parUnit e.params)) st) :=
    (k.trans (v.touchJudge_spares _)).keepsDesk
  have krun : u.Spares (if (parBits e.params 0 0 4 == 0 && decide (1 < e.params.length)) = true
      then t.runWritten (parUnit e.params) else t) := by
    split_ifs
    · exact kwrite.trans (t.runWritten_spares _)
    · exact kwrite
  simp only [State.runs_ite]
  exact ⟨fun _ => by simp, fun _ => ⟨fun _ => by simp, fun _ => ⟨fun _ => by simp, fun _ => ktouch _ krun _⟩⟩⟩

theorem startsRun_panelProfile : StartsRun .panelProfile 0x31 := by
  refine StartsRun.of_isOp (fun _ => rfl) (fun u e => ?_)
  refine State.runs_runtimeCmd ?_ _ _ _ _
  have ksource : u.Spares (if (decide (parBits e.params 0 0 8 ≤ 7) && !u.pdOn 9) = true then (none, u)
      else u.profileSource e.params).2 := by
    split_ifs
    · simp
    · exact u.profileSource_spares e.params
  dsimp only
  generalize (if (decide (parBits e.params 0 0 8 ≤ 7) && !u.pdOn 9) = true then (none, u) else u.profileSource e.params) = x at ksource
  obtain ⟨entry, t⟩ := x
  dsimp only at ksource ⊢
  have kt := ksource.keepsDesk
  split_ifs
  · exact kt
  · exact kt
  · exact kt
  · split
    · exact kt
    · split
      · exact kt
      · split_ifs
        · exact kt
        · exact (ksource.trans (t.takeProfile_spares _ _)).keepsDesk

theorem startsRun_refreshMode : StartsRun .refreshMode 0x32 :=
  StartsRun.of_isOp (fun _ => rfl) (fun u _ => State.runs_runtimeCmd (by simp +contextual) _ _ _ _)

theorem startsRun_layerConfig : StartsRun .layerConfig 0x40 := by
  refine StartsRun.of_isOp (fun _ => rfl) (fun u e => ?_)
  refine State.runs_runtimeCmd ?_ _ _ _ _
  have kwrite := u.writeWords_spares e.params (parBits e.params 0 0 4) (0x60000 + 0x40 * parUnit e.params) layerMask
  refine State.needing_runs ?_ _ _
  generalize u.writeWords e.params (parBits e.params 0 0 4) (0x60000 + 0x40 * parUnit e.params) layerMask = t at kwrite
  have krec (h : Nat) : u.Spares (t.recorded h) := kwrite.trans (t.recorded_spares h)
  split_ifs
  · exact (krec _).keepsDesk
  · exact (((krec _).trans (State.recorded_spares _ _)).trans (State.applyIdle_spares _)).keepsDesk

theorem startsRun_layerEnable : StartsRun .layerEnable 0x41 := by
  refine StartsRun.of_isOp (fun _ => rfl) (fun u e => ?_)
  refine State.runs_runtimeCmd ?_ _ _ _ _
  have kset := State.each_spares
    (f := fun s l => if parBits e.params 0 (24 + l) 1 = 1 then s.setFld (F.LAYER_W0_EN l) (parBits e.params 0 (16 + l) 1) else s)
    (fun v l => by simp) (List.range 8) u
  refine State.needing_runs ?_ _ _
  exact (kset.trans (State.each_spares (fun v h => by simp +contextual) _ _)).keepsDesk

theorem startsRun_lutLoad : StartsRun .lutLoad 0x42 := by
  refine StartsRun.of_isOp (fun _ => rfl) (fun u _ => ?_)
  refine State.runs_runtimeCmd ?_ _ _ _ _
  split
  · simp
  · exact (u.putStage_spares _ _).keepsDesk

theorem startsRun_scalerCoeff : StartsRun .scalerCoeff 0x43 :=
  StartsRun.of_isOp (fun _ => rfl) (fun u _ => State.runs_runtimeCmd (by simp +contextual) _ _ _ _)

theorem startsRun_tonemapConfig : StartsRun .tonemapConfig 0x44 := by
  refine StartsRun.of_isOp (fun _ => rfl) (fun u e => ?_)
  refine State.runs_runtimeCmd ?_ _ _ _ _
  have kwrite := (u.writeWords_spares e.params (parBits e.params 0 0 4) (0x60400 + 0x20 * parUnit e.params) compMask).trans
    (State.recorded_spares _ (parUnit e.params))
  exact State.needing_runs (State.needing_runs ((State.runs_ok u _).2 kwrite.keepsDesk) _ _) _ _

theorem startsRun_writeback : StartsRun .writeback 0x45 := by
  refine StartsRun.of_isOp (fun _ => rfl) (fun u _ => ?_)
  refine State.runs_runtimeCmd ?_ _ _ _ _
  refine State.needing_runs ?_ _ _
  simp +contextual

theorem startsRun_regionClose : StartsRun .regionClose 0x52 :=
  StartsRun.of_handleDrained (fun _ => rfl) (fun _ _ h => h) (fun u _ => State.runs_runtimeCmd (by simp +contextual) _ _ _ _)

theorem startsRun_fence : StartsRun .fence 0x53 :=
  StartsRun.of_sel (fun _ => rfl) (fun s e hs hp => by simp [isOp_of_starts hs, List.isEmpty_iff.1 hp])
    (fun u _ => State.runs_runtimeCmd (by simp +contextual) _ _ _ _)

theorem startsRun_regionCancel : StartsRun .regionCancel 0x54 := by
  refine StartsRun.of_handleDrained (fun _ => rfl) (fun _ _ h => h) (fun u e => ?_)
  refine State.runs_runtimeCmd ?_ _ _ _ _
  have kcancel := (u.cancelRegion_keepsDesk (parUnit e.params)).trans (State.showRegions_spares _).keepsDesk
  split_ifs
  · exact kcancel
  · simp

theorem startsRun_calRun : StartsRun .calRun 0x60 :=
  StartsRun.of_isOp (fun _ => rfl) (fun u _ => State.runs_runtimeCmd (by simp +contextual) _ _ _ _)

theorem startsRun_calRead : StartsRun .calRead 0x61 :=
  StartsRun.of_isOp (fun _ => rfl) (fun u _ => State.runs_runtimeCmd (by simp +contextual) _ _ _ _)

theorem startsRun_calStore : StartsRun .calStore 0x62 := by
  refine StartsRun.of_isOp (fun _ => rfl) (fun u _ => ?_)
  refine State.runs_runtimeCmd ?_ _ _ _ _
  split
  · simp +contextual
  · simp

theorem startsRun_calSelect : StartsRun .calSelect 0x63 :=
  StartsRun.of_isOp (fun _ => rfl) (fun u _ => State.runs_runtimeCmd (by simp +contextual) _ _ _ _)

theorem startsRun_etchWriteRecord : StartsRun .etchWriteRecord 0x71 :=
  StartsRun.of_isOp (fun _ => rfl) (fun u _ => State.runs_runtimeCmd (u.writeRecord_runs _ _ _ _ _) _ _ _ _)

theorem startsRun_etchList : StartsRun .etchList 0x72 := by
  refine StartsRun.of_isOp (fun _ => rfl) (fun u e => ?_)
  have kquery := u.etchQuery_runs (.list (parUnit e.params))
  exact State.runs_judged (by simp [kquery]) (by simp) _ _

theorem startsRun_chainConfig : StartsRun .chainConfig 0x80 := by
  refine StartsRun.of_isOp (fun _ => rfl) (fun u _ => ?_)
  refine State.runs_runtimeCmd ?_ _ _ _ _
  exact (State.each_spares (fun v i => by simp) _ u).keepsDesk

theorem startsRun_chainTrain : StartsRun .chainTrain 0x81 := by
  refine StartsRun.of_isOp (fun _ => rfl) (fun u e => ?_)
  refine State.runs_runtimeCmd ?_ _ _ _ _
  have ktrain := (State.each_spares State.trainChain_spares (maskChains (parUnit e.params)) u).trans (State.showFurled_spares _)
  split
  · simp
  · split_ifs
    · simp
    · exact ktrain.keepsDesk

theorem startsRun_stationRead : StartsRun .stationRead 0x82 :=
  StartsRun.of_isOp (fun _ => rfl) (fun u _ => State.runs_runtimeCmd (by simp +contextual) _ _ _ _)

theorem startsRun_stationWrite : StartsRun .stationWrite 0x83 :=
  StartsRun.of_isOp (fun _ => rfl) (fun u _ => State.runs_runtimeCmd (by simp +contextual) _ _ _ _)

theorem startsRun_chainFurl : StartsRun .chainFurl 0x84 := by
  refine StartsRun.of_isOp (fun _ => rfl) (fun u _ => ?_)
  refine State.runs_runtimeCmd ?_ _ _ _ _
  have kaim (t : State) (l : List Nat) (g : Nat) : t.Spares (t.each l (fun s c => (s.setFld (F.LINK_PWR_REQ c) g).aim c g)) :=
    State.each_spares (fun v c => (v.setFld_spares _ _).trans (State.aim_spares _ c g)) l t
  have klate (t : State) (l : List Nat) : t.Spares (t.each l (fun s c => s.setFld (F.LINK_PWR_PENDING c) 1)) :=
    State.each_spares (fun v c => by simp) l t
  split
  · simp
  · dsimp only
    split_ifs
    all_goals exact ((kaim u _ _).trans (klate _ _)).keepsDesk

theorem startsRun_touchConfig : StartsRun .touchConfig 0x90 := by
  refine StartsRun.of_isOp (fun _ => rfl) (fun u e => ?_)
  refine State.runs_runtimeCmd ?_ _ _ _ _
  have kwrite := State.each_spares
    (f := fun s i => s.wr (0x140000 + 0x100 * parUnit e.params + 4 * (parBits e.params 0 0 4 + i)) ((e.params.drop 1).getD i 0))
    (fun v i => by simp) (List.range (e.params.drop 1).length) u
  dsimp only
  split_ifs
  · simp
  · exact u.draw_spares.keepsDesk
  · exact (kwrite.trans (State.touchApply_spares _ _ _)).keepsDesk
  · exact (kwrite.trans (State.touchApply_spares _ _ _)).keepsDesk

theorem startsRun_touchRead : StartsRun .touchRead 0x91 :=
  StartsRun.of_isOp (fun _ => rfl) (fun u _ => State.runs_runtimeCmd (by simp +contextual) _ _ _ _)

theorem startsRun_touchRebase : StartsRun .touchRebase 0x92 :=
  StartsRun.of_isOp (fun _ => rfl) (fun u _ => State.runs_runtimeCmd (by simp +contextual) _ _ _ _)

theorem startsRun_telltaleConfig : StartsRun .telltaleConfig 0xA0 :=
  StartsRun.of_isOp (fun _ => rfl) (fun u _ => State.runs_runtimeCmd (by simp +contextual) _ _ _ _)

theorem startsRun_iconLoad : StartsRun .iconLoad 0xA1 := by
  refine StartsRun.of_isOp (fun _ => rfl) (fun u e => ?_)
  refine State.runs_runtimeCmd ?_ _ _ _ _
  have kload := u.iconLoad_runs (parUnit e.params) (parBits e.params 0 0 16) e.params.tail (parBits e.params 0 20 1 == 1)
  split_ifs
  · simp
  · exact kload

theorem startsRun_telltaleForce : StartsRun .telltaleForce 0xA2 := by
  refine StartsRun.of_isOp (fun _ => rfl) (fun u e => ?_)
  refine State.runs_runtimeCmd ?_ _ _ _ _
  have kforce := State.each_spares
    (f := fun t k => if parBits e.params 1 k 1 = 1 then t.setFld (F.BUNT_STATUS_FORCED (parUnit e.params) k) (parBits e.params 2 k 1) else t)
    (fun v k => by simp) (List.range 32) u
  exact (kforce.trans (telltaleChange_spares u _)).keepsDesk

theorem startsRun_eyeScanStart : StartsRun .eyeScanStart 0xB0 :=
  StartsRun.of_diagStart (fun _ => rfl) (fun _ _ h => h) (fun u _ => State.runs_runtimeCmd (by simp +contextual) _ _ _ _)

theorem startsRun_eyeScanResult : StartsRun .eyeScanResult 0xB0 := by
  refine StartsRun.of_isSubOp (fun _ => rfl) (fun _ _ h => h) (fun u _ => ?_)
  refine State.runs_runtimeCmd ?_ _ _ _ _
  split
  · simp
  · dsimp only
    split_ifs
    · simp
    · simp
    · exact (u.readLong_spares _ _ _).keepsDesk

theorem startsRun_eyeScanAbort : StartsRun .eyeScanAbort 0xB0 :=
  StartsRun.of_isSubOp (fun _ => rfl) (fun _ _ h => h) (fun u _ => State.runs_runtimeCmd (by simp +contextual) _ _ _ _)

theorem startsRun_loopbackStart : StartsRun .loopbackStart 0xB1 :=
  StartsRun.of_diagStart (fun _ => rfl) (fun _ _ h => h) (fun u _ => State.runs_runtimeCmd (by simp +contextual) _ _ _ _)

theorem startsRun_loopbackResult : StartsRun .loopbackResult 0xB1 := by
  refine StartsRun.of_isSubOp (fun _ => rfl) (fun _ _ h => h) (fun u _ => ?_)
  refine State.runs_runtimeCmd ?_ _ _ _ _
  split
  · simp
  · simp

theorem startsRun_loopbackAbort : StartsRun .loopbackAbort 0xB1 :=
  StartsRun.of_isSubOp (fun _ => rfl) (fun _ _ h => h) (fun u _ => State.runs_runtimeCmd (by simp +contextual) _ _ _ _)

theorem startsRun_counters : StartsRun .counters 0xB2 :=
  StartsRun.of_isOp (fun _ => rfl) (fun u _ => State.runs_runtimeCmd (by simp +contextual) _ _ _ _)

theorem startsRun_budgetSet : StartsRun .budgetSet 0xC0 :=
  StartsRun.of_isOp (fun _ => rfl) (fun u _ => State.runs_runtimeCmd (u.budgetSet_runs _ _) _ _ _ _)

theorem startsRun_budgetRead : StartsRun .budgetRead 0xC1 :=
  StartsRun.of_isOp (fun _ => rfl) (fun u _ => State.runs_runtimeCmd (by simp +contextual) _ _ _ _)

theorem startsRun_presenceStatus : StartsRun .presenceStatus 0xD0 :=
  StartsRun.of_isOp (fun _ => rfl) (fun u _ => State.runs_judged (by simp +contextual) (by simp) _ _)

theorem startsRun_debugUnlock (enLow : Bool) : StartsRun (.debugUnlock enLow) 0xD2 :=
  StartsRun.of_isOp (fun _ => rfl) (fun u _ => State.runs_judged (by simp +contextual) (by simp) _ _)

theorem startsRun_sealStatus : StartsRun .sealStatus 0xD3 :=
  StartsRun.of_isOp (fun _ => rfl) (fun u _ => State.runs_judged (by simp +contextual) (by simp) _ _)

theorem startsRun_regionOpen : StartsRun .regionOpen 0x50 := by
  refine StartsRun.of_sel (fun _ => rfl) (fun s e hs hp => ?_) (fun u e => State.runs_runtimeCmd ?_ _ _ _ _)
  · have hempty : s.cw.pushBuf = [] := List.isEmpty_iff.1 hp
    simp [isOp_of_starts hs, State.drained, hempty]
  · have kcancel (l : List Nat) : u.KeepsDesk (u.each l State.cancelRegion) := State.each_keepsDesk State.cancelRegion_keepsDesk l u
    dsimp only
    split_ifs
    · exact (State.openRegion_runs _ _ _ _ _ _).of_keepsDesk (kcancel _)
    · exact u.openRegion_runs _ _ _ _ _

/-- The run of an ETCH_READ, behind the cells that failed (R333). -/
theorem etchRead_starts (word mask : Nat) (s : State) :
    ∃ run : State → CmdEntry → Res, exec (.etchRead word mask) s = .next (s.ifLive (startCmd (s.etchFlip word mask) (isOp 0x70) run)) ∧
      ∀ (u : State) (e : CmdEntry), u.Runs (run u e) := by
  refine ⟨_, rfl, fun u e => ?_⟩
  dsimp only
  split
  · simp
  · split_ifs
    · simp
    · exact u.etchQuery_runs _

/-! ### R233: what a start does to the queues -/

/-- The reply queue without the pending widths: TAG, status and payload of each entry. -/
def CwState.replies (c : CwState) : List (Byte × Byte × List Word) := c.replyQ.map (fun q => (q.tag, q.status, q.payload))

/-- `t` is `s` once the command `e` at the head has left the queue: its reply is posted, or it executes with one reserved. -/
def State.RepliesOnce (s : State) (e : CmdEntry) (t : State) : Prop :=
  t.cw.cmdQ = s.cw.cmdQ.tail ∧
    ((∃ r, t.cw.replies = s.cw.replies ++ [r] ∧ r.1 = e.tag ∧ t.cw.running = none) ∨
      (∃ w, t.cw.running = some ⟨e, w⟩ ∧ t.cw.replyQ = s.cw.replyQ))

theorem finish_repliesOnce {s : State} {e : CmdEntry} {r : Res} (hcmd : r.state.cw.cmdQ = s.popCmd.cw.cmdQ)
    (hreply : r.state.cw.replyQ = s.popCmd.cw.replyQ) (hrun : r.state.cw.running = none) : s.RepliesOnce e (finish e r) := by
  cases r with
  | done t st p =>
    have hqueue : (finish e (.done t st p)).cw.replyQ = s.cw.replyQ ++ [⟨e.tag, BitVec.ofNat 8 st, p, none⟩] := by
      rw [finish_done, State.post, show t.cw.replyQ = s.cw.replyQ from hreply.trans (by simp)]
    exact ⟨hcmd.trans (by simp), .inl ⟨(e.tag, BitVec.ofNat 8 st, p), by simp [CwState.replies, hqueue], rfl, hrun⟩⟩
  | wait t w => exact ⟨hcmd.trans (by simp), .inr ⟨w, rfl, hreply.trans (by simp)⟩⟩

theorem startCmd_repliesOnce {s : State} {op : Nat} {e : CmdEntry} {sel : CmdEntry → Bool} {run : State → CmdEntry → Res}
    (hs : s.starts op e) (hsel : sel e = true) (h : ∀ (u : State) (e : CmdEntry), u.Runs (run u e)) :
    s.RepliesOnce e (startCmd s sel run) := by
  obtain ⟨hhead, -, -, hcan⟩ := hs
  rw [startCmd_starts s e sel run hhead hcan hsel]
  obtain ⟨hcmd, hreply, hrun⟩ := (h s.popCmd e).2 (by simp [s.canStart_room hcan])
  exact finish_repliesOnce hcmd hreply hrun

theorem StartsRun.repliesOnce {c : Instr} {op : Nat} (h : StartsRun c op) {s t : State} {e : CmdEntry} (hs : s.starts op e)
    (hp : picksEntry s c e = true) (hx : exec c s = .next t) : s.RepliesOnce e t := by
  obtain ⟨sel, run, hexec, hsel, hrun⟩ := h s
  rw [hexec] at hx
  cases hx
  exact startCmd_repliesOnce hs (hsel e hs hp) hrun

theorem etchRead_repliesOnce {word mask : Nat} {s t : State} {e : CmdEntry} (hs : s.starts 0x70 e)
    (hx : exec (.etchRead word mask) s = .next t) : s.RepliesOnce e t := by
  obtain ⟨run, hexec, hrun⟩ := etchRead_starts word mask s
  have hoff : s.off = false := by
    have hcan := hs.2.2.2
    simp only [State.canStart, Bool.and_eq_true, Bool.not_eq_true'] at hcan
    exact hcan.1.1.1.1.1.1
  rw [hexec, State.ifLive_of_on hoff] at hx
  cases hx
  exact startCmd_repliesOnce (s := s.etchFlip word mask) hs (isOp_of_starts hs) hrun

/-- R207: the pending width is no part of a reply's content. -/
theorem State.pendWidth_replies (s : State) (w : Nat) : (s.pendWidth w).cw.replies = s.cw.replies := by
  exact List.ext_getElem (by simp [State.pendWidth, CwState.replies]) (fun i _ _ => by simp [State.pendWidth, CwState.replies])

theorem State.RepliesOnce.pendWidth {s t : State} {e : CmdEntry} (h : s.RepliesOnce e t) (hlen : t.cw.replyQ.length = s.cw.replyQ.length + 1)
    (w : Nat) : s.RepliesOnce e (t.pendWidth w) := by
  obtain ⟨hcmd, ⟨r, hr⟩ | ⟨_, -, hq⟩⟩ := h
  · exact ⟨hcmd, .inl ⟨r, (t.pendWidth_replies w).trans hr.1, hr.2⟩⟩
  · rw [hq] at hlen
    omega

theorem cwModeWrite_repliesOnce {s t : State} {e : CmdEntry} (hs : s.starts 0x0B e) (hp : picksEntry s .cwModeWrite e = true)
    (hx : exec .cwModeWrite s = .next t) : s.RepliesOnce e t := by
  have hsel : isWrite 2 e = true := by
    rw [isWrite, isOp_of_starts hs, Bool.true_and]
    exact hp
  have hstart : s.RepliesOnce e (startCmd s (isWrite 2) (fun s e => s.regWrite e [])) :=
    startCmd_repliesOnce hs hsel (fun u e => u.regWrite_runs e [])
  obtain rfl := Host.Outcome.next.inj hx
  dsimp only
  split
  · exact hstart
  · split_ifs with hok
    · exact hstart.pendWidth (by simpa using (Bool.and_eq_true_iff.1 hok).1) _
    · exact hstart

end Sys2Proof.Machine
end

section
/-! PROOFS. FUSE_PROGRAM (R188 to R194): what a burn blows and how it ends; every command that starts is answered once (O18). -/

namespace Sys2Proof.Machine

/-! ### FUSE_PROGRAM: the burn (R189 to R194) -/

/-- R189: a burn blows no more bits than it is given. -/
theorem burnPulses_le (vpp pwr : Option Nat) (n : Nat) :
    ∀ (left tries : Nat) (v : List Bool) (p k : Nat), (burnPulses vpp pwr n left tries v p k).1 ≤ k + left := by
  induction n with
  | zero => intro left tries v p k; simp [burnPulses]
  | succ n ih =>
    intro left tries v p k
    have hnext := ih (left - 1) 3 v.tail (p + 1) (k + 1)
    have hagain := ih left (tries - 1) v.tail (p + 1) k
    unfold burnPulses
    cases v.headD true <;> simp only [if_true, if_false, Bool.false_eq_true] <;> split_ifs <;> omega

theorem burnBits_le (n : Nat) (v : List Bool) (vpp pwr : Option Nat) : (burnBits n v vpp pwr).1 ≤ n := by
  unfold burnBits
  split_ifs
  · simp
  · simp
  · simp
  · simpa using burnPulses_le vpp pwr (3 * n) n 3 v 0 0

/-- R194: without PWR_FAIL_N no burn ends by it. -/
theorem burnPulses_powered (vpp : Option Nat) (n : Nat) :
    ∀ (left tries : Nat) (v : List Bool) (p k : Nat), (burnPulses vpp none n left tries v p k).2 ≠ .powerFail := by
  induction n with
  | zero => intro left tries v p k; simp [burnPulses]
  | succ n ih =>
    intro left tries v p k
    unfold burnPulses
    simp only [reduceCtorEq, if_false]
    split_ifs <;> simp [ih]

theorem burnBits_powered (n : Nat) (v : List Bool) (vpp : Option Nat) : (burnBits n v vpp none).2 ≠ .powerFail := by
  unfold burnBits
  split_ifs <;> simp_all [burnPulses_powered]

/-- Every bit verifies: the burn is done after `left` pulses. -/
theorem burnPulses_verified (n : Nat) : ∀ left k, left ≤ n → burnPulses none none n left 3 [] k k = (k + left, .done) := by
  induction n with
  | zero => intro left k h; obtain rfl := Nat.le_zero.1 h; rfl
  | succ n ih =>
    intro left k h
    unfold burnPulses
    by_cases hleft : left = 0
    · simp [hleft]
    · have hstep := ih (left - 1) (k + 1) (by omega)
      simp only [hleft, if_false, List.headD_nil, List.tail_nil, if_true, reduceCtorEq, hstep, Prod.mk.injEq, and_true]
      omega

theorem burnBits_verified (n : Nat) : burnBits n [] none none = (n, .done) := by
  unfold burnBits
  simp only [reduceCtorEq, if_false]
  split_ifs with h
  · rw [h]
  · simpa using burnPulses_verified (3 * n) n 0 (by omega)

/-- R192: VPP_OK is lost in bit `j`, which completes. -/
theorem burnPulses_vppLost (j n : Nat) :
    ∀ left k, k < j → j ≤ k + left → left ≤ n → burnPulses (some j) none n left 3 [] k k = (j, .vppLost) := by
  induction n with
  | zero => intro left k _ _ _; omega
  | succ n ih =>
    intro left k hk hj h
    unfold burnPulses
    have hleft : left ≠ 0 := by omega
    simp only [hleft, if_false, List.headD_nil, List.tail_nil, if_true, reduceCtorEq, Option.some.injEq]
    split_ifs with hlast
    · rw [hlast]
    · exact ih (left - 1) (k + 1) (by omega) (by omega) (by omega)

theorem burnBits_vppLost {j n : Nat} (hn : 0 < n) (hj : j ≤ n) : burnBits n [] (some j) none = (j, .vppLost) := by
  unfold burnBits
  simp only [Nat.ne_of_gt hn, if_false, reduceCtorEq, Option.some.injEq]
  split_ifs with h
  · rw [h]
  · exact burnPulses_vppLost j (3 * n) n 0 (by omega) (by omega) (by omega)

/-- R194: PWR_FAIL_N asserts in pulse `j`, which completes. -/
theorem burnPulses_powerFail (j n : Nat) :
    ∀ left k, k < j → j ≤ k + left → left ≤ n → burnPulses none (some j) n left 3 [] k k = (j, .powerFail) := by
  induction n with
  | zero => intro left k _ _ _; omega
  | succ n ih =>
    intro left k hk hj h
    unfold burnPulses
    have hleft : left ≠ 0 := by omega
    simp only [hleft, if_false, List.headD_nil, List.tail_nil, if_true, reduceCtorEq, Option.some.injEq]
    split_ifs with hlast
    · rw [hlast]
    · exact ih (left - 1) (k + 1) (by omega) (by omega) (by omega)

theorem burnBits_powerFail {j n : Nat} (hn : 0 < n) (hj : j ≤ n) : burnBits n [] none (some j) = (j, .powerFail) := by
  unfold burnBits
  simp only [Nat.ne_of_gt hn, if_false, reduceCtorEq, Option.some.injEq]
  split_ifs with h
  · rw [h]
  · exact burnPulses_powerFail j (3 * n) n 0 (by omega) (by omega) (by omega)

/-! ### FUSE_PROGRAM: its outcomes -/

theorem exec_fuseProgram (v : List Bool) (vpp pwr : Option Nat) (s : State) :
    exec (.fuseProgram v vpp pwr) s = execFuseProgram v vpp pwr s := rfl

theorem fuseProgram_waits {s : State} (h : ∀ e ∈ s.cw.cmdQ.head?, (s.canStart && isOp 0xD1 e) = false) (v : List Bool)
    (vpp pwr : Option Nat) : exec (.fuseProgram v vpp pwr) s = .next s := by
  rw [exec_fuseProgram, execFuseProgram]
  cases hq : s.cw.cmdQ with
  | nil => rfl
  | cons e l => simp [h e (by simp [hq])]

section
variable {s : State} {e : CmdEntry} (hs : s.starts 0xD1 e) (v : List Bool) (vpp pwr : Option Nat)
include hs

theorem fuseProgram_bad (h : e.params.length ≠ 1 ∨ fuseBad (parUnit e.params) (parBits e.params 0 0 24) = true) :
    exec (.fuseProgram v vpp pwr) s = .next (finish e (s.popCmd.fuseReply stBadParam)) := by
  have hop := isOp_of_starts hs
  obtain ⟨hhead, -, -, hcan⟩ := hs
  obtain ⟨l, hq⟩ := List.head?_eq_some_iff.1 hhead
  rw [exec_fuseProgram, execFuseProgram]
  simp only [hq, hcan, hop, Bool.and_self, if_true, if_pos h]

variable (h1 : e.params.length = 1) (hbad : fuseBad (parUnit e.params) (parBits e.params 0 0 24) = false)
include h1 hbad

theorem fuseProgram_refused {c u : Nat} (h : s.popCmd.fuseRefusal = some (c, u)) :
    exec (.fuseProgram v vpp pwr) s = .next (finish e (Res.refuse s.popCmd c 0 u)) := by
  have hop := isOp_of_starts hs
  obtain ⟨hhead, -, -, hcan⟩ := hs
  obtain ⟨l, hq⟩ := List.head?_eq_some_iff.1 hhead
  rw [exec_fuseProgram, execFuseProgram]
  simp [hq, hcan, hop, h1, hbad, h]

variable (href : s.popCmd.fuseRefusal = none)
include href

theorem fuseProgram_absent (h : s.p2Present = false) :
    exec (.fuseProgram v vpp pwr) s = .next (finish e (s.popCmd.fuseReply stPresenceRequired)) := by
  have hop := isOp_of_starts hs
  have hp2 : s.popCmd.p2Present = false := (s.bit_popCmd F.PRES_STATUS_P2 (by decide)).trans h
  obtain ⟨hhead, -, -, hcan⟩ := hs
  obtain ⟨l, hq⟩ := List.head?_eq_some_iff.1 hhead
  rw [exec_fuseProgram, execFuseProgram]
  simp [hq, hcan, hop, h1, hbad, href, hp2]

/-- After its checks the command burns: it answers, or PWR_FAIL_N has cut it (R194). -/
theorem fuseProgram_burns (h : s.p2Present = true) :
    exec (.fuseProgram v vpp pwr) s =
      .next (match s.popCmd.fuseProgram (parUnit e.params) (parBits e.params 0 0 24) v vpp pwr with
        | (t, some st) => finish e (t.fuseReply st)
        | (t, none) => t) := by
  have hop := isOp_of_starts hs
  have hp2 : s.popCmd.p2Present = true := (s.bit_popCmd F.PRES_STATUS_P2 (by decide)).trans h
  obtain ⟨hhead, -, -, hcan⟩ := hs
  obtain ⟨l, hq⟩ := List.head?_eq_some_iff.1 hhead
  rw [exec_fuseProgram, execFuseProgram]
  simp [hq, hcan, hop, h1, hbad, href, hp2] <;> rfl

end

/-! ### FUSE_PROGRAM: the queues (R233) -/

/-- The state that a burn leaves. -/
theorem State.fuseProgram_fst (s : State) (code value : Nat) (v : List Bool) (vpp pwr : Option Nat) :
    ∃ k, k ≤ s.bitsToBlow code value ∧
      ((s.fuseProgram code value v vpp pwr).1 = (s.blow code k).fuseEvent code k ∨
        (s.fuseProgram code value v vpp pwr).1 = ((s.blow code k).fuseEvent code k).setFld F.FUSE_STATUS_VPP_OK 0) := by
  refine ⟨(burnBits (s.bitsToBlow code value) v vpp pwr).1, burnBits_le _ v vpp pwr, ?_⟩
  unfold State.fuseProgram
  dsimp only
  split_ifs
  · exact .inr rfl
  · exact .inl rfl

/-- R194: without PWR_FAIL_N the command answers. -/
theorem State.fuseProgram_answers (s : State) (code value : Nat) (v : List Bool) (vpp : Option Nat) :
    (s.fuseProgram code value v vpp none).2 ≠ none := by
  have hpowered := burnBits_powered (s.bitsToBlow code value) v vpp
  unfold State.fuseProgram
  dsimp only
  split <;> simp_all

theorem State.blow_cw (s : State) (code k : Nat) : (s.blow code k).cw = s.cw := by
  unfold State.blow
  split_ifs <;> rfl

theorem State.fuseProgram_cw (s : State) (code value : Nat) (v : List Bool) (vpp pwr : Option Nat) :
    (s.fuseProgram code value v vpp pwr).1.cw = s.cw := by
  have hevent (t : State) (k : Nat) : (t.fuseEvent code k).cw = t.cw := by
    unfold State.fuseEvent State.pushEvent
    split_ifs <;> rfl
  obtain ⟨k, -, h | h⟩ := s.fuseProgram_fst code value v vpp pwr
  · rw [h, hevent, s.blow_cw]
  · rw [h, State.setFld_cw, hevent, s.blow_cw]

theorem fuseProgram_repliesOnce {v : List Bool} {vpp : Option Nat} {s t : State} {e : CmdEntry} (hs : s.starts 0xD1 e)
    (hx : exec (.fuseProgram v vpp none) s = .next t) : s.RepliesOnce e t := by
  have hidle : s.popCmd.cw.running = none := by simp [s.canStart_room hs.2.2.2]
  by_cases hbad : e.params.length ≠ 1 ∨ fuseBad (parUnit e.params) (parBits e.params 0 0 24) = true
  · rw [fuseProgram_bad hs v vpp none hbad] at hx
    cases hx
    exact finish_repliesOnce rfl rfl hidle
  · obtain ⟨h1, hcode⟩ := not_or.1 hbad
    have h1 : e.params.length = 1 := not_not.1 h1
    have hcode : fuseBad (parUnit e.params) (parBits e.params 0 0 24) = false := Bool.eq_false_iff.2 hcode
    cases href : s.popCmd.fuseRefusal with
    | some x =>
      rw [fuseProgram_refused hs v vpp none h1 hcode href] at hx
      cases hx
      exact finish_repliesOnce rfl rfl hidle
    | none =>
      cases hp2 : s.p2Present with
      | false =>
        rw [fuseProgram_absent hs v vpp none h1 hcode href hp2] at hx
        cases hx
        exact finish_repliesOnce rfl rfl hidle
      | true =>
        rw [fuseProgram_burns hs v vpp none h1 hcode href hp2] at hx
        have hcw := s.popCmd.fuseProgram_cw (parUnit e.params) (parBits e.params 0 0 24) v vpp none
        have hanswer := s.popCmd.fuseProgram_answers (parUnit e.params) (parBits e.params 0 0 24) v vpp
        generalize s.popCmd.fuseProgram _ _ v vpp none = x at hx hcw hanswer
        obtain ⟨u, st | st⟩ := x
        · exact absurd rfl hanswer
        · cases hx
          exact finish_repliesOnce (congrArg CwState.cmdQ hcw) (congrArg CwState.replyQ hcw)
            ((congrArg CwState.running hcw).trans hidle)

/-- Every row of the catalogue but those that have a lemma of their own. -/
theorem startsRun_of_opcodeOf {c : Instr} {op : Nat} (h : opcodeOf c = some op) (hetch : ∀ w m, c ≠ .etchRead w m)
    (hmode : c ≠ .cwModeWrite) (hfuse : ∀ v vpp pwr, c ≠ .fuseProgram v vpp pwr) : StartsRun c op := by
  cases c with
  | etchRead w m => exact absurd rfl (hetch w m)
  | cwModeWrite => exact absurd rfl hmode
  | fuseProgram v vpp pwr => exact absurd rfl (hfuse v vpp pwr)
  | nop => exact Option.some.inj h ▸ startsRun_nop
  | getInfo => exact Option.some.inj h ▸ startsRun_getInfo
  | getDetail => exact Option.some.inj h ▸ startsRun_getDetail
  | softReset => exact Option.some.inj h ▸ startsRun_softReset
  | regRead => exact Option.some.inj h ▸ startsRun_regRead
  | regWrite => exact Option.some.inj h ▸ startsRun_regWrite
  | w1cClear x => exact Option.some.inj h ▸ startsRun_w1cClear x
  | minReset => exact Option.some.inj h ▸ startsRun_minReset
  | inCtrlWrite => exact Option.some.inj h ▸ startsRun_inCtrlWrite
  | etchWindowWrite => exact Option.some.inj h ▸ startsRun_etchWindowWrite
  | loadBegin x => exact Option.some.inj h ▸ startsRun_loadBegin x
  | loadSegment x => exact Option.some.inj h ▸ startsRun_loadSegment x
  | startEarly => exact Option.some.inj h ▸ startsRun_startEarly
  | presentTag => exact Option.some.inj h ▸ startsRun_presentTag
  | bootStatus => exact Option.some.inj h ▸ startsRun_bootStatus
  | enrolBegin => exact Option.some.inj h ▸ startsRun_enrolBegin
  | enrolData => exact Option.some.inj h ▸ startsRun_enrolData
  | enrolEnd => exact Option.some.inj h ▸ startsRun_enrolEnd
  | enrolAbort => exact Option.some.inj h ▸ startsRun_enrolAbort
  | powerState => exact Option.some.inj h ▸ startsRun_powerState
  | domainCtrl => exact Option.some.inj h ▸ startsRun_domainCtrl
  | wakeConfig => exact Option.some.inj h ▸ startsRun_wakeConfig
  | supplyConfig => exact Option.some.inj h ▸ startsRun_supplyConfig
  | headConfig => exact Option.some.inj h ▸ startsRun_headConfig
  | panelProfile => exact Option.some.inj h ▸ startsRun_panelProfile
  | refreshMode => exact Option.some.inj h ▸ startsRun_refreshMode
  | layerConfig => exact Option.some.inj h ▸ startsRun_layerConfig
  | layerEnable => exact Option.some.inj h ▸ startsRun_layerEnable
  | lutLoad => exact Option.some.inj h ▸ startsRun_lutLoad
  | scalerCoeff => exact Option.some.inj h ▸ startsRun_scalerCoeff
  | tonemapConfig => exact Option.some.inj h ▸ startsRun_tonemapConfig
  | writeback => exact Option.some.inj h ▸ startsRun_writeback
  | regionOpen => exact Option.some.inj h ▸ startsRun_regionOpen
  | regionClose => exact Option.some.inj h ▸ startsRun_regionClose
  | fence => exact Option.some.inj h ▸ startsRun_fence
  | regionCancel => exact Option.some.inj h ▸ startsRun_regionCancel
  | calRun => exact Option.some.inj h ▸ startsRun_calRun
  | calRead => exact Option.some.inj h ▸ startsRun_calRead
  | calStore => exact Option.some.inj h ▸ startsRun_calStore
  | calSelect => exact Option.some.inj h ▸ startsRun_calSelect
  | etchWriteRecord => exact Option.some.inj h ▸ startsRun_etchWriteRecord
  | etchList => exact Option.some.inj h ▸ startsRun_etchList
  | chainConfig => exact Option.some.inj h ▸ startsRun_chainConfig
  | chainTrain => exact Option.some.inj h ▸ startsRun_chainTrain
  | stationRead => exact Option.some.inj h ▸ startsRun_stationRead
  | stationWrite => exact Option.some.inj h ▸ startsRun_stationWrite
  | chainFurl => exact Option.some.inj h ▸ startsRun_chainFurl
  | touchConfig => exact Option.some.inj h ▸ startsRun_touchConfig
  | touchRead => exact Option.some.inj h ▸ startsRun_touchRead
  | touchRebase => exact Option.some.inj h ▸ startsRun_touchRebase
  | telltaleConfig => exact Option.some.inj h ▸ startsRun_telltaleConfig
  | iconLoad => exact Option.some.inj h ▸ startsRun_iconLoad
  | telltaleForce => exact Option.some.inj h ▸ startsRun_telltaleForce
  | eyeScanStart => exact Option.some.inj h ▸ startsRun_eyeScanStart
  | eyeScanResult => exact Option.some.inj h ▸ startsRun_eyeScanResult
  | eyeScanAbort => exact Option.some.inj h ▸ startsRun_eyeScanAbort
  | loopbackStart => exact Option.some.inj h ▸ startsRun_loopbackStart
  | loopbackResult => exact Option.some.inj h ▸ startsRun_loopbackResult
  | loopbackAbort => exact Option.some.inj h ▸ startsRun_loopbackAbort
  | counters => exact Option.some.inj h ▸ startsRun_counters
  | budgetSet => exact Option.some.inj h ▸ startsRun_budgetSet
  | budgetRead => exact Option.some.inj h ▸ startsRun_budgetRead
  | presenceStatus => exact Option.some.inj h ▸ startsRun_presenceStatus
  | debugUnlock x => exact Option.some.inj h ▸ startsRun_debugUnlock x
  | sealStatus => exact Option.some.inj h ▸ startsRun_sealStatus
  | _ => cases h

/-- Settles O18: each row of the catalogue starts its command, and the start posts its reply or reserves it. -/
theorem oneReplyEach : Obligations.OneReplyEach := by
  unfold Obligations.OneReplyEach
  intro c op s t e hop hs hp hpwr hx
  have hreply : s.RepliesOnce e t := by
    by_cases hetch : ∃ w m, c = .etchRead w m
    · obtain ⟨w, m, rfl⟩ := hetch
      obtain rfl := Option.some.inj hop
      exact etchRead_repliesOnce hs hx
    by_cases hmode : c = .cwModeWrite
    · subst hmode
      obtain rfl := Option.some.inj hop
      exact cwModeWrite_repliesOnce hs hp hx
    by_cases hfuse : ∃ v vpp pwr, c = .fuseProgram v vpp pwr
    · obtain ⟨v, vpp, pwr, rfl⟩ := hfuse
      obtain rfl := Option.some.inj hop
      obtain rfl := hpwr v vpp pwr rfl
      exact fuseProgram_repliesOnce hs hx
    push Not at hetch hfuse
    exact (startsRun_of_opcodeOf hop hetch hmode hfuse).repliesOnce hs hp hx
  exact hreply

end Sys2Proof.Machine
end

section
/-! PROOFS. The fuse shadow through FUSE_PROGRAM; FUSE_PROGRAM and the debug port (O33); ENROL (O31); presence and the seal (O32). -/

namespace Sys2Proof.Machine
open State (KeepsStart Spares)

/-! ### The fuse shadow (R177) -/

/-- The shadow is a register of its own. -/
theorem State.shadowed_of_eq {s t : State} (hfuses : t.fuses = s.fuses) (hrd : t.rd 0x48 = s.rd 0x48) : t.shadowed = s.shadowed := by
  have hfld (f : Field) (hf : f.addr = 0x48) : t.fld f = s.fld f := by
    unfold State.fld
    rw [hf, hrd]
  simp only [State.shadowed, State.bit, hfuses, hfld F.FUSE_STATUS_ENROL_LOCK rfl, hfld F.FUSE_STATUS_DEBUG_LOCK rfl,
    hfld F.FUSE_STATUS_ROLLBACK_STEPS rfl]

theorem State.shadowed_iff (s : State) :
    s.shadowed = true ↔ s.bit F.FUSE_STATUS_ENROL_LOCK = s.fuses.enrolLock ∧ s.bit F.FUSE_STATUS_DEBUG_LOCK = s.fuses.debugLock ∧
      s.fld F.FUSE_STATUS_ROLLBACK_STEPS = s.fuses.rollback := by
  simp only [State.shadowed, Bool.and_eq_true, beq_iff_eq, and_assoc]

theorem State.bit_setFld_one (s : State) {f : Field} (h : f.lo + f.width ≤ 32) (hw : f.width = 1) : (s.setFld f 1).bit f = true := by
  unfold State.bit
  rw [s.fld_setFld f 1 h, hw]
  rfl

/-- R177: the shadow follows each verify. -/
theorem State.shadowed_blow {s : State} (h : s.shadowed = true) {code value k : Nat} (hbad : fuseBad code value = false)
    (hk : k ≤ s.bitsToBlow code value) : (s.blow code k).shadowed = true := by
  obtain ⟨henrol, hdebug, hroll⟩ := s.shadowed_iff.1 h
  unfold State.blow
  split_ifs with h0 h1 h3
  · exact h
  · refine (State.shadowed_iff _).2 ⟨s.bit_setFld_one (by decide) rfl, ?_, ?_⟩
    · exact (s.bit_setFld_apart 1 (.inr (.inr (by decide)))).trans hdebug
    · exact (s.fld_setFld_apart _ _ 1 (.inr (.inr (by decide)))).trans hroll
  · refine (State.shadowed_iff _).2 ⟨?_, s.bit_setFld_one (by decide) rfl, ?_⟩
    · exact (s.bit_setFld_apart 1 (.inr (.inl (by decide)))).trans henrol
    · exact (s.fld_setFld_apart _ _ 1 (.inr (.inr (by decide)))).trans hroll
  · have hlimit : s.fld F.FUSE_STATUS_ROLLBACK_STEPS + k < 2 ^ 7 := by
      simp only [State.bitsToBlow, h1, h3, if_false] at hk
      simp only [fuseBad, Bool.or_eq_false_iff, Bool.not_eq_false', Bool.and_eq_false_iff, beq_eq_false_iff_ne, beq_iff_eq,
        Bool.or_eq_true, decide_eq_false_iff_not, h1, h3, false_or, or_false] at hbad
      obtain ⟨⟨hcode, -⟩, hvalue⟩ := hbad
      omega
    refine (State.shadowed_iff _).2 ⟨?_, ?_, ?_⟩
    · exact (s.bit_setFld_apart _ (.inr (.inl (by decide)))).trans henrol
    · exact (s.bit_setFld_apart _ (.inr (.inl (by decide)))).trans hdebug
    · exact (s.fld_setFld _ _ (by decide)).trans (Nat.mod_eq_of_lt hlimit)

/-- R191: a burn makes no fuse whole. -/
theorem State.keptBy_blow {s : State} (h : s.shadowed = true) (code k : Nat) : s.fuses.keptBy (s.blow code k).fuses := by
  obtain ⟨-, -, hroll⟩ := s.shadowed_iff.1 h
  unfold State.blow
  split_ifs
  · exact ⟨id, id, le_refl _, rfl⟩
  · exact ⟨fun _ => rfl, id, le_refl _, rfl⟩
  · exact ⟨id, fun _ => rfl, le_refl _, rfl⟩
  · exact ⟨id, id, hroll ▸ Nat.le_add_right _ _, rfl⟩

theorem State.rd_fuseEvent (s : State) (code k : Nat) : (s.fuseEvent code k).rd 0x48 = s.rd 0x48 := by
  unfold State.fuseEvent State.pushEvent
  split_ifs
  · rfl
  · exact s.rd_setFld_ne F.SEAL_STATE_LOG_LOST 1 0x48 (by decide)
  · rfl
  · rfl

theorem State.shadowed_setVppOk (s : State) (v : Nat) : (s.setFld F.FUSE_STATUS_VPP_OK v).shadowed = s.shadowed := by
  have hbit (g : Field) (h : F.FUSE_STATUS_VPP_OK.apart g) : (s.setFld F.FUSE_STATUS_VPP_OK v).bit g = s.bit g := s.bit_setFld_apart v h
  simp only [State.shadowed, hbit F.FUSE_STATUS_ENROL_LOCK (.inr (.inr (by decide))), State.setFld_fuses,
    hbit F.FUSE_STATUS_DEBUG_LOCK (.inr (.inr (by decide))),
    s.fld_setFld_apart F.FUSE_STATUS_VPP_OK F.FUSE_STATUS_ROLLBACK_STEPS v (.inr (.inr (by decide)))]

theorem State.fuseProgram_shadowed {s : State} (h : s.shadowed = true) {code value : Nat} (hbad : fuseBad code value = false)
    (v : List Bool) (vpp pwr : Option Nat) :
    s.fuses.keptBy (s.fuseProgram code value v vpp pwr).1.fuses ∧ (s.fuseProgram code value v vpp pwr).1.shadowed = true := by
  obtain ⟨k, hk, hburn⟩ := s.fuseProgram_fst code value v vpp pwr
  have hkept := State.keptBy_blow h code k
  have hblown : ((s.blow code k).fuseEvent code k).shadowed = true :=
    (State.shadowed_of_eq (State.fuseEvent_spares _ code k).1 (State.rd_fuseEvent _ code k)).trans (State.shadowed_blow h hbad hk)
  rw [← (State.fuseEvent_spares (s.blow code k) code k).1] at hkept
  obtain hburn | hburn := hburn
  · rw [hburn]
    exact ⟨hkept, hblown⟩
  · rw [hburn]
    exact ⟨hkept, (State.shadowed_setVppOk _ 0).trans hblown⟩

/-- A run that ends with the fuses kept and their shadow shown. -/
theorem finish_shadowed {s : State} {r : Res} (e : CmdEntry) (hkept : s.fuses.keptBy r.state.fuses) (h : r.state.shadowed = true) :
    s.fuses.keptBy (finish e r).fuses ∧ (finish e r).shadowed = true := by
  cases r with
  | done t st p => exact ⟨hkept, h⟩
  | wait t w => exact ⟨hkept, h⟩

theorem exec_fuseProgram_shadowed {v : List Bool} {vpp pwr : Option Nat} {s t : State} (h : s.shadowed = true)
    (hx : exec (.fuseProgram v vpp pwr) s = .next t) : s.fuses.keptBy t.fuses ∧ t.shadowed = true := by
  have hsame : s.fuses.keptBy s.fuses := ⟨id, id, le_refl _, rfl⟩
  by_cases hstart : ∃ e, s.starts 0xD1 e
  · obtain ⟨e, hs⟩ := hstart
    have hpop : s.popCmd.shadowed = true := (State.shadowed_of_eq s.popCmd_fuses (s.rd_popCmd_ne _ (by decide))).trans h
    have hpopKept : s.fuses.keptBy s.popCmd.fuses := by rw [s.popCmd_fuses]; exact hsame
    by_cases hbad : e.params.length ≠ 1 ∨ fuseBad (parUnit e.params) (parBits e.params 0 0 24) = true
    · rw [fuseProgram_bad hs v vpp pwr hbad] at hx
      cases hx
      exact finish_shadowed (r := s.popCmd.fuseReply _) e hpopKept hpop
    · obtain ⟨h1, hcode⟩ := not_or.1 hbad
      have h1 : e.params.length = 1 := not_not.1 h1
      have hcode : fuseBad (parUnit e.params) (parBits e.params 0 0 24) = false := Bool.eq_false_iff.2 hcode
      cases href : s.popCmd.fuseRefusal with
      | some x =>
        rw [fuseProgram_refused hs v vpp pwr h1 hcode href] at hx
        cases hx
        exact finish_shadowed (r := Res.refuse s.popCmd _ _ _) e hpopKept hpop
      | none =>
        cases hp2 : s.p2Present with
        | false =>
          rw [fuseProgram_absent hs v vpp pwr h1 hcode href hp2] at hx
          cases hx
          exact finish_shadowed (r := s.popCmd.fuseReply _) e hpopKept hpop
        | true =>
          rw [fuseProgram_burns hs v vpp pwr h1 hcode href hp2] at hx
          have hburn := State.fuseProgram_shadowed hpop hcode v vpp pwr
          rw [s.popCmd_fuses] at hburn
          generalize s.popCmd.fuseProgram _ _ v vpp pwr = x at hx hburn
          obtain ⟨u, st | st⟩ := x
          · cases hx
            exact hburn
          · cases hx
            exact finish_shadowed (r := u.fuseReply _) e hburn.1 hburn.2
  · rw [fuseProgram_waits (fun e he => ?_) v vpp pwr] at hx
    · cases hx
      exact ⟨hsame, h⟩
    · rw [Bool.eq_false_iff]
      intro hcan
      simp only [isOp, Bool.and_eq_true, beq_iff_eq] at hcan
      exact hstart ⟨e, he, hcan.2.1, hcan.2.2, hcan.1⟩

/-! ### FUSE_PROGRAM and DEBUG_UNLOCK in full, and the debug port -/

theorem State.bitsToBlow_popCmd (s : State) (code value : Nat) : s.popCmd.bitsToBlow code value = s.bitsToBlow code value := by
  simp only [State.bitsToBlow, s.bit_popCmd F.FUSE_STATUS_ENROL_LOCK (by decide), s.bit_popCmd F.FUSE_STATUS_DEBUG_LOCK (by decide),
    s.fld_popCmd F.FUSE_STATUS_ROLLBACK_STEPS (by decide)]

/-- R197: DEBUG_UNLOCK in a permitted phase, with DBG_EN_N low. -/
theorem debugUnlock_judges {s : State} {e : CmdEntry} (hs : s.starts 0xD2 e) (hp : e.params = [])
    (hphase : s.phase = 0 ∨ s.phase = 5 ∨ s.phase = 6) :
    exec (.debugUnlock true) s = .next (finish e
      (if s.popCmd.bit F.FUSE_STATUS_DEBUG_LOCK then Res.stat s.popCmd stLocked
       else if !s.popCmd.p2Present then Res.stat s.popCmd stPresenceRequired
       else Res.ok (((s.popCmd.setFld F.BOOT_STATUS_KEYLOCK 1).setFld F.PRES_STATUS_DEBUG_UNLOCKED 1).pushEvent 5 0))) := by
  have hphase' : (s.phase == 0 || s.phase == 5 || s.phase == 6) = true := by simpa [or_assoc] using hphase
  have hop := isOp_of_starts hs
  obtain ⟨hhead, -, -, hcan⟩ := hs
  rw [show exec (.debugUnlock true) s = execDebugUnlock true s from rfl, execDebugUnlock, startCmd_starts s e _ _ hhead hcan hop]
  simp only [hp, List.isEmpty_nil, judged_ok, State.phase_popCmd, hphase', Bool.not_true, Bool.false_eq_true, if_false]

/-- R199: no address of BOOT reaches the debug port. -/
theorem windowOf_boot {a : Nat} (hlo : 0x20000 ≤ a) (hhi : a < 0x30000) : windowOf a = some (0x20000, 0x2FFFF, .boot) :=
  windowOf_of_mem (by decide) hlo (Nat.le_of_lt_succ hhi)

theorem State.debugRead_closed (s : State) (a : Nat) (h : ∀ w, windowOf a = some w → (!s.debugOpen || !w.2.2.debugged) = true) :
    s.debugRead a = none := by
  unfold State.debugRead
  split
  · next hw => rw [if_pos (h _ hw)]
  · rfl

theorem State.debugWrite_closed (s : State) (a : Nat) (w : Word)
    (h : ∀ x, windowOf a = some x → (!s.debugOpen || !x.2.2.debugged) = true) : s.debugWrite a w = s := by
  unfold State.debugWrite
  split
  · next hw => rw [if_pos (h _ hw)]
  · rfl

/-- Settles O33: FUSE_PROGRAM by how its burn ends, DEBUG_UNLOCK by its judgement, the port by the windows. -/
theorem fusesAndDebug : Obligations.FusesAndDebug := by
  unfold Obligations.FusesAndDebug
  refine ⟨?verified, ?lost, ?bad, ?absent, ?unlocked, ?locked, ?closed, ?boot⟩
  case verified =>
    intro s e hs h1 hcode href hp2 k t
    have hburn : s.popCmd.fuseProgram (parUnit e.params) (parBits e.params 0 0 24) [] none none = (t, some stOk) := by
      simp only [State.fuseProgram, s.bitsToBlow_popCmd, burnBits_verified]
      rfl
    rw [fuseProgram_burns hs [] none none h1 hcode href hp2, hburn]
    rfl
  case lost =>
    intro s e j hs h1 hcode href hp2 hj hk u t
    have hvpp : s.popCmd.fuseProgram (parUnit e.params) (parBits e.params 0 0 24) [] (some j) none = (t, some stCheckFailed) := by
      simp only [State.fuseProgram, s.bitsToBlow_popCmd, burnBits_vppLost hk hj]
      rfl
    have hpwr : s.popCmd.fuseProgram (parUnit e.params) (parBits e.params 0 0 24) [] none (some j) = (u, none) := by
      simp only [State.fuseProgram, s.bitsToBlow_popCmd, burnBits_powerFail hk hj]
      rfl
    refine ⟨?_, ?_⟩
    · rw [fuseProgram_burns hs [] (some j) none h1 hcode href hp2, hvpp]
      rfl
    · rw [fuseProgram_burns hs [] none (some j) h1 hcode href hp2, hpwr]
  case bad =>
    intro s e v vpp pwr hs h
    rw [fuseProgram_bad hs v vpp pwr h, State.fuseReply, s.rd_popCmd_ne _ (by decide), finish_done]
  case absent =>
    intro s e v vpp pwr hs h1 hcode href hp2
    rw [fuseProgram_absent hs v vpp pwr h1 hcode href hp2, State.fuseReply, s.rd_popCmd_ne _ (by decide), finish_done]
  case unlocked =>
    intro s e hs hp hphase hlock hp2
    have hlock' : s.popCmd.bit F.FUSE_STATUS_DEBUG_LOCK = false := (s.bit_popCmd _ (by decide)).trans hlock
    have hp2' : s.popCmd.p2Present = true := (s.bit_popCmd F.PRES_STATUS_P2 (by decide)).trans hp2
    rw [debugUnlock_judges hs hp hphase, hlock', hp2']
    rfl
  case locked =>
    intro s e hs hp hphase hlock
    have hlock' : s.popCmd.bit F.FUSE_STATUS_DEBUG_LOCK = true := (s.bit_popCmd _ (by decide)).trans hlock
    rw [debugUnlock_judges hs hp hphase, if_pos hlock']
    rfl
  case closed =>
    intro s a w drive h
    have hclosed : s.debugOpen = false := h
    refine ⟨?_, s.debugRead_closed a fun _ _ => by simp [hclosed], s.debugWrite_closed a w fun _ _ => by simp [hclosed]⟩
    rw [State.dbgIo, hclosed]
    rfl
  case boot =>
    intro s a w hlo hhi
    have hboot (x : Nat × Nat × WindowKind) (hx : windowOf a = some x) : (!s.debugOpen || !x.2.2.debugged) = true := by
      rw [windowOf_boot hlo hhi] at hx
      cases hx
      simp [WindowKind.debugged]
    exact ⟨s.debugRead_closed a hboot, s.debugWrite_closed a w hboot⟩

/-! ### ENROL (R181 to R187) -/

/-- LENGTH and reserved bits right: the run is what follows. -/
theorem judged_unstrayed (s : State) (run : Res) {lenOk bad : Bool} (hlen : lenOk = true) (hbad : bad = false) :
    judged s lenOk (failAt 0 bad) run = run := by
  rw [hlen, hbad]
  rfl

section
variable {s : State} {e : CmdEntry} (hs : s.starts 0x15 e) (hstray : strayBits e.params 0 0xFF000000 = false)
include hs hstray

theorem enrolBegin_runs_state (hlen : e.params.length = 65) (hunit : parUnit e.params = 0) :
    exec .enrolBegin s = .next (finish e (s.popCmd.enrolBegin (byteString (e.params.drop 1)))) := by
  have hop := isOp_of_starts hs
  obtain ⟨hhead, -, -, hcan⟩ := hs
  rw [show exec .enrolBegin s = execEnrolBegin s from rfl, execEnrolBegin,
    startCmd_starts s e _ _ hhead hcan (by simp [hop, hunit]), judged_unstrayed _ _ (by simp [hlen]) (by simp [hstray, hunit])]

theorem enrolData_runs_state (hlo : 3 ≤ e.params.length) (hhi : e.params.length ≤ 1026) (hunit : parUnit e.params = 1) :
    exec .enrolData s = .next (finish e (s.popCmd.enrolData e.params)) := by
  have hop : isSubOp 0x15 24 8 1 e = true := by rw [isSubOp, isOp_of_starts hs, Bool.true_and]; exact beq_iff_eq.2 hunit
  obtain ⟨hhead, -, -, hcan⟩ := hs
  rw [show exec .enrolData s = execEnrolData s from rfl, execEnrolData, startCmd_starts s e _ _ hhead hcan hop,
    judged_unstrayed _ _ (by simp [hlo, hhi]) hstray]

theorem enrolEnd_runs_state (hlen : e.params.length = 1) (hunit : parUnit e.params = 2) :
    exec .enrolEnd s = .next (finish e s.popCmd.enrolEnd) := by
  have hop : isSubOp 0x15 24 8 2 e = true := by rw [isSubOp, isOp_of_starts hs, Bool.true_and]; exact beq_iff_eq.2 hunit
  obtain ⟨hhead, -, -, hcan⟩ := hs
  rw [show exec .enrolEnd s = execEnrolEnd s from rfl, execEnrolEnd, startCmd_starts s e _ _ hhead hcan hop,
    judged_unstrayed _ _ (by simp [hlen]) hstray]

theorem enrolAbort_runs_state (hlen : e.params.length = 1) (hunit : parUnit e.params = 3) :
    exec .enrolAbort s = .next (finish e (s.popCmd.inSession (fun _ => false) (fun _ => Res.ok s.popCmd.endEnrol))) := by
  have hop : isSubOp 0x15 24 8 3 e = true := by rw [isSubOp, isOp_of_starts hs, Bool.true_and]; exact beq_iff_eq.2 hunit
  obtain ⟨hhead, -, -, hcan⟩ := hs
  rw [show exec .enrolAbort s = execEnrolAbort s from rfl, execEnrolAbort, startCmd_starts s e _ _ hhead hcan hop,
    judged_unstrayed _ _ (by simp [hlen]) hstray]

end

/-- R172: what keeps none of ENROL's work from being done: no lock, and P2. -/
theorem State.enrolPresence_met {s : State} (run : Res) (hkey : s.bit F.BOOT_STATUS_KEYLOCK = false)
    (hlock : s.bit F.FUSE_STATUS_ENROL_LOCK = false) (hp2 : s.p2Present = true) : s.popCmd.enrolPresence run = run := by
  simp [State.enrolPresence, s.bit_popCmd F.BOOT_STATUS_KEYLOCK (by decide), s.bit_popCmd F.FUSE_STATUS_ENROL_LOCK (by decide),
    State.p2Present, s.bit_popCmd F.PRES_STATUS_P2 (by decide), hkey, hlock, show s.bit F.PRES_STATUS_P2 = true from hp2]

section
variable {s : State} (hphase : s.phase = 0) (bad : Enrol → Bool) (run : Enrol → Res)
include hphase

/-- R186: no session is open. -/
theorem State.inSession_none (h : s.boot.enrol = none) :
    s.popCmd.inSession bad run = Res.refuse { s.popCmd with free := s.free + 1 } 0x0B 0 (Config.freeValue s.free % 256) := by
  simp [State.inSession, hphase, h, State.draw]

variable {n : Enrol} (h : s.boot.enrol = some n)
include h

theorem State.inSession_bad (hbad : bad n = true) :
    s.popCmd.inSession bad run = .done s.popCmd stBadParam [positionWord n.seg n.off] := by
  simp [State.inSession, hphase, h, hbad]

theorem State.inSession_good (hbad : bad n = false) (hkey : s.bit F.BOOT_STATUS_KEYLOCK = false)
    (hlock : s.bit F.FUSE_STATUS_ENROL_LOCK = false) (hp2 : s.p2Present = true) : s.popCmd.inSession bad run = run n := by
  simp [State.inSession, hphase, h, hbad, State.enrolPresence_met _ hkey hlock hp2]

end

/-- R841, R843: a domain that is switched off is not on. -/
theorem State.pdOn_powerDown (s : State) {n : Nat} (h : n ≠ 0) : (s.powerDown n).pdOn n = false := by
  have hstate : (s.powerDown n).pdState n = 0 := by
    unfold State.powerDown State.markDown State.pdState
    rw [State.fld_setFld_apart _ (F.PWR_PD_LOGIC_RDY n) _ _ (.inr (.inl (by simp [F.PWR_PD_LOGIC_RDY, F.PWR_PD_STATE]))),
      State.fld_setFld_apart _ (F.PWR_PD_MEM_RDY n) _ _ (.inr (.inl (by simp [F.PWR_PD_MEM_RDY, F.PWR_PD_STATE]))),
      State.fld_setFld_apart _ (F.PWR_PD_CLK_RDY n) _ _ (.inr (.inl (by simp [F.PWR_PD_CLK_RDY, F.PWR_PD_STATE]))),
      State.fld_setFld_apart _ (F.PWR_PD_REG_RDY n) _ _ (.inr (.inl (by simp [F.PWR_PD_REG_RDY, F.PWR_PD_STATE]))),
      State.fld_setFld _ (F.PWR_PD_STATE n) 0 (by simp [F.PWR_PD_STATE]), Nat.zero_mod]
  simp [State.pdOn, hstate, h]

/-- PWR_PD of PD24 is the only register that switching PD24 off writes. -/
theorem State.rd_powerDown_digest (s : State) {a : Nat} (ha : a ≠ 0x10160) : (s.powerDown 24).rd a = s.rd a := by
  have hpd (t : State) (lo w v : Nat) : (t.setFld ⟨0x10100 + 4 * 24, lo, w⟩ v).rd a = t.rd a := t.rd_setFld_ne _ v a (Ne.symm ha)
  unfold State.powerDown State.markDown
  exact (hpd _ _ _ _).trans ((hpd _ _ _ _).trans ((hpd _ _ _ _).trans ((hpd _ _ _ _).trans (hpd _ _ _ _))))

/-- R185: what the end of a session leaves. -/
theorem State.endEnrol_ends {s : State} (h : s.boot.enrol.isSome = true) :
    s.endEnrol.boot.enrol = none ∧ s.endEnrol.bit F.PRES_STATUS_ENROL_ACTIVE = false ∧ s.endEnrol.pdOn 24 = false := by
  obtain ⟨n, hn⟩ := Option.isSome_iff_exists.1 h
  have hend : s.endEnrol =
      ({ s with boot := { s.boot with enrol := none } }.setFld F.PRES_STATUS_ENROL_ACTIVE 0).powerDown 24 := by
    simp [State.endEnrol, hn]
  rw [hend]
  refine ⟨rfl, ?_, State.pdOn_powerDown _ (by decide)⟩
  unfold State.bit State.fld
  rw [State.rd_powerDown_digest _ (by decide)]
  exact congrArg (· != 0) (State.fld_setFld _ F.PRES_STATUS_ENROL_ACTIVE 0 (by decide))

/-- Settles O31: each sub-operation by its run, and what the session's state makes of it. -/
theorem enrolment : Obligations.Enrolment := by
  unfold Obligations.Enrolment
  refine ⟨?begins, ?badHeader, ?badChunk, ?chunk, ?ends, ?aborts, ?timeout, fun s => State.endEnrol_ends, ?noSession⟩
  case begins =>
    intro s e hs hlen hunit hstray hphase hcheck hkey hlock hp2
    rw [enrolBegin_runs_state hs hstray hlen hunit]
    simp only [State.enrolBegin, hcheck, ne_eq, not_true, if_false, State.phase_popCmd, hphase,
      State.enrolPresence_met _ hkey hlock hp2]
    rfl
  case badHeader =>
    intro s e c hs hlen hunit hstray hcheck hc
    rw [enrolBegin_runs_state hs hstray hlen hunit]
    simp only [State.enrolBegin, hcheck, ne_eq, hc, not_false_eq_true, if_true]
    rfl
  case badChunk =>
    intro s e n hs hlo hhi hunit hstray hphase hn hfits
    rw [enrolData_runs_state hs hstray hlo hhi hunit, State.enrolData, State.inSession_bad hphase _ _ hn (by simp [hfits]),
      finish_done]
  case chunk =>
    intro s e n hs hlo hhi hunit hstray hphase hn hkey hlock hp2 seg off d hfits q
    rw [enrolData_runs_state hs hstray hlo hhi hunit, State.enrolData,
      State.inSession_good hphase _ _ hn (by simpa using hfits) hkey hlock hp2]
    simp
    rfl
  case ends =>
    intro s e n hs hlen hunit hstray hphase hn hkey hlock hp2 hseg
    rw [enrolEnd_runs_state hs hstray hlen hunit, State.enrolEnd,
      State.inSession_good hphase _ _ hn (by simpa using hseg) hkey hlock hp2, finish_done]
  case aborts =>
    intro s e hs hlen hunit hstray hphase hsome hkey hlock hp2
    obtain ⟨n, hn⟩ := Option.isSome_iff_exists.1 hsome
    rw [enrolAbort_runs_state hs hstray hlen hunit, State.inSession_good hphase _ _ hn rfl hkey hlock hp2]
    rfl
  case timeout =>
    intro s n hoff hn hlast
    rw [show exec .enrolSessionTimeout s = execEnrolSessionTimeout s from rfl, execEnrolSessionTimeout, State.ifLive_of_on hoff]
    simp [hn, hlast]
  case noSession =>
    intro s e hs hphase hn hstray t r
    have hrefuse (bad : Enrol → Bool) (run : Enrol → Res) : finish e (s.popCmd.inSession bad run) = r := by
      rw [State.inSession_none hphase bad run hn]
      rfl
    refine ⟨fun hunit hlo hhi => ?_, fun hunit hlen => ?_, fun hunit hlen => ?_⟩
    · rw [enrolData_runs_state hs hstray hlo hhi hunit, State.enrolData, hrefuse]
    · rw [enrolEnd_runs_state hs hstray hlen hunit, State.enrolEnd, hrefuse]
    · rw [enrolAbort_runs_state hs hstray hlen hunit, hrefuse]

/-! ### P2 follows SVC_HELD and the seal (R159) -/

/-- R185: the end of an enrolment session shows in ENROL_ACTIVE and in PD24. -/
theorem State.fld_endEnrol (s : State) {f : Field} (hf : F.PRES_STATUS_ENROL_ACTIVE.apart f) (ha : f.addr ≠ 0x10160) :
    s.endEnrol.fld f = s.fld f := by
  unfold State.endEnrol
  split
  · rfl
  · unfold State.fld
    rw [State.rd_powerDown_digest _ ha]
    exact State.fld_setFld_apart _ _ f 0 hf

theorem State.pres_endEnrol (s : State) : s.endEnrol.pres = s.pres := by
  unfold State.endEnrol
  split
  · rfl
  · simp [State.powerDown, State.markDown, State.loseMemory]

/-- P2 as SVC_HELD and the seal have it. -/
def State.p2Now (s : State) : Bool := s.pres.reached && s.fld F.SEAL_STATE_STATE == 2

/-- What a change of P2 sets. -/
theorem State.fld_refreshP2 (s : State) {f : Field} (hp2 : F.PRES_STATUS_P2.apart f) (henrol : F.PRES_STATUS_ENROL_ACTIVE.apart f)
    (hirq : f.addr ≠ 0x30004) (hpd : f.addr ≠ 0x10160) : s.refreshP2.fld f = s.fld f := by
  have hset : ((s.setBit F.PRES_STATUS_P2 s.p2Now).raise causePresence).fld f = s.fld f :=
    (State.fld_raise_ne _ _ hirq).trans (s.fld_setFld_apart _ f _ hp2)
  unfold State.refreshP2
  dsimp only
  split_ifs
  · rfl
  · exact hset
  · exact (State.fld_endEnrol _ henrol hpd).trans hset

theorem State.p2_refreshP2 (s : State) : s.refreshP2.bit F.PRES_STATUS_P2 = s.p2Now := by
  have hset : ((s.setBit F.PRES_STATUS_P2 s.p2Now).raise causePresence).bit F.PRES_STATUS_P2 = s.p2Now := by
    unfold State.bit
    rw [State.fld_raise_ne _ _ (by decide)]
    exact s.bit_setBit s.p2Now rfl (by decide)
  unfold State.refreshP2
  dsimp only
  split_ifs with h1 h2
  · exact h1.symm
  · exact hset
  · exact (congrArg (· != 0) (State.fld_endEnrol _ (.inr (.inl (by decide))) (by decide))).trans hset

theorem State.held_refreshP2 (s : State) : s.refreshP2.pres.reached = s.pres.reached ∧ s.refreshP2.pres.p1Ms = s.pres.p1Ms := by
  unfold State.refreshP2
  dsimp only
  split_ifs <;> simp [State.pres_endEnrol]

/-- R163: the event's queue shows in LOG_LOST alone. -/
theorem State.fld_pushEvent (s : State) (ev detail : Nat) {f : Field} (h : F.SEAL_STATE_LOG_LOST.apart f) :
    (s.pushEvent ev detail).fld f = s.fld f := by
  unfold State.pushEvent
  split_ifs
  · exact s.fld_setFld_apart _ f 1 h
  · rfl

/-! ### The events of chapter 04 -/

theorem svcChange_replicate {s : State} {b : Bool} (h : b ≠ s.bit F.PRES_STATUS_SVC_LOW) :
    svcChange s (List.replicate 20 b) = some b := by
  simp [svcChange, List.replicate_succ, h]

/-- R149: samples that are not 20 equal ones. -/
theorem svcChange_mixed {s : State} {l : List Bool} (h : l.length ≠ 20 ∨ (true ∈ l ∧ false ∈ l)) : svcChange s l = none := by
  unfold svcChange
  split
  · rfl
  · next b m =>
    refine if_neg fun hc => ?_
    obtain ⟨hlen, hall, -⟩ := hc
    rcases h with h | ⟨htrue, hfalse⟩
    · exact h hlen
    · have ht := beq_iff_eq.1 (List.all_eq_true.1 hall true htrue)
      have hf := beq_iff_eq.1 (List.all_eq_true.1 hall false hfalse)
      rw [← ht] at hf
      cases hf

theorem State.openP1_opens (s : State) : s.openP1.bit F.PRES_STATUS_P1_OPEN = true ∧ s.openP1.fld F.PRES_STATUS_P1_REMAIN = 60 ∧
    s.openP1.pres.p1Ms = 60000 ∧ s.openP1.pres.reached = true ∧ s.openP1.bit F.PRES_STATUS_P2 = (s.fld F.SEAL_STATE_STATE == 2) := by
  unfold State.openP1
  extract_lets s1
  have hfld (q : PresState) (f : Field) (h : f.addr ≠ 0x30004) :
      ({ s1 with pres := q } : State).fld f = ((s.setFld F.PRES_STATUS_P1_OPEN 1).setFld F.PRES_STATUS_P1_REMAIN 60).fld f :=
    State.fld_raise_ne _ _ h
  refine ⟨?opened, ?remain, (State.held_refreshP2 _).2, (State.held_refreshP2 _).1, (State.p2_refreshP2 _).trans ?p2⟩
  case opened =>
    unfold State.bit
    rw [State.fld_refreshP2 _ (.inr (.inr (by decide))) (.inr (.inl (by decide))) (by decide) (by decide), hfld _ _ (by decide),
      State.fld_setFld_apart _ _ _ _ (.inr (.inl (by decide))), State.fld_setFld _ _ _ (by decide)]
    rfl
  case remain =>
    rw [State.fld_refreshP2 _ (.inr (.inr (by decide))) (.inr (.inr (by decide))) (by decide) (by decide), hfld _ _ (by decide),
      State.fld_setFld _ _ _ (by decide)]
    rfl
  case p2 =>
    rw [State.p2Now, hfld _ _ (by decide), State.fld_setFld_apart _ _ _ _ (.inl (by decide)),
      State.fld_setFld_apart _ _ _ _ (.inl (by decide))]
    rfl

/-- R158: the seal is not OPEN, and P2 has gone. -/
theorem State.sealClose_closes (s : State) :
    let t := ((s.setFld F.SEAL_STATE_STATE 1).raise causePresence).refreshP2
    t.fld F.SEAL_STATE_STATE = 1 ∧ t.fld F.SEAL_STATE_SEAL_OPEN_COUNT = s.fld F.SEAL_STATE_SEAL_OPEN_COUNT ∧
      t.bit F.PRES_STATUS_P2 = false := by
  intro t
  have hstate : ((s.setFld F.SEAL_STATE_STATE 1).raise causePresence).fld F.SEAL_STATE_STATE = 1 :=
    (State.fld_raise_ne _ _ (by decide)).trans (State.fld_setFld s _ 1 (by decide))
  refine ⟨?_, ?_, ?_⟩
  · rw [State.fld_refreshP2 _ (.inl (by decide)) (.inl (by decide)) (by decide) (by decide), hstate]
  · rw [State.fld_refreshP2 _ (.inl (by decide)) (.inl (by decide)) (by decide) (by decide), State.fld_raise_ne _ _ (by decide),
      State.fld_setFld_apart _ _ _ _ (.inr (.inl (by decide)))]
  · rw [State.p2_refreshP2, State.p2Now, hstate]
    simp

/-- R158, R162, R163: the seal opens, and is counted. -/
theorem State.sealOpen_opens (s : State) : s.sealOpen.fld F.SEAL_STATE_STATE = 2 ∧
    s.sealOpen.fld F.SEAL_STATE_SEAL_OPEN_COUNT = min 65535 (s.fld F.SEAL_STATE_SEAL_OPEN_COUNT + 1) ∧
    s.sealOpen.fld F.SEAL_STATE_FOUND_OPEN_AT_START =
      (if s.fld F.SEAL_STATE_STATE = 0 then 1 else s.fld F.SEAL_STATE_FOUND_OPEN_AT_START) ∧
    s.sealOpen.bit F.PRES_STATUS_P2 = s.pres.reached := by
  unfold State.sealOpen
  extract_lets found s1 s2 s3
  have h1 : s1.fld F.SEAL_STATE_STATE = 2 := State.fld_setFld _ _ 2 (by decide)
  have hcount1 : s1.fld F.SEAL_STATE_SEAL_OPEN_COUNT = min 65535 (s.fld F.SEAL_STATE_SEAL_OPEN_COUNT + 1) := by
    rw [State.fld_setFld_apart _ _ _ _ (.inr (.inl (by decide))), State.satAdd, State.fld_setFld _ _ _ (by decide)]
    exact Nat.mod_eq_of_lt (Nat.lt_succ_of_le (Nat.min_le_left _ _))
  have hfound1 : s1.fld F.SEAL_STATE_FOUND_OPEN_AT_START = s.fld F.SEAL_STATE_FOUND_OPEN_AT_START := by
    rw [State.fld_setFld_apart _ _ _ _ (.inr (.inl (by decide))), State.satAdd,
      State.fld_setFld_apart _ _ _ _ (.inr (.inr (by decide)))]
  have h2 (f : Field) (hf : F.SEAL_STATE_FOUND_OPEN_AT_START.apart f) : s2.fld f = s1.fld f := by
    unfold s2
    split_ifs
    · exact s1.fld_setFld_apart _ f 1 hf
    · rfl
  have h3 (f : Field) (hf : f.addr = 0x44) : s3.fld f = s2.fld f := by
    rw [State.fld_refreshP2 _ (.inl (by rw [hf]; decide)) (.inl (by rw [hf]; decide)) (by rw [hf]; decide) (by rw [hf]; decide),
      State.fld_raise_ne _ _ (by rw [hf]; decide)]
  have hreached : s2.pres.reached = s.pres.reached := by
    unfold s2
    split_ifs <;> rfl
  refine ⟨?state, ?count, ?found, ?p2⟩
  case state =>
    rw [State.fld_pushEvent _ _ _ (.inr (.inr (by decide))), h3 _ rfl, h2 _ (.inr (.inr (by decide))), h1]
  case count =>
    rw [State.fld_pushEvent _ _ _ (.inr (.inl (by decide))), h3 _ rfl, h2 _ (.inr (.inl (by decide))), hcount1]
  case found =>
    rw [State.fld_pushEvent _ _ _ (.inr (.inr (by decide))), h3 _ rfl]
    unfold s2 found
    simp only [beq_iff_eq]
    split_ifs
    · exact State.fld_setFld _ _ 1 (by decide)
    · exact hfound1
  case p2 =>
    unfold State.bit
    rw [State.fld_pushEvent _ _ _ (.inl (by decide))]
    refine (State.p2_refreshP2 _).trans ?_
    rw [State.p2Now, State.fld_raise_ne _ _ (by decide), h2 _ (.inr (.inr (by decide))), h1, State.raise_pres, hreached]
    simp

/-- Settles O32: each clause by the lemma on its event. -/
theorem presence : Obligations.Presence := by
  unfold Obligations.Presence
  refine ⟨?press, ?mixed, ?vpp, ?relock, ?p1Open, ?p1Early, ?p1Close, ?p1Runs, ?good, ?bad, ?sealOpens, ?sealCloses, ?sealStays⟩
  case press =>
    intro s b hoff hb u
    rw [show exec (.svcDebounceChange (List.replicate 20 b)) s = execSvcDebounceChange (List.replicate 20 b) s from rfl,
      execSvcDebounceChange, svcChange_replicate hb, State.ifLive_of_on hoff]
    rfl
  case mixed =>
    intro s l h
    rw [show exec (.svcDebounceChange l) s = execSvcDebounceChange l s from rfl, execSvcDebounceChange, svcChange_mixed h]
    exact congrArg _ (ite_self s)
  case vpp =>
    intro s ok hoff
    exact congrArg _ (State.ifLive_of_on hoff _)
  case relock =>
    intro s rose hoff hopen hdue
    rw [show exec (.debugRelock rose) s = execDebugRelock rose s from rfl, execDebugRelock, State.ifLive_of_on hoff,
      if_pos ⟨hopen, hdue⟩]
  case p1Open =>
    intro s hoff hlow hheld hreached
    refine ⟨s.openP1, ?_, s.openP1_opens⟩
    rw [show exec .p1WindowOpen s = execP1WindowOpen s from rfl, execP1WindowOpen, State.ifLive_of_on hoff,
      if_pos ⟨hlow, hheld, by rw [hreached]; rfl⟩]
  case p1Early =>
    intro s h
    rw [show exec .p1WindowOpen s = execP1WindowOpen s from rfl, execP1WindowOpen, if_neg ?_]
    · exact congrArg _ (ite_self s)
    · rintro ⟨hlow, hheld, -⟩
      rcases h with h | h
      · rw [h] at hlow
        cases hlow
      · omega
  case p1Close =>
    intro s hoff hopen hms
    rw [show exec .p1WindowClose s = execP1WindowClose s from rfl, execP1WindowClose, State.ifLive_of_on hoff, if_pos ⟨hopen, hms⟩]
  case p1Runs =>
    intro s h
    rw [show exec .p1WindowClose s = execP1WindowClose s from rfl, execP1WindowClose, if_neg (by omega)]
    exact congrArg _ (ite_self s)
  case good =>
    intro s hoff
    exact congrArg _ (State.ifLive_of_on hoff _)
  case bad =>
    intro s a b hoff h
    have hbad : (a && !b) = false := by
      rw [Bool.eq_false_iff]
      simpa using h
    rw [show exec (.sealPulseSample a b) s = execSealPulseSample a b s from rfl, execSealPulseSample, State.ifLive_of_on hoff, hbad]
    rfl
  case sealOpens =>
    intro s hoff hbad hstate
    refine ⟨s.sealOpen, ?_, s.sealOpen_opens⟩
    rw [show exec .sealStateChange s = execSealStateChange s from rfl, execSealStateChange, State.ifLive_of_on hoff,
      if_pos ⟨hbad, hstate⟩]
  case sealCloses =>
    intro s hoff hbad hgood hstate
    refine ⟨((s.setFld F.SEAL_STATE_STATE 1).raise causePresence).refreshP2, ?_, s.sealClose_closes⟩
    rw [show exec .sealStateChange s = execSealStateChange s from rfl, execSealStateChange, State.ifLive_of_on hoff,
      if_neg (by omega), if_pos ⟨hgood, hstate⟩]
  case sealStays =>
    intro s hbad hgood
    rw [show exec .sealStateChange s = execSealStateChange s from rfl, execSealStateChange, if_neg (by omega), if_neg (by omega)]
    exact congrArg _ (ite_self s)

end Sys2Proof.Machine
end

section
/-! PROOFS. The backlights, the GPIO pins and the system tick (O60). -/

namespace Sys2Proof.Machine

/-! ### Backlights (R612 to R616, R856) -/

/-- An operation on every member of a list reaches member `a`: the others keep what `a` starts from and what it ends with. -/
theorem foldl_reaches {α : Type} {f : State → α → State} {I J : State → Prop} {a : α} (hbefore : ∀ u b, b ≠ a → I u → I (f u b))
    (hreach : ∀ u, I u → J (f u a)) (hafter : ∀ u b, b ≠ a → J u → J (f u b)) :
    ∀ (l : List α) (s : State), l.Nodup → a ∈ l → I s → J (l.foldl f s) := by
  have hkeeps : ∀ (l : List α) (u : State), a ∉ l → J u → J (l.foldl f u) := by
    intro l
    induction l with
    | nil => exact fun _ _ h => h
    | cons b l ih =>
      intro u hmem hu
      rw [List.mem_cons, not_or] at hmem
      exact ih _ hmem.2 (hafter _ _ (Ne.symm hmem.1) hu)
  intro l
  induction l with
  | nil => exact fun _ _ hmem _ => absurd hmem List.not_mem_nil
  | cons b l ih =>
    intro s hnodup hmem hs
    obtain ⟨hb, hl⟩ := List.nodup_cons.1 hnodup
    by_cases hab : b = a
    · subst hab
      exact hkeeps l _ hb (hreach s hs)
    · exact ih _ hl ((List.mem_cons.1 hmem).resolve_left (Ne.symm hab)) (hbefore s b hab hs)

/-- What a step leaves, every step of a list leaves. -/
theorem foldl_leaves {α : Type} {R : State → State → Prop} {f : State → α → State} (hrefl : ∀ s, R s s)
    (htrans : ∀ {s t u}, R s t → R t u → R s u) (hf : ∀ u a, R u (f u a)) : ∀ (l : List α) (s : State), R s (l.foldl f s)
  | [], s => hrefl s
  | a :: l, s => htrans (hf s a) (foldl_leaves hrefl htrans hf l _)

/-- The heads, and of the registers BL_STATUS of head `h` alone. -/
def State.OnlyBacklight (h : Nat) (s t : State) : Prop :=
  t = { s with heads := t.heads, regs := t.regs } ∧ ∀ a, a ≠ 0x80034 + 0x10000 * h → t.rd a = s.rd a

/-- The heads, and of the registers the BL_STATUS of each alone. -/
def State.OnlyBacklights (s t : State) : Prop :=
  t = { s with heads := t.heads, regs := t.regs } ∧ ∀ a, (∀ k, a ≠ 0x80034 + 0x10000 * k) → t.rd a = s.rd a

theorem State.headsRegs_trans {s t u : State} (h : t = { s with heads := t.heads, regs := t.regs })
    (k : u = { t with heads := u.heads, regs := u.regs }) : u = { s with heads := u.heads, regs := u.regs } :=
  k.trans (by rw [h])

theorem State.OnlyBacklight.trans {h : Nat} {s t u : State} (hst : s.OnlyBacklight h t) (htu : t.OnlyBacklight h u) :
    s.OnlyBacklight h u :=
  ⟨State.headsRegs_trans hst.1 htu.1, fun a ha => (htu.2 a ha).trans (hst.2 a ha)⟩

theorem State.OnlyBacklight.all {h : Nat} {s t : State} (hst : s.OnlyBacklight h t) : s.OnlyBacklights t :=
  ⟨hst.1, fun a ha => hst.2 a (ha h)⟩

theorem State.OnlyBacklights.refl (s : State) : s.OnlyBacklights s := ⟨rfl, fun _ _ => rfl⟩

theorem State.OnlyBacklights.trans {s t u : State} (hst : s.OnlyBacklights t) (htu : t.OnlyBacklights u) : s.OnlyBacklights u :=
  ⟨State.headsRegs_trans hst.1 htu.1, fun a ha => (htu.2 a ha).trans (hst.2 a ha)⟩

theorem State.setFld_onlyBacklight (s : State) {f : Field} {h : Nat} (hf : f.addr = 0x80034 + 0x10000 * h) (v : Nat) :
    s.OnlyBacklight h (s.setFld f v) :=
  ⟨rfl, fun a ha => s.rd_setFld_ne f v a (by rw [hf]; exact Ne.symm ha)⟩

theorem State.showLevel_onlyBacklight (s : State) (h : Nat) : s.OnlyBacklight h (s.showLevel h) := by
  unfold State.showLevel
  extract_lets own lv s1
  have h1 : s.OnlyBacklight h s1 := s.setFld_onlyBacklight rfl lv
  split_ifs
  · exact h1
  · exact h1.trans (s1.setFld_onlyBacklight rfl lv)

theorem State.regulate_onlyBacklight (s : State) (h : Nat) : s.OnlyBacklight h (s.regulate h) := by
  unfold State.regulate
  split_ifs
  · exact s.showLevel_onlyBacklight h
  · extract_lets i full bl d low high d' s1
    have h1 : s.OnlyBacklight h s1 := s.setFld_onlyBacklight rfl d'
    split_ifs
    · exact h1.trans (s1.setFld_onlyBacklight rfl 1)
    · exact h1

theorem State.OnlyBacklight.fld {h : Nat} {s t : State} (hst : s.OnlyBacklight h t) {f : Field} (hf : f.addr ≠ 0x80034 + 0x10000 * h) :
    t.fld f = s.fld f := by
  unfold State.fld
  rw [hst.2 f.addr hf]

theorem State.OnlyBacklights.fld {s t : State} (hst : s.OnlyBacklights t) (f : Field) (hf : f.addr % 0x10 ≠ 4) :
    t.fld f = s.fld f := by
  unfold State.fld
  rw [hst.2 f.addr (fun k hk => hf (by omega))]

theorem State.OnlyBacklights.blLimited {s t : State} (h : s.OnlyBacklights t) : t.blLimited = s.blLimited := by
  simp only [State.blLimited, State.bit, h.fld F.PWR_STATE_RIDE (by decide), h.fld F.PWR_STATE_PARKED (by decide)]

theorem State.OnlyBacklights.regOn {s t : State} (h : s.OnlyBacklights t) (g : Nat) : t.regOn g = s.regOn g := by
  simp only [State.regOn, State.prof, State.bit, h.fld (F.HEAD_BL_REG g) (by simp only [F.HEAD_BL_REG]; omega),
    h.fld (F.HEAD_BL_REG_I_FULL g) (by simp only [F.HEAD_BL_REG_I_FULL]; omega),
    h.fld (F.HEAD_PROFILE_ENTRY g 8) (by simp only [F.HEAD_PROFILE_ENTRY]; omega)]

theorem State.OnlyBacklights.scaledOf {s t : State} (h : s.OnlyBacklights t) (n : Nat) : t.scaledOf n = s.scaledOf n :=
  congrArg (signedOf 32) (h.fld (F.SENSE_CH_SCALED_SCALED n) (by simp only [F.SENSE_CH_SCALED_SCALED]; omega))

theorem State.OnlyBacklights.blTarget {s t : State} (h : s.OnlyBacklights t) (g : Nat) : t.blTarget g = s.blTarget g := by
  unfold State.blTarget
  rw [h.fld (F.HEAD_BL_LEVEL g) (by simp only [F.HEAD_BL_LEVEL]; omega),
    h.fld (F.HEAD_BL_MODE g) (by simp only [F.HEAD_BL_MODE]; omega),
    h.fld (F.HEAD_BL_LEVEL_DARK g) (by simp only [F.HEAD_BL_LEVEL_DARK]; omega),
    h.fld (F.HEAD_BL_AMB_LUX_HI g) (by simp only [F.HEAD_BL_AMB_LUX_HI]; omega),
    h.fld (F.HEAD_BL_AMB_LUX_LO g) (by simp only [F.HEAD_BL_AMB_LUX_LO]; omega),
    h.fld (F.HEAD_BL_ALS g) (by simp only [F.HEAD_BL_ALS]; omega), h.scaledOf]

theorem State.blNow_showLevel (s : State) (h : Nat) : (s.showLevel h).fld (F.HEAD_BL_STATUS_BL_NOW h) =
    (if s.blLimited then min (s.head h).level (s.fld F.PWR_BL_FLOOR_LEVEL) else (s.head h).level) % 2 ^ 11 := by
  unfold State.showLevel
  extract_lets own lv s1
  have h1 : s1.fld (F.HEAD_BL_STATUS_BL_NOW h) = lv % 2 ^ 11 :=
    s.fld_setFld (F.HEAD_BL_STATUS_BL_NOW h) lv (by simp [F.HEAD_BL_STATUS_BL_NOW])
  refine Eq.trans ?_ h1
  split_ifs
  · rfl
  · exact s1.fld_setFld_apart _ _ lv (.inr (.inl (by simp [F.HEAD_BL_STATUS_BL_NOW, F.HEAD_BL_STATUS_DUTY])))

theorem State.OnlyBacklights.blNow_showLevel {s u : State} (hu : s.OnlyBacklights u) (h : Nat) :
    (u.showLevel h).fld (F.HEAD_BL_STATUS_BL_NOW h) =
      (if s.blLimited then min (u.head h).level (s.fld F.PWR_BL_FLOOR_LEVEL) else (u.head h).level) % 2 ^ 11 := by
  rw [State.blNow_showLevel, hu.blLimited, hu.fld F.PWR_BL_FLOOR_LEVEL (by decide)]

@[simp] theorem State.heads_showLevel (s : State) (h : Nat) : (s.showLevel h).heads = s.heads := by
  unfold State.showLevel
  dsimp only
  split_ifs <;> rfl

theorem State.head_showLevel (s : State) (h g : Nat) : (s.showLevel h).head g = s.head g := by
  rw [State.head, State.head, State.heads_showLevel]

theorem stepLevel_towards (a b : Nat) : stepLevel a b ≤ a + 16 ∧ a ≤ stepLevel a b + 16 ∧
    (a ≤ b → a ≤ stepLevel a b ∧ stepLevel a b ≤ b) ∧ (b ≤ a → b ≤ stepLevel a b ∧ stepLevel a b ≤ a) := by
  unfold stepLevel
  split <;> omega

/-- R613: the level of head `h` for this 10 ms, and what BL_NOW shows of it. -/
def State.stepBacklight (s : State) (h : Nat) : State :=
  (s.setHead h { s.head h with level := stepLevel (s.head h).level (s.blTarget h) }).showLevel h

theorem State.setHead_onlyBacklights (s : State) (h : Nat) (x : HeadState) : s.OnlyBacklights (s.setHead h x) :=
  ⟨rfl, fun _ _ => rfl⟩

theorem State.stepBacklight_onlyBacklights (s : State) (h : Nat) : s.OnlyBacklights (s.stepBacklight h) :=
  (s.setHead_onlyBacklights h _).trans (State.showLevel_onlyBacklight _ h).all

theorem State.head_stepBacklight_ne (s : State) {k h : Nat} (hk : k ≠ h) : (s.stepBacklight k).head h = s.head h := by
  rw [State.stepBacklight, State.head_showLevel, State.head_setHead, if_neg (fun hc => hk hc.1)]

theorem State.head_stepBacklight (s : State) {h : Nat} (hh : h < 4) :
    ((s.stepBacklight h).head h).level = stepLevel (s.head h).level (s.blTarget h) := by
  rw [State.stepBacklight, State.head_showLevel, State.head_setHead, if_pos ⟨rfl, hh⟩]

theorem State.blNow_stepBacklight (s : State) {h : Nat} (hh : h < 4) : (s.stepBacklight h).fld (F.HEAD_BL_STATUS_BL_NOW h) =
    (if s.blLimited then min (stepLevel (s.head h).level (s.blTarget h)) (s.fld F.PWR_BL_FLOOR_LEVEL)
      else stepLevel (s.head h).level (s.blTarget h)) % 2 ^ 11 := by
  refine ((s.setHead_onlyBacklights h _).blNow_showLevel h).trans ?_
  rw [← State.head_showLevel _ h h, ← State.stepBacklight, s.head_stepBacklight hh]

/-- R613, R856: every head's level moves once. -/
theorem State.level_stepBacklights (s : State) {h : Nat} (hh : h < 4) :
    ((s.each [0, 1, 2, 3] State.stepBacklight).head h).level = stepLevel (s.head h).level (s.blTarget h) ∧
      (s.each [0, 1, 2, 3] State.stepBacklight).fld (F.HEAD_BL_STATUS_BL_NOW h) =
        (if s.blLimited then min (stepLevel (s.head h).level (s.blTarget h)) (s.fld F.PWR_BL_FLOOR_LEVEL)
          else stepLevel (s.head h).level (s.blTarget h)) % 2 ^ 11 := by
  refine foldl_reaches (a := h) (I := fun u => s.OnlyBacklights u ∧ u.head h = s.head h)
    (J := fun u => (u.head h).level = stepLevel (s.head h).level (s.blTarget h) ∧ u.fld (F.HEAD_BL_STATUS_BL_NOW h) =
        (if s.blLimited then min (stepLevel (s.head h).level (s.blTarget h)) (s.fld F.PWR_BL_FLOOR_LEVEL)
          else stepLevel (s.head h).level (s.blTarget h)) % 2 ^ 11)
    ?before ?reach ?after [0, 1, 2, 3] s (by decide) (by simp; omega) ⟨.refl s, rfl⟩
  case before =>
    rintro u k hk ⟨hu, hhead⟩
    exact ⟨hu.trans (u.stepBacklight_onlyBacklights k), (u.head_stepBacklight_ne hk).trans hhead⟩
  case reach =>
    rintro u ⟨hu, hhead⟩
    rw [u.head_stepBacklight hh, u.blNow_stepBacklight hh, hhead, hu.blTarget, hu.blLimited,
      hu.fld F.PWR_BL_FLOOR_LEVEL (by decide)]
    exact ⟨rfl, rfl⟩
  case after =>
    rintro u k hk ⟨hlevel, hnow⟩
    refine ⟨(congrArg HeadState.level (u.head_stepBacklight_ne hk)).trans hlevel, Eq.trans ?_ hnow⟩
    exact (State.showLevel_onlyBacklight _ k).fld (by simp only [F.HEAD_BL_STATUS_BL_NOW]; omega)

/-- R614: DUTY is regulated by one. -/
theorem State.duty_regulate (s : State) {h : Nat} (hreg : s.regOn h = true) (hd : s.fld (F.HEAD_BL_STATUS_DUTY h) ≤ 1024) :
    (s.regulate h).fld (F.HEAD_BL_STATUS_DUTY h) ≤ s.fld (F.HEAD_BL_STATUS_DUTY h) + 1 ∧
      s.fld (F.HEAD_BL_STATUS_DUTY h) ≤ (s.regulate h).fld (F.HEAD_BL_STATUS_DUTY h) + 1 := by
  unfold State.regulate
  rw [if_neg (by simp [hreg])]
  extract_lets i full bl d low high d' s1
  have hd' : d' ≤ d + 1 ∧ d ≤ d' + 1 ∧ d' ≤ 1024 := by
    unfold d'
    split_ifs <;> omega
  have h1 : s1.fld (F.HEAD_BL_STATUS_DUTY h) = d' :=
    (s.fld_setFld (F.HEAD_BL_STATUS_DUTY h) d' (by simp [F.HEAD_BL_STATUS_DUTY])).trans (Nat.mod_eq_of_lt (by simp only [F.HEAD_BL_STATUS_DUTY]; omega))
  have hlimit : (if (low || high) && (d' == 0 || d' == 1024) then s1.setFld (F.HEAD_BL_STATUS_REG_LIMIT h) 1 else s1).fld
      (F.HEAD_BL_STATUS_DUTY h) = d' := by
    split_ifs
    · exact (s1.fld_setFld_apart _ _ 1 (.inr (.inr (by simp [F.HEAD_BL_STATUS_DUTY, F.HEAD_BL_STATUS_REG_LIMIT])))).trans h1
    · exact h1
  rw [hlimit]
  exact ⟨hd'.1, hd'.2.1⟩

theorem State.duty_regulations (s : State) {h : Nat} (hh : h < 4) (hreg : s.regOn h = true)
    (hd : s.fld (F.HEAD_BL_STATUS_DUTY h) ≤ 1024) :
    (s.each [0, 1, 2, 3] State.regulate).fld (F.HEAD_BL_STATUS_DUTY h) ≤ s.fld (F.HEAD_BL_STATUS_DUTY h) + 1 ∧
      s.fld (F.HEAD_BL_STATUS_DUTY h) ≤ (s.each [0, 1, 2, 3] State.regulate).fld (F.HEAD_BL_STATUS_DUTY h) + 1 := by
  have hne (u : State) (k : Nat) (hk : k ≠ h) : (u.regulate k).fld (F.HEAD_BL_STATUS_DUTY h) = u.fld (F.HEAD_BL_STATUS_DUTY h) :=
    (u.regulate_onlyBacklight k).fld (by simp only [F.HEAD_BL_STATUS_DUTY]; omega)
  refine foldl_reaches (a := h) (I := fun u => s.OnlyBacklights u ∧ u.fld (F.HEAD_BL_STATUS_DUTY h) = s.fld (F.HEAD_BL_STATUS_DUTY h))
    (J := fun u => u.fld (F.HEAD_BL_STATUS_DUTY h) ≤ s.fld (F.HEAD_BL_STATUS_DUTY h) + 1 ∧
      s.fld (F.HEAD_BL_STATUS_DUTY h) ≤ u.fld (F.HEAD_BL_STATUS_DUTY h) + 1)
    ?before ?reach ?after [0, 1, 2, 3] s (by decide) (by simp; omega) ⟨.refl s, rfl⟩
  case before =>
    rintro u k hk ⟨hu, hduty⟩
    exact ⟨hu.trans (u.regulate_onlyBacklight k).all, (hne u k hk).trans hduty⟩
  case reach =>
    rintro u ⟨hu, hduty⟩
    rw [← hduty]
    exact u.duty_regulate ((hu.regOn h).trans hreg) (hduty ▸ hd)
  case after =>
    rintro u k hk hduty
    rwa [hne u k hk]

/-- Regulation leaves the heads. -/
theorem State.regulate_regs (s : State) (h : Nat) : s.regulate h = { s with regs := (s.regulate h).regs } := by
  unfold State.regulate State.showLevel
  dsimp only
  split_ifs <;> rfl

/-! ### The GPIO pins (R904 to R906) -/

theorem bitsOf_one (x n : Nat) : bitsOf x n 1 = (x.testBit n).toNat := by
  rw [Nat.toNat_testBit]
  rfl

/-- A number made of chosen bits. -/
theorem testBit_sum_range (b : Nat → Bool) (m : Nat) : ((List.range m).map (fun n => if b n then 2 ^ n else 0)).sum < 2 ^ m ∧
    ∀ n, ((List.range m).map (fun n => if b n then 2 ^ n else 0)).sum.testBit n = (decide (n < m) && b n) := by
  induction m with
  | zero => simp
  | succ m ih =>
    obtain ⟨hlt, hbit⟩ := ih
    rw [List.range_succ, List.map_append, List.sum_append, List.map_singleton, List.sum_singleton]
    cases hm : b m with
    | false =>
      refine ⟨Nat.lt_trans hlt (Nat.pow_lt_pow_right (by decide) (Nat.lt_succ_self m)), fun n => ?_⟩
      rw [if_neg (by decide), Nat.add_zero, hbit]
      by_cases hn : n = m
      · simp [hn, hm]
      · rw [decide_eq_decide.2 (show n < m ↔ n < m + 1 by omega)]
    | true =>
      rw [if_pos rfl, Nat.add_comm]
      refine ⟨by rw [Nat.pow_succ]; omega, fun n => ?_⟩
      rcases Nat.lt_trichotomy n m with hn | rfl | hn
      · rw [Nat.testBit_two_pow_add_gt hn, hbit]
        simp [hn, Nat.lt_succ_of_lt hn]
      · simp [Nat.testBit_two_pow_add_eq, hbit, hm]
      · rw [Nat.testBit_lt_two_pow (Nat.lt_of_lt_of_le (show _ < 2 ^ (m + 1) by rw [Nat.pow_succ]; omega)
          (Nat.pow_le_pow_right (by decide) hn))]
        simp [Nat.not_lt.2 hn]

/-- R904: a sampled bit is what the 9840 drives, or what the board does. -/
theorem State.testBit_gpioLevels (s : State) (pins : BitVec 8) {n : Nat} (hn : n < 8) :
    (s.gpioLevels pins).testBit n = (s.gpioDrive n).getD (pins.toNat.testBit n) := by
  unfold State.gpioLevels
  rw [(testBit_sum_range _ 8).2 n]
  cases s.gpioDrive n <;> simp [hn]

theorem State.gpioLevels_lt (s : State) (pins : BitVec 8) : s.gpioLevels pins < 2 ^ 8 := (testBit_sum_range _ 8).1

/-- R905: the state that a sampling of the pins leaves. -/
def State.sampleGpio (s : State) (new : Nat) : State :=
  let old := s.fld F.GPIO_IN_IN
  let rise := new &&& (255 - old) &&& s.fld F.GPIO_EDGE_EN_RISE_EN
  let fall := old &&& (255 - new) &&& s.fld F.GPIO_EDGE_EN_FALL_EN
  let r := s.fld F.GPIO_EVENT_RISE
  let f := s.fld F.GPIO_EVENT_FALL
  let s1 := ((s.setFld F.GPIO_IN_IN new).setFld F.GPIO_EVENT_RISE (r ||| rise)).setFld F.GPIO_EVENT_FALL (f ||| fall)
  if r ||| rise != r || f ||| fall != f then s1.raise causeGpio else s1

theorem execGpioEdge_of_on {s : State} (hs : s.off = false) (pins : BitVec 8) :
    execGpioEdge pins s = .next (s.sampleGpio (s.gpioLevels pins)) :=
  congrArg _ (State.ifLive_of_on hs _)

theorem State.raise_regs_only (s : State) (k : Nat) : s.raise k = { s with regs := (s.raise k).regs } := by
  unfold State.raise
  split <;> rfl

theorem State.sampleGpio_regs (s : State) (new : Nat) : s.sampleGpio new = { s with regs := (s.sampleGpio new).regs } := by
  unfold State.sampleGpio
  extract_lets old rise fall r f s1
  split_ifs
  · exact s1.raise_regs_only _
  · rfl

/-- R905: the bits of GPIO_IN, and the rises that GPIO_EVENT collects. -/
theorem State.sampleGpio_bits (s : State) {new : Nat} (hnew : new < 2 ^ 8) : (s.sampleGpio new).fld F.GPIO_IN_IN = new ∧
    ∀ n, n < 8 → ((s.sampleGpio new).fld F.GPIO_EVENT_RISE).testBit n =
      ((s.fld F.GPIO_EVENT_RISE).testBit n ||
        (new.testBit n && !(s.fld F.GPIO_IN_IN).testBit n && (s.fld F.GPIO_EDGE_EN_RISE_EN).testBit n)) := by
  have hold : s.fld F.GPIO_IN_IN < 2 ^ 8 := Nat.mod_lt _ (by decide)
  unfold State.sampleGpio
  extract_lets old rise fall r f s1
  have hraise (g : Field) (hg : g.addr ≠ 0x30004) :
      (if r ||| rise != r || f ||| fall != f then s1.raise causeGpio else s1).fld g = s1.fld g := by
    split_ifs
    · exact State.fld_raise_ne _ _ hg
    · rfl
  rw [hraise _ (by decide), hraise _ (by decide)]
  refine ⟨?_, fun n hn => ?_⟩
  · rw [State.fld_setFld_apart _ _ _ _ (.inl (by decide)), State.fld_setFld_apart _ _ _ _ (.inl (by decide)),
      State.fld_setFld _ _ _ (by decide)]
    exact Nat.mod_eq_of_lt hnew
  · rw [State.fld_setFld_apart _ _ _ _ (.inr (.inl (by decide))), State.fld_setFld _ _ _ (by decide),
      Nat.testBit_mod_two_pow, Nat.testBit_or, Nat.testBit_and, Nat.testBit_and,
      show 255 - old = 2 ^ 8 - (old + 1) by omega, Nat.testBit_two_pow_sub_succ hold]
    simp [hn, F.GPIO_EVENT_RISE]
    rfl

/-! ### The system tick (R30, R927) -/

theorem State.input_setInput (s : State) (g i : Nat) (x : InputState) :
    (s.setInput g x).input i = if g = i ∧ g < 4 then x else s.input i := by
  simp only [State.input, State.setInput, List.getD_eq_getElem?_getD, Vector.toList_setIfInBounds, List.getElem?_set,
    Vector.length_toList]
  by_cases hgi : g = i
  · subst hgi
    by_cases hg : g < 4 <;> simp [hg]
  · simp [hgi]

/-- Table 10-4: what input `i` of `t` is after one more tick with the sample `g`. -/
def State.Heard (s t : State) (i : Nat) (g : Option InSignal) : Prop :=
  (t.input i).quiet = (s.input i).quiet + 1 ∧ (t.input i).gone = (if t.receives i then 0 else (s.input i).gone + 1) ∧
    (t.input i).signal = (g.map InSignal.on).getD (s.input i).signal ∧ (t.input i).khz = (g.map InSignal.khz).getD (s.input i).khz

/-- Whether a port receives shows in its input alone. -/
theorem State.receives_of_input {s t : State} {i : Nat} (hsignal : (t.input i).signal = (s.input i).signal)
    (hkhz : (t.input i).khz = (s.input i).khz) : t.receives i = s.receives i := by
  simp only [State.receives, hsignal, hkhz]

theorem State.Heard.of_input {s t u : State} {i : Nat} {g : Option InSignal} (h : s.Heard t i g) (hu : u.input i = t.input i) :
    s.Heard u i g := by
  have hreceives : u.receives i = t.receives i :=
    State.receives_of_input (congrArg InputState.signal hu) (congrArg InputState.khz hu)
  rwa [State.Heard, hu, hreceives]

theorem State.hear_heard (s : State) {i : Nat} (hi : i < 4) (g : Option InSignal) : s.Heard (s.hear i g) i g := by
  unfold State.hear
  extract_lets x y t
  have ht : t.input i = y := (State.input_setInput _ _ _ _).trans (if_pos ⟨rfl, hi⟩)
  have hset : (t.setInput i { y with gone := if t.receives i then 0 else x.gone + 1 }).input i =
      { y with gone := if t.receives i then 0 else x.gone + 1 } := (State.input_setInput _ _ _ _).trans (if_pos ⟨rfl, hi⟩)
  have hreceives : (t.setInput i { y with gone := if t.receives i then 0 else x.gone + 1 }).receives i = t.receives i :=
    State.receives_of_input (by rw [hset, ht]) (by rw [hset, ht])
  rw [State.Heard, hreceives, hset]
  exact ⟨rfl, rfl, rfl, rfl⟩

theorem State.input_hear_ne (s : State) {i k : Nat} (hk : k ≠ i) (g : Option InSignal) : (s.hear k g).input i = s.input i := by
  unfold State.hear
  dsimp only
  rw [State.input_setInput, if_neg (fun h => hk h.1), State.input_setInput, if_neg (fun h => hk h.1)]

@[simp] theorem State.saWatch_inputs (s : State) : s.saWatch.inputs = s.inputs := by
  unfold State.saWatch
  dsimp only
  split_ifs <;> rfl

theorem State.hearAll_heard (s : State) (rx : List InSignal) {i : Nat} (hi : i < 4) : s.Heard (s.hearAll rx) i rx[i]? := by
  have heach : s.Heard (s.each [0, 1, 2, 3] (fun s i => s.hear i rx[i]?)) i rx[i]? := by
    refine foldl_reaches (a := i) (I := fun u => u.input i = s.input i) (J := fun u => s.Heard u i rx[i]?)
      ?before ?reach ?after [0, 1, 2, 3] s (by decide) (by simp; omega) rfl
    case before =>
      intro u k hk hu
      exact (u.input_hear_ne hk _).trans hu
    case reach =>
      intro u hu
      have h := u.hear_heard hi rx[i]?
      rwa [State.Heard, hu] at h
    case after =>
      intro u k hk hu
      exact hu.of_input (u.input_hear_ne hk _)
  refine heach.of_input ?_
  rw [State.hearAll, State.input, State.input, State.saWatch_inputs]

/-- What a tick may change besides the count and the edges. -/
def State.TickFrame (s t : State) : Prop :=
  t = { s with
    pres := t.pres, regs := t.regs, cal := t.cal, sense := t.sense, inputs := t.inputs
    boot := { s.boot with saStopped := t.boot.saStopped } }

theorem State.TickFrame.trans {s t u : State} (h : s.TickFrame t) (k : t.TickFrame u) : s.TickFrame u := by
  unfold State.TickFrame at *
  exact k.trans (by rw [h])

theorem State.hearAll_frame (s : State) (rx : List InSignal) : s.hearAll rx =
    { s with inputs := (s.hearAll rx).inputs, boot := { s.boot with saStopped := (s.hearAll rx).boot.saStopped } } := by
  have heach : s.each [0, 1, 2, 3] (fun s i => s.hear i rx[i]?) =
      { s with inputs := (s.each [0, 1, 2, 3] (fun s i => s.hear i rx[i]?)).inputs } :=
    foldl_leaves (R := fun s t => t = { s with inputs := t.inputs }) (fun _ => rfl)
      (fun {s t u} h k => k.trans (by rw [h])) (fun _ _ => rfl) _ _
  unfold State.hearAll State.saWatch
  rw [heach]
  dsimp only
  split_ifs <;> rfl

/-- The head of a tick: the count, the inputs, and the edge of a stopped head A (R29). -/
def State.tickStart (s : State) (rx : List InSignal) : State :=
  let s0 := ({ s with ticks := s.ticks + 1 }).hearAll rx
  if s0.headState 0 = 0 then s0.edge else s0

/-- What the head of a tick changes. -/
def State.StartFrame (s t : State) : Prop :=
  t = { s with
    ticks := s.ticks + 1, inputs := t.inputs
    boot := { s.boot with edges := s.boot.edges + (if s.headState 0 = 0 then 1 else 0), saStopped := t.boot.saStopped } }

/-- The inputs have been heard: of the rest, the edge that no head ties down. -/
theorem State.StartFrame.of_heard {s u : State}
    (hu : u = { s with ticks := s.ticks + 1, inputs := u.inputs, boot := { s.boot with saStopped := u.boot.saStopped } }) :
    s.StartFrame (if u.headState 0 = 0 then u.edge else u) := by
  have hhead : u.headState 0 = s.headState 0 := State.fld_of_regs (by rw [hu]) _
  unfold State.StartFrame
  rw [hhead]
  split_ifs
  · rw [hu]
    rfl
  · exact hu

theorem State.tickStart_frame (s : State) (rx : List InSignal) : s.StartFrame (s.tickStart rx) :=
  .of_heard (State.hearAll_frame { s with ticks := s.ticks + 1 } rx)

theorem State.tickStart_heard (s : State) (rx : List InSignal) {i : Nat} (hi : i < 4) : s.Heard (s.tickStart rx) i rx[i]? := by
  refine State.Heard.of_input (State.hearAll_heard { s with ticks := s.ticks + 1 } rx hi) ?_
  unfold State.tickStart
  dsimp only
  split_ifs <;> rfl

/-- A tick from its head on. -/
theorem State.StartFrame.tick {s u t : State} (hu : s.StartFrame u) (ht : u.TickFrame t) : t.ticks = s.ticks + 1 ∧
    t = { s with
      ticks := t.ticks, pres := t.pres, regs := t.regs, cal := t.cal, sense := t.sense, inputs := t.inputs
      boot := { s.boot with edges := s.boot.edges + (if s.headState 0 = 0 then 1 else 0), saStopped := t.boot.saStopped } } := by
  unfold State.StartFrame at hu
  unfold State.TickFrame at ht
  rw [hu] at ht
  have hticks : t.ticks = s.ticks + 1 := by rw [ht]
  rw [hticks]
  exact ⟨rfl, ht⟩

theorem State.StartFrame.kept {s u : State} (hu : s.StartFrame u) : u.regs = s.regs ∧ u.pres = s.pres ∧ u.cal = s.cal := by
  unfold State.StartFrame at hu
  rw [hu]
  exact ⟨rfl, rfl, rfl⟩

theorem State.presenceMs_frame (s : State) : s.presenceMs = { s with pres := s.presenceMs.pres, regs := s.presenceMs.regs } := rfl

/-- The registers and the sense averages. -/
def State.SenseFrame (s t : State) : Prop := t = { s with regs := t.regs, sense := t.sense }

theorem State.SenseFrame.trans {s t u : State} (h : s.SenseFrame t) (k : t.SenseFrame u) : s.SenseFrame u := by
  unfold State.SenseFrame at *
  exact k.trans (by rw [h])

theorem State.SenseFrame.refl (s : State) : s.SenseFrame s := rfl

theorem State.SenseFrame.setFld {s t : State} (h : s.SenseFrame t) (f : Field) (v : Nat) : s.SenseFrame (t.setFld f v) :=
  State.SenseFrame.trans h rfl

theorem State.slideWindow_frame (s : State) (n : Nat) : s.SenseFrame (s.slideWindow n) := rfl

theorem State.average_frame (s : State) (n : Nat) : s.SenseFrame (s.average n) := by
  unfold State.average
  extract_lets a s1 h sum cnt s2 s3 v
  have h1 : s.SenseFrame s1 := s.slideWindow_frame n
  have h2 : s.SenseFrame s2 := by
    unfold s2
    split_ifs
    · exact h1
    · exact h1.setFld _ _
  have h3 : s.SenseFrame s3 := h2.setFld _ _
  split_ifs
  · exact h3
  · exact (h3.setFld _ _).setFld _ _

theorem State.updateTd_frame (s : State) : s.SenseFrame s.updateTd := by
  unfold State.updateTd
  extract_lets ok sum
  split_ifs
  · exact (State.SenseFrame.refl s).setFld _ _
  · exact ((State.SenseFrame.refl s).setFld _ _).setFld _ _

theorem State.senseTick_frame (s : State) : s.SenseFrame s.senseTick := by
  unfold State.senseTick
  split_ifs
  · exact .refl s
  · exact foldl_leaves (R := State.SenseFrame) .refl State.SenseFrame.trans State.slideWindow_frame _ s
  · exact (foldl_leaves (R := State.SenseFrame) .refl State.SenseFrame.trans State.average_frame _ s).trans
      (State.updateTd_frame _)

theorem State.thermalStep_frame (s : State) : s.SenseFrame s.thermalStep := by
  unfold State.thermalStep
  dsimp only
  split_ifs
  · rfl
  · unfold State.SenseFrame
    rw [State.raise_regs_only]
    rfl

/-- R799, R801: the trims move towards their targets, and not while a run measures. -/
theorem State.trimTick_frame (s : State) :
    s.trimTick = { s with cal := { s.cal with applied := s.trimTick.cal.applied } } ∧
      (s.cal.measuring ≠ none → s.trimTick = s) := by
  have hmoves (l : List Nat) : l.foldl State.stepTrim s = { s with cal := { s.cal with applied := (l.foldl State.stepTrim s).cal.applied } } :=
    foldl_leaves (R := fun s t => t = { s with cal := { s.cal with applied := t.cal.applied } }) (fun _ => rfl)
      (fun {s t u} h k => k.trans (by rw [h])) (fun _ _ => rfl) l s
  unfold State.trimTick State.stepTrims State.trimsHeld
  constructor
  · split_ifs
    · rfl
    · exact hmoves _
    · rfl
  · intro h
    rw [Option.isSome_iff_ne_none.2 h]
    exact ite_self _

/-- R782: one millisecond that a run measures. -/
def State.measureMs (s : State) : State :=
  if s.cal.measuring.isSome then { s with cal := { s.cal with busyMs := s.cal.busyMs + 1 } } else s

theorem State.measureMs_frame (s : State) : s.measureMs = { s with cal := { s.cal with busyMs := s.measureMs.cal.busyMs } } := by
  unfold State.measureMs
  split_ifs <;> rfl

/-- R927: what follows the inputs in a tick: `s` has heard them. -/
def State.tickRest (s : State) : State := s.presenceMs.measureMs.senseTick.trimTick.thermalStep

theorem State.SenseFrame.tickFrame {s t : State} (h : s.SenseFrame t) : s.TickFrame t := by
  unfold State.SenseFrame at h
  unfold State.TickFrame
  rw [h]

theorem State.TickFrame.of_cal {s t : State} (h : t = { s with cal := t.cal }) : s.TickFrame t := by
  unfold State.TickFrame
  rw [h]

theorem State.tickRest_tickFrame (s : State) : s.TickFrame s.tickRest := by
  have hpresence : s.TickFrame s.presenceMs := rfl
  have hmeasure : s.presenceMs.TickFrame s.presenceMs.measureMs := .of_cal (by rw [State.measureMs_frame])
  have htrim (u : State) : u.TickFrame u.trimTick := .of_cal (by rw [u.trimTick_frame.1])
  exact (((hpresence.trans hmeasure).trans (State.senseTick_frame _).tickFrame).trans (htrim _)).trans
    (State.thermalStep_frame _).tickFrame

/-- The parts of the state that the rest of a tick has done with once it has counted the presence times. -/
def State.tickKept (s : State) : Vector InputState 4 × BootState × PresState := (s.inputs, s.boot, s.pres)

theorem State.SenseFrame.parts {s t : State} (h : s.SenseFrame t) : t.tickKept = s.tickKept ∧ t.cal = s.cal := by
  unfold State.SenseFrame at h
  rw [h]
  exact ⟨rfl, rfl⟩

theorem State.tickRest_kept (s : State) : s.tickRest.tickKept = s.presenceMs.tickKept := by
  have hmeasure : s.presenceMs.measureMs.tickKept = s.presenceMs.tickKept := by
    rw [State.measureMs_frame]
    rfl
  have htrim (u : State) : u.trimTick.tickKept = u.tickKept := by
    rw [u.trimTick_frame.1]
    rfl
  exact (((State.thermalStep_frame _).parts.1.trans (htrim _)).trans (State.senseTick_frame _).parts.1).trans hmeasure

theorem State.senseTick_cal (s : State) : s.senseTick.cal = s.cal := s.senseTick_frame.parts.2

theorem State.tickRest_cal (s : State) : s.tickRest.cal = s.presenceMs.measureMs.senseTick.trimTick.cal :=
  (State.thermalStep_frame _).parts.2

theorem State.tickRest_target (s : State) : s.tickRest.cal.target = s.cal.target := by
  rw [State.tickRest_cal, (State.trimTick_frame _).1, State.senseTick_cal, State.measureMs_frame]
  rfl

/-- R782, R801: a run that measures takes the millisecond, and no trim moves. -/
theorem State.tickRest_measures {s : State} (h : s.cal.measuring ≠ none) :
    s.tickRest.cal.busyMs = s.cal.busyMs + 1 ∧ s.tickRest.cal.applied = s.cal.applied := by
  have hms : s.presenceMs.measureMs = { s.presenceMs with cal := { s.cal with busyMs := s.cal.busyMs + 1 } } :=
    if_pos (Option.isSome_iff_ne_none.2 h)
  have hheld := (State.trimTick_frame s.presenceMs.measureMs.senseTick).2 (by rw [State.senseTick_cal, hms]; exact h)
  rw [State.tickRest_cal, hheld, State.senseTick_cal, hms]
  exact ⟨rfl, rfl⟩

theorem exec_systemTick_of_on {s : State} (hs : s.off = false) (rx : List InSignal) :
    exec (.systemTick rx) s = .next (s.tickStart rx).tickRest :=
  congrArg _ (State.ifLive_of_on hs _)

/-- Settles O60: the backlights and the pins by their steps, the tick by the frame of each of its parts. -/
theorem backlightsAndTick : Obligations.BacklightsAndTick := by
  unfold Obligations.BacklightsAndTick
  refine ⟨?levels, stepLevel_towards, ?regulation, ?pwm, ?gpio, ?tick⟩
  case levels =>
    intro s hoff hruntime hhalted hticks hstate
    refine ⟨s.each [0, 1, 2, 3] State.stepBacklight, ?_, ?_, fun h hh => ?_⟩
    · rw [show exec .backlightLevelCompute s = execBacklightLevelCompute s from rfl, execBacklightLevelCompute,
        State.ifLive_of_on hoff, if_pos ⟨by rw [State.runtimeWorks, hruntime, hhalted]; rfl, hticks, hstate⟩]
      rfl
    · exact (foldl_leaves (R := State.OnlyBacklights) .refl State.OnlyBacklights.trans State.stepBacklight_onlyBacklights _ s).1
    · obtain ⟨hlevel, hnow⟩ := s.level_stepBacklights hh
      rw [hlevel]
      exact ⟨rfl, hnow⟩
  case regulation =>
    intro s hoff hruntime hstate
    refine ⟨fun hnone => ⟨s.each [0, 1, 2, 3] State.regulate, ?_, ?_, fun h hh => s.duty_regulations hh⟩, fun hsome => ?_⟩
    · rw [show exec .blCurrentRegulation s = execBlCurrentRegulation s from rfl, execBlCurrentRegulation,
        State.ifLive_of_on hoff, if_pos ⟨hruntime, hstate, by rw [hnone]; rfl⟩]
    · exact foldl_leaves (R := fun s t => t = { s with regs := t.regs }) (fun _ => rfl)
        (fun {s t u} h k => k.trans (by rw [h])) State.regulate_regs _ s
    · rw [show exec .blCurrentRegulation s = execBlCurrentRegulation s from rfl, execBlCurrentRegulation,
        State.ifLive_of_on hoff, if_neg (fun h => hsome (Option.isNone_iff_eq_none.1 h.2.2))]
  case pwm =>
    intro s h hoff
    exact congrArg _ (State.ifLive_of_on hoff _)
  case gpio =>
    intro s pins hoff
    obtain ⟨hin, hrise⟩ := s.sampleGpio_bits (s.gpioLevels_lt pins)
    refine ⟨s.sampleGpio (s.gpioLevels pins), execGpioEdge_of_on hoff pins, s.sampleGpio_regs _, ?input, ?driven, ?rises, ?kept⟩
    case input =>
      intro n hn hnone
      rw [hin, bitsOf_one, s.testBit_gpioLevels pins hn, hnone]
      cases pins.toNat.testBit n <;> rfl
    case driven =>
      intro n b hn hsome
      rw [hin, bitsOf_one, s.testBit_gpioLevels pins hn, hsome]
      cases b <;> rfl
    case rises =>
      intro n hn hlow hhigh hen
      rw [hin] at hhigh
      rw [bitsOf_one] at hlow hhigh hen ⊢
      rw [hrise n hn, Bool.toNat_eq_zero.1 hlow, Bool.toNat_eq_one.1 hhigh, Bool.toNat_eq_one.1 hen]
      simp
    case kept =>
      intro n hn hen
      rw [bitsOf_one] at hen
      rw [bitsOf_one, bitsOf_one, hrise n hn, Bool.toNat_eq_zero.1 hen]
      simp
  case tick =>
    intro s rx hoff
    have hstart := s.tickStart_frame rx
    obtain ⟨hregs, hpres, hcal⟩ := hstart.kept
    obtain ⟨hticks, hframe⟩ := hstart.tick (State.tickRest_tickFrame _)
    have hkept := State.tickRest_kept (s.tickStart rx)
    refine ⟨_, exec_systemTick_of_on hoff rx, hticks, hframe, fun i hi => ?inputs, ?target, fun hlow => ?held, fun h => ?measures⟩
    case inputs =>
      have hinputs : (s.tickStart rx).tickRest.inputs = (s.tickStart rx).inputs := congrArg Prod.fst hkept
      obtain ⟨hquiet, hgone, hsignal, hkhz⟩ := (s.tickStart_heard rx hi).of_input
        (show (s.tickStart rx).tickRest.input i = _ by rw [State.input, State.input, hinputs])
      refine ⟨hquiet, hgone, fun g hg => ?_, fun hg => ?_⟩
      · rw [hsignal, hkhz, hg]
        exact ⟨rfl, rfl⟩
      · rw [hsignal, hkhz, hg]
        exact ⟨rfl, rfl⟩
    case target => rw [State.tickRest_target, hcal]
    case held =>
      have hlow' : (s.tickStart rx).bit F.PRES_STATUS_SVC_LOW = true := by
        rw [State.bit, State.fld_of_regs hregs]
        exact hlow
      have hms : (s.tickStart rx).tickRest.pres = (s.tickStart rx).presenceMs.pres := congrArg (fun p => p.2.2) hkept
      rw [hms, ← hpres]
      exact if_pos hlow'
    case measures =>
      obtain ⟨hbusy, happlied⟩ := State.tickRest_measures (s := s.tickStart rx) (by rwa [hcal])
      rw [hbusy, happlied, hcal]
      exact ⟨rfl, rfl⟩

end Sys2Proof.Machine
end

section
/-! PROOFS. The fuses, left alone by the operations of the rows that are no command of the catalogue. -/

namespace Sys2Proof.Machine
open State (KeepsStart)

/-! ### What the operations of the other rows leave: the fuses -/

@[simp] theorem State.domainUp_fuses (s : State) (n : Nat) (repair : Word) : (s.domainUp n repair).fuses = s.fuses := by
  have hinput (u : State) (i : Nat) : (u.inputUp i).fuses = u.fuses := (u.inputUp_keepsStart i).spares.1
  have hicons (u : State) : u.iconsRestore.fuses = u.fuses := u.iconsRestore_keepsStart.spares.1
  have hdue (u : State) (l : List Nat) : (u.each l (fun s h => if s.profiled h then s.tablesDue h else s)).fuses = u.fuses :=
    State.each_fuses (fun u a => by simp) l u
  unfold State.domainUp
  extract_lets s1
  have h1 : s1.fuses = s.fuses := (State.loadTrims_keepsStart _ _).spares.1.trans (s.powerUp_spares n repair).1
  split_ifs
  · rfl
  · rw [hinput, hinput, h1]
  · rw [hinput, hinput, h1]
  · rw [hicons, h1]
  · rw [hdue, h1]
  · exact h1

@[simp] theorem State.latchStrap_fuses (s : State) (prof : Nat) : (s.latchStrap prof).fuses = s.fuses := by
  simp [State.latchStrap]

@[simp] theorem State.refillRows_fuses (n : Nat) (s : State) : (State.refillRows n s).fuses = s.fuses := by
  induction n generalizing s with
  | zero => rfl
  | succ n ih =>
    unfold State.refillRows
    split
    · rfl
    · split
      · exact ih _
      · rfl

@[simp] theorem State.refill_fuses (s : State) : s.refill.fuses = s.fuses := State.refillRows_fuses _ s

@[simp] theorem State.bufferPop_fuses (s : State) (c : Nat) : (s.bufferPop c).fuses = s.fuses := by
  unfold State.bufferPop
  dsimp only
  (repeat' split) <;> simp

@[simp] theorem State.popIfDrain_fuses (s : State) (c : Nat) (r : ReqBody) : (s.popIfDrain c r).fuses = s.fuses := by
  unfold State.popIfDrain
  split <;> simp

@[simp] theorem State.offHit_fuses (s : State) (c : Nat) (r a : ReqBody) : (s.offHit c r a).fuses = s.fuses := by
  unfold State.offHit
  split <;> simp

@[simp] theorem State.present_fuses (s : State) (c : Nat) (r a : ReqBody) : (s.present c r a).fuses = s.fuses := by
  simp [State.present]

@[simp] theorem State.refuseReq_fuses (s : State) (c : Nat) (r a : ReqBody) : (s.refuseReq c r a).fuses = s.fuses := by
  unfold State.refuseReq
  dsimp only
  split <;> simp

@[simp] theorem State.judgeReq_fuses (s : State) (c : Nat) (r : ReqBody) : (s.judgeReq c r).fuses = s.fuses := by
  unfold State.judgeReq
  split
  · rfl
  · simp

@[simp] theorem State.grant_fuses (s : State) (c : Nat) (r : ReqBody) : (s.grant c r).fuses = s.fuses := by
  unfold State.grant
  split
  · simp
  · split <;> simp
  · rfl

@[simp] theorem State.standAloneBoot_fuses (s : State) (prof : Nat) (b : BootFinds) : (s.standAloneBoot prof b).fuses = s.fuses :=
  (State.standAloneBoot_keepsStart s prof b).spares.1.trans (s.latchStrap_fuses prof)

@[simp] theorem State.volatileLost_fuses (s : State) : s.volatileLost.fuses = s.fuses := by
  simp [State.volatileLost]

@[simp] theorem State.tearWord_fuses (s : State) (a : Nat) : (s.tearWord a).fuses = s.fuses := by
  simp [State.tearWord]

theorem State.headJob_fuses {s : State} {x : EtchJob × State} (h : s.headJob = some x) : x.2.fuses = s.fuses :=
  (State.headJob_keepsStart h).spares.1

theorem State.ifLive_fuses {s t : State} (h : t.fuses = s.fuses) : (s.ifLive t).fuses = s.fuses := by
  unfold State.ifLive
  split
  · rfl
  · exact h

@[simp] theorem State.ledgerAdd_fuses (s : State) (h : Nat) : (s.ledgerAdd h).fuses = s.fuses := by
  simp [State.ledgerAdd]

@[simp] theorem State.applyStages_fuses (s : State) (h : Nat) : (s.applyStages h).fuses = s.fuses := by
  simp [State.applyStages]

@[simp] theorem State.saDrop_fuses (s : State) : s.saDrop.fuses = s.fuses := by
  simp [State.saDrop]

@[simp] theorem State.saScan_fuses (s : State) : s.saScan.fuses = s.fuses := by
  simp [State.saScan]

@[simp] theorem State.holdScan_fuses (s : State) (h : Nat) : (s.holdScan h).fuses = s.fuses := by
  unfold State.holdScan
  split <;> simp

@[simp] theorem State.modeFrame_fuses (s : State) (h : Nat) : (s.modeFrame h).fuses = s.fuses := by
  unfold State.modeFrame
  dsimp only
  (repeat' split) <;> simp

@[simp] theorem State.judgeTimetable_fuses (s : State) (h : Nat) : (s.judgeTimetable h).fuses = s.fuses := by
  simp [State.judgeTimetable]

@[simp] theorem State.latchComp_fuses (s : State) (h : Nat) : (s.latchComp h).fuses = s.fuses := by
  simp [State.latchComp]

@[simp] theorem State.setOwner_fuses (s : State) (l : Nat) (o : Option Nat) : (s.setOwner l o).fuses = s.fuses := by
  simp [State.setOwner]

@[simp] theorem State.takeDirect_fuses (s : State) (p : Nat) : (s.takeDirect p).fuses = s.fuses := by
  simp [State.takeDirect]

@[simp] theorem State.latchFor_fuses (s : State) (h : Nat) (l : Nat) : (s.latchFor h l).fuses = s.fuses := by
  unfold State.latchFor
  dsimp only
  (repeat' split) <;> simp

@[simp] theorem State.latchHead_fuses (s : State) (h : Nat) : (s.latchHead h).fuses = s.fuses := by
  simp [State.latchHead]

@[simp] theorem State.odBracket_fuses (s : State) (h : Nat) : (s.odBracket h).fuses = s.fuses := by
  unfold State.odBracket
  dsimp only
  (repeat' split) <;> simp

@[simp] theorem State.odCold_fuses (s : State) (h : Nat) : (s.odCold h).fuses = s.fuses := by
  simp [State.odCold]

@[simp] theorem State.odJudge_fuses (s : State) (h : Nat) : (s.odJudge h).fuses = s.fuses := by
  simp [State.odJudge]

@[simp] theorem State.odFrame_fuses (s : State) (h : Nat) : (s.odFrame h).fuses = s.fuses := by
  simp [State.odFrame]

@[simp] theorem State.startBuf_fuses (s : State) (n : Nat) (b : Nat) : (s.startBuf n b).fuses = s.fuses := by
  simp [State.startBuf]

@[simp] theorem State.wbFrameStart_fuses (s : State) (h : Nat) (compose : Bool) : (s.wbFrameStart h compose).fuses = s.fuses := by
  unfold State.wbFrameStart
  dsimp only
  (repeat' split) <;> simp

@[simp] theorem State.slotFails_fuses (s : State) (h : Nat) (k : Nat) (kinds : List Nat) (anew : Bool) :
    (s.slotFails h k kinds anew).fuses = s.fuses := by
  simp [State.slotFails]

@[simp] theorem State.sampleSlot_fuses (s : State) (h : Nat) (absent : List (Nat × Nat)) (l : LatchedSlot) :
    (s.sampleSlot h absent l).1.fuses = s.fuses := by
  simp [State.sampleSlot]

@[simp] theorem State.decideSlot_fuses (s : State) (h : Nat) (n : Nat) (l : LatchedSlot) (wrong : Bool) :
    (s.decideSlot h n l wrong).fuses = s.fuses := by
  unfold State.decideSlot
  dsimp only
  split_ifs <;> simp

/-- A fold that carries a value beside the state. -/
theorem foldl_fst_fuses {α β : Type} {f : State × β → α → State × β} (hf : ∀ p a, (f p a).1.fuses = p.1.fuses) (l : List α)
    (p : State × β) : (l.foldl f p).1.fuses = p.1.fuses := foldl_keeps (fun p : State × β => p.1.fuses) hf l p

@[simp] theorem State.latchSlots_fuses (s : State) (h n va : Nat) (absent : List (Nat × Nat)) :
    (s.latchSlots h n va absent).fuses = s.fuses := by
  unfold State.latchSlots
  refine foldl_fst_fuses (fun p l => ?_) _ _
  dsimp only
  split <;> simp

@[simp] theorem State.startFrame_fuses (s : State) (h : Nat) (early : Bool) : (s.startFrame h early).fuses = s.fuses := by
  simp [State.startFrame]

@[simp] theorem State.seeTimetable_fuses (s : State) (h : Nat) : (s.seeTimetable h).fuses = s.fuses := by
  simp [State.seeTimetable]

@[simp] theorem State.quiet_fuses (s : State) (h : Nat) : (s.quiet h).fuses = s.fuses := by
  simp [State.quiet]

@[simp] theorem State.cutCommand_fuses (s : State) : s.cutCommand.fuses = s.fuses := by
  unfold State.cutCommand
  split <;> simp

@[simp] theorem State.resuspend_fuses (s : State) : s.resuspend.fuses = s.fuses := by
  simp [State.resuspend]

@[simp] theorem State.refreshBusy_fuses (s : State) : s.refreshBusy.fuses = s.fuses := by
  simp [State.refreshBusy]

@[simp] theorem State.wordEnds_fuses (s : State) : s.wordEnds.fuses = s.fuses := by
  unfold State.wordEnds
  dsimp only
  (repeat' split) <;> simp

@[simp] theorem State.endLog_fuses (s : State) (cell : Nat) (wasValid ok : Bool) : (s.endLog cell wasValid ok).fuses = s.fuses := by
  unfold State.endLog
  extract_lets e s1 s2
  have h1 : s1.fuses = s.fuses := (State.refreshBusy_fuses _).trans (State.wordEnds_fuses _)
  split_ifs <;> exact h1

@[simp] theorem State.baselineDone_fuses (s : State) (type : Nat) (ok : Bool) : (s.baselineDone type ok).2.fuses = s.fuses := by
  unfold State.baselineDone
  dsimp only
  (repeat' split) <;> simp

@[simp] theorem State.dropChoice_fuses (s : State) (type : Nat) : (s.dropChoice type).fuses = s.fuses := by
  simp [State.dropChoice]

@[simp] theorem State.dropUpdate_fuses (s : State) : s.dropUpdate.fuses = s.fuses := by
  unfold State.dropUpdate
  dsimp only
  (repeat' split) <;> simp

@[simp] theorem State.dropCut_fuses (s : State) : s.dropCut.fuses = s.fuses := by
  unfold State.dropCut
  dsimp only
  (repeat' split) <;> simp

@[simp] theorem State.replay_fuses (s : State) : s.replay.fuses = s.fuses := by
  simp [State.replay]

@[simp] theorem State.saWatch_fuses (s : State) : s.saWatch.fuses = s.fuses := by
  simp [State.saWatch]

@[simp] theorem State.hear_fuses (s : State) (i : Nat) (g : Option InSignal) : (s.hear i g).fuses = s.fuses := by
  simp [State.hear]

@[simp] theorem State.hearAll_fuses (s : State) (rx : List InSignal) : (s.hearAll rx).fuses = s.fuses := by
  simp [State.hearAll]

@[simp] theorem State.presenceMs_fuses (s : State) : s.presenceMs.fuses = s.fuses := by
  simp [State.presenceMs]

@[simp] theorem State.edge_fuses (s : State) : s.edge.fuses = s.fuses := by
  simp [State.edge]

@[simp] theorem State.thermalStep_fuses (s : State) : s.thermalStep.fuses = s.fuses := by
  simp [State.thermalStep]

@[simp] theorem State.stepTrim_fuses (s : State) (e : Nat) : (s.stepTrim e).fuses = s.fuses := by
  simp [State.stepTrim]

@[simp] theorem State.stepTrims_fuses (s : State) (l : List Nat) : (s.stepTrims l).fuses = s.fuses := by
  simp [State.stepTrims]

@[simp] theorem State.trimTick_fuses (s : State) : s.trimTick.fuses = s.fuses := by
  simp [State.trimTick]

@[simp] theorem State.slideWindow_fuses (s : State) (n : Nat) : (s.slideWindow n).fuses = s.fuses := by
  simp [State.slideWindow]

@[simp] theorem State.updateTd_fuses (s : State) : s.updateTd.fuses = s.fuses := by
  simp [State.updateTd]

@[simp] theorem State.average_fuses (s : State) (n : Nat) : (s.average n).fuses = s.fuses := by
  simp [State.average]

@[simp] theorem State.senseTick_fuses (s : State) : s.senseTick.fuses = s.fuses := by
  simp [State.senseTick]

@[simp] theorem State.regulate_fuses (s : State) (h : Nat) : (s.regulate h).fuses = s.fuses := by
  simp [State.regulate]

@[simp] theorem State.refreshP2_fuses (s : State) : s.refreshP2.fuses = s.fuses := by
  simp [State.refreshP2]

@[simp] theorem State.openP1_fuses (s : State) : s.openP1.fuses = s.fuses := by
  simp [State.openP1]

@[simp] theorem State.sealOpen_fuses (s : State) : s.sealOpen.fuses = s.fuses := by
  simp [State.sealOpen]

@[simp] theorem State.startAppend_fuses (s0 : State) (ev : PresEvent) : (s0.startAppend ev).fuses = s0.fuses := by
  simp [State.startAppend]

@[simp] theorem State.framed_fuses (s : State) : s.framed.fuses = s.fuses := by
  simp [State.framed]

@[simp] theorem State.commandTx_fuses (s : State) (b : List Byte) (stray : Bool) : (s.commandTx b stray).fuses = s.fuses := by
  simp [State.commandTx]

@[simp] theorem State.highZ_fuses (s : State) : s.highZ.fuses = s.fuses := by
  simp [State.highZ]

@[simp] theorem State.removeReply_fuses (s : State) (r : Reply) : (s.removeReply r).fuses = s.fuses := by
  simp [State.removeReply]

@[simp] theorem State.deliverWidth_fuses (s : State) (r : Reply) : (s.deliverWidth r).fuses = s.fuses := by
  unfold State.deliverWidth
  split <;> simp

@[simp] theorem State.keepReply_fuses (s : State) (r : Reply) : (s.keepReply r).fuses = s.fuses := by
  simp [State.keepReply]

@[simp] theorem State.replyTx_fuses (s : State) (ctl : Byte) (n : Nat) (quad : Bool) : (s.replyTx ctl n quad).fuses = s.fuses := by
  unfold State.replyTx
  dsimp only
  (repeat' split) <;> simp

@[simp] theorem State.drive_fuses (s : State) (quad : Bool) (at_ : Nat) (n : Nat) (l : List Byte) :
    (s.drive quad at_ n l).fuses = s.fuses := by
  simp [State.drive]

@[simp] theorem State.pushShow_fuses (s : State) (r : Nat) (accepted : Bool) : (s.pushShow r accepted).fuses = s.fuses := by
  simp [State.pushShow]

@[simp] theorem State.acceptPush_fuses (s : State) (r : Nat) (off : Nat) (data : List Byte) :
    (s.acceptPush r off data).fuses = s.fuses := by
  unfold State.acceptPush
  split <;> simp

@[simp] theorem State.pushTx_fuses (s : State) (b : List Byte) (stray : Bool) : (s.pushTx b stray).fuses = s.fuses := by
  simp [State.pushTx]

@[simp] theorem State.cancelWidth_fuses (s : State) : s.cancelWidth.fuses = s.fuses := by
  simp [State.cancelWidth]

@[simp] theorem State.pendWidth_fuses (s : State) (w : Nat) : (s.pendWidth w).fuses = s.fuses := by
  simp [State.pendWidth]

@[simp] theorem State.coreFault_fuses (s : State) : s.coreFault.fuses = s.fuses := by
  simp [State.coreFault]

@[simp] theorem State.gateWrite_fuses (s : State) (a : Nat) (w : Word) : (s.gateWrite a w).fuses = s.fuses := by
  simp [State.gateWrite]

@[simp] theorem State.plateDrop_fuses (s : State) : s.plateDrop.fuses = s.fuses := by
  simp [State.plateDrop]

@[simp] theorem State.portCycle_fuses (s : State) (t : Nat) (a : Option PortOp) (b : Option PortOp) :
    (s.portCycle t a b).2.2.fuses = s.fuses := by
  simp [State.portCycle]

@[simp] theorem State.scribePortA_fuses (s : State) (k : WindowKind) (a : Nat) (w : Word) : (s.scribePortA k a w).fuses = s.fuses := by
  unfold State.scribePortA
  split <;> simp

@[simp] theorem State.scribeWrite_fuses (s : State) (a : Nat) (w : Word) : (s.scribeWrite a w).fuses = s.fuses := by
  unfold State.scribeWrite
  split
  · simp
  · split
    · rfl
    · split <;> simp

@[simp] theorem State.requestE_fuses (s : State) (c : Nat) (a : ReqBody) : (s.requestE c a).fuses = s.fuses := by
  simp [State.requestE]

@[simp] theorem State.storeReg_fuses (s : State) (a : Nat) (w : Word) : (s.storeReg a w).fuses = s.fuses := by
  simp [State.storeReg]

@[simp] theorem State.scribeStore_fuses (s : State) (a : Nat) (w : Word) : (s.scribeStore a w).fuses = s.fuses := by
  unfold State.scribeStore
  split <;> simp

@[simp] theorem State.dmaPlate_fuses (s : State) (off : Nat) (d : List Byte) : (s.dmaPlate off d).fuses = s.fuses := by
  simp [State.dmaPlate]

@[simp] theorem State.portB_fuses (s : State) (t : Nat) (off : Nat) (d : List Byte) (a : Option PortOp) :
    (s.portB t off d a).fuses = s.fuses := by
  simp [State.portB]

@[simp] theorem State.handOver_fuses (s : State) : s.handOver.fuses = s.fuses := by
  simp [State.handOver]

@[simp] theorem State.applyQueue_fuses (s : State) : s.applyQueue.fuses = s.fuses := s.applyQueue_keepsStart.spares.1

@[simp] theorem State.commit_fuses (s : State) (repair : List Word) : (s.commit repair).fuses = s.fuses := by
  obtain ⟨-, -, hcore, -⟩ := s.commit_committed repair
  exact congrArg StartCore.fuses hcore

@[simp] theorem State.touchRecords_fuses (s : State) : s.touchRecords.fuses = s.fuses := by
  refine foldl_fuses (fun u r => ?_) _ s
  split
  · rfl
  · exact forEach_fuses (fun u i => by simp) _ u

@[simp] theorem State.switchedOff_fuses (s : State) : s.switchedOff.fuses = s.fuses := by
  simp [State.switchedOff]

@[simp] theorem State.rideEnd_fuses (s : State) : s.rideEnd.fuses = s.fuses := by
  simp [State.rideEnd]

@[simp] theorem State.enterBand_fuses (s : State) : s.enterBand.fuses = s.fuses := by
  unfold State.enterBand
  split <;> simp

@[simp] theorem State.sweepAll_fuses (s : State) : s.sweepAll.fuses = s.fuses := by
  simp [State.sweepAll]

@[simp] theorem State.countDelay_fuses (s : State) (c : Nat) : (s.countDelay c).fuses = s.fuses := by
  simp [State.countDelay]

@[simp] theorem State.countDelays_fuses (s : State) (l : List Nat) : (s.countDelays l).fuses = s.fuses := by
  induction l generalizing s with
  | nil => rfl
  | cons c l ih =>
    unfold State.countDelays
    rw [ih]
    split <;> simp

@[simp] theorem State.pbaStop_fuses (s : State) : s.pbaStop.fuses = s.fuses := by
  unfold State.pbaStop
  extract_lets s1
  have h1 : s1.fuses = s.fuses := (State.setFld_fuses _ _ _).trans (s.countDelays_fuses _)
  clear_value s1
  exact h1

@[simp] theorem State.wakeEvent_fuses (s : State) (k : Nat) : (s.wakeEvent k).fuses = s.fuses := by
  simp [State.wakeEvent]

@[simp] theorem State.rsvRead_fuses (s : State) : s.rsvRead.fuses = s.fuses := by
  simp [State.rsvRead]

@[simp] theorem State.rsvRestore_fuses (s0 : State) : s0.rsvRestore.fuses = s0.fuses := by
  simp [State.rsvRestore]

@[simp] theorem State.rideBegin_fuses (s : State) : s.rideBegin.fuses = s.fuses := by
  simp [State.rideBegin]

@[simp] theorem State.restart_fuses (s : State) (deep : Bool) (h : Nat) : (s.restart deep h).fuses = s.fuses := by
  simp [State.restart]

@[simp] theorem State.dropWindow_fuses (s : State) : s.dropWindow.fuses = s.fuses := by
  simp [State.dropWindow]

@[simp] theorem State.drainCut_fuses (s : State) (n : Nat) : (s.drainCut n).fuses = s.fuses := by
  unfold State.drainCut
  split <;> simp

@[simp] theorem State.putFence_fuses (s : State) (f : FenceRun) : (s.putFence f).fuses = s.fuses := by
  simp [State.putFence]

@[simp] theorem State.endCopy_fuses (s : State) (f : FenceRun) : (s.endCopy f).fuses = s.fuses := by
  simp [State.endCopy]

@[simp] theorem State.cutCopies_fuses (s : State) (n : Nat) : (s.cutCopies n).fuses = s.fuses := by
  unfold State.cutCopies
  split
  · split
    · split <;> simp
    · rfl
  · rfl

@[simp] theorem State.dropDirect_fuses (s : State) (i : Nat) : (s.dropDirect i).fuses = s.fuses := by
  simp [State.dropDirect]

@[simp] theorem State.inputDown_fuses (s : State) (i : Nat) : (s.inputDown i).fuses = s.fuses := by
  simp [State.inputDown]

@[simp] theorem State.iconsLost_fuses (s : State) : s.iconsLost.fuses = s.fuses := by
  simp [State.iconsLost]

@[simp] theorem State.domainDown_fuses (s : State) (n : Nat) : (s.domainDown n).fuses = s.fuses := by
  simp [State.domainDown]

@[simp] theorem State.convert_fuses (s : State) (c : Nat) : (s.convert c).fuses = s.fuses := by
  simp [State.convert]

@[simp] theorem State.rideStep_fuses (s : State) (v : ℤ) : (s.rideStep v).fuses = s.fuses := by
  unfold State.rideStep
  dsimp only
  (repeat' split) <;> simp

@[simp] theorem State.setSupply_fuses (s : State) (c : Nat) : (s.setSupply c).fuses = s.fuses := by
  simp [State.setSupply]

@[simp] theorem State.supplyStep_fuses (s : State) (v : ℤ) : (s.supplyStep v).fuses = s.fuses := by
  simp [State.supplyStep]

@[simp] theorem State.tsense_fuses (s : State) (t : ℤ) : (s.tsense t).fuses = s.fuses := by
  simp [State.tsense]

@[simp] theorem State.windowAge_fuses (s : State) : s.windowAge.fuses = s.fuses := by
  unfold State.windowAge
  split <;> simp

@[simp] theorem State.periodStart_fuses (s : State) : s.periodStart.fuses = s.fuses := by
  simp [State.periodStart]

@[simp] theorem State.windowEnd_fuses (s : State) (e : CmdEntry) (r : PlateRun) : (s.windowEnd e r).fuses = s.fuses := by
  simp [State.windowEnd]

@[simp] theorem State.windowOn_fuses (s : State) (l : List ReqBody) : (s.windowOn l).fuses = s.fuses := by
  unfold State.windowOn
  dsimp only
  (repeat' split) <;> simp

@[simp] theorem State.copyStep_fuses (s : State) (line : List Byte) (k : CopyOp) : (s.copyStep line k).1.fuses = s.fuses := by
  cases k <;> unfold State.copyStep <;> dsimp only <;> split <;> simp

@[simp] theorem copyLoop_fuses (l : List CopyOp) (s : State) (line : List Byte) : (copyLoop s line l).1.fuses = s.fuses := by
  induction l generalizing s line with
  | nil => rfl
  | cons k l ih =>
    unfold copyLoop
    split
    · exact (ih _ _).trans (s.copyStep_fuses line k)
    · rfl

@[simp] theorem State.copyFrom_fuses (s : State) (f : FenceRun) (line : List Byte) (l : List CopyOp) :
    (s.copyFrom f line l).fuses = s.fuses := by
  have h := copyLoop_fuses l s line
  unfold State.copyFrom
  split <;> simp_all

@[simp] theorem State.copyOn_fuses (s : State) (num : Nat) (l : List ReqBody) : (s.copyOn num l).fuses = s.fuses := by
  unfold State.copyOn
  split
  · simp
  · split
    · split <;> simp
    · simp

@[simp] theorem State.admitOldest_fuses (s : State) (c : Nat) (r : ReqBody) (l : List ReqBody) :
    (s.admitOldest c r l).fuses = s.fuses := by
  unfold State.admitOldest
  split <;> simp

@[simp] theorem Cycle.state_take (k : Cycle) (a : Nat) (t : State) : (k.take a t).state = t := rfl

@[simp] theorem Cycle.mergeWrite_fuses (k : Cycle) (m : Merge) : (k.mergeWrite m).state.fuses = k.state.fuses := by
  unfold Cycle.mergeWrite
  split <;> simp

@[simp] theorem Cycle.request_fuses (c : Nat) (k : Cycle) (r : ReqBody) : (Cycle.request c k r).state.fuses = k.state.fuses := by
  unfold Cycle.request
  split <;> simp

@[simp] theorem Cycle.client_fuses (k : Cycle) (c : Nat) : (k.client c).state.fuses = k.state.fuses :=
  (foldl_keeps (fun k : Cycle => k.state.fuses) (Cycle.request_fuses c) _ _).trans
    (foldl_keeps (fun k : Cycle => k.state.fuses) Cycle.mergeWrite_fuses _ k)

@[simp] theorem State.refreshRow_fuses (s : State) : s.refreshRow.fuses = s.fuses := by
  simp [State.refreshRow]

@[simp] theorem Cycle.refresh_fuses (k : Cycle) : k.refresh.state.fuses = k.state.fuses := by
  unfold Cycle.refresh
  dsimp only
  split_ifs <;> simp

theorem foldl_client_fuses (l : List Nat) (k : Cycle) : (l.foldl Cycle.client k).state.fuses = k.state.fuses :=
  foldl_keeps (fun k : Cycle => k.state.fuses) Cycle.client_fuses l k

@[simp] theorem State.plateCycle_fuses (s : State) : s.plateCycle.fuses = s.fuses := by
  rw [State.plateCycle, foldl_client_fuses, Cycle.refresh_fuses]

@[simp] theorem State.flip_fuses (s : State) (w m : Nat) : (s.flip w m).fuses = s.fuses := rfl

@[simp] theorem State.retryWord_fuses (s : State) (log : Bool) (a : Nat) : (s.retryWord log a).fuses = s.fuses := by
  simp [State.retryWord]

@[simp] theorem State.writeFail_fuses (s : State) (a : Nat) : (s.writeFail a).fuses = s.fuses := by
  simp [State.writeFail]

@[simp] theorem State.logAttempt_fuses (s : State) (ok : Bool) : (s.logAttempt ok).fuses = s.fuses := by
  unfold State.logAttempt
  dsimp only
  (repeat' split) <;> simp

@[simp] theorem State.noteFound_fuses (s : State) (type : Nat) : (s.noteFound type).fuses = s.fuses := by
  unfold State.noteFound
  dsimp only
  (repeat' split) <;> simp

@[simp] theorem State.tableUpdated_fuses (s : State) (r : Nat) : (s.tableUpdated r).fuses = s.fuses := by
  simp [State.tableUpdated]

@[simp] theorem State.recordDone_fuses (s : State) (type : Nat) : (s.recordDone type).fuses = s.fuses := by
  simp [State.recordDone]

@[simp] theorem State.endJob_fuses (s : State) (j : EtchJob) (ok : Bool) : (s.endJob j ok).fuses = s.fuses := by
  unfold State.endJob
  split <;> simp

@[simp] theorem State.jobAttempt_fuses (s : State) (ok : Bool) : (s.jobAttempt ok).fuses = s.fuses := by
  unfold State.jobAttempt
  split
  · rfl
  · next j t h =>
    rw [← State.headJob_fuses h]
    split <;> simp

@[simp] theorem State.wordAttempt_fuses (s : State) (log : Bool) (ok : Bool) : (s.wordAttempt log ok).fuses = s.fuses := by
  simp [State.wordAttempt]

@[simp] theorem State.parkedWord_fuses (s : State) (log ok : Bool) : (s.parkedWord log ok).fuses = s.fuses := by
  simp [State.parkedWord, State.tearNext_fuses]

@[simp] theorem State.heardVsync_fuses (s : State) (i : Nat) (vc1 : Bool) : (s.heardVsync i vc1).fuses = s.fuses := by
  simp [State.heardVsync]

@[simp] theorem State.noteCapture_fuses (s : State) (i : Nat) (b : Nat) (w : Nat × Nat × Nat) : (s.noteCapture i b w).fuses = s.fuses := by
  simp [State.noteCapture]

@[simp] theorem State.frameIn_fuses (s : State) (i : Nat) (vc1 : Bool) : (s.frameIn i vc1).fuses = s.fuses := by
  unfold State.frameIn
  dsimp only
  (repeat' split) <;> simp

@[simp] theorem State.lvdsLine_fuses (s : State) (i : Nat) (l0 : List LvdsClk) (l1 : List LvdsClk) (skew : ℤ) :
    (s.lvdsLine i l0 l1 skew).2.fuses = s.fuses := by
  unfold State.lvdsLine
  split_ifs <;> simp

@[simp] theorem State.lineIn_fuses (s : State) (i : Nat) (vc1 : Bool) (n : Nat) (b : Nat) (y : Nat) (bytes : List Byte) :
    (s.lineIn i vc1 n b y bytes).fuses = s.fuses := by
  simp [State.lineIn]

@[simp] theorem State.videoLine_fuses (s : State) (i : Nat) (vc1 : Bool) (f : PixFmt) (px : List Pix) :
    (s.videoLine i vc1 f px).fuses = s.fuses := by
  unfold State.videoLine
  extract_lets v y broken width odd differs v1 x s1 s2 s3
  have h3 : s3.fuses = s.fuses := by simp [s3, s2, s1]
  split
  · rfl
  · split
    · exact h3
    · simp [h3]

@[simp] theorem State.wholeLine_fuses (s : State) (i : Nat) (vc1 : Bool) (f : PixFmt) (px : List Pix) (whole : Bool) :
    (s.wholeLine i vc1 f px whole).fuses = s.fuses := by
  simp [State.wholeLine]

@[simp] theorem State.judgeGeometry_fuses (s : State) (i : Nat) (vc1 : Bool) (g : Option (Nat × Nat)) (prev : Option (Nat × Nat)) :
    (s.judgeGeometry i vc1 g prev).fuses = s.fuses := by
  unfold State.judgeGeometry
  split <;> simp

@[simp] theorem State.blackRows_fuses (s : State) (n : Nat) (b : Nat) (d : SurfDesc) (y : Nat) : (s.blackRows n b d y).fuses = s.fuses := by
  simp [State.blackRows]

@[simp] theorem State.frameEnd_fuses (s : State) (i : Nat) (vc1 : Bool) : (s.frameEnd i vc1).fuses = s.fuses := by
  unfold State.frameEnd
  dsimp only
  (repeat' split) <;> simp

@[simp] theorem State.closeLine_fuses (s : State) (i : Nat) (vc1 : Bool) : (s.closeLine i vc1).fuses = s.fuses := by
  simp [State.closeLine]

@[simp] theorem State.packetLost_fuses (s : State) (p : Nat) (vc : Nat) (dt : Nat) (dcs : Nat) :
    (s.packetLost p vc dt dcs).fuses = s.fuses := by
  simp [State.packetLost]

@[simp] theorem State.cmdPacket_fuses (s : State) (p : Nat) (clean : Bool) : (s.cmdPacket p clean).fuses = s.fuses := by
  simp [State.cmdPacket]

@[simp] theorem State.directLine_fuses (s : State) (p : Nat) (f : PixFmt) (px : List Pix) (whole : Bool) :
    (s.directLine p f px whole).fuses = s.fuses := by
  simp [State.directLine]

@[simp] theorem State.closeDirect_fuses (s : State) (p : Nat) : (s.closeDirect p).fuses = s.fuses := by
  simp [State.closeDirect]

@[simp] theorem State.directStart_fuses (s : State) (p : Nat) : (s.directStart p).fuses = s.fuses := by
  simp [State.directStart]

@[simp] theorem State.videoPacket_fuses (s : State) (p : Nat) (vc1 : Bool) (dt : Nat) (d : List Byte) :
    (s.videoPacket p vc1 dt d).fuses = s.fuses := by
  simp [State.videoPacket]

@[simp] theorem State.writePixels_fuses (s : State) (p : Nat) (pos : Nat) (px : List Pix) : (s.writePixels p pos px).fuses = s.fuses := by
  simp [State.writePixels]

@[simp] theorem State.clipWindow_fuses (s : State) (p : Nat) : (s.clipWindow p).fuses = s.fuses := by
  simp [State.clipWindow]

@[simp] theorem State.answer_fuses (s : State) (p : Nat) (v : Nat) : (s.answer p v).fuses = s.fuses := by
  simp [State.answer]

@[simp] theorem State.goneTo_fuses (s : State) (i : Nat) (st : Nat) : (s.goneTo i st).fuses = s.fuses := by
  simp [State.goneTo]

@[simp] theorem State.copyResume_fuses (s : State) (f : FenceRun) : (s.copyResume f).fuses = s.fuses := by
  unfold State.copyResume
  split <;> simp

@[simp] theorem State.flipFence_fuses (s : State) (f : FenceRun) : (s.flipFence f).fuses = s.fuses := by
  simp [State.flipFence]

@[simp] theorem State.setFrame_fuses (s : State) (h : Nat) (f : FrameState) : (s.setFrame h f).fuses = s.fuses := by
  simp [State.setFrame]

@[simp] theorem State.emit_fuses (s : State) (c : Nat) (b : List Block) : (s.emit c b).fuses = s.fuses := by
  simp [State.emit]

@[simp] theorem State.closeSlot_fuses (s : State) (h : Nat) : (s.closeSlot h).fuses = s.fuses := by
  simp [State.closeSlot]

@[simp] theorem State.stopHead_fuses (s : State) (h : Nat) : (s.stopHead h).fuses = s.fuses := by
  unfold State.stopHead
  dsimp only
  (repeat' split) <;> simp

@[simp] theorem State.stopNow_fuses (s : State) (h : Nat) : (s.stopNow h).fuses = s.fuses := by
  simp [State.stopNow]

@[simp] theorem State.passSlot_fuses (s : State) (h : Nat) : (s.passSlot h).2.fuses = s.fuses := by
  unfold State.passSlot
  dsimp only
  split_ifs <;> simp

@[simp] theorem State.showLine_fuses (s : State) (h : Nat) (n : Nat) (kind : Nat) (idle : Bool) :
    (s.showLine h n kind idle).fuses = s.fuses := by
  simp [State.showLine]

@[simp] theorem State.headFurl_fuses (s : State) (c : Nat) : (s.headFurl c).fuses = s.fuses := by
  simp [State.headFurl]

@[simp] theorem State.idleFurl_fuses (s : State) (h : Nat) (n : Nat) : (s.idleFurl h n).fuses = s.fuses := by
  simp [State.idleFurl]

@[simp] theorem State.slotFurl_fuses (s : State) (h : Nat) (n : Nat) : (s.slotFurl h n).fuses = s.fuses := by
  simp [State.slotFurl]

@[simp] theorem State.headUnfurl_fuses (s : State) (c : Nat) : (s.headUnfurl c).fuses = s.fuses := by
  simp [State.headUnfurl]

@[simp] theorem State.slotUnfurl_fuses (s : State) (c : Nat) : (s.slotUnfurl c).fuses = s.fuses := by
  simp [State.slotUnfurl]

/- The kernel compares two states under `fuses` by reducing them, and the match on `nextSlot` sends it into the whole timetable: so the
state is named first, and its definition opened away from `fuses`. -/
@[simp] theorem State.idleUnfurl_fuses (s : State) (h n : Nat) : (s.idleUnfurl h n).fuses = s.fuses := by
  obtain ⟨t, ht⟩ : ∃ t, t = s.idleUnfurl h n := ⟨_, rfl⟩
  rw [← ht]
  generalize hf : State.idleUnfurl = f at ht
  delta State.idleUnfurl at hf
  subst hf
  beta_reduce at ht
  extract_lets s1 at ht
  have hs1 : s1 = if s.calUnfurl h ≤ n then s.each (s.chainsOf h) State.headUnfurl else s := rfl
  clear_value s1
  have h1 : s1.fuses = s.fuses := by
    rw [hs1, State.fuses_ite, State.each_fuses State.headUnfurl_fuses, ite_self]
  rw [ht]
  split
  · rw [State.fuses_ite, State.each_fuses State.slotUnfurl_fuses, ite_self, h1]
  · exact h1

@[simp] theorem State.discardSet_fuses (s : State) (h : Nat) : (s.discardSet h).fuses = s.fuses := by
  simp [State.discardSet]

@[simp] theorem State.slotOpened_fuses (s : State) (h : Nat) (k : Nat) : (s.slotOpened h k).fuses = s.fuses := by
  simp [State.slotOpened]

@[simp] theorem State.openSlot_fuses (s : State) (h : Nat) (n : Nat) : (s.openSlot h n).fuses = s.fuses := by
  simp [State.openSlot]

@[simp] theorem State.sendLine_fuses (s : State) (h : Nat) (n : Nat) (row : Option (Nat × List Pix)) :
    (s.sendLine h n row).fuses = s.fuses := by
  simp [State.sendLine]

@[simp] theorem State.idleLine_fuses (s : State) (h n : Nat) (closed : Bool) : (s.idleLine h n closed).fuses = s.fuses := by
  obtain ⟨t, ht⟩ : ∃ t, t = s.idleLine h n closed := ⟨_, rfl⟩
  rw [← ht]
  unfold State.idleLine at ht
  extract_lets f s0 s1 s2 s3 s4 at ht
  have h0 : s0.fuses = s.fuses := (State.setFrame_fuses _ _ _).trans (s.showLine_fuses _ _ _ _)
  have hs1 : s1 = if f.idle = 0 then s0.idleFurl h n else s0 := rfl
  have hs2 : s2 = if closed then s1.slotFurl h n else s1 := rfl
  have hs3 : s3 = s2.idleUnfurl h n := rfl
  have hs4 : s4 = if (s3.frameOf h).slotLeft = 0 ∧ s3.nextSlot h n = some n then
      (s3.openSlot h n).setFld (F.HEAD_TT_STATUS_KIND h) kindTouch
    else if (s3.frameOf h).slotLeft ≠ 0 then s3.setFld (F.HEAD_TT_STATUS_KIND h) kindTouch else s3 := rfl
  clear_value s4 s3 s2 s1
  have h1 : s1.fuses = s.fuses := by rw [hs1, State.fuses_ite, State.idleFurl_fuses, ite_self, h0]
  have h2 : s2.fuses = s.fuses := by rw [hs2, State.fuses_ite, State.slotFurl_fuses, ite_self, h1]
  have h3 : s3.fuses = s.fuses := by rw [hs3, State.idleUnfurl_fuses, h2]
  have h4 : s4.fuses = s.fuses := by
    rw [hs4, State.fuses_ite, State.fuses_ite, State.setFld_fuses, State.setFld_fuses, State.openSlot_fuses, ite_self, ite_self, h3]
  rw [ht, State.sendLine_fuses, h4]

@[simp] theorem State.emitAll_fuses (s : State) (h : Nat) (b : List Block) : (s.emitAll h b).fuses = s.fuses := by
  simp [State.emitAll]

@[simp] theorem State.fetchWord_fuses (c : Nat) (s : State) (w : Nat) : (State.fetchWord c s w).fuses = s.fuses := by
  simp [State.fetchWord]

@[simp] theorem State.fetchWords_fuses (s : State) (c : Nat) (l : List Nat) : (s.fetchWords c l).fuses = s.fuses := by
  simp [State.fetchWords]

@[simp] theorem State.fetchHistory_fuses (s : State) (h : Nat) (y : Nat) : (s.fetchHistory h y).fuses = s.fuses := by
  simp [State.fetchHistory]

@[simp] theorem State.dropFetched_fuses (s : State) (c : Nat) (l : List Nat) : (s.dropFetched c l).fuses = s.fuses := by
  simp [State.dropFetched]

@[simp] theorem State.fetchRow_fuses (s : State) (h : Nat) (y : Nat) : (s.fetchRow h y).fuses = s.fuses := by
  unfold State.fetchRow
  split <;> simp

@[simp] theorem State.wbRow_fuses (s : State) (h : Nat) (y : Nat) (row : List Pix) : (s.wbRow h y row).fuses = s.fuses := by
  unfold State.wbRow
  split <;> simp

@[simp] theorem State.doneRow_fuses (s : State) (h : Nat) (y : Nat) : (s.doneRow h y).fuses = s.fuses := by
  simp [State.doneRow]

@[simp] theorem State.histWrite_fuses (s : State) (h : Nat) (y : Nat) (row : List Pix) : (s.histWrite h y row).fuses = s.fuses := by
  simp [State.histWrite]

@[simp] theorem State.panelRow_fuses (s : State) (h : Nat) (y : Nat) (row : List Pix) : (s.panelRow h y row).2.fuses = s.fuses := by
  simp [State.panelRow]

@[simp] theorem State.sampleRow_fuses (s : State) (h va y : Nat) (up : Bool) (absent : List (Nat × Nat)) :
    (s.sampleRow h va y up absent).fuses = s.fuses := by
  unfold State.sampleRow
  refine foldl_fst_fuses (fun p l => ?_) _ _
  split <;> simp

@[simp] theorem State.useDirect_fuses (s : State) (h y : Nat) (up : Bool) : (s.useDirect h y up).fuses = s.fuses := by
  refine foldl_fuses (fun u l => ?_) _ s
  split <;> simp

@[simp] theorem State.doneHistory_fuses (s : State) (h : Nat) (y : Nat) : (s.doneHistory h y).fuses = s.fuses := by
  simp [State.doneHistory]

@[simp] theorem State.checkRow_fuses (s : State) (h n hw va y : Nat) (up : Bool) (wrong : List Nat) :
    (s.checkRow h n hw va y up wrong).fuses = s.fuses := by
  unfold State.checkRow
  refine foldl_fst_fuses (fun p l => ?_) _ _
  dsimp only
  split <;> simp

@[simp] theorem State.displayLine_fuses (s : State) (h : Nat) (n : Nat) (wrong : List Nat) : (s.displayLine h n wrong).fuses = s.fuses := by
  simp [State.displayLine]

@[simp] theorem State.layoutLine_fuses (s : State) (h : Nat) (n : Nat) (wrong : List Nat) : (s.layoutLine h n wrong).fuses = s.fuses := by
  simp [State.layoutLine]

@[simp] theorem State.moveTrims_fuses (s : State) (c : Nat) : (s.moveTrims c).fuses = s.fuses := by
  unfold State.moveTrims
  dsimp only
  (repeat' split) <;> simp

@[simp] theorem State.calLine_fuses (s : State) (h : Nat) (n : Nat) : (s.calLine h n).fuses = s.fuses := by
  simp [State.calLine]

@[simp] theorem State.nextLine_fuses (s : State) (h : Nat) (wrong : List Nat) : (s.nextLine h wrong).fuses = s.fuses := by
  simp [State.nextLine]

@[simp] theorem State.upset_fuses (s : State) (l : List (Fin 32 × Fin 2 × Nat × Word)) : (s.upset l).fuses = s.fuses :=
  foldl_fuses (fun u a => by simp) _ _

@[simp] theorem State.saUncounted_fuses (s : State) : s.saUncounted.fuses = s.fuses := by
  simp [State.saUncounted]

@[simp] theorem State.saTake_fuses (s : State) (i : Nat) : (s.saTake i).fuses = s.fuses := by
  simp [State.saTake]

@[simp] theorem State.saSelect_fuses (s : State) : s.saSelect.fuses = s.fuses := by
  simp [State.saSelect]

@[simp] theorem State.anyBoundary_fuses (s : State) (h : Nat) : (s.anyBoundary h).fuses = s.fuses := by
  simp [State.anyBoundary]

@[simp] theorem State.dropRefused_fuses (s : State) (h : Nat) : (s.dropRefused h).fuses = s.fuses := by
  simp [State.dropRefused]

@[simp] theorem State.odFrameEnd_fuses (s : State) (h : Nat) : (s.odFrameEnd h).fuses = s.fuses := by
  simp [State.odFrameEnd]

@[simp] theorem State.wbEnd_fuses (s : State) (f : WbFrame) : (s.wbEnd f).fuses = s.fuses := by
  simp [State.wbEnd]

@[simp] theorem State.wbFrameEnd_fuses (s : State) (h : Nat) : (s.wbFrameEnd h).fuses = s.fuses := by
  unfold State.wbFrameEnd
  dsimp only
  (repeat' split) <;> simp

@[simp] theorem State.firstFrame_fuses (s : State) (h : Nat) : (s.firstFrame h).fuses = s.fuses := by
  simp [State.firstFrame]

@[simp] theorem State.faultReady_fuses (s : State) : s.faultReady.fuses = s.fuses := by
  simp [State.faultReady]

@[simp] theorem State.boundary_fuses (s : State) (h : Nat) : (s.boundary h).fuses = s.fuses := by
  simp [State.boundary]

@[simp] theorem State.loadTable_fuses (s : State) (h : Nat) (k : Nat) : (s.loadTable h k).fuses = s.fuses := by
  simp [State.loadTable]

@[simp] theorem State.bootLevel_fuses (s : State) (c : Nat) : (s.bootLevel c).fuses = s.fuses := by
  simp [State.bootLevel]

@[simp] theorem State.eqRound_fuses (s : State) (c : Nat) : (s.eqRound c).fuses = s.fuses := by
  simp [State.eqRound]

@[simp] theorem State.rateStep_fuses (s : State) (c : Nat) : (s.rateStep c).fuses = s.fuses := by
  simp [State.rateStep]

@[simp] theorem State.trained_fuses (s : State) (c : Nat) : (s.trained c).fuses = s.fuses := by
  simp [State.trained]

@[simp] theorem State.ready_fuses (s : State) (c : Nat) (allDone : Bool) : (s.ready c allDone).fuses = s.fuses := by
  simp [State.ready]

@[simp] theorem State.badReturn_fuses (s : State) (c : Nat) : (s.badReturn c).fuses = s.fuses := by
  simp [State.badReturn]

@[simp] theorem State.enumerated_fuses (s : State) (c : Nat) : (s.enumerated c).fuses = s.fuses := by
  unfold State.enumerated
  dsimp only
  rw [(State.send_spares _ _ _).1]
  refine (State.each_fuses (fun u i => ?_) _ _).trans (by simp)
  split <;> simp

@[simp] theorem State.counted_fuses (s : State) (c : Nat) (n : Nat) : (s.counted c n).fuses = s.fuses := by
  simp [State.counted]

@[simp] theorem State.enumAck_fuses (s : State) (c : Nat) (p : RetPacket) (caps2 : Word) (minDrive : Nat) :
    (s.enumAck c p caps2 minDrive).fuses = s.fuses := by
  simp [State.enumAck]

@[simp] theorem State.rateSwitch_fuses (s : State) (c : Nat) : (s.rateSwitch c).fuses = s.fuses := by
  unfold State.rateSwitch
  split <;> simp

theorem State.packetIn_fuses (s : State) (c k : Nat) (l : List Byte) {run : RetPacket → State} (hrun : ∀ p, (run p).fuses = s.fuses) :
    (s.packetIn c k l run).fuses = s.fuses := by
  unfold State.packetIn
  split
  · simp
  · split
    · exact hrun _
    · rfl

@[simp] theorem State.eqRequest_fuses (s : State) (c : Nat) (tap : Nat) (action : Nat) (done : Bool) :
    (s.eqRequest c tap action done).fuses = s.fuses := by
  simp [State.eqRequest]

@[simp] theorem State.becomeAbsent_fuses (s : State) (c : Nat) : (s.becomeAbsent c).fuses = s.fuses := by
  simp [State.becomeAbsent]

@[simp] theorem State.loseReturn_fuses (s : State) (c : Nat) : (s.loseReturn c).fuses = s.fuses := by
  simp [State.loseReturn]

@[simp] theorem State.loseStations_fuses (s : State) (c k : Nat) : (s.loseStations c k).fuses = s.fuses := by
  unfold State.loseStations
  extract_lets s1 s2
  have h2 : s2.fuses = s.fuses := State.each_fuses (fun u i => by simp) _ s1
  split <;> simp [h2]

@[simp] theorem State.statusIn_fuses (s : State) (c : Nat) (p : RetPacket) : (s.statusIn c p).fuses = s.fuses := by
  simp [State.statusIn]

@[simp] theorem State.regReplyIn_fuses (s : State) (c : Nat) (p : RetPacket) : (s.regReplyIn c p).fuses = s.fuses := by
  unfold State.regReplyIn
  (repeat' split) <;> simp

@[simp] theorem State.pushRec_fuses (s : State) (c : Nat) (r : Word) : (s.pushRec c r).fuses = s.fuses := by
  unfold State.pushRec
  split <;> simp

@[simp] theorem State.eyeIn_fuses (s : State) (c : Nat) (p : RetPacket) : (s.eyeIn c p).fuses = s.fuses := by
  unfold State.eyeIn
  split <;> simp

@[simp] theorem State.checkBlocks_fuses (s : State) (c : Nat) (rx : List (BitVec 64)) : (s.checkBlocks c rx).fuses = s.fuses := by
  refine foldl_fuses (fun u w => ?_) _ s
  split <;> simp

@[simp] theorem State.logInterval_fuses (s : State) (c : Nat) (interval : Nat) (n : Nat) :
    (s.logInterval c interval n).fuses = s.fuses := by
  simp [State.logInterval]

@[simp] theorem State.collect_fuses (s : State) (h k : Nat) (p : ScanPacket) : (s.collect h k p).fuses = s.fuses := by
  unfold State.collect
  dsimp only
  split
  · rfl
  · split_ifs <;> simp

@[simp] theorem State.scanIn_fuses (s : State) (c : Nat) (p : RetPacket) : (s.scanIn c p).fuses = s.fuses := by
  unfold State.scanIn
  split
  · rfl
  · refine State.each_fuses (fun u h => ?_) _ s
    dsimp only
    split <;> simp

@[simp] theorem State.rebaseStep_fuses (s : State) (h : Nat) (cfg : List Word) (x : TouchState) (l : List (TouchNode × Bool)) (bad : Bool) :
    (s.rebaseStep h cfg x l bad).1.fuses = s.fuses := by
  unfold State.rebaseStep
  dsimp only
  split_ifs <;> simp

@[simp] theorem State.postReport_fuses (s : State) (h : Nat) (cfg : List Word) (old : TouchState) (new : TouchState) :
    (s.postReport h cfg old new).fuses = s.fuses := by
  simp [State.postReport]

@[simp] theorem State.runSet_fuses (s : State) (h : Nat) (g : ScanSet) : (s.runSet h g).fuses = s.fuses := by
  unfold State.runSet
  dsimp only
  split_ifs <;> simp

@[simp] theorem State.startSet_fuses (s : State) (h : Nat) (g : ScanSet) : (s.startSet h g).fuses = s.fuses := by
  unfold State.startSet
  extract_lets x l x1 y cfg
  clear_value y
  split
  · exact s.setTouch_fuses h y
  · have hb := (s.baseline_spares h cfg).1
    cases hbase : s.baseline h cfg with
    | mk factory s1 =>
      rw [hbase] at hb
      rw [State.runSet_fuses, State.setFld_fuses, State.setTouch_fuses, hb]

@[simp] theorem State.staleSet_fuses (s : State) (h : Nat) (g : ScanSet) : (s.staleSet h g).fuses = s.fuses := by
  simp [State.staleSet]

end Sys2Proof.Machine
end

section
/-! PROOFS. Only FUSE_PROGRAM changes the fuses, and no blown fuse becomes whole (O6). -/

namespace Sys2Proof.Machine

/-! ### The fuses through the rows that are no command of the catalogue -/

/-- The outcome of a row in state `s` has the fuses of `s`. -/
def FusesKept (s : State) : Host.Outcome State Fault Refusal → Prop
  | .next t => t.fuses = s.fuses
  | _ => True

@[simp] theorem fusesKept_next {s t : State} : FusesKept s (.next t) ↔ t.fuses = s.fuses := Iff.rfl

@[simp] theorem fusesKept_refused {s : State} (r : Refusal) : FusesKept s (.refused r) := trivial

@[simp] theorem fusesKept_fault {s : State} (f : Fault) : FusesKept s (.fault f) := trivial

theorem FusesKept.live {s t : State} (h : t.fuses = s.fuses) : FusesKept s (.next (s.ifLive t)) :=
  fusesKept_next.2 (State.ifLive_fuses h)

theorem finish_fuses (e : CmdEntry) (r : Res) : (finish e r).fuses = r.state.fuses := by
  cases r with
  | done t st p => exact (congrArg State.fuses (finish_done e t st p)).trans (t.post_fuses e st p)
  | wait t w => rfl

theorem startCmd_fuses (s : State) (sel : CmdEntry → Bool) {run : State → CmdEntry → Res}
    (h : ∀ (u : State) (e : CmdEntry), (run u e).state.fuses = u.fuses) : (startCmd s sel run).fuses = s.fuses := by
  unfold startCmd
  split
  · rfl
  · split
    · rw [finish_fuses, h, s.popCmd_fuses]
    · rfl

theorem State.arrived_fuses (s : State) (i : Nat) (l : LineIn) : (s.arrived i l).2.fuses = s.fuses := by
  cases l with
  | dsi f l =>
    unfold State.arrived
    dsimp only
    split <;> rfl
  | lvds l0 l1 k =>
    unfold State.arrived
    dsimp only
    split
    · rfl
    · exact s.lvdsLine_fuses i l0 l1 k

theorem execPowerOnReset_fuses (prof : Fin 8) (b : BootFinds) (s : State) : FusesKept s (execPowerOnReset prof b s) := by
  simp [execPowerOnReset]

theorem execPorstNLowPulse_fuses (long : Bool) (cut : Option Bool) (s : State) : FusesKept s (execPorstNLowPulse long cut s) := by
  refine fusesKept_next.2 ?_
  split
  · exact (State.volatileLost_fuses _).trans (s.cutWord_fuses cut)
  · rfl

theorem execFirstCountedFrame_fuses (h : Fin 4) (s : State) : FusesKept s (execFirstCountedFrame h s) :=
  .live (by simp)

theorem execPwrFailNFall_fuses (s : State) : FusesKept s (execPwrFailNFall s) :=
  .live (by simp)

theorem execUnpark_fuses (s : State) : FusesKept s (execUnpark s) :=
  .live (by simp)

theorem execSystemTick_fuses (rx : List InSignal) (s : State) : FusesKept s (execSystemTick rx s) :=
  .live (by simp)

theorem execBlinkPhaseChange_fuses (s : State) : FusesKept s (execBlinkPhaseChange s) :=
  .live (by simp)

theorem execBacklightLevelCompute_fuses (s : State) : FusesKept s (execBacklightLevelCompute s) :=
  .live (by simp)

theorem execBlCurrentRegulation_fuses (s : State) : FusesKept s (execBlCurrentRegulation s) :=
  .live (by simp)

theorem execCalTargetRecompute_fuses (s : State) : FusesKept s (execCalTargetRecompute s) :=
  .live (by simp)

theorem execSvcDebounceChange_fuses (samples : List Bool) (s : State) : FusesKept s (execSvcDebounceChange samples s) := by
  refine .live ?_
  split <;> simp

theorem execP1WindowOpen_fuses (s : State) : FusesKept s (execP1WindowOpen s) :=
  .live (by simp)

theorem execP1WindowClose_fuses (s : State) : FusesKept s (execP1WindowClose s) :=
  .live (by simp)

theorem execSealPulseSample_fuses (first : Bool) (second : Bool) (s : State) : FusesKept s (execSealPulseSample first second s) :=
  .live (by simp)

theorem execSealStateChange_fuses (s : State) : FusesKept s (execSealStateChange s) :=
  .live (by simp)

theorem execLogAppend_fuses (s : State) : FusesKept s (execLogAppend s) := by
  refine .live ?_
  split <;> simp

theorem execTtDebouncedChange_fuses (n : Fin 16) (high : Bool) (stood : Nat) (s : State) :
    FusesKept s (execTtDebouncedChange n high stood s) :=
  .live (by simp)

theorem execGpioEdge_fuses (pins : BitVec 8) (s : State) : FusesKept s (execGpioEdge pins s) :=
  .live (by simp)

theorem execVppOkChange_fuses (ok : Bool) (s : State) : FusesKept s (execVppOkChange ok s) :=
  .live (by simp)

theorem execDebugRelock_fuses (enRose : Bool) (s : State) : FusesKept s (execDebugRelock enRose s) :=
  .live (by simp)

theorem execCommand_fuses (t : List CwClock) (s : State) : FusesKept s (execCommand t s) := by
  refine .live ?_
  split <;> simp

theorem execReply_fuses (t : List CwClock) (s : State) : FusesKept s (execReply t s) := by
  refine .live ?_
  split <;> simp

theorem execStatus_fuses (t : List CwClock) (s : State) : FusesKept s (execStatus t s) := by
  refine .live ?_
  split <;> simp

theorem execPush_fuses (t : List CwClock) (s : State) : FusesKept s (execPush t s) := by
  refine .live ?_
  split <;> simp

theorem execWidthReset_fuses (t : List CwClock) (s : State) : FusesKept s (execWidthReset t s) := by
  refine .live ?_
  split <;> simp

theorem execBadKind_fuses (t : List CwClock) (s : State) : FusesKept s (execBadKind t s) := by
  refine .live ?_
  split <;> simp

theorem execFraming_fuses (t : List CwClock) (s : State) : FusesKept s (execFraming t s) := by
  refine .live ?_
  split <;> simp

theorem execCrcError_fuses (s : State) : FusesKept s (execCrcError s) :=
  fusesKept_next.2 (startCmd_fuses s _ fun _ _ => rfl)

theorem execUnknownOpcode_fuses (s : State) : FusesKept s (execUnknownOpcode s) :=
  fusesKept_next.2 (startCmd_fuses s _ fun _ _ => rfl)

theorem execScribeRelease_fuses (s : State) : FusesKept s (execScribeRelease s) :=
  .live (by simp)

theorem execTagTimeout_fuses (s : State) : FusesKept s (execTagTimeout s) :=
  .live (by simp)

theorem execLoadStalled_fuses (s : State) : FusesKept s (execLoadStalled s) :=
  .live (by simp)

theorem execScribeFault_fuses (s : State) : FusesKept s (execScribeFault s) :=
  .live (by simp)

theorem execEtchFetchFault_fuses (s : State) : FusesKept s (execEtchFetchFault s) :=
  .live (by simp)

theorem execStylusRelease_fuses (s : State) : FusesKept s (execStylusRelease s) :=
  .live (by simp)

theorem execScribeGatedWrite_fuses (a : Nat) (w : Word) (s : State) : FusesKept s (execScribeGatedWrite a w s) :=
  .live (by simp)

theorem execScribeDmaWrite_fuses (target : Fin 8) (off : Nat) (d : List Byte) (fetch : Option (Fin 1048576)) (portA : Option PortOp)
    (s : State) :
    FusesKept s (execScribeDmaWrite target off d fetch portA s) := by
  refine .live ?_
  dsimp only
  (repeat' split) <;> simp

theorem execCommitInstant_fuses (repair : List Word) (s : State) : FusesKept s (execCommitInstant repair s) :=
  .live (by simp)

theorem execLoserRetirement_fuses (s : State) : FusesKept s (execLoserRetirement s) :=
  .live (by simp)

theorem execEnrolSessionTimeout_fuses (s : State) : FusesKept s (execEnrolSessionTimeout s) := by
  refine .live ?_
  split <;> simp

theorem execPowerEntryComplete_fuses (s : State) : FusesKept s (execPowerEntryComplete s) := by
  refine .live ?_
  dsimp only
  (repeat' split) <;> simp

theorem execWakeEvent_fuses (k : Fin 8) (pin : Fin 16) (s : State) : FusesKept s (execWakeEvent k pin s) :=
  .live (by simp)

theorem execWakeTimerExpiry_fuses (s : State) : FusesKept s (execWakeTimerExpiry s) :=
  .live (by simp)

theorem execWakeNColdBoot_fuses (prof : Fin 8) (b : BootFinds) (s : State) : FusesKept s (execWakeNColdBoot prof b s) := by
  simp [execWakeNColdBoot]

theorem execWakeComplete_fuses (s : State) : FusesKept s (execWakeComplete s) :=
  .live (by simp)

theorem execDomainPowerUpDone_fuses (n : Fin 25) (repair : Word) (s : State) : FusesKept s (execDomainPowerUpDone n repair s) :=
  .live (by simp)

theorem execDrainTimeout_fuses (n : Fin 25) (lost : Nat) (s : State) : FusesKept s (execDrainTimeout n lost s) :=
  .live (by simp)

theorem execDomainOff_fuses (n : Fin 25) (s : State) : FusesKept s (execDomainOff n s) :=
  .live (by simp)

theorem execAdcConversion_fuses (code : Fin 4096) (s : State) : FusesKept s (execAdcConversion code s) :=
  .live (by simp)

theorem execCrankEnd_fuses (s : State) : FusesKept s (execCrankEnd s) := by
  refine .live ?_
  split <;> simp

theorem execPlateTsenseSample_fuses (t : ℤ) (s : State) : FusesKept s (execPlateTsenseSample t s) :=
  .live (by simp)

theorem execRefreshHiRelease_fuses (s : State) : FusesKept s (execRefreshHiRelease s) :=
  .live (by simp)

theorem execDeepBandSlower_fuses (s : State) : FusesKept s (execDeepBandSlower s) :=
  .live (by simp)

theorem execSelfRefreshBurst_fuses (s : State) : FusesKept s (execSelfRefreshBurst s) :=
  .live (by simp)

theorem execPeriodStart_fuses (s : State) : FusesKept s (execPeriodStart s) :=
  .live (by simp)

theorem execPlateRequest_fuses (c : Fin 20) (r : ReqBody) (s : State) : FusesKept s (execPlateRequest c r s) :=
  .live (by simp)

theorem execWaitingRequestAdmitted_fuses (c : Fin 20) (s : State) : FusesKept s (execWaitingRequestAdmitted c s) := by
  refine .live ?_
  split <;> simp

theorem execPlateAccess_fuses (word : Nat) (mask : Nat) (s : State) : FusesKept s (execPlateAccess word mask s) :=
  .live (by simp)

theorem execEtchWordWrite_fuses (log : Bool) (ok : Bool) (s : State) : FusesKept s (execEtchWordWrite log ok s) :=
  .live (by simp)

theorem execEtchStagingTimeout_fuses (s : State) : FusesKept s (execEtchStagingTimeout s) := by
  refine .live ?_
  split <;> simp

theorem execInputFrameStart_fuses (i : Fin 4) (vc1 : Bool) (s : State) : FusesKept s (execInputFrameStart i vc1 s) :=
  .live (by simp)

theorem execInputLine_fuses (i : Fin 4) (vc1 : Bool) (l : LineIn) (s : State) : FusesKept s (execInputLine i vc1 l s) := by
  have harrived := s.arrived_fuses i.val l
  refine .live ?_
  split
  · rfl
  · generalize s.arrived i.val l = x at harrived
    obtain ⟨_ | ⟨f, px, whole⟩, t⟩ := x
    · exact harrived
    · rw [State.saWatch_fuses, State.wholeLine_fuses]
      exact harrived

theorem execInputFrameEnd_fuses (i : Fin 4) (vc1 : Bool) (s : State) : FusesKept s (execInputFrameEnd i vc1 s) :=
  .live (by simp)

theorem execDsiPacket_fuses (p : Fin 2) (lanes : List (List Byte)) (hdr : HdrEcc) (crcOk : Bool) (s : State) :
    FusesKept s (execDsiPacket p lanes hdr crcOk s) := by
  refine .live ?_
  dsimp only
  (repeat' split) <;> simp

theorem execWriteMemoryStart_fuses (p : Fin 2) (px : List Pix) (s : State) : FusesKept s (execWriteMemoryStart p px s) :=
  .live (by simp)

theorem execWriteMemoryContinue_fuses (p : Fin 2) (px : List Pix) (s : State) : FusesKept s (execWriteMemoryContinue p px s) :=
  .live (by simp)

theorem execSetColumnAddress_fuses (p : Fin 2) (first : Fin 65536) (last : Fin 65536) (s : State) :
    FusesKept s (execSetColumnAddress p first last s) :=
  .live (by simp)

theorem execSetPageAddress_fuses (p : Fin 2) (first : Fin 65536) (last : Fin 65536) (s : State) :
    FusesKept s (execSetPageAddress p first last s) :=
  .live (by simp)

theorem execSetTearOn_fuses (p : Fin 2) (s : State) : FusesKept s (execSetTearOn p s) :=
  .live (by simp)

theorem execSetTearOff_fuses (p : Fin 2) (s : State) : FusesKept s (execSetTearOff p s) :=
  .live (by simp)

theorem execEnterSleepMode_fuses (p : Fin 2) (s : State) : FusesKept s (execEnterSleepMode p s) :=
  .live (by simp)

theorem execExitSleepMode_fuses (p : Fin 2) (s : State) : FusesKept s (execExitSleepMode p s) :=
  .live (by simp)

theorem execGetPowerMode_fuses (p : Fin 2) (s : State) : FusesKept s (execGetPowerMode p s) :=
  .live (by simp)

theorem execGetPixelFormat_fuses (p : Fin 2) (s : State) : FusesKept s (execGetPixelFormat p s) :=
  .live (by simp)

theorem execGetSignalMode_fuses (p : Fin 2) (s : State) : FusesKept s (execGetSignalMode p s) :=
  .live (by simp)

theorem execBusTurnaround_fuses (p : Fin 2) (s : State) : FusesKept s (execBusTurnaround p s) :=
  .live (by simp)

theorem execUlpsEntry_fuses (p : Fin 2) (s : State) : FusesKept s (execUlpsEntry p s) :=
  .live (by simp)

theorem execUlpsExit_fuses (p : Fin 2) (s : State) : FusesKept s (execUlpsExit p s) :=
  .live (by simp)

theorem execInputLost_fuses (i : Fin 4) (s : State) : FusesKept s (execInputLost i s) :=
  .live (by simp)

theorem execLvdsLock_fuses (i : Fin 2) (khz : Nat) (s : State) : FusesKept s (execLvdsLock i khz s) :=
  .live (by simp)

theorem execVc1Line_fuses (p : Fin 2) (f : PixFmt) (packets : List (List Pix)) (s : State) : FusesKept s (execVc1Line p f packets s) :=
  .live (by simp)

theorem execFenceCommitCopy_fuses (s : State) : FusesKept s (execFenceCommitCopy s) := by
  refine .live ?_
  split <;> simp

theorem execFenceFlip_fuses (s : State) : FusesKept s (execFenceFlip s) := by
  refine .live ?_
  split <;> simp

theorem execFenceCatchupCopy_fuses (s : State) : FusesKept s (execFenceCatchupCopy s) := by
  refine .live ?_
  split <;> simp

theorem execFrameStart_fuses (h : Fin 4) (s : State) : FusesKept s (execFrameStart h s) :=
  .live (by simp)

theorem execLinePeriod_fuses (h : Fin 4) (wrong : List Nat) (upsets : List (Fin 32 × Fin 2 × Nat × Word)) (s : State) :
    FusesKept s (execLinePeriod h wrong upsets s) :=
  .live (by simp)

theorem execFrameBoundary_fuses (h : Fin 4) (s : State) : FusesKept s (execFrameBoundary h s) :=
  .live (by simp)

theorem execUrgentFrameStart_fuses (h : Fin 4) (s : State) : FusesKept s (execUrgentFrameStart h s) :=
  .live (by simp)

theorem execHoldMaxExpiry_fuses (h : Fin 4) (s : State) : FusesKept s (execHoldMaxExpiry h s) :=
  .live (by simp)

theorem execStageApply_fuses (h : Fin 4) (s : State) : FusesKept s (execStageApply h s) :=
  .live (by simp)

theorem execTableLoad_fuses (h : Fin 4) (k : Fin 6) (s : State) : FusesKept s (execTableLoad h k s) :=
  .live (by simp)

theorem execStationTimeout_fuses (c : Fin 8) (command : Bool) (s : State) : FusesKept s (execStationTimeout c command s) := by
  refine .live ?_
  cases command with
  | true =>
    rw [if_pos rfl]
    split
    · split
      · exact (s.finishRunning_spares stTimeout []).1
      · rfl
    · rfl
  | false =>
    rw [if_neg (by decide)]
    split <;> simp

theorem execFurlComplete_fuses (c : Fin 8) (s : State) : FusesKept s (execFurlComplete c s) := by
  refine .live ?_
  split <;> simp

theorem execUnfurlComplete_fuses (c : Fin 8) (tReturn : Fin 256) (s : State) : FusesKept s (execUnfurlComplete c tReturn s) :=
  .live (by simp)

theorem execReturnActivity_fuses (c : Fin 8) (s : State) : FusesKept s (execReturnActivity c s) :=
  .live (by simp)

theorem execTrainingSet_fuses (c : Fin 8) (lead : Byte) (s0 : Byte) (s1 : Byte) (allDone : Bool) (s : State) :
    FusesKept s (execTrainingSet c lead s0 s1 allDone s) :=
  .live (by simp)

theorem execEnumAck_fuses (c : Fin 8) (pkt : List Byte) (caps2 : Word) (minDrive : Fin 65536) (s : State) :
    FusesKept s (execEnumAck c pkt caps2 minDrive s) := by
  refine .live ?_
  split
  · rfl
  · split <;> simp

theorem execRateSwitch_fuses (c : Fin 8) (s : State) : FusesKept s (execRateSwitch c s) :=
  .live (by simp)

theorem execEqReq_fuses (c : Fin 8) (pkt : List Byte) (s : State) : FusesKept s (execEqReq c pkt s) := by
  refine .live ?_
  split
  · rfl
  · exact s.packetIn_fuses _ _ _ (fun p => by simp)

theorem execTrainingStateTimeout_fuses (c : Fin 8) (s : State) : FusesKept s (execTrainingStateTimeout c s) :=
  .live (by simp)

theorem execSequenceLimit_fuses (c : Fin 8) (s : State) : FusesKept s (execSequenceLimit c s) :=
  .live (by simp)

theorem execTrainingReturnSilent_fuses (c : Fin 8) (s : State) : FusesKept s (execTrainingReturnSilent c s) :=
  .live (by simp)

theorem execBackoffExpiry_fuses (c : Fin 8) (s : State) : FusesKept s (execBackoffExpiry c s) := by
  refine .live ?_
  split <;> simp

theorem execBeaconWindowOpen_fuses (c : Fin 8) (s : State) : FusesKept s (execBeaconWindowOpen c s) :=
  .live (by simp)

theorem execBeaconWindowClose_fuses (c : Fin 8) (s : State) : FusesKept s (execBeaconWindowClose c s) :=
  .live (by simp)

theorem execReturnLost_fuses (c : Fin 8) (s : State) : FusesKept s (execReturnLost c s) :=
  .live (by simp)

theorem execStatusPacket_fuses (c : Fin 8) (pkt : List Byte) (s : State) : FusesKept s (execStatusPacket c pkt s) := by
  refine .live ?_
  split
  · rfl
  · exact s.packetIn_fuses _ _ _ (s.statusIn_fuses c)

theorem execRegReply_fuses (c : Fin 8) (pkt : List Byte) (s : State) : FusesKept s (execRegReply c pkt s) := by
  refine .live ?_
  split
  · rfl
  · exact s.packetIn_fuses _ _ _ (s.regReplyIn_fuses c)

theorem execEyePointDone_fuses (c : Fin 8) (errors : Nat) (s : State) : FusesKept s (execEyePointDone c errors s) := by
  refine .live ?_
  split <;> simp

theorem execEyePacket_fuses (c : Fin 8) (pkt : List Byte) (s : State) : FusesKept s (execEyePacket c pkt s) := by
  refine .live ?_
  split
  · rfl
  · exact s.packetIn_fuses _ _ _ (s.eyeIn_fuses c)

theorem execEyePacketTimeout_fuses (c : Fin 8) (s : State) : FusesKept s (execEyePacketTimeout c s) := by
  refine .live ?_
  split <;> simp

theorem execLoopbackLogInterval_fuses (c : Fin 8) (rx : List (BitVec 64)) (err : Word) (s : State) :
    FusesKept s (execLoopbackLogInterval c rx err s) := by
  refine .live ?_
  split <;> simp

theorem execLoopbackTargetReached_fuses (c : Fin 8) (rx : List (BitVec 64)) (err : Word) (hi : Word) (lo : Word) (sync : Word) (s : State) :
    FusesKept s (execLoopbackTargetReached c rx err hi lo sync s) := by
  refine .live ?_
  split <;> simp

theorem execScanPacket_fuses (c : Fin 8) (pkt : List Byte) (s : State) : FusesKept s (execScanPacket c pkt s) := by
  refine .live ?_
  split
  · rfl
  · exact s.packetIn_fuses _ _ _ (s.scanIn_fuses c)

theorem execScanSetTimeout_fuses (h : Fin 4) (s : State) : FusesKept s (execScanSetTimeout h s) :=
  .live (by simp)

theorem execScanSetProcessed_fuses (h : Fin 4) (s : State) : FusesKept s (execScanSetProcessed h s) := by
  refine .live ?_
  dsimp only
  (repeat' split) <;> simp

theorem execCalRunDone_fuses (found : List (ℤ × ℤ)) (s : State) : FusesKept s (execCalRunDone found s) := by
  refine .live ?_
  split <;> simp

theorem execPwmPeriodStart_fuses (h : Fin 4) (s : State) : FusesKept s (execPwmPeriodStart h s) :=
  .live (by simp)

/-- The rows that start no command of the catalogue. -/
theorem exec_fuses_of_not_catalogue {c : Instr} (hc : opcodeOf c = none) (s : State) : FusesKept s (exec c s) := by
  cases c with
  | powerOnReset prof b => exact execPowerOnReset_fuses prof b s
  | porstNLowPulse long cut => exact execPorstNLowPulse_fuses long cut s
  | firstCountedFrame h => exact execFirstCountedFrame_fuses h s
  | pwrFailNFall => exact execPwrFailNFall_fuses s
  | unpark => exact execUnpark_fuses s
  | systemTick rx => exact execSystemTick_fuses rx s
  | blinkPhaseChange => exact execBlinkPhaseChange_fuses s
  | backlightLevelCompute => exact execBacklightLevelCompute_fuses s
  | blCurrentRegulation => exact execBlCurrentRegulation_fuses s
  | calTargetRecompute => exact execCalTargetRecompute_fuses s
  | svcDebounceChange samples => exact execSvcDebounceChange_fuses samples s
  | p1WindowOpen => exact execP1WindowOpen_fuses s
  | p1WindowClose => exact execP1WindowClose_fuses s
  | sealPulseSample first second => exact execSealPulseSample_fuses first second s
  | sealStateChange => exact execSealStateChange_fuses s
  | logAppend => exact execLogAppend_fuses s
  | ttDebouncedChange n high stood => exact execTtDebouncedChange_fuses n high stood s
  | gpioEdge pins => exact execGpioEdge_fuses pins s
  | vppOkChange ok => exact execVppOkChange_fuses ok s
  | debugRelock enRose => exact execDebugRelock_fuses enRose s
  | command t => exact execCommand_fuses t s
  | reply t => exact execReply_fuses t s
  | status t => exact execStatus_fuses t s
  | push t => exact execPush_fuses t s
  | widthReset t => exact execWidthReset_fuses t s
  | badKind t => exact execBadKind_fuses t s
  | framing t => exact execFraming_fuses t s
  | crcError => exact execCrcError_fuses s
  | unknownOpcode => exact execUnknownOpcode_fuses s
  | scribeRelease => exact execScribeRelease_fuses s
  | tagTimeout => exact execTagTimeout_fuses s
  | loadStalled => exact execLoadStalled_fuses s
  | scribeFault => exact execScribeFault_fuses s
  | etchFetchFault => exact execEtchFetchFault_fuses s
  | stylusRelease => exact execStylusRelease_fuses s
  | scribeGatedWrite a w => exact execScribeGatedWrite_fuses a w s
  | scribeDmaWrite target off d fetch portA => exact execScribeDmaWrite_fuses target off d fetch portA s
  | commitInstant repair => exact execCommitInstant_fuses repair s
  | loserRetirement => exact execLoserRetirement_fuses s
  | enrolSessionTimeout => exact execEnrolSessionTimeout_fuses s
  | powerEntryComplete => exact execPowerEntryComplete_fuses s
  | wakeEvent k pin => exact execWakeEvent_fuses k pin s
  | wakeTimerExpiry => exact execWakeTimerExpiry_fuses s
  | wakeNColdBoot prof b => exact execWakeNColdBoot_fuses prof b s
  | wakeComplete => exact execWakeComplete_fuses s
  | domainPowerUpDone n repair => exact execDomainPowerUpDone_fuses n repair s
  | drainTimeout n lost => exact execDrainTimeout_fuses n lost s
  | domainOff n => exact execDomainOff_fuses n s
  | adcConversion code => exact execAdcConversion_fuses code s
  | crankEnd => exact execCrankEnd_fuses s
  | plateTsenseSample t => exact execPlateTsenseSample_fuses t s
  | refreshHiRelease => exact execRefreshHiRelease_fuses s
  | deepBandSlower => exact execDeepBandSlower_fuses s
  | selfRefreshBurst => exact execSelfRefreshBurst_fuses s
  | periodStart => exact execPeriodStart_fuses s
  | plateRequest c r => exact execPlateRequest_fuses c r s
  | waitingRequestAdmitted c => exact execWaitingRequestAdmitted_fuses c s
  | plateAccess word mask => exact execPlateAccess_fuses word mask s
  | etchWordWrite log ok => exact execEtchWordWrite_fuses log ok s
  | etchStagingTimeout => exact execEtchStagingTimeout_fuses s
  | inputFrameStart n vc1 => exact execInputFrameStart_fuses n vc1 s
  | inputLine n vc1 l => exact execInputLine_fuses n vc1 l s
  | inputFrameEnd n vc1 => exact execInputFrameEnd_fuses n vc1 s
  | dsiPacket p lanes hdr crcOk => exact execDsiPacket_fuses p lanes hdr crcOk s
  | writeMemoryStart p px => exact execWriteMemoryStart_fuses p px s
  | writeMemoryContinue p px => exact execWriteMemoryContinue_fuses p px s
  | setColumnAddress p first last => exact execSetColumnAddress_fuses p first last s
  | setPageAddress p first last => exact execSetPageAddress_fuses p first last s
  | setTearOn p => exact execSetTearOn_fuses p s
  | setTearOff p => exact execSetTearOff_fuses p s
  | enterSleepMode p => exact execEnterSleepMode_fuses p s
  | exitSleepMode p => exact execExitSleepMode_fuses p s
  | getPowerMode p => exact execGetPowerMode_fuses p s
  | getPixelFormat p => exact execGetPixelFormat_fuses p s
  | getSignalMode p => exact execGetSignalMode_fuses p s
  | busTurnaround p => exact execBusTurnaround_fuses p s
  | ulpsEntry p => exact execUlpsEntry_fuses p s
  | ulpsExit p => exact execUlpsExit_fuses p s
  | inputLost n => exact execInputLost_fuses n s
  | lvdsLock n khz => exact execLvdsLock_fuses n khz s
  | vc1Line p f packets => exact execVc1Line_fuses p f packets s
  | fenceCommitCopy => exact execFenceCommitCopy_fuses s
  | fenceFlip => exact execFenceFlip_fuses s
  | fenceCatchupCopy => exact execFenceCatchupCopy_fuses s
  | frameStart h => exact execFrameStart_fuses h s
  | linePeriod h wrong upsets => exact execLinePeriod_fuses h wrong upsets s
  | frameBoundary h => exact execFrameBoundary_fuses h s
  | urgentFrameStart h => exact execUrgentFrameStart_fuses h s
  | holdMaxExpiry h => exact execHoldMaxExpiry_fuses h s
  | stageApply h => exact execStageApply_fuses h s
  | tableLoad h k => exact execTableLoad_fuses h k s
  | stationTimeout c command => exact execStationTimeout_fuses c command s
  | furlComplete c => exact execFurlComplete_fuses c s
  | unfurlComplete c tReturn => exact execUnfurlComplete_fuses c tReturn s
  | returnActivity c => exact execReturnActivity_fuses c s
  | trainingSet c lead s0 s1 allDone => exact execTrainingSet_fuses c lead s0 s1 allDone s
  | enumAck c pkt caps2 minDrive => exact execEnumAck_fuses c pkt caps2 minDrive s
  | rateSwitch c => exact execRateSwitch_fuses c s
  | eqReq c pkt => exact execEqReq_fuses c pkt s
  | trainingStateTimeout c => exact execTrainingStateTimeout_fuses c s
  | sequenceLimit c => exact execSequenceLimit_fuses c s
  | trainingReturnSilent c => exact execTrainingReturnSilent_fuses c s
  | backoffExpiry c => exact execBackoffExpiry_fuses c s
  | beaconWindowOpen c => exact execBeaconWindowOpen_fuses c s
  | beaconWindowClose c => exact execBeaconWindowClose_fuses c s
  | returnLost c => exact execReturnLost_fuses c s
  | statusPacket c pkt => exact execStatusPacket_fuses c pkt s
  | regReply c pkt => exact execRegReply_fuses c pkt s
  | eyePointDone c errors => exact execEyePointDone_fuses c errors s
  | eyePacket c pkt => exact execEyePacket_fuses c pkt s
  | eyePacketTimeout c => exact execEyePacketTimeout_fuses c s
  | loopbackLogInterval c rx err => exact execLoopbackLogInterval_fuses c rx err s
  | loopbackTargetReached c rx err hi lo sync => exact execLoopbackTargetReached_fuses c rx err hi lo sync s
  | scanPacket c pkt => exact execScanPacket_fuses c pkt s
  | scanSetTimeout h => exact execScanSetTimeout_fuses h s
  | scanSetProcessed h => exact execScanSetProcessed_fuses h s
  | calRunDone found => exact execCalRunDone_fuses found s
  | pwmPeriodStart h => exact execPwmPeriodStart_fuses h s
  | _ => cases hc

/-! ### The rows of the catalogue, and every row but FUSE_PROGRAM (R178) -/

theorem StartsRun.exec_fuses {c : Instr} {op : Nat} (h : StartsRun c op) (s : State) : FusesKept s (exec c s) := by
  obtain ⟨sel, run, hexec, -, hrun⟩ := h s
  rw [hexec]
  exact fusesKept_next.2 (startCmd_fuses s sel fun u e => (hrun u e).1)

theorem exec_etchRead_fuses (word mask : Nat) (s : State) : FusesKept s (exec (.etchRead word mask) s) := by
  obtain ⟨run, hexec, hrun⟩ := etchRead_starts word mask s
  rw [hexec]
  exact .live ((startCmd_fuses _ _ fun u e => (hrun u e).1).trans rfl)

/-- R207: a mode write of a width keeps the fuses, as the register write that it is. -/
theorem exec_cwModeWrite_fuses (s : State) : FusesKept s (exec .cwModeWrite s) := by
  have hstart : (startCmd s (isWrite 2) (fun s e => s.regWrite e [])).fuses = s.fuses :=
    startCmd_fuses s _ fun u e => (u.regWrite_runs e []).1
  refine fusesKept_next.2 ?_
  dsimp only
  split
  · exact hstart
  · split
    · exact (State.pendWidth_fuses _ _).trans hstart
    · exact hstart

/-- R178: no row but FUSE_PROGRAM changes the fuses. -/
theorem exec_fuses {c : Instr} (hc : ∀ v vpp pwr, c ≠ .fuseProgram v vpp pwr) (s : State) : FusesKept s (exec c s) := by
  cases hop : opcodeOf c with
  | none => exact exec_fuses_of_not_catalogue hop s
  | some op =>
    by_cases hetch : ∃ w m, c = .etchRead w m
    · obtain ⟨w, m, rfl⟩ := hetch
      exact exec_etchRead_fuses w m s
    by_cases hmode : c = .cwModeWrite
    · subst hmode
      exact exec_cwModeWrite_fuses s
    push Not at hetch
    exact (startsRun_of_opcodeOf hop hetch hmode hc).exec_fuses s

/-- Settles O6: every other row by what its operations leave, FUSE_PROGRAM by its burn and the shadow. -/
theorem fusesAreOneWay : Obligations.FusesAreOneWay := by
  unfold Obligations.FusesAreOneWay
  refine ⟨fun c s t hc hx => ?_, fun v vpp pwr s t hs hx => exec_fuseProgram_shadowed hs hx⟩
  have hkept := exec_fuses hc s
  rw [hx] at hkept
  exact fusesKept_next.1 hkept

end Sys2Proof.Machine
end

section
/-! PROOFS. The Command Window's lines and transactions (R201 to R246): the reset state, CW_IRQ_N, and how each transaction is judged. -/

namespace Sys2Proof.Machine

/-- Settles O3: every clause evaluates the reset state. -/
theorem resetState : Obligations.ResetState := by
  unfold Obligations.ResetState
  refine ⟨rfl, rfl, rfl, rfl, rfl, ?_, ?_, rfl, rfl, rfl, rfl, rfl, rfl, ?_, ?_⟩
  all_goals decide

/-! ### CW_IRQ_N and its causes (R241 to R244) -/

theorem getBits_one (x : Word) (k : Nat) : getBits x k 1 = (x.getLsbD k).toNat := bitsOf_one x.toNat k

theorem getBits_one_eq_one (x : Word) (k : Nat) : getBits x k 1 = 1 ↔ x.getLsbD k = true := by
  rw [getBits_one, Bool.toNat_eq_one]

theorem and_ne_zero_iff (x y : Word) : x &&& y ≠ 0 ↔ ∃ k, k < 32 ∧ x.getLsbD k = true ∧ y.getLsbD k = true := by
  constructor
  · intro h
    by_contra hnone
    refine h (BitVec.eq_of_getLsbD_eq fun k hk => ?_)
    rw [BitVec.getLsbD_and]
    exact (Bool.eq_false_iff.2 fun hb => hnone ⟨k, hk, Bool.and_eq_true_iff.1 hb⟩).trans BitVec.getLsbD_zero.symm
  · rintro ⟨k, -, hx, hy⟩ h
    have hbit : (x &&& y).getLsbD k = true := by simp [hx, hy]
    simp [h] at hbit

theorem State.irqLow_iff (s : State) :
    s.irqLow = true ↔ ∃ k : Nat, k < 32 ∧ getBits s.irqStatus k 1 = 1 ∧ getBits (s.rd 0x30008) k 1 = 1 := by
  simp only [State.irqLow, bne_iff_ne, and_ne_zero_iff, getBits_one_eq_one]

/-- R243: the REPLY cause. -/
theorem State.replyCause_iff (s : State) : getBits s.irqStatus 0 1 = 1 ↔ s.cw.replyQ ≠ [] := by
  rw [State.irqStatus, getBits_putBits _ _ _ _ (by decide)]
  cases s.cw.replyQ <;> simp

/-- The other causes stand in CW_IRQ_STATUS as they are. -/
theorem State.getBits_irqStatus (s : State) {k : Nat} (hk : 1 ≤ k) : getBits s.irqStatus k 1 = getBits (s.rd 0x30004) k 1 :=
  getBits_putBits_disjoint _ _ _ _ _ _ (.inl hk)

/-- R244: a command that leaves a full queue sets SPACE. -/
theorem State.popCmd_full {s : State} (h : s.cw.cmdQ.length = 16) :
    s.popCmd = ({ s with cw := { s.cw with cmdQ := s.cw.cmdQ.tail } } : State).setFld ⟨0x30004, causeSpace, 1⟩ 1 := by
  rw [State.popCmd, if_pos h]
  rfl

theorem State.popCmd_short {s : State} (h : s.cw.cmdQ.length < 16) :
    s.popCmd = { s with cw := { s.cw with cmdQ := s.cw.cmdQ.tail } } := by
  rw [State.popCmd, if_neg (by omega)]

theorem State.spaceCause_popCmd {s : State} (h : s.cw.cmdQ.length = 16) : getBits s.popCmd.irqStatus 1 1 = 1 := by
  rw [State.getBits_irqStatus _ (by decide), State.popCmd_full h]
  exact State.fld_setFld _ ⟨0x30004, 1, 1⟩ 1 (by decide)

/-- Settles O16: a bit stands in both registers exactly when CW_IRQ_N is low; the REPLY cause is computed, SPACE set by the pop. -/
theorem interruptLine : Obligations.InterruptLine := by
  unfold Obligations.InterruptLine
  refine ⟨State.irqLow_iff, State.replyCause_iff, fun s h => ⟨State.spaceCause_popCmd h, by simp [h]⟩, fun s h => ?_⟩
  rw [State.popCmd_short h]
  rfl

/-! ### Transactions -/

theorem exec_command (t : List CwClock) (s : State) : exec (.command t) s = execCommand t s := rfl
theorem exec_reply (t : List CwClock) (s : State) : exec (.reply t) s = execReply t s := rfl
theorem exec_status (t : List CwClock) (s : State) : exec (.status t) s = execStatus t s := rfl
theorem exec_push (t : List CwClock) (s : State) : exec (.push t) s = execPush t s := rfl
theorem exec_widthReset (t : List CwClock) (s : State) : exec (.widthReset t) s = execWidthReset t s := rfl
theorem exec_badKind (t : List CwClock) (s : State) : exec (.badKind t) s = execBadKind t s := rfl
theorem exec_framing (t : List CwClock) (s : State) : exec (.framing t) s = execFraming t s := rfl

section
variable {s : State} {t : List CwClock} (hs : s.off = false)
include hs

theorem exec_command_spelled {b : List Byte} {stray : Bool} (ht : s.transaction t = .command b stray) :
    exec (.command t) s = .next (s.highZ.commandTx b stray) := by
  rw [exec_command, execCommand, ht, State.ifLive_of_on hs]

theorem exec_push_spelled {b : List Byte} {stray : Bool} (ht : s.transaction t = .push b stray) :
    exec (.push t) s = .next (s.highZ.pushTx b stray) := by
  rw [exec_push, execPush, ht, State.ifLive_of_on hs]

end

/-! ### COMMAND (R216) -/

/-- The command of the bytes `b` enters the command queue. -/
def State.queueCmd (s : State) (b : List Byte) (ok : Bool) : State :=
  { s with cw := { s.cw with cmdQ := s.cw.cmdQ ++
      [⟨b.getD 0 0, b.getD 1 0, wordsOf ((b.drop 4).take (4 * beNat ((b.drop 2).take 2))), ok, s.cw.pushCount⟩] } }

section
variable {s : State} {b : List Byte} {stray : Bool}

theorem State.commandTx_tooLong (h4 : 4 ≤ b.length) (hn : 1026 < beNat ((b.drop 2).take 2)) :
    s.commandTx b stray = (s.satAdd F.CW_ERR_COUNT_FRAME_CNT 1).endTx errTooLong := if_pos ⟨h4, hn⟩

theorem State.commandTx_framed (hn : b.length < 4 ∨ beNat ((b.drop 2).take 2) ≤ 1026)
    (hcut : stray = true ∨ b.length < 4 ∨ b.length ≠ cmdTxLen (beNat ((b.drop 2).take 2))) : s.commandTx b stray = s.framed := by
  unfold State.commandTx
  rw [if_neg (by omega), if_pos hcut]

variable (hn : beNat ((b.drop 2).take 2) ≤ 1026) (hstray : stray = false) (hlen : b.length = cmdTxLen (beNat ((b.drop 2).take 2)))
include hn hstray hlen

/-- R216 rule 3. -/
theorem State.commandTx_full (hq : 16 ≤ s.cw.cmdQ.length) :
    s.commandTx b stray = (s.satAdd F.CW_ERR_COUNT_FULL_CNT 1).endTx errCmdqFull := by
  have h4 : 4 ≤ b.length := by rw [hlen, cmdTxLen]; omega
  unfold State.commandTx
  rw [if_neg (by omega), if_neg (by simp [hstray, ← hlen, h4]), if_pos hq]

/-- R216 rules 4 and 5. -/
theorem State.commandTx_room (hq : s.cw.cmdQ.length < 16) {ok : Bool}
    (hok : (crc16 (b.take (4 + 4 * beNat ((b.drop 2).take 2))) == beNat (b.drop (4 + 4 * beNat ((b.drop 2).take 2)))) = ok) :
    s.commandTx b stray =
      if ok then (s.queueCmd b ok).endTx errNone else ((s.queueCmd b ok).satAdd F.CW_ERR_COUNT_CRC_CNT 1).endTx errCrc := by
  have h4 : 4 ≤ b.length := by rw [hlen, cmdTxLen]; omega
  unfold State.commandTx
  rw [if_neg (by omega), if_neg (by simp [hstray, ← hlen, h4]), if_neg (by omega)]
  dsimp only
  rw [hok]
  rfl

end

/-- Settles O9: the five outcomes of R216, in its order. -/
theorem commandIsJudgedInOrder : Obligations.CommandIsJudgedInOrder := by
  unfold Obligations.CommandIsJudgedInOrder
  intro s t b stray hs ht n whole e good u
  rw [exec_command_spelled hs ht]
  have hwhole : whole ↔ stray = false ∧ b.length = cmdTxLen n := Iff.rfl
  refine ⟨fun h4 hn => ?_, fun h => ?_, fun hn hw hq => ?_, fun hn hw hq hcrc => ?_, fun hn hw hq hcrc => ?_⟩
  · rw [State.commandTx_tooLong h4 hn]
    rfl
  · have hcut : stray = true ∨ b.length < 4 ∨ b.length ≠ cmdTxLen n := by
      cases stray <;> simp only [hwhole, true_and] at h <;> tauto
    rw [State.commandTx_framed (h.imp_right And.left) hcut]
    rfl
  · rw [State.commandTx_full (s := s.highZ) hn hw.1 hw.2 hq]
    rfl
  · rw [State.commandTx_room (s := s.highZ) hn hw.1 hw.2 hq (beq_false_of_ne hcrc)]
    rfl
  · rw [State.commandTx_room (s := s.highZ) hn hw.1 hw.2 hq (beq_iff_eq.2 hcrc)]
    rfl

end Sys2Proof.Machine
end

section
/-! PROOFS. REPLY and STATUS: what they deliver, and what they remove (R205, R207, R218 to R223). -/

namespace Sys2Proof.Machine

/-! ### The output phase (R205, Table 5-1) -/

theorem byteClocks_pos (q : Bool) : 0 < byteClocks q := by cases q <;> decide

/-- The bytes that a host takes from `k` clocks of the output phase: the last one may be cut. -/
theorem div_byteClocks (q : Bool) (n : Nat) : (byteClocks q * n + byteClocks q - 1) / byteClocks q = n := by
  cases q <;> simp [byteClocks] <;> omega

/-- What the port drives: the first clocks of the output phase, at most those of the bytes to send. -/
theorem State.drive_out (s : State) (q : Bool) (at_ k : Nat) (b : List Byte) :
    (s.drive q at_ k b).cw.outClocks = min k (byteClocks q * b.length) ∧ (s.drive q at_ k b).cw.outAt = at_ ∧
      (byteClocks q * b.length ≤ k → (s.drive q at_ k b).cw.out = b) ∧
      ∀ i, i < (s.drive q at_ k b).cw.out.length → (s.drive q at_ k b).cw.out.getD i 0 = b.getD i 0 := by
  refine ⟨rfl, rfl, fun h => ?_, fun i hi => ?_⟩
  · simp only [State.drive, Nat.min_eq_right h, div_byteClocks, List.take_length]
  · simp only [State.drive, List.length_take] at hi ⊢
    rw [List.getD_eq_getElem?_getD, List.getD_eq_getElem?_getD, List.getElem?_take_of_lt (by omega)]

@[simp] theorem State.drive_replyQ (s : State) (q : Bool) (at_ k : Nat) (b : List Byte) :
    (s.drive q at_ k b).cw.replyQ = s.cw.replyQ := rfl
@[simp] theorem State.drive_lastRemoved (s : State) (q : Bool) (at_ k : Nat) (b : List Byte) :
    (s.drive q at_ k b).cw.lastRemoved = s.cw.lastRemoved := rfl

/-! ### REPLY (R218 to R221) -/

section
variable {s : State} {t : List CwClock} {ctl : Byte} {l : List Byte} {n : Nat} (hs : s.off = false)
include hs

theorem exec_reply_spelled (ht : s.transaction t = .reply (ctl :: l) n) :
    exec (.reply t) s = .next ((s.drive s.quad (2 * byteClocks s.quad + turnaround s.quad) (n - byteClocks s.quad - turnaround s.quad)
      (s.delivery ctl).1).replyTx ctl (n - byteClocks s.quad - turnaround s.quad) s.quad) := by
  rw [exec_reply, execReply, ht, State.ifLive_of_on hs]

end

/-- Which reply a REPLY_CTL asks for: the oldest for NEXT, the one removed last for REPEAT. -/
def State.asked (s : State) (ctl : Byte) : Option Reply :=
  if ctl = 0 then s.cw.replyQ.head? else if ctl = 1 then s.cw.lastRemoved else none

section
variable {s : State} {ctl : Byte} {r : Reply} {n : Nat} {q : Bool}

theorem State.delivery_some (h : s.asked ctl = some r) : s.delivery ctl = (replyBytes r, some r) := by
  rw [State.asked] at h
  simp only [State.delivery, h, Option.elim_some]

theorem State.delivery_none (h : s.asked ctl = none) : s.delivery ctl = (emptyMarker, none) := by
  rw [State.asked] at h
  simp only [State.delivery, h, Option.elim_none]

/-- R219: NEXT, of a reply that is clocked out whole. -/
theorem State.replyTx_next (h : s.asked 0 = some r) (hw : byteClocks q * (replyBytes r).length ≤ n) :
    s.replyTx 0 n q = ((s.deliverWidth r).removeReply r).endTx errNone := by
  rw [State.replyTx, State.delivery_some h]
  simp [hw]

theorem State.replyTx_next_short (h : s.asked 0 = some r) (hw : n < byteClocks q * (replyBytes r).length) :
    s.replyTx 0 n q = ((s.deliverWidth r).keepReply r).endTx errShortRead := by
  rw [State.replyTx, State.delivery_some h]
  simp [hw]

/-- R220: REPEAT changes no queue. -/
theorem State.replyTx_repeat (h : s.asked 1 = some r) :
    s.replyTx 1 n q = s.endTx (if byteClocks q * (replyBytes r).length ≤ n then errNone else errShortRead) := by
  rw [State.replyTx, State.delivery_some h]
  simp

theorem State.replyTx_empty (h : s.asked ctl = none) (hctl : ctl.toNat ≤ 1) : s.replyTx ctl n q = s.endTx errReplyEmpty := by
  rw [State.replyTx, State.delivery_none h]
  simp [hctl]

theorem State.replyTx_bad (h : s.asked ctl = none) (hctl : 1 < ctl.toNat) : s.replyTx ctl n q = s.framed := by
  rw [State.replyTx, State.delivery_none h]
  simp [Nat.not_le.2 hctl]

end

theorem State.asked_other (s : State) {ctl : Byte} (h : 1 < ctl.toNat) : s.asked ctl = none := by
  have h0 : ctl ≠ 0 := by rintro rfl; exact absurd h (by decide)
  have h1 : ctl ≠ 1 := by rintro rfl; exact absurd h (by decide)
  rw [State.asked, if_neg h0, if_neg h1]

theorem State.keepReply_next {s : State} {r : Reply} {rs : List Reply} (h : s.cw.replyQ = r :: rs) (hr : r.width = none) :
    s.keepReply r = s := by
  obtain ⟨tag, status, payload, width⟩ := r
  obtain rfl : width = none := hr
  simp only [State.keepReply, h, List.tail_cons]
  rw [← h]

theorem State.deliverWidth_none (s : State) {r : Reply} (hr : r.width = none) : s.deliverWidth r = s := by
  rw [State.deliverWidth, hr]

theorem State.deliverWidth_some (s : State) {r : Reply} {w : Nat} (hr : r.width = some w) :
    s.deliverWidth r = s.setFld F.CW_MODE_WIDTH w := by
  rw [State.deliverWidth, hr]

/-- R207: the width takes effect with the transaction that first delivers its reply, whole or not. -/
theorem State.replyTx_width {s : State} {r : Reply} {rs : List Reply} {w n : Nat} {q : Bool} (h : s.cw.replyQ = r :: rs)
    (hr : r.width = some w) (hw : w ≤ 1) : (s.replyTx 0 n q).fld F.CW_MODE_WIDTH = w ∧
      ((s.replyTx 0 n q).cw.replyQ = rs ∨ (s.replyTx 0 n q).cw.replyQ = { r with width := none } :: rs) := by
  have hasked : s.asked 0 = some r := by simp [State.asked, h]
  have hwidth : (s.setFld F.CW_MODE_WIDTH w).fld F.CW_MODE_WIDTH = w :=
    (State.fld_setFld s _ _ (by decide)).trans (Nat.mod_eq_of_lt (Nat.lt_succ_of_le hw))
  by_cases hwhole : byteClocks q * (replyBytes r).length ≤ n
  · rw [State.replyTx_next hasked hwhole, s.deliverWidth_some hr]
    exact ⟨hwidth, .inl (by simp [State.endTx, State.removeReply, h])⟩
  · rw [State.replyTx_next_short hasked (Nat.not_le.1 hwhole), s.deliverWidth_some hr]
    exact ⟨hwidth, .inr (by simp [State.endTx, State.keepReply, h])⟩

/-- Settles O10: what NEXT, REPEAT and any other REPLY_CTL deliver, remove and count, and when a pending width takes effect. -/
theorem replyIsDelivered : Obligations.ReplyIsDelivered := by
  unfold Obligations.ReplyIsDelivered
  refine ⟨?_, ?_⟩
  · intro s t ctl l n hs ht q bc ta k u marker
    have hexec : exec (.reply t) s = .next ((u (s.delivery ctl).1).replyTx ctl k q) := exec_reply_spelled hs ht
    have hsome (r : Reply) (h : s.asked ctl = some r) : exec (.reply t) s = .next ((u (replyBytes r)).replyTx ctl k q) := by
      rw [hexec, State.delivery_some h]
    have hnone (h : s.asked ctl = none) : exec (.reply t) s = .next ((u marker).replyTx ctl k q) := by
      rw [hexec, State.delivery_none h]
      rfl
    refine ⟨?_, ?_, ?_, ?_, ?_, ?_, fun b => s.drive_out q _ k b⟩
    · rintro rfl r rs hq hr hwhole
      have h : s.asked 0 = some r := by simp [State.asked, hq]
      rw [hsome r h, State.replyTx_next (s := u _) h hwhole, State.deliverWidth_none _ hr]
      obtain ⟨tag, status, payload, width⟩ := r
      obtain rfl : width = none := hr
      simp only [State.removeReply, u, State.drive_replyQ, hq, List.tail_cons]
    · rintro rfl r rs hq hr hshort
      have h : s.asked 0 = some r := by simp [State.asked, hq]
      rw [hsome r h, State.replyTx_next_short (s := u _) h hshort, State.deliverWidth_none _ hr, State.keepReply_next (s := u _) hq hr]
    · rintro rfl hq
      have h : s.asked 0 = none := by simp [State.asked, hq]
      rw [hnone h, State.replyTx_empty (s := u _) h (by decide)]
    · rintro rfl r hr
      have h : s.asked 1 = some r := by simp [State.asked, hr]
      rw [hsome r h, State.replyTx_repeat (s := u _) h]
      rfl
    · rintro rfl hr
      have h : s.asked 1 = none := by simp [State.asked, hr]
      rw [hnone h, State.replyTx_empty (s := u _) h (by decide)]
    · intro hctl
      have h : s.asked ctl = none := s.asked_other hctl
      rw [hnone h, State.replyTx_bad (s := u _) h hctl]
      rfl
  · intro s u t l n w r rs hs ht hq hr hw hx
    rw [exec_reply_spelled hs ht] at hx
    obtain rfl := Host.Outcome.next.inj hx
    obtain ⟨hwidth, hrest⟩ := State.replyTx_width (s := s.drive _ _ _ _) hq hr hw
    refine ⟨hwidth, fun p hp => ?_⟩
    rcases hrest with hrest | hrest
    · exact .inl (hrest ▸ hp)
    · rw [hrest] at hp
      exact .inr (by simpa [eq_comm] using hp)

/-! ### STATUS (R222, R223) -/

theorem exec_status_spelled {s : State} {t : List CwClock} {n : Nat} (hs : s.off = false) (ht : s.transaction t = .status n) :
    exec (.status t) s = .next (s.drive s.quad (byteClocks s.quad + turnaround s.quad) (n - turnaround s.quad)
      (beBytes 4 s.snapshot ++ wordBytes s.irqStatus ++ List.replicate ((n - turnaround s.quad) / byteClocks s.quad + 1) 0)) := by
  rw [exec_status, execStatus, ht, State.ifLive_of_on hs]

theorem leBytes_length (n : Nat) : ∀ v, (leBytes n v).length = n := by
  induction n with
  | zero => exact fun _ => rfl
  | succ n ih => exact fun v => by simp [leBytes, ih]

theorem beBytes_length (n v : Nat) : (beBytes n v).length = n := by rw [beBytes, List.length_reverse, leBytes_length]

/-- The bytes of a STATUS transaction: snapshot, CW_IRQ_STATUS, and a zero for every further byte that the host takes. -/
def State.statusBytes (s : State) (zeros : Nat) : List Byte :=
  beBytes 4 s.snapshot ++ wordBytes s.irqStatus ++ List.replicate zeros 0

theorem State.statusBytes_length (s : State) (zeros : Nat) : (s.statusBytes zeros).length = 8 + zeros := by
  simp [State.statusBytes, wordBytes, beBytes_length]
  omega

theorem State.take_statusBytes (s : State) (zeros : Nat) :
    (s.statusBytes zeros).take 8 = beBytes 4 s.snapshot ++ wordBytes s.irqStatus := by
  rw [State.statusBytes, List.take_left' (by simp [wordBytes, beBytes_length])]

theorem State.drop_statusBytes (s : State) (zeros : Nat) : (s.statusBytes zeros).drop 8 = List.replicate zeros 0 := by
  rw [State.statusBytes, List.drop_left' (by simp [wordBytes, beBytes_length])]

/-- Settles O11: the zeros behind the two words reach past the last clock, so the port drives every clock. -/
theorem statusChangesNothing : Obligations.StatusChangesNothing := by
  unfold Obligations.StatusChangesNothing
  intro s t n hs ht bc k
  have hbc : 0 < bc := byteClocks_pos s.quad
  have henough : k ≤ bc * (s.statusBytes (k / bc + 1)).length := by
    rw [State.statusBytes_length]
    calc k ≤ bc * (k / bc + 1) := (Nat.lt_mul_div_succ k hbc).le
      _ ≤ bc * (8 + (k / bc + 1)) := Nat.mul_le_mul_left _ (Nat.le_add_left _ _)
  have hbytes : (k + bc - 1) / bc ≤ 8 + (k / bc + 1) := by
    calc (k + bc - 1) / bc ≤ (k + bc) / bc := Nat.div_le_div_right (Nat.sub_le _ _)
      _ = k / bc + 1 := Nat.add_div_right k hbc
      _ ≤ 8 + (k / bc + 1) := Nat.le_add_left _ _
  let u := s.drive s.quad (byteClocks s.quad + turnaround s.quad) k (s.statusBytes (k / bc + 1))
  have hclocks : u.cw.outClocks = k := Nat.min_eq_left henough
  have hout : u.cw.out = (s.statusBytes (k / bc + 1)).take ((k + bc - 1) / bc) :=
    congrArg (fun c => (s.statusBytes (k / bc + 1)).take ((c + bc - 1) / bc)) hclocks
  have hlen : u.cw.out.length = (k + bc - 1) / bc := by
    rw [hout, List.length_take, State.statusBytes_length, Nat.min_eq_left hbytes]
  refine ⟨u, exec_status_spelled hs ht, ?_, rfl, hlen, ?_, fun x hx => ?_⟩
  · rw [← hclocks]
    rfl
  · rw [hlen, hout, List.take_take, Nat.min_comm, ← List.take_take, State.take_statusBytes]
  · rw [hout, List.drop_take, State.drop_statusBytes] at hx
    exact List.eq_of_mem_replicate (List.mem_of_mem_take hx)

end Sys2Proof.Machine
end

section
/-! PROOFS. PUSH: how a transaction is judged, what an accepted push writes, and what a refused one leaves (R224 to R226, R929). -/

namespace Sys2Proof.Machine

/-! ### The handle that a push names -/

theorem State.regions_getElem? (s : State) {r : Nat} (h : r ≤ 31) : s.regions[r]? = some (s.region r) := by
  have hr : r < s.regions.toList.length := by simpa using Nat.lt_succ_of_le h
  rw [State.region, ← Vector.getElem?_toList, List.getD_eq_getElem?_getD, List.getElem?_eq_getElem hr, Option.getD_some]

theorem State.regions_getElem?_none (s : State) {r : Nat} (h : ¬ r ≤ 31) : s.regions[r]? = none :=
  getElem?_neg s.regions r (by omega)

/-- R224 rule 3. -/
theorem State.pushBad_eq_false_iff (s : State) (r flags n off : Nat) :
    s.pushBad r flags n off = false ↔ flags = 0 ∧ 1 ≤ n ∧ n ≤ 16320 ∧ r ≤ 31 ∧ (s.region r).st = 1 ∧ off = (s.region r).next ∧
      off + n ≤ (s.region r).len := by
  unfold State.pushBad
  by_cases hr : r ≤ 31
  · simp [s.regions_getElem? hr, hr, and_assoc, Nat.one_le_iff_ne_zero]
  · simp [s.regions_getElem?_none hr, hr]

theorem State.acceptPush_eq (s : State) {r : Nat} (h : r ≤ 31) (off : Nat) (d : List Byte) :
    s.acceptPush r off d = { s.setRegion r { s.region r with next := (s.region r).next + d.length } with
      cw := { s.cw with
        pushBuf := s.cw.pushBuf ++ [⟨s.cw.pushCount, r, (s.region r).addr + off, d⟩], pushCount := s.cw.pushCount + 1 } } := by
  rw [State.acceptPush, s.regions_getElem? h]
  rfl

/-! ### What R929 shows -/

@[simp] theorem State.pushShow_cw (s : State) (r : Nat) (ok : Bool) : (s.pushShow r ok).cw = s.cw := rfl
@[simp] theorem State.pushShow_regions (s : State) (r : Nat) (ok : Bool) : (s.pushShow r ok).regions = s.regions := rfl

/-! ### The judgement (R224) -/

section
variable {s : State} {b : List Byte} {stray : Bool}

theorem State.pushTx_short (h : b.length < 8) : s.pushTx b stray = s.framed := if_pos h

variable (h8 : 8 ≤ b.length)
include h8

theorem State.pushTx_framed (h : stray = true ∨ b.length ≠ 8 + beNat ((b.drop 2).take 2) + 2) :
    s.pushTx b stray = (s.pushShow (b.getD 0 0).toNat false).framed := by
  rw [State.pushTx, if_neg (Nat.not_lt.2 h8), if_pos h]

variable (hstray : stray = false) (hlen : b.length = 8 + beNat ((b.drop 2).take 2) + 2)
include hstray hlen

/-- A packet of the right length is judged by the credit, by its header, and by its CRC. -/
theorem State.pushTx_whole : s.pushTx b stray =
    let n := beNat ((b.drop 2).take 2)
    let r := (b.getD 0 0).toNat
    let off := beNat ((b.drop 4).take 4)
    if s.pushFree < n then ((s.pushShow r false).satAdd F.CW_ERR_COUNT_PUSH_CNT 1).endTx errPushCredit
    else if s.pushBad r (b.getD 1 0).toNat n off then ((s.pushShow r false).satAdd F.CW_ERR_COUNT_PUSH_CNT 1).endTx errPushRegion
    else if crc16 (b.take (8 + n)) ≠ beNat (b.drop (8 + n)) then ((s.pushShow r false).satAdd F.CW_ERR_COUNT_CRC_CNT 1).endTx errCrc
    else ((s.acceptPush r off ((b.drop 8).take n)).pushShow r true).endTx errNone := by
  rw [State.pushTx, if_neg (Nat.not_lt.2 h8), if_neg (by simp [hstray, ← hlen])]

end

/-- R225: a transaction that ends with an error has taken no push. -/
theorem State.pushTx_refused (s : State) (b : List Byte) (stray : Bool) (h : (s.pushTx b stray).cw.lastErr ≠ errNone) :
    (s.pushTx b stray).cw.pushBuf = s.cw.pushBuf ∧ (s.pushTx b stray).cw.pushCount = s.cw.pushCount ∧
      (s.pushTx b stray).regions = s.regions := by
  unfold State.pushTx at h ⊢
  dsimp only at h ⊢
  split_ifs at h ⊢
  iterate 5 exact ⟨rfl, rfl, rfl⟩
  exact absurd rfl h

/-- Settles O12: the outcomes of R224 in its order, and R225 for each but the last. -/
theorem pushIsJudgedInOrder : Obligations.PushIsJudgedInOrder := by
  unfold Obligations.PushIsJudgedInOrder
  refine ⟨?_, ?_⟩
  · intro s t b stray hs ht r n off whole legal u
    rw [exec_push_spelled hs ht]
    have hlegal : u.pushBad r (b.getD 1 0).toNat n off = false ↔ legal := u.pushBad_eq_false_iff r _ n off
    have hillegal (h : ¬ legal) : u.pushBad r (b.getD 1 0).toNat n off = true := Bool.eq_true_of_not_eq_false (mt hlegal.1 h)
    have h8 (hw : whole) : 8 ≤ b.length := by rw [hw.2]; omega
    have hlen (hw : whole) : b.length = 8 + n + 2 := by rw [hw.2]; omega
    have hjudge (hw : whole) := State.pushTx_whole (s := u) (h8 hw) hw.1 (hlen hw)
    refine ⟨fun hshort => ?_, fun hb hw => ?_, fun hw hfree => ?_, fun hw hfree hl => ?_, fun hw hfree hl hcrc => ?_,
      fun hw hfree hl hcrc => ?_⟩
    · rw [State.pushTx_short hshort]
      rfl
    · have hcut : stray = true ∨ b.length ≠ 8 + n + 2 := by
        by_contra hno
        push Not at hno
        exact hw ⟨by simpa using hno.1, by omega⟩
      rw [State.pushTx_framed hb hcut]
      rfl
    · exact congrArg _ ((hjudge hw).trans (if_pos hfree))
    · exact congrArg _ ((hjudge hw).trans ((if_neg (Nat.not_lt.2 hfree)).trans (if_pos (hillegal hl))))
    · exact congrArg _ ((hjudge hw).trans ((if_neg (Nat.not_lt.2 hfree)).trans
        ((if_neg (ne_true_of_eq_false (hlegal.2 hl))).trans (if_pos hcrc))))
    · have hr : r ≤ 31 := hl.2.2.2.1
      have hd : ((b.drop 8).take n).length = n := by simp [hw.2]; omega
      refine congrArg _ ((hjudge hw).trans ((if_neg (Nat.not_lt.2 hfree)).trans
        ((if_neg (ne_true_of_eq_false (hlegal.2 hl))).trans ((if_neg (not_not_intro hcrc)).trans ?_))))
      rw [u.acceptPush_eq hr, hd]
      rfl
  · intro s u t hx h
    have hsame : exec (.push t) s = .next s → u.cw.pushBuf = s.cw.pushBuf ∧ u.cw.pushCount = s.cw.pushCount ∧ u.regions = s.regions := by
      intro hself
      obtain rfl := Host.Outcome.next.inj (hself.symm.trans hx)
      exact ⟨rfl, rfl, rfl⟩
    cases hs : s.off with
    | true => exact hsame (by rw [exec_push, execPush, State.ifLive, hs]; rfl)
    | false =>
      cases ht : s.transaction t with
      | push b stray =>
        rw [exec_push_spelled hs ht] at hx
        obtain rfl := Host.Outcome.next.inj hx
        exact s.highZ.pushTx_refused b stray (h.resolve_right (by simp [hs]))
      | _ => exact hsame (by rw [exec_push, execPush, ht, State.ifLive_self])

end Sys2Proof.Machine
end

section
/-! PROOFS. Which transaction the clocks of a host spell, and the transactions that carry nothing (R203, R204, R208, R213, R214). -/

namespace Sys2Proof.Machine

/-! ### Bytes of the clocks (R203, R204) -/

theorem quadBytes_short {t : List CwClock} (h : t.length < 2) : quadBytes t = ([], t.length) := by
  match t with
  | [] => rfl
  | [_] => rfl

theorem singleBytes_short {t : List CwClock} (h : t.length < 8) : singleBytes t = ([], t.length) := by
  match t with
  | [] | [_] | [_, _] | [_, _, _] | [_, _, _, _] | [_, _, _, _, _] | [_, _, _, _, _, _] | [_, _, _, _, _, _, _] => rfl

theorem clockBytes_short (q : Bool) {t : List CwClock} (h : t.length < byteClocks q) : clockBytes q t = ([], t.length) := by
  cases q with
  | true => exact quadBytes_short h
  | false => exact singleBytes_short h

/-- The clocks of one byte, and those behind it. -/
theorem clocksOf_cons (q : Bool) (b : Byte) (l : List Byte) : clocksOf q (b :: l) = clocksOf q [b] ++ clocksOf q l := by
  simp [clocksOf]

theorem clocksOf_length (q : Bool) (l : List Byte) : (clocksOf q l).length = byteClocks q * l.length := by
  induction l with
  | nil => simp [clocksOf]
  | cons b l ih =>
    rw [clocksOf_cons, List.length_append, ih, List.length_cons, Nat.mul_succ, Nat.add_comm]
    cases q <;> rfl

theorem cwLine_bit (x : Nat) : cwLine (BitVec.ofNat 4 (x % 2)) 0 = x % 2 := by
  simp [cwLine, BitVec.toNat_ofNat]

/-- Bits taken most significant first make the number. -/
theorem foldl_bits (x n acc : Nat) :
    (List.range n).reverse.foldl (fun a k => 2 * a + x / 2 ^ k % 2) acc = acc * 2 ^ n + x % 2 ^ n := by
  induction n generalizing acc with
  | zero => simp [Nat.mod_one]
  | succ n ih =>
    rw [List.range_succ, List.reverse_append, List.reverse_singleton, List.singleton_append, List.foldl_cons, ih, Nat.mod_pow_succ]
    ring

/-- A byte that the host clocks out is the byte that the port reads. -/
theorem clockBytes_cons (q : Bool) (b : Byte) (t : List CwClock) :
    clockBytes q (clocksOf q [b] ++ t) = (b :: (clockBytes q t).1, (clockBytes q t).2) := by
  have hb := b.isLt
  cases q with
  | true =>
    have hbyte : BitVec.ofNat 8 (16 * (BitVec.ofNat 4 (b.toNat / 16)).toNat + (BitVec.ofNat 4 b.toNat).toNat) = b := by
      apply BitVec.eq_of_toNat_eq
      simp only [BitVec.toNat_ofNat]
      omega
    simp only [clockBytes, clocksOf, List.flatMap_cons, List.flatMap_nil, List.append_nil, if_true, List.cons_append,
      List.nil_append, quadBytes, hbyte]
  | false =>
    have hbyte : BitVec.ofNat 8 ([7, 6, 5, 4, 3, 2, 1, 0].foldl (fun n k => 2 * n + b.toNat / 2 ^ k % 2) 0) = b := by
      rw [show [7, 6, 5, 4, 3, 2, 1, 0] = (List.range 8).reverse from rfl, foldl_bits]
      exact BitVec.eq_of_toNat_eq (by simpa using hb)
    simp only [clockBytes, clocksOf, List.flatMap_cons, List.flatMap_nil, List.append_nil, Bool.false_eq_true, if_false, List.map,
      List.cons_append, List.nil_append, singleBytes, List.foldl, cwLine_bit]
    simpa using hbyte

theorem clockBytes_clocksOf (q : Bool) (l : List Byte) {cut : List CwClock} (h : cut.length < byteClocks q) :
    clockBytes q (clocksOf q l ++ cut) = (l, cut.length) := by
  induction l with
  | nil => exact clockBytes_short q h
  | cons b l ih => rw [clocksOf_cons, List.append_assoc, clockBytes_cons, ih]

/-! ### The kind of a transaction (R208, R213) -/

/-- R208: eight clocks with CW_IO0 high. -/
abbrev isWidthReset (t : List CwClock) : Bool := t.length = 8 && t.all (fun x => cwLine x 0 == 1)

section
variable {s : State} {t : List CwClock}

theorem State.transaction_kind {kind : Byte} {b : List Byte} {k : Nat} (hne : t ≠ []) (hreset : isWidthReset t = false)
    (h : clockBytes s.quad t = (kind :: b, k)) :
    s.transaction t =
      if kind = 1 then .command b (k != 0)
      else if kind = 2 then .reply b (t.length - byteClocks s.quad)
      else if kind = 3 then .status (t.length - byteClocks s.quad)
      else if kind = 4 then .push b (k != 0)
      else .badKind := by
  rw [State.transaction, if_neg (by simpa using hne), if_neg (ne_true_of_eq_false hreset), h]

theorem State.transaction_cut (hne : t ≠ []) (hlen : t.length < byteClocks s.quad) : s.transaction t = .cutKind := by
  have h8 : t.length ≠ 8 := by
    have hle : byteClocks s.quad ≤ 8 := by cases s.quad <;> decide
    omega
  rw [State.transaction, if_neg (by simpa using hne), if_neg (by simp [h8]), clockBytes_short _ hlen]

end

/-- In single width 0xFF is the one kind byte whose clocks keep CW_IO0 high. -/
theorem kind_of_all_high : ∀ kind : Byte, (clocksOf false [kind]).all (fun x => cwLine x 0 == 1) = true → kind = 0xFF := by decide

/-- In quad width the clocks of a kind byte below 16 do not keep CW_IO0 high. -/
theorem small_kind_low : ∀ kind : Byte, kind.toNat < 16 → (clocksOf true [kind]).all (fun x => cwLine x 0 == 1) = false := by decide

theorem isWidthReset_clocksOf (q : Bool) {kind : Byte} (b : List Byte) (cut : List CwClock)
    (h : if q then kind.toNat < 16 else kind ≠ 0xFF) : isWidthReset (clocksOf q (kind :: b) ++ cut) = false := by
  have hlow : (clocksOf q [kind]).all (fun x => cwLine x 0 == 1) = false := by
    cases q with
    | true => exact small_kind_low kind h
    | false => exact Bool.eq_false_iff.2 (mt (kind_of_all_high kind) h)
  rw [isWidthReset, clocksOf_cons, List.append_assoc, List.all_append, hlow]
  simp

/-! ### One line alone counts in single width (R203) -/

/-- The clocks with CW_IO1 to CW_IO3 low. -/
def firstLine (t : List CwClock) : List CwClock := t.map (fun x => BitVec.ofNat 4 (cwLine x 0))

theorem cwLine_firstLine (x : CwClock) : cwLine (BitVec.ofNat 4 (cwLine x 0)) 0 = cwLine x 0 := by
  have h : cwLine x 0 = cwLine x 0 % 2 := by simp [cwLine]
  rw [h]
  exact cwLine_bit _

theorem singleBytes_firstLine (t : List CwClock) : singleBytes (firstLine t) = singleBytes t := by
  induction t using singleBytes.induct with
  | case1 a b c d e f g h t ih =>
    simp only [firstLine, List.map_cons] at ih ⊢
    simp only [singleBytes, ih, List.foldl, cwLine_firstLine]
  | case2 t hshort =>
    have hlen : t.length < 8 := by
      match t, hshort with
      | [], _ | [_], _ | [_, _], _ | [_, _, _], _ | [_, _, _, _], _ | [_, _, _, _, _], _ | [_, _, _, _, _, _], _ |
        [_, _, _, _, _, _, _], _ => simp
      | a :: b :: c :: d :: e :: f :: g :: h :: t, hshort => exact (hshort a b c d e f g h t rfl).elim
    rw [singleBytes_short hlen, singleBytes_short (by simpa [firstLine] using hlen)]
    simp [firstLine]

theorem State.transaction_firstLine {s : State} (hq : s.quad = false) (t : List CwClock) :
    s.transaction (firstLine t) = s.transaction t := by
  have hbytes : clockBytes s.quad (firstLine t) = clockBytes s.quad t := by
    rw [hq]
    exact singleBytes_firstLine t
  have hall : (firstLine t).all (fun x => cwLine x 0 == 1) = t.all (fun x => cwLine x 0 == 1) := by
    simp only [firstLine, List.all_map, Function.comp_def, cwLine_firstLine]
  have hlen : (firstLine t).length = t.length := by simp [firstLine]
  have hempty : (firstLine t).isEmpty = t.isEmpty := by simp [firstLine]
  rw [State.transaction, hbytes, hall, hlen, hempty]
  rfl

/-! ### The transactions that carry nothing -/

theorem exec_framing_command {s : State} {t : List CwClock} {b : List Byte} {stray : Bool} (ht : s.transaction t = .command b stray) :
    exec (.framing t) s = exec (.command t) s := by
  rw [exec_framing, exec_command, execFraming, execCommand, ht]

theorem exec_framing_push {s : State} {t : List CwClock} {b : List Byte} {stray : Bool} (ht : s.transaction t = .push b stray) :
    exec (.framing t) s = exec (.push t) s := by
  rw [exec_framing, exec_push, execFraming, execPush, ht]

/-- Settles O13: the clocks of the bytes spell the bytes, and the first of them names the transaction. -/
theorem emptyTransactions : Obligations.EmptyTransactions := by
  unfold Obligations.EmptyTransactions
  refine ⟨?reset, ?none, ?spelled, fun s => ⟨rfl, rfl⟩, ?line⟩
  case reset =>
    intro s t hs ht u
    rw [exec_widthReset, execWidthReset, ht, State.ifLive_of_on hs]
    rfl
  case none =>
    intro s t hs u
    refine ⟨fun ht => ?_, fun ht => ?_, fun b stray ht => exec_framing_command ht, fun b stray ht => exec_framing_push ht⟩
    · rw [exec_badKind, execBadKind, ht, State.ifLive_of_on hs]
      rfl
    · rw [exec_framing, execFraming, State.ifLive_of_on hs]
      rcases ht with ht | ⟨n, ht⟩
      · rw [ht]
        rfl
      · rw [ht]
        rfl
  case spelled =>
    intro s b cut hcut t n
    have hcut' : cut.length < byteClocks s.quad := hcut
    have hlen (kind : Byte) : (t kind).length - byteClocks s.quad = n := by
      simp only [t, n, List.length_append, clocksOf_length, List.length_cons, Nat.mul_succ, byteClocks]
      omega
    have hstray : (cut.length != 0) = !cut.isEmpty := by cases cut <;> rfl
    have hkind (kind : Byte) (h : if s.quad then kind.toNat < 16 else kind ≠ 0xFF) :
        s.transaction (t kind) =
          if kind = 1 then .command b (!cut.isEmpty)
          else if kind = 2 then .reply b n
          else if kind = 3 then .status n
          else if kind = 4 then .push b (!cut.isEmpty)
          else .badKind := by
      have hne : t kind ≠ [] := by
        refine List.ne_nil_of_length_pos ?_
        have := byteClocks_pos s.quad
        rw [List.length_append, clocksOf_length, List.length_cons, Nat.mul_succ]
        omega
      rw [State.transaction_kind hne (isWidthReset_clocksOf s.quad b cut h) (clockBytes_clocksOf s.quad _ hcut'), hlen, hstray]
    have hsmall (kind : Byte) (h : kind.toNat < 16) : if s.quad then kind.toNat < 16 else kind ≠ 0xFF := by
      split
      · exact h
      · rintro rfl
        exact absurd h (by decide)
    refine ⟨hkind 1 (hsmall 1 (by decide)), hkind 2 (hsmall 2 (by decide)), hkind 3 (hsmall 3 (by decide)), hkind 4 (hsmall 4 (by decide)),
      fun kind hk hff hq => ?_, fun hne => State.transaction_cut hne hcut'⟩
    have hother (m : Byte) (hm : 1 ≤ m.toNat ∧ m.toNat ≤ 4) : kind ≠ m := by
      rintro rfl
      omega
    rw [hkind kind (by rw [hq]; exact hff), if_neg (hother 1 (by decide)), if_neg (hother 2 (by decide)), if_neg (hother 3 (by decide)),
      if_neg (hother 4 (by decide))]
  case line =>
    intro s t v hq h
    have hfirst : firstLine t = firstLine v := by
      simpa [firstLine, Function.comp_def] using congrArg (List.map (fun n => BitVec.ofNat 4 n)) h
    rw [← State.transaction_firstLine hq t, hfirst, State.transaction_firstLine hq v]

end Sys2Proof.Machine
end

section
/-! PROOFS. What a transaction leaves alone (R217). -/

namespace Sys2Proof.Machine

/-- `t` differs from `s` in the Command Window, in regions and in registers of the CW block, and neither in the executing command nor in
CW_IRQ_STATUS. -/
def State.WindowOnly (s t : State) : Prop :=
  t = { s with cw := t.cw, regions := t.regions, regs := t.regs } ∧ (∀ a, a < 0x30000 ∨ 0x40000 ≤ a → t.rd a = s.rd a) ∧
    t.cw.running = s.cw.running ∧ t.rd 0x30004 = s.rd 0x30004

namespace State.WindowOnly
variable {s t u : State}

theorem refl (s : State) : s.WindowOnly s := ⟨rfl, fun _ _ => rfl, rfl, rfl⟩

/-- The Command Window and the regions take any value while the executing command stays. -/
theorem of_window (k : s.WindowOnly t) (hu : u = { t with cw := u.cw, regions := u.regions }) (hrun : u.cw.running = t.cw.running) :
    s.WindowOnly u := by
  obtain ⟨heq, hrd, hrun', hirq⟩ := k
  have hregs : u.regs = t.regs := by rw [hu]
  refine ⟨?_, fun a ha => (State.rd_of_regs hregs a).trans (hrd a ha), hrun.trans hrun', (State.rd_of_regs hregs _).trans hirq⟩
  rw [hu, heq]

/-- A register of the CW block other than CW_IRQ_STATUS. -/
theorem setFld (k : s.WindowOnly t) {f : Field} (v : Nat) (hf : 0x30000 ≤ f.addr ∧ f.addr < 0x40000 ∧ f.addr ≠ 0x30004) :
    s.WindowOnly (t.setFld f v) := by
  obtain ⟨hlo, hhi, hne⟩ := hf
  obtain ⟨heq, hrd, hrun, hirq⟩ := k
  refine ⟨?_, fun a ha => ?_, hrun, (t.rd_setFld_ne f v _ hne).trans hirq⟩
  · rw [heq]
    rfl
  · rw [t.rd_setFld_ne f v a (by omega), hrd a ha]

theorem satAdd (k : s.WindowOnly t) {f : Field} (n : Nat) (hf : 0x30000 ≤ f.addr ∧ f.addr < 0x40000 ∧ f.addr ≠ 0x30004) :
    s.WindowOnly (t.satAdd f n) := k.setFld _ hf

theorem endTx (k : s.WindowOnly t) (err : Nat) : s.WindowOnly (t.endTx err) := k.of_window rfl rfl

theorem highZ (k : s.WindowOnly t) : s.WindowOnly t.highZ := k.of_window rfl rfl

theorem framed (k : s.WindowOnly t) : s.WindowOnly t.framed := (k.satAdd 1 (by decide)).endTx _

theorem drive (k : s.WindowOnly t) (q : Bool) (at_ n : Nat) (l : List Byte) : s.WindowOnly (t.drive q at_ n l) :=
  k.of_window rfl rfl

theorem pushShow (k : s.WindowOnly t) (r : Nat) (ok : Bool) : s.WindowOnly (t.pushShow r ok) :=
  ((k.setFld _ (by decide)).setFld _ (by decide)).setFld _ (by decide)

theorem commandTx (k : s.WindowOnly t) (b : List Byte) (stray : Bool) : s.WindowOnly (t.commandTx b stray) := by
  have kqueue (e : CmdEntry) : s.WindowOnly { t with cw := { t.cw with cmdQ := t.cw.cmdQ ++ [e] } } := k.of_window rfl rfl
  unfold State.commandTx
  dsimp only
  split_ifs
  · exact (k.satAdd 1 (by decide)).endTx _
  · exact k.framed
  · exact (k.satAdd 1 (by decide)).endTx _
  · exact (kqueue _).endTx _
  · exact ((kqueue _).satAdd 1 (by decide)).endTx _

theorem deliverWidth (k : s.WindowOnly t) (r : Reply) : s.WindowOnly (t.deliverWidth r) := by
  unfold State.deliverWidth
  split
  · exact k
  · exact k.setFld _ (by decide)

theorem replyTx (k : s.WindowOnly t) (ctl : Byte) (n : Nat) (q : Bool) : s.WindowOnly (t.replyTx ctl n q) := by
  unfold State.replyTx
  dsimp only
  split
  · split_ifs
    · exact k.endTx _
    · exact k.framed
  · next r _ =>
    have kwidth := k.deliverWidth r
    split_ifs
    · exact (kwidth.of_window (u := (t.deliverWidth r).removeReply r) rfl rfl).endTx _
    · exact (kwidth.of_window (u := (t.deliverWidth r).keepReply r) rfl rfl).endTx _
    · exact k.endTx _
    · exact k.endTx _

theorem acceptPush (k : s.WindowOnly t) (r off : Nat) (d : List Byte) : s.WindowOnly (t.acceptPush r off d) := by
  unfold State.acceptPush
  split
  · exact k
  · exact k.of_window rfl rfl

theorem pushTx (k : s.WindowOnly t) (b : List Byte) (stray : Bool) : s.WindowOnly (t.pushTx b stray) := by
  unfold State.pushTx
  dsimp only
  split_ifs
  · exact k.framed
  · exact (k.pushShow _ _).framed
  · exact ((k.pushShow _ _).satAdd 1 (by decide)).endTx _
  · exact ((k.pushShow _ _).satAdd 1 (by decide)).endTx _
  · exact ((k.pushShow _ _).satAdd 1 (by decide)).endTx _
  · exact ((k.acceptPush _ _ _).pushShow _ _).endTx _

theorem ifLive (k : s.WindowOnly t) : s.WindowOnly (s.ifLive t) := by
  unfold State.ifLive
  split
  · exact refl s
  · exact k

end State.WindowOnly

open State (WindowOnly)

section
variable (x : List CwClock) (s : State)

theorem exec_command_windowOnly : ∃ t, exec (.command x) s = .next t ∧ s.WindowOnly t := by
  refine ⟨_, exec_command x s, WindowOnly.ifLive ?_⟩
  split
  · exact (WindowOnly.refl s).highZ.commandTx _ _
  · exact WindowOnly.refl s

theorem exec_reply_windowOnly : ∃ t, exec (.reply x) s = .next t ∧ s.WindowOnly t := by
  refine ⟨_, exec_reply x s, WindowOnly.ifLive ?_⟩
  split
  · exact ((WindowOnly.refl s).drive _ _ _ _).replyTx _ _ _
  · exact WindowOnly.refl s

theorem exec_status_windowOnly : ∃ t, exec (.status x) s = .next t ∧ s.WindowOnly t := by
  refine ⟨_, exec_status x s, WindowOnly.ifLive ?_⟩
  split
  · exact (WindowOnly.refl s).drive _ _ _ _
  · exact WindowOnly.refl s

theorem exec_push_windowOnly : ∃ t, exec (.push x) s = .next t ∧ s.WindowOnly t := by
  refine ⟨_, exec_push x s, WindowOnly.ifLive ?_⟩
  split
  · exact (WindowOnly.refl s).highZ.pushTx _ _
  · exact WindowOnly.refl s

theorem exec_widthReset_windowOnly : ∃ t, exec (.widthReset x) s = .next t ∧ s.WindowOnly t := by
  refine ⟨_, exec_widthReset x s, WindowOnly.ifLive ?_⟩
  split
  · exact (((WindowOnly.refl s).of_window (u := s.highZ.cancelWidth) rfl rfl).setFld _ (by decide)).endTx _
  · exact WindowOnly.refl s

theorem exec_badKind_windowOnly : ∃ t, exec (.badKind x) s = .next t ∧ s.WindowOnly t := by
  refine ⟨_, exec_badKind x s, WindowOnly.ifLive ?_⟩
  split
  · exact ((WindowOnly.refl s).highZ.satAdd 1 (by decide)).endTx _
  · exact WindowOnly.refl s

theorem exec_framing_windowOnly : ∃ t, exec (.framing x) s = .next t ∧ s.WindowOnly t := by
  have k := (WindowOnly.refl s).highZ
  refine ⟨_, exec_framing x s, WindowOnly.ifLive ?_⟩
  split
  · exact k.framed
  · exact k.framed
  · exact k.commandTx _ _
  · exact k.pushTx _ _
  · exact WindowOnly.refl s

end

/-- Settles O14, from the frame of each transaction's row. -/
theorem transactionFrame : Obligations.TransactionFrame := by
  unfold Obligations.TransactionFrame
  intro c s t hc hx
  have hframe : ∃ u, exec c s = .next u ∧ s.WindowOnly u := by
    obtain ⟨x, rfl⟩ | ⟨x, rfl⟩ | ⟨x, rfl⟩ | ⟨x, rfl⟩ | ⟨x, rfl⟩ | ⟨x, rfl⟩ | ⟨x, rfl⟩ := hc
    · exact exec_command_windowOnly x s
    · exact exec_reply_windowOnly x s
    · exact exec_status_windowOnly x s
    · exact exec_push_windowOnly x s
    · exact exec_widthReset_windowOnly x s
    · exact exec_badKind_windowOnly x s
    · exact exec_framing_windowOnly x s
  obtain ⟨u, hu, k⟩ := hframe
  obtain rfl := Host.Outcome.next.inj (hu.symm.trans hx)
  exact k

end Sys2Proof.Machine
end

section
/-! PROOFS. When a command of the catalogue may start (O17), and what the commands of the runtime answer before the commit instant (O20). -/

namespace Sys2Proof.Machine

/-! ### A command that may not start (R232, R261, R860) -/

/-- Row `c` leaves the machine as it is unless a command of opcode `op` can start. -/
def WaitsFor (c : Instr) (op : Nat) : Prop :=
  ∀ s : State, (∀ e ∈ s.cw.cmdQ.head?, (s.canStart && isOp op e) = false) → exec c s = .next s

theorem WaitsFor.of_sel {c : Instr} {op : Nat} {sel : State → CmdEntry → Bool} {run : State → CmdEntry → Res}
    (h : ∀ s, exec c s = .next (startCmd s (sel s) run)) (hsel : ∀ s e, sel s e = true → isOp op e = true) : WaitsFor c op := by
  intro s hwait
  rw [h s, startCmd_stays s (sel s) run fun e he => ?_]
  rw [Bool.and_eq_false_imp]
  intro hcan
  have hop : isOp op e = false := by simpa [hcan] using hwait e he
  exact Bool.eq_false_iff.2 fun hs => by simp [hsel s e hs] at hop

theorem WaitsFor.of_isOp {c : Instr} {op : Nat} {run : State → CmdEntry → Res} (h : ∀ s, exec c s = .next (startCmd s (isOp op) run)) :
    WaitsFor c op := WaitsFor.of_sel h fun _ _ he => he

theorem WaitsFor.of_isWrite {c : Instr} {n : Nat} {run : State → CmdEntry → Res} (h : ∀ s, exec c s = .next (startCmd s (isWrite n) run)) :
    WaitsFor c 0x0B := WaitsFor.of_sel h fun _ _ he => (Bool.and_eq_true_iff.1 he).1

theorem WaitsFor.of_isSubOp {c : Instr} {op lo n k : Nat} {run : State → CmdEntry → Res}
    (h : ∀ s, exec c s = .next (startCmd s (isSubOp op lo n k) run)) : WaitsFor c op :=
  WaitsFor.of_sel h fun _ _ he => (Bool.and_eq_true_iff.1 he).1

theorem waitsFor_diagStart {c : Instr} {op : Nat} {run : State → CmdEntry → Res}
    (h : ∀ s, exec c s = .next (startCmd s (diagStart op) run)) : WaitsFor c op :=
  WaitsFor.of_sel h fun _ _ he => (Bool.and_eq_true_iff.1 (Bool.and_eq_true_iff.1 he).1).1

theorem waitsFor_cwModeWrite : WaitsFor .cwModeWrite 0x0B := by
  intro s hwait
  have hstay : startCmd s (isWrite 2) (fun s e => s.regWrite e []) = s :=
    startCmd_stays s _ _ fun e he => by
      have h := hwait e he
      simp only [isWrite, Bool.and_eq_false_iff] at h ⊢
      tauto
  rw [exec_cwModeWrite, execCwModeWrite]
  simp only [hstay, Nat.left_eq_add, one_ne_zero, decide_false, Bool.false_and, Bool.false_eq_true, if_false]
  split <;> rfl

theorem waitsFor_of_opcodeOf {c : Instr} {op : Nat} (h : opcodeOf c = some op) (hetch : ∀ w m, c ≠ .etchRead w m) : WaitsFor c op := by
  cases c with
  | etchRead w m => exact absurd rfl (hetch w m)
  | cwModeWrite => exact Option.some.inj h ▸ waitsFor_cwModeWrite
  | fuseProgram v vpp pwr => exact Option.some.inj h ▸ fun s hs => fuseProgram_waits hs v vpp pwr
  | regWrite | w1cClear | minReset | inCtrlWrite | etchWindowWrite => exact Option.some.inj h ▸ WaitsFor.of_isWrite (fun _ => rfl)
  | enrolData | enrolEnd | enrolAbort | eyeScanResult | eyeScanAbort | loopbackResult | loopbackAbort =>
    exact Option.some.inj h ▸ WaitsFor.of_isSubOp (fun _ => rfl)
  | eyeScanStart | loopbackStart => exact Option.some.inj h ▸ waitsFor_diagStart (fun _ => rfl)
  | enrolBegin | regionOpen | regionClose | regionCancel | fence =>
    exact Option.some.inj h ▸ WaitsFor.of_sel (fun _ => rfl) (fun _ _ he => (Bool.and_eq_true_iff.1 he).1)
  | nop | getInfo | getDetail | softReset | regRead | loadBegin | loadSegment | startEarly | presentTag | bootStatus | powerState
  | domainCtrl | wakeConfig | supplyConfig | headConfig | panelProfile | refreshMode | layerConfig | layerEnable | lutLoad | scalerCoeff
  | tonemapConfig | writeback | calRun | calRead | calStore | calSelect | etchWriteRecord | etchList | chainConfig | chainTrain
  | stationRead | stationWrite | chainFurl | touchConfig | touchRead | touchRebase | telltaleConfig | iconLoad | telltaleForce | counters
  | budgetSet | budgetRead | presenceStatus | debugUnlock | sealStatus =>
    exact Option.some.inj h ▸ WaitsFor.of_isOp (fun _ => rfl)
  | _ => cases h

/-- R340: the runtime has halted after the commit instant. -/
theorem State.runtimeDead_iff (s : State) : s.runtimeDead = true ↔ s.phase = 5 ∧ s.boot.halted = true := by
  simp [State.runtimeDead, State.runtime]

theorem State.canStart_iff (s : State) : s.canStart = true ↔
    s.off = false ∧ s.cw.running = none ∧ s.cw.replyQ.length < 16 ∧ s.fld F.PWR_STATE_STATE ≤ 1 ∧ s.bit F.PWR_STATE_ENTERING = false ∧
      s.bit F.PWR_STATE_PARKED = false ∧ ¬ (s.phase = 5 ∧ s.boot.halted = true) := by
  rw [← s.runtimeDead_iff]
  simp only [State.canStart, Bool.and_eq_true, Bool.not_eq_true', Option.isNone_iff_eq_none, decide_eq_true_eq, Bool.not_eq_true, and_assoc]

/-- Settles O17: a row of the catalogue acts by starting its command alone. -/
theorem commandsWaitTheirTurn : Obligations.CommandsWaitTheirTurn := by
  unfold Obligations.CommandsWaitTheirTurn
  refine ⟨fun c op s hop hetch hwait => waitsFor_of_opcodeOf hop hetch s fun e he => ?_, State.canStart_iff⟩
  rcases hwait with hcan | hhead
  · rw [hcan, Bool.false_and]
  · rcases hhead e he with hcrc | hne
    · simp [isOp, hcrc]
    · simp [isOp, hne]

end Sys2Proof.Machine
end

section
/-! PROOFS. What the commands of the runtime answer before the commit instant (O20). -/

namespace Sys2Proof.Machine

/-! ### Commands of the runtime before the commit instant (R258, R259) -/

/-- Row `c` starts a command of the runtime: Burin and the runtime judge its LENGTH and its unit number first (R259). -/
def JudgedEarly (c : Instr) (op : Nat) : Prop :=
  ∀ s : State, ∃ (sel : CmdEntry → Bool) (run : State → CmdEntry → Res), exec c s = .next (startCmd s sel run) ∧
    (∀ e, s.starts op e → picksEntry s c e = true → sel e = true) ∧
    ∀ (u : State) (e : CmdEntry), ∃ fails ride r,
      run u e = runtimeCmd u (lengthFits op e.params) (failAt 0 (!unitFits op e.params)) fails ride r

section
variable {c : Instr} {op : Nat} {sel : State → CmdEntry → Bool} {lenOk : CmdEntry → Bool} {unitFails : CmdEntry → List Nat}
  {fails : State → CmdEntry → List Nat} {ride : Bool} {run : State → CmdEntry → Res}

theorem JudgedEarly.of_sel
    (h : ∀ s, exec c s = .next (startCmd s (sel s) (fun u e => runtimeCmd u (lenOk e) (unitFails e) (fails u e) ride (run u e))))
    (hsel : ∀ s e, s.starts op e → picksEntry s c e = true → sel s e = true) (hlen : ∀ e, lenOk e = lengthFits op e.params)
    (hunit : ∀ e, unitFails e = failAt 0 (!unitFits op e.params)) : JudgedEarly c op :=
  fun s => ⟨sel s, _, h s, hsel s, fun u e => ⟨fails u e, ride, run u e, by rw [hlen, hunit]⟩⟩

theorem JudgedEarly.of_isOp
    (h : ∀ s, exec c s = .next (startCmd s (isOp op) (fun u e => runtimeCmd u (lenOk e) (unitFails e) (fails u e) ride (run u e))))
    (hlen : ∀ e, lenOk e = lengthFits op e.params) (hunit : ∀ e, unitFails e = failAt 0 (!unitFits op e.params)) : JudgedEarly c op :=
  JudgedEarly.of_sel (sel := fun _ => isOp op) h (fun _ _ hs _ => isOp_of_starts hs) hlen hunit

end

/-! What the unit numbers of R259 fail, in the words of `unitFits`. -/

theorem failAt_over (m u : Nat) : failAt 0 (decide (m < u)) = failAt 0 (!decide (u ≤ m)) :=
  congrArg (failAt 0) (by simp [← decide_not])

theorem failAt_atLeast (m u : Nat) : failAt 0 (decide (m ≤ u)) = failAt 0 (!decide (u < m)) :=
  congrArg (failAt 0) (by simp [← decide_not])

theorem failAt_zeroOrOver (m u : Nat) : failAt 0 (u == 0 || decide (m < u)) = failAt 0 (!(u != 0 && decide (u ≤ m))) :=
  congrArg (failAt 0) (by simp [bne, ← decide_not])

theorem failAt_isNone {α : Type} (o : Option α) : failAt 0 o.isNone = failAt 0 (!o.isSome) := by cases o <;> rfl

theorem parUnit_lt (p : List Word) : parUnit p < 256 := Nat.mod_lt _ (by decide)

theorem failAt_station (p : List Word) :
    failAt 0 ((decide (0x80 ≤ parUnit p) && decide (parUnit p < 0xFE)) || (parUnit p == 0xFE && decide (7 < parBits p 0 20 4))) =
      failAt 0 (!unitFits 0x83 p) := by
  have h := parUnit_lt p
  refine congrArg (failAt 0) (Bool.eq_iff_iff.2 ?_)
  simp [unitFits]
  omega

theorem isEmpty_eq_length (p : List Word) : p.isEmpty = (p.length == 0) := by cases p <;> rfl

theorem diagStart_of_starts {s : State} {op : Nat} {e : CmdEntry} (hs : s.starts op e)
    (hsub : (parBits e.params 0 16 8 != 1 && parBits e.params 0 16 8 != 2) = true) : diagStart op e = true := by
  simpa [diagStart, diagSub, isSubOp, isOp_of_starts hs] using hsub

theorem diagSub_of_starts {s : State} {op k : Nat} {e : CmdEntry} (hs : s.starts op e) (hsub : (parBits e.params 0 16 8 == k) = true) :
    diagSub op k e = true := by
  rw [diagSub, isSubOp, isOp_of_starts hs, hsub, Bool.and_self]

theorem handleDrained_of_starts {s : State} {op : Nat} {e : CmdEntry} (hs : s.starts op e) (hpush : s.cw.pushBuf.isEmpty = true) :
    s.handleDrained op e = true := by
  simp [State.handleDrained, isOp_of_starts hs, State.drained, List.isEmpty_iff.1 hpush]

theorem judgedEarly_regionOpen : JudgedEarly .regionOpen 0x50 := by
  refine JudgedEarly.of_sel (fun _ => rfl) (fun s e hs hp => ?_) (fun _ => rfl) (fun _ => failAt_over 63 _)
  have hempty : s.cw.pushBuf = [] := List.isEmpty_iff.1 hp
  simp [isOp_of_starts hs, State.drained, hempty]

theorem judgedEarly_fence : JudgedEarly .fence 0x53 :=
  JudgedEarly.of_sel (fun _ => rfl) (fun s e hs hp => by simp [isOp_of_starts hs, List.isEmpty_iff.1 hp])
    (fun e => isEmpty_eq_length e.params) (fun _ => rfl)

theorem judgedEarly_of_opcodeOf {c : Instr} {op : Nat} (h : opcodeOf c = some op) (hr : runtimeOnly op = true) : JudgedEarly c op := by
  cases c with
  | softReset | powerState | wakeConfig | supplyConfig | layerEnable | calRun | calRead | calStore | calSelect | etchWriteRecord
  | chainTrain | chainFurl | counters => exact Option.some.inj h ▸ JudgedEarly.of_isOp (fun _ => rfl) (fun _ => rfl) (fun _ => rfl)
  | touchRead => exact Option.some.inj h ▸ JudgedEarly.of_isOp (fun _ => rfl) (fun e => isEmpty_eq_length e.params) (fun _ => rfl)
  | headConfig | panelProfile | refreshMode | scalerCoeff | tonemapConfig | writeback | touchConfig | touchRebase | telltaleConfig
  | telltaleForce => exact Option.some.inj h ▸ JudgedEarly.of_isOp (fun _ => rfl) (fun _ => rfl) (fun _ => failAt_over 3 _)
  | layerConfig | chainConfig => exact Option.some.inj h ▸ JudgedEarly.of_isOp (fun _ => rfl) (fun _ => rfl) (fun _ => failAt_over 7 _)
  | iconLoad => exact Option.some.inj h ▸ JudgedEarly.of_isOp (fun _ => rfl) (fun _ => rfl) (fun _ => failAt_over 31 _)
  | lutLoad => exact Option.some.inj h ▸ JudgedEarly.of_isOp (fun _ => rfl) (fun _ => rfl) (fun _ => failAt_isNone _)
  | stationRead => exact Option.some.inj h ▸ JudgedEarly.of_isOp (fun _ => rfl) (fun _ => rfl) (fun _ => failAt_atLeast 0x80 _)
  | stationWrite => exact Option.some.inj h ▸ JudgedEarly.of_isOp (fun _ => rfl) (fun _ => rfl) (fun e => failAt_station e.params)
  | domainCtrl => exact Option.some.inj h ▸ JudgedEarly.of_isOp (fun _ => rfl) (fun _ => rfl) (fun _ => failAt_zeroOrOver 24 _)
  | budgetSet | budgetRead => exact Option.some.inj h ▸ JudgedEarly.of_isOp (fun _ => rfl) (fun _ => rfl) (fun _ => failAt_zeroOrOver 20 _)
  | regionOpen => exact Option.some.inj h ▸ judgedEarly_regionOpen
  | fence => exact Option.some.inj h ▸ judgedEarly_fence
  | regionClose | regionCancel =>
    exact Option.some.inj h ▸ JudgedEarly.of_sel (fun _ => rfl) (fun _ _ hs hp => handleDrained_of_starts hs hp) (fun _ => rfl)
      (fun _ => failAt_over 31 _)
  | eyeScanStart | loopbackStart =>
    exact Option.some.inj h ▸ JudgedEarly.of_sel (fun _ => rfl) (fun _ _ hs hp => diagStart_of_starts hs hp) (fun _ => rfl)
      (fun _ => failAt_over 7 _)
  | eyeScanResult | eyeScanAbort | loopbackResult | loopbackAbort =>
    exact Option.some.inj h ▸ JudgedEarly.of_sel (fun _ => rfl) (fun _ _ hs hp => diagSub_of_starts hs hp) (fun _ => rfl)
      (fun _ => failAt_over 7 _)
  | nop | getInfo | getDetail | regRead | regWrite | cwModeWrite | w1cClear | minReset | inCtrlWrite | etchWindowWrite | loadBegin
  | loadSegment | startEarly | presentTag | bootStatus | enrolBegin | enrolData | enrolEnd | enrolAbort | etchRead | etchList
  | presenceStatus | fuseProgram | debugUnlock | sealStatus =>
    obtain rfl := Option.some.inj h
    exact absurd hr (by decide)
  | _ => cases h

/-- A command of the runtime that starts before the commit instant answers what its LENGTH and its unit number call for. -/
theorem JudgedEarly.answers {c : Instr} {op : Nat} (h : JudgedEarly c op) {s : State} {e : CmdEntry} (hs : s.starts op e)
    (hp : picksEntry s c e = true) (hlen : lengthFits op e.params = true) (hr : s.runtime = false) :
    exec c s = .next (finish e (if unitFits op e.params then Res.refuse s.popCmd 0 0 0 else Res.bad s.popCmd 0)) := by
  obtain ⟨sel, run, hexec, hsel, hrun⟩ := h s
  obtain ⟨fails, ride, r, hjudged⟩ := hrun s.popCmd e
  have hearly : s.popCmd.runtime = false := s.runtime_popCmd.trans hr
  rw [hexec, startCmd_starts s e sel run hs.1 hs.2.2.2 (hsel e hs hp), hjudged, hlen]
  cases unitFits op e.params with
  | true => exact congrArg _ (congrArg _ (runtimeCmd_early _ fails ride r hearly))
  | false => simp [runtimeCmd, hearly, judged, badIndex, failAt, minIndex]

/-- Settles O20: LENGTH and unit number are all that is judged before the refusal. -/
theorem earlyCommandsRefused : Obligations.EarlyCommandsRefused := by
  unfold Obligations.EarlyCommandsRefused
  refine ⟨fun c op s e hop hrow hs hp hlen hunit hr => ?_, fun c op s e hop hrow hs hp hlen hunit hr => ?_⟩
  · rw [(judgedEarly_of_opcodeOf hop hrow).answers hs hp hlen hr, if_pos hunit]
    simp [Res.refuse, finish_done, State.stateWord]
  · rw [(judgedEarly_of_opcodeOf hop hrow).answers hs hp hlen hr, if_neg (ne_true_of_eq_false hunit)]
    rfl

end Sys2Proof.Machine
end

section
/-! PROOFS. Surfaces and regions: what the events of surfaces and the registers of regions leave, and the region handles (O43). -/

namespace Sys2Proof.Machine

/-! ### What the events of surfaces leave -/

/-- Registers that neither an event of a surface, nor a Plate request of an engine, nor SOFT_RESET changes: BOOT_STATUS, CW_MODE and
CW_ERR_COUNT. -/
def portRegs : List Nat := [0x20000, 0x30000, 0x3000C]

theorem not_mem_portRegs {a : Nat} (h : 0x3000C < a) : a ∉ portRegs := by
  simp only [portRegs, List.mem_cons, List.not_mem_nil, or_false]
  omega

/-- The parts of the device that neither an event of a surface nor a Plate request of an engine changes. -/
structure EngineView where
  port : List Word
  pres : PresState
  cw : CwState
  regions : Vector Region 32
  etch : EtchState
  tile : TileState
  fences : List FenceRun
  boot : BootState

/-- The same and what an event of a surface leaves besides. -/
structure SurfView where
  engine : EngineView
  plate : PlateState
  pba : PbaState
  openCount : Nat
  cancelled : Bool

def State.engineView (s : State) : EngineView :=
  { port := portRegs.map s.rd, pres := s.pres, cw := s.cw, regions := s.regions, etch := s.etch, tile := s.tile, fences := s.fences, boot := s.boot }

def State.surfView (s : State) : SurfView :=
  { engine := s.engineView, plate := s.plate, pba := s.pba, openCount := s.openCount, cancelled := s.cancelled }

theorem State.map_rd_setFld (s : State) {f : Field} (v : Nat) {l : List Nat} (h : f.addr ∉ l) : l.map (s.setFld f v).rd = l.map s.rd :=
  List.map_congr_left fun a ha => s.rd_setFld_ne f v a fun hfa => h (hfa ▸ ha)

theorem State.surfView_setFld (s : State) {f : Field} (v : Nat) (h : 0x3000C < f.addr) : (s.setFld f v).surfView = s.surfView :=
  congrArg (fun l => { s.surfView with engine := { s.engineView with port := l } }) (s.map_rd_setFld v (not_mem_portRegs h))

/-- A register of an array above CW_ERR_COUNT. -/
theorem State.surfView_setReg (s : State) {base o lo w : Nat} (v : Nat) (hb : 0x3000C < base) :
    (s.setFld ⟨base + o, lo, w⟩ v).surfView = s.surfView := s.surfView_setFld v (Nat.lt_add_right o hb)

theorem State.surfView_each {f : State → Nat → State} (hf : ∀ (u : State) (n : Nat), (f u n).surfView = u.surfView) (l : List Nat)
    (s : State) : (s.each l f).surfView = s.surfView := foldl_keeps State.surfView hf l s

@[simp] theorem State.surfView_surfaceEvent (s : State) (n : Nat) : (s.surfaceEvent n).surfView = s.surfView :=
  State.surfView_each (fun u h => by split <;> rfl) _ s

@[simp] theorem State.surfView_refront (s : State) (n : Nat) : (s.refront n).surfView = s.surfView := by
  have hfront (k : Nat) : ((s.setFld (F.SURF_STATUS_FRONT n) k).setFld (F.SURF_STATUS_FRONT_VALID n) 1).surfView = s.surfView :=
    (State.surfView_setReg _ 1 (by decide)).trans (s.surfView_setReg k (by decide))
  unfold State.refront
  split
  · rfl
  · split
    · exact s.surfView_setReg 0 (by decide)
    · dsimp only
      split
      · exact hfront _
      · exact (State.surfView_surfaceEvent _ n).trans (hfront _)

@[simp] theorem State.surfView_startBuf (s : State) (n b : Nat) : (s.startBuf n b).surfView = s.surfView :=
  State.surfView_refront _ n

@[simp] theorem State.surfView_completeBuf (s : State) (n b : Nat) : (s.completeBuf n b).surfView = s.surfView :=
  State.surfView_refront _ n

@[simp] theorem State.surfView_takeSurface (s : State) (n : Nat) : (s.takeSurface n).surfView = s.surfView := by
  have huse : (s.setFld (F.SURF_STATUS_USE n) 1).surfView = s.surfView := s.surfView_setReg 1 (by decide)
  unfold State.takeSurface
  dsimp only
  split
  · exact huse
  · exact (State.surfView_completeBuf _ n _).trans huse

@[simp] theorem State.surfView_showRegions (s : State) : s.showRegions.surfView = s.surfView :=
  (State.surfView_setFld _ _ (by decide)).trans (s.surfView_setFld _ (by decide))

@[simp] theorem State.surfView_settleUse (s : State) (n : Nat) : (s.settleUse n).surfView = s.surfView := by
  unfold State.settleUse
  split
  · exact s.surfView_setReg 0 (by decide)
  · rfl

/-! ### The registers of surfaces and regions -/

theorem State.regs_surfaceEvent (s : State) (n : Nat) : (s.surfaceEvent n).regs = s.regs :=
  foldl_keeps State.regs (fun u h => by split <;> rfl) _ s

/-- FRONT and FRONT_VALID of surface `n` are all that its buffers set. -/
theorem State.fld_refront_apart (s : State) (n : Nat) {f : Field} (hfront : (F.SURF_STATUS_FRONT n).apart f)
    (hvalid : (F.SURF_STATUS_FRONT_VALID n).apart f) : (s.refront n).fld f = s.fld f := by
  unfold State.refront
  split
  · rfl
  · split
    · exact State.fld_setFld_apart _ _ _ _ hvalid
    · next k _ =>
      have hshown : ((s.setFld (F.SURF_STATUS_FRONT n) k).setFld (F.SURF_STATUS_FRONT_VALID n) 1).fld f = s.fld f := by
        rw [State.fld_setFld_apart _ _ _ _ hvalid, State.fld_setFld_apart _ _ _ _ hfront]
      dsimp only
      split
      · exact hshown
      · rw [State.fld_of_regs (State.regs_surfaceEvent _ n), hshown]

theorem State.fld_completeBuf_apart (s : State) (n b : Nat) {f : Field} (hfront : (F.SURF_STATUS_FRONT n).apart f)
    (hvalid : (F.SURF_STATUS_FRONT_VALID n).apart f) : (s.completeBuf n b).fld f = s.fld f :=
  State.fld_refront_apart _ n hfront hvalid

theorem State.fld_showRegions_ne (s : State) {f : Field} (hf : f.addr ≠ 0x50108) : s.showRegions.fld f = s.fld f := by
  unfold State.showRegions
  rw [State.fld_setFld_apart _ _ _ _ (.inl (Ne.symm hf)), State.fld_setFld_apart _ _ _ _ (.inl (Ne.symm hf))]

theorem front_apart_use (n : Nat) : (F.SURF_STATUS_FRONT n).apart (F.SURF_STATUS_USE n) := apart_of_above (by decide)

theorem frontValid_apart_use (n : Nat) : (F.SURF_STATUS_FRONT_VALID n).apart (F.SURF_STATUS_USE n) := apart_of_below (by decide)

/-- R462: the surface of a new region is in use by regions. -/
theorem State.use_takeSurface (s : State) (n : Nat) : (s.takeSurface n).fld (F.SURF_STATUS_USE n) = 1 := by
  have huse : (s.setFld (F.SURF_STATUS_USE n) 1).fld (F.SURF_STATUS_USE n) = 1 :=
    State.fld_setFld _ _ _ (by simp [F.SURF_STATUS_USE])
  unfold State.takeSurface
  dsimp only
  split
  · exact huse
  · rw [State.fld_completeBuf_apart _ n _ (front_apart_use n) (frontValid_apart_use n), huse]

/-! ### Region handles -/

theorem State.region_setRegion (s : State) (r q : Nat) (g : Region) :
    (s.setRegion r g).region q = if r = q ∧ q < 32 then g else s.region q := by
  unfold State.region State.setRegion
  by_cases hq : q < 32
  · rcases eq_or_ne r q with rfl | hne <;> simp [*, List.getD]
  · simp [hq, List.getD]

theorem State.region_setRegion_same (s : State) {r : Nat} (g : Region) (hr : r < 32) : (s.setRegion r g).region r = g := by
  rw [State.region_setRegion, if_pos ⟨rfl, hr⟩]

theorem State.region_setRegion_ne (s : State) {r q : Nat} (g : Region) (h : r ≠ q) : (s.setRegion r g).region q = s.region q := by
  rw [State.region_setRegion, if_neg fun hrq => h hrq.1]

theorem State.region_of_regions {s t : State} (h : t.regions = s.regions) (r : Nat) : t.region r = s.region r := by
  unfold State.region
  rw [h]

end Sys2Proof.Machine
end

section
/-! PROOFS. REGION_OPEN, REGION_CLOSE and REGION_CANCEL (O43). -/

namespace Sys2Proof.Machine

/-! ### A command of the runtime that crank ride-through permits -/

theorem runtimeCmd_permitted {s : State} (h : s.runtime = true) (run : Res) : runtimeCmd s true [] [] true run = run := by
  simp [runtimeCmd, h, judged_ok]

theorem failAt_false (i : Nat) : failAt i false = [] := rfl

/-! ### What a command of regions reads once it has left the queue -/

@[simp] theorem State.region_popCmd (s : State) (r : Nat) : s.popCmd.region r = s.region r := State.region_of_regions s.popCmd_regions r

@[simp] theorem State.regDesc_popCmd (s : State) (n : Nat) : s.popCmd.regDesc n = s.regDesc n := by
  unfold State.regDesc
  simp (disch := (dsimp only; omega)) only [F.SURF_BASE_BASE, F.SURF_SIZE_WIDTH, F.SURF_SIZE_HEIGHT, F.SURF_FMT_FORMAT, F.SURF_FMT_NBUF,
    F.SURF_FMT_PITCH32, State.fld_popCmd]

@[simp] theorem State.firstFit_popCmd (s : State) (n : Nat) : s.popCmd.firstFit n = s.firstFit n := by
  have hbase : s.popCmd.fld F.REGION_POOL_BASE_BASE = s.fld F.REGION_POOL_BASE_BASE := s.fld_popCmd _ (by decide)
  have hsize : s.popCmd.fld F.REGION_POOL_SIZE_SIZE = s.fld F.REGION_POOL_SIZE_SIZE := s.fld_popCmd _ (by decide)
  simp only [State.firstFit, State.freeBlocks, State.pool, State.heldBlocks, hbase, hsize, State.popCmd_regions, State.popCmd_fences]

/-! ### REGION_OPEN (R460 to R462) -/

theorem State.openFails_eq_nil {s : State} {p : List Word} {n : Nat} (hstray : strayBits p 0 0xFF000001 = false)
    (hvalid : (s.regDesc n).valid = true) (hnbuf : (s.regDesc n).nbuf = 2) (huse : s.fld (F.SURF_STATUS_USE n) ≤ 1)
    (hfmt : (s.regDesc n).fmt ≠ 8) (hw : 1 ≤ parBits p 2 16 16) (hh : 1 ≤ parBits p 2 0 16)
    (hx : parBits p 1 16 16 + parBits p 2 16 16 ≤ (s.regDesc n).width)
    (hy : parBits p 1 0 16 + parBits p 2 0 16 ≤ (s.regDesc n).height) : s.openFails p n = [] := by
  have hw0 : (parBits p 2 16 16 == 0) = false := beq_false_of_ne (by omega)
  have hh0 : (parBits p 2 0 16 == 0) = false := beq_false_of_ne (by omega)
  unfold State.openFails
  simp [hstray, hvalid, hnbuf, beq_false_of_ne hfmt, hw0, hh0, failAt_false, Nat.not_le.2 (Nat.lt_succ_of_le huse), Nat.not_lt.2 hx,
    Nat.not_lt.2 hy]

/-- Handle `r` is opened as region `g` of surface `g.surf`. -/
def State.regionOpened (s : State) (r : Nat) (g : Region) : State :=
  (({ s with openCount := s.openCount + 1 }.setRegion r g).takeSurface g.surf).showRegions

section
variable {s : State} {n x y w h : Nat}

theorem State.openRegion_noHandle (hheld : ∀ q, q < 32 → (s.region q).st ≠ 0) : s.openRegion n x y w h = .done s stBusy [0] := by
  have hnone : (List.range 32).find? (fun r => (s.region r).st == 0) = none :=
    List.find?_eq_none.2 fun q hq => by simpa using hheld q (List.mem_range.1 hq)
  simp only [State.openRegion, hnone]

theorem State.openRegion_noRoom (hfree : ∃ q, q < 32 ∧ (s.region q).st = 0)
    (hroom : s.firstFit ((w * h * fmtBytes (s.regDesc n).fmt + 255) / 256 * 256) = none) :
    s.openRegion n x y w h = .done s stBusy [1] := by
  obtain ⟨q, hq, hst⟩ := hfree
  have hsome : ((List.range 32).find? (fun r => (s.region r).st == 0)).isSome = true :=
    List.find?_isSome.2 ⟨q, List.mem_range.2 hq, by simp [hst]⟩
  obtain ⟨r, hr⟩ := Option.isSome_iff_exists.1 hsome
  simp only [State.openRegion, hr, hroom]

/-- R461, R462: the lowest free handle takes the lowest block that holds its staging. -/
theorem State.openRegion_opens {r a : Nat} (hr : r < 32) (hst : (s.region r).st = 0) (hheld : ∀ q, q < r → (s.region q).st ≠ 0)
    (hroom : s.firstFit ((w * h * fmtBytes (s.regDesc n).fmt + 255) / 256 * 256) = some a) :
    s.openRegion n x y w h =
      .done (s.regionOpened r ⟨1, n, x, y, w, h, a, w * h * fmtBytes (s.regDesc n).fmt, 0, s.openCount, 0⟩) stOk
        [BitVec.ofNat 32 (r * 2 ^ 24)] := by
  have hsome : (List.range 32).find? (fun r => (s.region r).st == 0) = some r :=
    List.find?_range_eq_some.2 ⟨by simp [hst], List.mem_range.2 hr, fun q hq => by simpa using hheld q hq⟩
  simp only [State.openRegion, hsome, hroom, State.regionOpened]

/-- What a region that opens changes of the regions and of its surface. -/
theorem State.regionOpened_parts {r : Nat} (hr : r < 32) (s : State) (g : Region) :
    let t := s.regionOpened r g
    t.region r = g ∧ (∀ q, q ≠ r → t.region q = s.region q) ∧ t.openCount = s.openCount + 1 ∧
      t.fld (F.SURF_STATUS_USE g.surf) = 1 ∧ t.plate = s.plate ∧ t.etch = s.etch ∧ t.fences = s.fences := by
  intro t
  have hview : t.surfView = ({ s with openCount := s.openCount + 1 }.setRegion r g).surfView := by simp [t, State.regionOpened]
  have hregion (q : Nat) : t.region q = (s.setRegion r g).region q :=
    State.region_of_regions (congrArg (fun v => v.engine.regions) hview) q
  refine ⟨(hregion r).trans (s.region_setRegion_same g hr), fun q hq => (hregion q).trans (s.region_setRegion_ne g hq.symm),
    congrArg SurfView.openCount hview, ?_, congrArg SurfView.plate hview, congrArg (fun v => v.engine.etch) hview,
    congrArg (fun v => v.engine.fences) hview⟩
  exact (State.fld_showRegions_ne _ (by simp only [F.SURF_STATUS_USE]; omega)).trans (State.use_takeSurface _ _)

end

/-- A REGION_OPEN without SUPERSEDE whose operands are legal opens its region. -/
theorem exec_regionOpen {s : State} {e : CmdEntry} (hs : s.starts 0x50 e) (hr : s.runtime = true) (hlen : e.params.length = 3)
    (hsup : parBits e.params 0 0 1 = 0) (hn : parUnit e.params ≤ 63) (hok : s.popCmd.openFails e.params (parUnit e.params) = []) :
    exec .regionOpen s = .next (finish e (s.popCmd.openRegion (parUnit e.params) (parBits e.params 1 16 16) (parBits e.params 1 0 16)
      (parBits e.params 2 16 16) (parBits e.params 2 0 16))) := by
  change Host.Outcome.next (startCmd s _ _) = _
  rw [startCmd_starts s e _ _ hs.1 hs.2.2.2 (by simp [isOp_of_starts hs, hsup])]
  simp [hlen, hsup, hok, Nat.not_lt.2 hn, failAt_false, runtimeCmd_permitted (s.runtime_popCmd.trans hr)]

/-! ### REGION_CLOSE and REGION_CANCEL (R465, R466, R474) -/

section
variable {s : State} {e : CmdEntry}

theorem handleDrained_of_drained {op : Nat} (hs : s.starts op e) (hd : s.drained e (parUnit e.params) = true) :
    s.handleDrained op e = true := by
  rw [State.handleDrained, isOp_of_starts hs, hd, Bool.and_self]

/-- R227: a command of a handle waits until the handle's pushes have left the push buffer. -/
theorem startCmd_handleWaits {op : Nat} (run : State → CmdEntry → Res)
    (h : ∀ e ∈ s.cw.cmdQ.head?, s.drained e (parUnit e.params) = false) : startCmd s (s.handleDrained op) run = s :=
  startCmd_stays s _ run fun e he => by simp [State.handleDrained, h e he]

variable (hr : s.runtime = true) (hlen : e.params.length = 1) (hunit : parUnit e.params ≤ 31)
  (hstray : strayBits e.params 0 0xFF000000 = false) (hd : s.drained e (parUnit e.params) = true)
include hr hlen hunit hstray hd

theorem exec_regionClose (hs : s.starts 0x52 e) : exec .regionClose s = .next (finish e
    (if (s.region (parUnit e.params)).st != 1 then Res.refuse s.popCmd 0x05 (parUnit e.params) (s.region (parUnit e.params)).st
     else if (s.region (parUnit e.params)).next < (s.region (parUnit e.params)).len then
       .done s.popCmd stBadParam [BitVec.ofNat 32 (s.region (parUnit e.params)).next]
     else Res.ok (s.popCmd.setRegion (parUnit e.params) { s.region (parUnit e.params) with st := 2 }))) := by
  change Host.Outcome.next (startCmd s _ _) = _
  rw [startCmd_starts s e _ _ hs.1 hs.2.2.2 (handleDrained_of_drained hs hd)]
  simp only [hlen, hstray, State.region_popCmd, decide_eq_false (Nat.not_lt.2 hunit), failAt_false, beq_self_eq_true,
    runtimeCmd_permitted (s.runtime_popCmd.trans hr)]

theorem exec_regionCancel (hs : s.starts 0x54 e) : exec .regionCancel s = .next (finish e
    (if (s.region (parUnit e.params)).st = 1 ∨ (s.region (parUnit e.params)).st = 2 then
       Res.ok (s.popCmd.cancelRegion (parUnit e.params)).showRegions
     else Res.refuse s.popCmd 0x05 (parUnit e.params) (s.region (parUnit e.params)).st)) := by
  change Host.Outcome.next (startCmd s _ _) = _
  rw [startCmd_starts s e _ _ hs.1 hs.2.2.2 (handleDrained_of_drained hs hd)]
  simp only [hlen, hstray, State.region_popCmd, decide_eq_false (Nat.not_lt.2 hunit), failAt_false, beq_self_eq_true,
    runtimeCmd_permitted (s.runtime_popCmd.trans hr)]

end

/-- R474: what the cancel of handle `r` changes of the regions. -/
theorem State.cancelled_parts (s : State) {r : Nat} (hr : r < 32) :
    let t := (s.cancelRegion r).showRegions
    t.region r = Region.free ∧ (∀ q, q ≠ r → t.region q = s.region q) ∧ t.cancelled = true ∧
      t.cw.pushBuf = s.cw.pushBuf.filter (fun i => i.region != r) ∧ t.plate = s.plate ∧ t.fences = s.fences := by
  intro t
  have hview : t.surfView = { (s.setRegion r Region.free).surfView with
      cancelled := true
      engine := { (s.setRegion r Region.free).engineView with
        cw := { s.cw with pushBuf := s.cw.pushBuf.filter (fun i => i.region != r) } } } :=
    (State.surfView_showRegions _).trans (State.surfView_settleUse _ _)
  have hregion (q : Nat) : t.region q = (s.setRegion r Region.free).region q :=
    State.region_of_regions (congrArg (fun v => v.engine.regions) hview) q
  exact ⟨(hregion r).trans (s.region_setRegion_same _ hr), fun q hq => (hregion q).trans (s.region_setRegion_ne _ hq.symm),
    congrArg SurfView.cancelled hview, congrArg (fun v => v.engine.cw.pushBuf) hview, congrArg SurfView.plate hview,
    congrArg (fun v => v.engine.fences) hview⟩

/-- Settles O43: a handle and its staging are taken, closed and freed, each judged in the order of R460 to R466. -/
theorem regionCommands : Obligations.RegionCommands := by
  unfold Obligations.RegionCommands
  refine ⟨?opens, ?closes, ?cancels, ?waits⟩
  case opens =>
    intro s e hs hr hlen hstray hsup n x y w h d len hn hvalid hnbuf huse hfmt hw hh hx hy
    have hok : s.popCmd.openFails e.params n = [] := by
      have hdesc : s.popCmd.regDesc n = d := s.regDesc_popCmd n
      have husePop : s.popCmd.fld (F.SURF_STATUS_USE n) = s.fld (F.SURF_STATUS_USE n) :=
        s.fld_popCmd _ (by simp only [F.SURF_STATUS_USE]; omega)
      rw [← hdesc] at hvalid hnbuf hfmt hx hy
      rw [← husePop] at huse
      exact State.openFails_eq_nil hstray hvalid hnbuf huse hfmt hw hh hx hy
    have hexec := exec_regionOpen hs hr hlen hsup hn hok
    refine ⟨fun r a hr32 hst hheld hroom => ?_, fun hheld => ?_, fun hfree hroom => ?_⟩
    · rw [State.openRegion_opens hr32 ((congrArg Region.st (s.region_popCmd r)).trans hst) (by simpa using hheld) (by simpa using hroom),
        finish_done, State.regDesc_popCmd, State.popCmd_openCount] at hexec
      have hparts := State.regionOpened_parts hr32 s.popCmd ⟨1, n, x, y, w, h, a, len, 0, s.openCount, 0⟩
      simp only [State.region_popCmd, State.popCmd_openCount, State.popCmd_plate, State.popCmd_etch, State.popCmd_fences] at hparts
      exact ⟨_, hexec, hparts⟩
    · rw [hexec, State.openRegion_noHandle (by simpa using hheld), finish_done]
    · rw [hexec, State.openRegion_noRoom (by simpa using hfree) (by simpa using hroom), finish_done]
  case closes =>
    intro s e hs hr hlen hunit hstray hd r g
    have hexec := exec_regionClose hr hlen hunit hstray hd hs
    refine ⟨fun hst hlen => ?_, fun hst hlen => ?_, fun hst => ?_⟩
    · rw [hexec, if_neg (by simpa using hst), if_neg (Nat.not_lt.2 hlen)]
      rfl
    · rw [hexec, if_neg (by simpa using hst), if_pos hlen]
      rfl
    · rw [hexec, if_pos (by simpa using hst)]
      rfl
  case cancels =>
    intro s e hs hr hlen hunit hstray hd r g
    have hexec := exec_regionCancel hr hlen hunit hstray hd hs
    refine ⟨fun hst => ?_, fun h1 h2 => ?_⟩
    · rw [if_pos hst] at hexec
      have hparts := s.popCmd.cancelled_parts (Nat.lt_succ_of_le hunit)
      simp only [State.region_popCmd, State.popCmd_plate, State.popCmd_fences, State.popCmd_cw] at hparts
      exact ⟨_, hexec, hparts⟩
    · rw [hexec, if_neg (not_or.2 ⟨h1, h2⟩)]
      rfl
  case waits =>
    intro s h
    exact ⟨congrArg _ (startCmd_handleWaits _ h), congrArg _ (startCmd_handleWaits _ h)⟩

end Sys2Proof.Machine
end

section
/-! PROOFS. Copies of fences: what the Plate requests of an engine leave, and where a copy ends or waits. -/

namespace Sys2Proof.Machine

/-! ### Requests of an engine -/

theorem State.engineView_of_surfView {s t : State} (h : t.surfView = s.surfView) : t.engineView = s.engineView :=
  congrArg SurfView.engine h

theorem State.engineView_setFld (s : State) {f : Field} (v : Nat) (h : 0x3000C < f.addr) : (s.setFld f v).engineView = s.engineView :=
  State.engineView_of_surfView (s.surfView_setFld v h)

theorem State.engineView_setReg (s : State) {base o lo w : Nat} (v : Nat) (hb : 0x3000C < base) :
    (s.setFld ⟨base + o, lo, w⟩ v).engineView = s.engineView := State.engineView_of_surfView (s.surfView_setReg v hb)

theorem State.engineView_raise (s : State) (k : Nat) : (s.raise k).engineView = s.engineView := by
  have hcause : (s.setFld ⟨0x30004, k, 1⟩ 1).engineView = s.engineView :=
    congrArg (fun l => { s.engineView with port := l }) (s.map_rd_setFld 1 (l := portRegs) (by decide : 0x30004 ∉ portRegs))
  unfold State.raise
  split
  · rfl
  · exact hcause

theorem State.engineView_countOff (s : State) : s.countOff.engineView = s.engineView :=
  (State.engineView_setFld _ 1 (by decide)).trans (s.engineView_setFld _ (by decide))

theorem State.engineView_countRefuse (s : State) (c : Nat) : (s.countRefuse c).engineView = s.engineView := by
  have hcount : (s.satAdd (F.PBA_REFUSE_REFUSE_CNT c) 1).engineView = s.engineView := s.engineView_setReg _ (by decide)
  unfold State.countRefuse State.setBudgetFlag
  split
  · exact hcount
  · exact ((State.engineView_raise _ _).trans (State.engineView_setReg _ 1 (by decide))).trans hcount

/-- A write that names its bytes leaves no buffer, so its judgement leaves the parts of `engineView`. -/
@[simp] theorem State.engineView_judgeWrite (s : State) (c a : Nat) (d : List Byte) :
    (s.judgeReq c (.write a d)).engineView = s.engineView := by
  have hpresent : (s.present c (.write a d) (.write a d)).engineView = s.engineView := by
    unfold State.present
    dsimp only
    split <;> rfl
  have hrefuse : (s.refuseReq c (.write a d) (.write a d)).engineView = s.engineView := by
    unfold State.refuseReq
    dsimp only
    split
    · next hdrain _ => cases hdrain
    · exact s.engineView_countRefuse _
  unfold State.judgeReq
  dsimp only [State.resolve]
  split_ifs
  · rfl
  · rfl
  · exact s.engineView_countOff
  · rfl
  · exact hpresent
  · exact hpresent
  · rfl
  · exact hpresent
  · exact hrefuse

@[simp] theorem State.engineView_plateRead (s : State) (c a : Nat) : (s.plateRead c a).2.engineView = s.engineView := by
  have hce : (s.satAdd F.PLATE_ECC_CE_CNT 1).engineView = s.engineView := s.engineView_setFld _ (by decide)
  have hue : (s.satAdd F.PLATE_ECC_UE_CNT 1).engineView = s.engineView := s.engineView_setFld _ (by decide)
  unfold State.plateRead
  extract_lets w m d s1 s2 s1' s2'
  have h2 : s2.engineView = s.engineView := by
    unfold s2
    split
    · exact hce
    · exact ((State.engineView_raise _ _).trans (State.engineView_setFld _ 1 (by decide))).trans hce
  have h2' : s2'.engineView = s.engineView := by
    unfold s2'
    split
    · exact hue
    · exact (((State.engineView_setFld _ 1 (by decide)).trans (State.engineView_setFld _ _ (by decide))).trans
        (State.engineView_setFld _ _ (by decide))).trans hue
  split_ifs
  · rfl
  · exact (s2.engineView_judgeWrite 20 w d).trans h2
  · exact h2
  · exact (s2'.engineView_raise causePlate).trans h2'

@[simp] theorem State.engineView_mergeRead (s : State) (c a : Nat) (d : List Byte) :
    (s.mergeRead c a d).2.engineView = s.engineView := s.engineView_plateRead c a

@[simp] theorem State.engineView_carryOut (s : State) (c : Nat) (r : ReqBody) : (s.carryOut c r).engineView = s.engineView := by
  cases r with
  | read a => exact s.engineView_plateRead c a
  | write a d =>
    unfold State.carryOut
    dsimp only
    split
    · rfl
    · exact s.engineView_mergeRead c a d
  | drain | window | copy => rfl

@[simp] theorem State.engineView_flush (s : State) (c : Nat) : (s.flush c).engineView = s.engineView := by
  unfold State.flush
  have hmerges (l : List Merge) (u : State) :
      (l.foldl (fun (u : State) m => u.plateWrite m.addr m.data) u).engineView = u.engineView :=
    foldl_keeps State.engineView (f := fun u m => u.plateWrite m.addr m.data) (fun _ _ => rfl) l u
  exact (foldl_keeps State.engineView (fun u r => u.engineView_carryOut c r) _ _).trans (hmerges _ _)

@[simp] theorem State.engineView_serve (s : State) (c : Nat) (a : ReqBody) : (s.serve c a).engineView = s.engineView :=
  (State.engineView_carryOut _ c a).trans (s.engineView_flush c)

/-! ### The requests of a copy -/

@[simp] theorem State.engineView_copyStep (s : State) (line : List Byte) (k : CopyOp) :
    (s.copyStep line k).1.engineView = s.engineView := by
  cases k with
  | read a first =>
    unfold State.copyStep
    dsimp only
    split
    · exact (State.engineView_plateRead _ _ _).trans (s.engineView_flush 17)
    · exact s.engineView_countOff
  | write a skip n =>
    unfold State.copyStep
    dsimp only
    split
    · exact s.engineView_serve _ _
    · exact s.engineView_countOff

theorem engineView_copyLoop (l : List CopyOp) : ∀ (s : State) (line : List Byte), (copyLoop s line l).1.engineView = s.engineView := by
  induction l with
  | nil => exact fun _ _ => rfl
  | cons k l ih =>
    intro s line
    unfold copyLoop
    split
    · exact (ih _ _).trans (s.engineView_copyStep line k)
    · rfl

/-! ### Where a copy ends or waits (R387, R468, R470) -/

@[simp] theorem State.waitingOf_setWaiting (s : State) {c : Nat} (hc : c < 21) (l : List ReqBody) :
    (s.setWaiting c l).waitingOf c = l := by
  simp [State.waitingOf, State.setWaiting, List.getD, hc]

theorem State.copyFrom_ends {s : State} {f : FenceRun} {line : List Byte} {l : List CopyOp} (h : (copyLoop s line l).2.2 = []) :
    s.copyFrom f line l = (copyLoop s line l).1.endCopy f := by
  unfold State.copyFrom
  generalize copyLoop s line l = x at h ⊢
  obtain ⟨t, line', rest⟩ := x
  dsimp only at h ⊢
  subst h
  rfl

theorem State.copyFrom_waits {s : State} {f : FenceRun} {line : List Byte} {l : List CopyOp} (h : (copyLoop s line l).2.2 ≠ []) :
    s.copyFrom f line l = (((copyLoop s line l).1.putFence
      { f with copy := some (copyLoop s line l).2.2, line := (copyLoop s line l).2.1 }).setWaiting 17
        ((copyLoop s line l).1.waitingOf 17 ++ [.copy f.num])) := by
  unfold State.copyFrom
  generalize copyLoop s line l = x at h ⊢
  obtain ⟨t, line', rest⟩ := x
  cases rest with
  | nil => exact absurd rfl h
  | cons k rest => rfl

/-- R468: the end of a copy changes the list of fences; and after step 5 it frees surfaces and staging. -/
theorem State.surfView_endCopy (s : State) (f : FenceRun) :
    (s.endCopy f).surfView = { s.surfView with engine := { s.engineView with fences := (s.endCopy f).fences } } := by
  unfold State.endCopy
  split
  · rfl
  · have hsettled := State.surfView_each State.surfView_settleUse f.surfs
      { s with fences := s.fences.filter (fun g => g.num != f.num) }
    generalize ({ s with fences := s.fences.filter (fun g => g.num != f.num) } : State).each f.surfs State.settleUse = t at hsettled
    have hfences : t.fences = s.fences.filter (fun g => g.num != f.num) := congrArg (fun v => v.engine.fences) hsettled
    refine (t.surfView_showRegions.trans hsettled).trans ?_
    change _ = { s.surfView with engine := { s.engineView with fences := t.fences } }
    rw [hfences]
    rfl

theorem State.fences_endCopy_of_copied {s : State} {f : FenceRun} (h : f.step = 0) : (s.endCopy f).fences = s.fences.map
    (fun (g : FenceRun) => if g.num = f.num then
      { f with step := 1, heads := (s.endCopy f).blankHeads, edge := s.boot.edges, copy := none, line := [] } else g) := by
  unfold State.endCopy
  rw [if_pos h]
  rfl

theorem State.fences_endCopy_of_flipped {s : State} {f : FenceRun} (h : f.step ≠ 0) :
    (s.endCopy f).fences = s.fences.filter (fun g => g.num != f.num) := by
  unfold State.endCopy
  rw [if_neg h]
  exact congrArg (fun v => v.engine.fences) (State.surfView_each State.surfView_settleUse f.surfs
    { s with fences := s.fences.filter (fun g => g.num != f.num) })

/-- What the requests of a copy leave, and the Plate that they write. -/
theorem State.copyFrom_parts (s : State) (f : FenceRun) (line : List Byte) (l : List CopyOp) :
    let t := s.copyFrom f line l
    t.cw = s.cw ∧ t.regions = s.regions ∧ t.etch = s.etch ∧ t.tile = s.tile ∧ t.plate.mem = (copyLoop s line l).1.plate.mem := by
  intro t
  have hloop := engineView_copyLoop l s line
  have hcw : (copyLoop s line l).1.cw = s.cw := congrArg EngineView.cw hloop
  have hregions : (copyLoop s line l).1.regions = s.regions := congrArg EngineView.regions hloop
  have hetch : (copyLoop s line l).1.etch = s.etch := congrArg EngineView.etch hloop
  have htile : (copyLoop s line l).1.tile = s.tile := congrArg EngineView.tile hloop
  by_cases h : (copyLoop s line l).2.2 = []
  · have hend := (copyLoop s line l).1.surfView_endCopy f
    rw [← State.copyFrom_ends h] at hend
    exact ⟨(congrArg (fun v => v.engine.cw) hend).trans hcw, (congrArg (fun v => v.engine.regions) hend).trans hregions,
      (congrArg (fun v => v.engine.etch) hend).trans hetch, (congrArg (fun v => v.engine.tile) hend).trans htile,
      congrArg (fun v => v.plate.mem) hend⟩
  · have hwait : t = _ := State.copyFrom_waits h
    rw [hwait]
    exact ⟨hcw, hregions, hetch, htile, rfl⟩

/-- A copy that must wait: its fence keeps the requests that are left, and client 17 has one more request waiting. -/
theorem State.copyFrom_waiting_parts {s : State} {f : FenceRun} {line : List Byte} {l : List CopyOp} (h : (copyLoop s line l).2.2 ≠ []) :
    let x := copyLoop s line l
    (s.copyFrom f line l).fences = s.fences.map (fun (g : FenceRun) => if g.num = f.num then
      { f with copy := some x.2.2, line := x.2.1 } else g) ∧
      (s.copyFrom f line l).waitingOf 17 = x.1.waitingOf 17 ++ [.copy f.num] := by
  have hfences : (copyLoop s line l).1.fences = s.fences := congrArg EngineView.fences (engineView_copyLoop l s line)
  rw [State.copyFrom_waits h]
  refine ⟨?_, State.waitingOf_setWaiting _ (by decide) _⟩
  rw [← hfences]
  rfl

/-- R387: the waiting request of fence `f`'s copy goes on once client 17's credit covers it, or where its half is off. -/
theorem State.copyResume_eq {s : State} {f : FenceRun} {k : CopyOp} {l : List CopyOp} {q : List ReqBody}
    (hfind : s.fences.find? (fun g => g.num == f.num) = some f) (hcopy : f.copy = some (k :: l)) (hq : s.waitingOf 17 = .copy f.num :: q) :
    s.copyResume f = if !s.halfOn (reqAddr k.req) || s.affords 17 k.req then
      ((s.setWaiting 17 q).copyStep f.line k).1.copyFrom f ((s.setWaiting 17 q).copyStep f.line k).2 l else s := by
  simp only [State.copyResume, hq, if_true, State.copyOn, hfind, hcopy]

end Sys2Proof.Machine
end

section
/-! PROOFS. FENCE, the steps of its commit, and its flip (O44). -/

namespace Sys2Proof.Machine

/-! ### The handles that a fence covers (R467) -/

/-- Handle `r`, next in open order, is covered when it is CLOSED and overlaps none of the handles left out before it. -/
def State.coverNext (s : State) (acc : List Nat × List Region) (r : Nat) : List Nat × List Region :=
  if (s.region r).st = 2 ∧ acc.2.all (fun k => !overlap (s.region r) k) then (acc.1 ++ [r], acc.2) else (acc.1, acc.2 ++ [s.region r])

theorem State.coveredBy_eq (s : State) : s.coveredBy = (s.openOrder.foldl s.coverNext ([], [])).1 := rfl

theorem State.closed_of_mem_covered (s : State) (l : List Nat) : ∀ (acc : List Nat × List Region) (r : Nat),
    r ∈ (l.foldl s.coverNext acc).1 → r ∈ acc.1 ∨ r ∈ l ∧ (s.region r).st = 2 := by
  induction l with
  | nil => exact fun _ _ h => .inl h
  | cons a l ih =>
    intro acc r h
    rcases ih _ r h with hacc | ⟨hl, hst⟩
    · unfold State.coverNext at hacc
      split at hacc
      · next hclosed =>
        rcases List.mem_append.1 hacc with hacc | ha
        · exact .inl hacc
        · obtain rfl := List.mem_singleton.1 ha
          exact .inr ⟨List.mem_cons_self .., hclosed.1⟩
      · exact .inl hacc
    · exact .inr ⟨List.mem_cons_of_mem _ hl, hst⟩

theorem State.closed_of_covered {s : State} {r : Nat} (h : r ∈ s.coveredBy) : r < 32 ∧ (s.region r).st = 2 := by
  rw [State.coveredBy_eq] at h
  rcases s.closed_of_mem_covered s.openOrder ([], []) r h with hnil | ⟨hopen, hst⟩
  · cases hnil
  · unfold State.openOrder at hopen
    simp only [List.mem_mergeSort, List.mem_filter, List.mem_range] at hopen
    exact ⟨hopen.1, hst⟩

@[simp] theorem State.coveredBy_popCmd (s : State) : s.popCmd.coveredBy = s.coveredBy := by
  simp only [State.coveredBy, State.openOrder, State.region_popCmd]

/-! ### FENCE starts (R467, R472) -/

def State.setRegions (s : State) (l : List (Nat × Region)) : State := l.foldl (fun s k => s.setRegion k.1 k.2) s

theorem State.setRegions_keeps {β : Type} (view : State → β) (hv : ∀ (u : State) (r : Nat) (g : Region), view (u.setRegion r g) = view u)
    (s : State) (l : List (Nat × Region)) : view (s.setRegions l) = view s :=
  foldl_keeps view (f := fun (u : State) (k : Nat × Region) => u.setRegion k.1 k.2) (fun u k => hv u k.1 k.2) l s

theorem State.region_setRegions_ne {r : Nat} (l : List (Nat × Region)) : ∀ (s : State), (∀ k ∈ l, k.1 ≠ r) →
    (s.setRegions l).region r = s.region r := by
  induction l with
  | nil => exact fun _ _ => rfl
  | cons k l ih =>
    intro s h
    exact (ih _ fun j hj => h j (List.mem_cons_of_mem _ hj)).trans (s.region_setRegion_ne _ (h k (List.mem_cons_self ..)))

/-- The regions of the next fence. -/
def State.fencedRegions (s : State) : List Region := s.coveredBy.map (fun r => { s.region r with st := 3, fence := s.fenceCount + 1 })

/-- The next fence: one that covers nothing waits for the flip instant. -/
def State.newFence (s : State) : FenceRun :=
  ⟨s.fenceCount + 1, s.fencedRegions, if s.fencedRegions.isEmpty then 1 else 0, if s.fencedRegions.isEmpty then s.blankHeads else [],
    s.cancelled, s.boot.edges, none, []⟩

theorem State.startFence_eq (s : State) : s.startFence =
    { s.setRegions (s.coveredBy.zip s.fencedRegions) with
      fenceCount := s.fenceCount + 1, cancelled := false, fences := s.fences ++ [s.newFence] } := by
  have hfences := State.setRegions_keeps State.fences (fun _ _ _ => rfl) s (s.coveredBy.zip s.fencedRegions)
  rw [← hfences]
  rfl

theorem State.length_fencedRegions (s : State) : s.fencedRegions.length = s.coveredBy.length := List.length_map _

theorem State.fencedRegions_isEmpty (s : State) : s.fencedRegions.isEmpty = s.coveredBy.isEmpty := by
  simp [State.fencedRegions]

theorem State.region_startFence (s : State) {r : Nat} (h : r ∉ s.coveredBy) : s.startFence.region r = s.region r := by
  rw [s.startFence_eq]
  exact s.region_setRegions_ne _ fun k hk hkr => h (hkr ▸ (List.of_mem_zip hk).1)

/-- What FENCE leaves when it starts, and the fence that it adds. -/
theorem State.startFence_parts (s : State) :
    let t := s.startFence
    t.cw = s.cw ∧ t.fenceCount = s.fenceCount + 1 ∧ t.cancelled = false ∧ (∀ r, r ∉ s.coveredBy → t.region r = s.region r) ∧
      ∃ f, t.fences = s.fences ++ [f] ∧ f.num = s.fenceCount + 1 ∧ f.cancelled = s.cancelled ∧ f.edge = s.boot.edges ∧ f.copy = none ∧
        f.regs.length = s.coveredBy.length ∧ (s.coveredBy = [] → f.step = 1) ∧ (s.coveredBy ≠ [] → f.step = 0) := by
  intro t
  have heq : t = _ := s.startFence_eq
  refine ⟨?_, ?_, ?_, fun r => s.region_startFence, s.newFence, ?_, rfl, rfl, rfl, rfl, s.length_fencedRegions, fun h => ?_, fun h => ?_⟩
  · rw [heq]
    exact State.setRegions_keeps State.cw (fun _ _ _ => rfl) s _
  · rw [heq]
  · rw [heq]
  · rw [heq]
  · simp [State.newFence, s.fencedRegions_isEmpty, h]
  · simp [State.newFence, s.fencedRegions_isEmpty, h]

/-- R227, R281: FENCE starts once every push accepted before it has left the push buffer, and executes until its fence signals. -/
theorem exec_fence {s : State} {e : CmdEntry} (hs : s.starts 0x53 e) (hr : s.runtime = true) (hlen : e.params = [])
    (hpush : ∀ i ∈ s.cw.pushBuf, e.atPush ≤ i.serial) :
    exec .fence s = .next (finish e (.wait s.popCmd.startFence (.fence (s.fenceCount + 1)))) := by
  change Host.Outcome.next (startCmd s _ _) = _
  rw [startCmd_starts s e _ _ hs.1 hs.2.2.2 (by simpa [isOp_of_starts hs] using hpush)]
  simp only [hlen, List.isEmpty_nil, runtimeCmd_permitted (s.runtime_popCmd.trans hr), State.popCmd_fenceCount]

/-! ### The flip (R468, R469) -/

/-- R468: the handles of fence `num` are freed at its flip. -/
def State.freeFenced (num : Nat) (s : State) (r : Nat) : State :=
  if (s.region r).st = 3 ∧ (s.region r).fence = num then s.setRegion r Region.free else s

theorem State.region_each_freeFenced (num : Nat) {q : Nat} (hq : q < 32) (l : List Nat) : ∀ s : State,
    (s.each l (State.freeFenced num)).region q =
      if q ∈ l ∧ (s.region q).st = 3 ∧ (s.region q).fence = num then Region.free else s.region q := by
  induction l with
  | nil => simp [State.each]
  | cons r l ih =>
    intro s
    have hstep : (s.freeFenced num r).region q =
        if r = q ∧ (s.region q).st = 3 ∧ (s.region q).fence = num then Region.free else s.region q := by
      unfold State.freeFenced
      rcases eq_or_ne r q with rfl | hne
      · split <;> simp [*, State.region_setRegion_same]
      · split <;> simp [*, State.region_setRegion_ne]
    refine (ih _).trans ?_
    rw [hstep]
    by_cases hfenced : (s.region q).st = 3 ∧ (s.region q).fence = num
    · by_cases hrq : r = q
      · simp [hfenced, hrq, Region.free]
      · simp [hfenced, hrq, Ne.symm hrq]
    · simp [hfenced]

/-- R468 steps 3 and 4: FRONT of every covered surface flips, and the handles of the fence are free. -/
def State.flipFronts (s : State) (f : FenceRun) : State :=
  (s.each f.surfs (fun s n => s.completeBuf n (s.backBuf n))).each (List.range 32) (State.freeFenced f.num)

theorem State.each_freeFenced_keeps {β : Type} (view : State → β)
    (hv : ∀ (u : State) (r : Nat), view (u.setRegion r Region.free) = view u) (num : Nat) (s : State) (l : List Nat) :
    view (s.each l (State.freeFenced num)) = view s := by
  refine foldl_keeps view (fun u r => ?_) l s
  unfold State.freeFenced
  split
  · exact hv u r
  · rfl

theorem State.surfView_completeBacks (s : State) (l : List Nat) :
    (s.each l (fun s n => s.completeBuf n (s.backBuf n))).surfView = s.surfView :=
  State.surfView_each (fun u n => u.surfView_completeBuf n _) l s

theorem State.fld_completeBacks_below (s : State) (l : List Nat) {f : Field} (hf : f.addr < 0x51000) :
    (s.each l (fun s n => s.completeBuf n (s.backBuf n))).fld f = s.fld f := by
  refine foldl_keeps (State.fld · f) (fun u n => u.fld_completeBuf_apart n _ (.inl ?_) (.inl ?_)) l s
  · simp only [F.SURF_STATUS_FRONT]
    omega
  · simp only [F.SURF_STATUS_FRONT_VALID]
    omega

theorem State.flipFronts_parts (s : State) (f : FenceRun) :
    (s.flipFronts f).plate = s.plate ∧ (s.flipFronts f).cw = s.cw ∧ (s.flipFronts f).boot = s.boot ∧
      (s.flipFronts f).phase = s.phase := by
  have hfronts := s.surfView_completeBacks f.surfs
  refine ⟨?_, ?_, ?_, ?_⟩
  · exact (State.each_freeFenced_keeps State.plate (fun _ _ => rfl) _ _ _).trans (congrArg SurfView.plate hfronts)
  · exact (State.each_freeFenced_keeps State.cw (fun _ _ => rfl) _ _ _).trans (congrArg (fun v => v.engine.cw) hfronts)
  · exact (State.each_freeFenced_keeps State.boot (fun _ _ => rfl) _ _ _).trans (congrArg (fun v => v.engine.boot) hfronts)
  · exact (State.each_freeFenced_keeps State.phase (fun _ _ => rfl) _ _ _).trans
      (s.fld_completeBacks_below f.surfs (by decide : F.BOOT_STATUS_PHASE.addr < 0x51000))

theorem State.region_flipFronts (s : State) (f : FenceRun) {r : Nat} (hr : r < 32) : (s.flipFronts f).region r =
    if (s.region r).st = 3 ∧ (s.region r).fence = f.num then Region.free else s.region r := by
  have hfronts := s.surfView_completeBacks f.surfs
  unfold State.flipFronts
  rw [State.region_each_freeFenced f.num hr, State.region_of_regions (congrArg (fun v => v.engine.regions) hfronts)]
  simp [hr]

/-- R472: fence `num` signals in REGION_FENCE_LAST. -/
def State.showFence (s : State) (num : Nat) : State := (s.setFld F.REGION_FENCE_LAST num).showRegions

theorem State.surfView_showFence (s : State) (num : Nat) : (s.showFence num).surfView = s.surfView :=
  (State.surfView_showRegions _).trans (s.surfView_setFld num (by decide))

theorem State.phase_showFence (s : State) (num : Nat) : (s.showFence num).phase = s.phase :=
  (State.fld_showRegions_ne _ (by decide)).trans (State.fld_setFld_apart _ _ _ _ (.inl (by decide)))

theorem State.fenceLast_showFence (s : State) (num : Nat) : (s.showFence num).fld F.REGION_FENCE_LAST = num % 2 ^ 32 :=
  (State.fld_showRegions_ne _ (by decide)).trans (State.fld_setFld _ _ _ (by decide))

/-- R468, R472: the fence has flipped: one without regions has ended, any other goes on to step 5. -/
def State.noteFlip (s : State) (f : FenceRun) (readers : List (Nat × Nat)) : State :=
  if f.regs.isEmpty then { s with fences := s.fences.filter (fun g => g.num != f.num) }
  else s.putFence { f with step := 2, heads := readers }

theorem State.noteFlip_keeps {β : Type} (view : State → β) (s : State) (hv : ∀ l, view { s with fences := l } = view s) (f : FenceRun)
    (readers : List (Nat × Nat)) : view (s.noteFlip f readers) = view s := by
  unfold State.noteFlip
  split
  · exact hv _
  · exact hv _

/-- The device at the flip of fence `f`, before the executing FENCE is answered. -/
def State.flipped (s : State) (f : FenceRun) : State :=
  ((s.flipFronts f).noteFlip f (((List.range 4).filter (fun h => s.headRunning h && f.surfs.any (s.headShows h))).map
    (fun h => (h, (s.head h).fr.count)))).showFence f.num

theorem State.flipFence_eq (s : State) (f : FenceRun) : s.flipFence f = if (s.flipped f).waitsFor (.fence f.num) then
    (s.flipped f).finishRunning (if f.cancelled then stCancelled else stOk) [BitVec.ofNat 32 f.num] else s.flipped f := rfl

/-- Beyond the fences, REGION_FENCE_LAST and REGION_STATUS, the device is as the flip of the buffers left it. -/
theorem State.flipped_parts (s : State) (f : FenceRun) :
    (s.flipped f).plate = s.plate ∧ (s.flipped f).cw = s.cw ∧ (s.flipped f).runtimeDead = s.runtimeDead ∧
      (s.flipped f).regions = (s.flipFronts f).regions ∧ (s.flipped f).fld F.REGION_FENCE_LAST = f.num % 2 ^ 32 := by
  obtain ⟨hplate, hcw, hboot, hphase⟩ := s.flipFronts_parts f
  unfold State.flipped
  generalize s.flipFronts f = s2 at hplate hcw hboot hphase ⊢
  generalize ((List.range 4).filter (fun h => s.headRunning h && f.surfs.any (s.headShows h))).map _ = readers
  have h3 {β : Type} (view : State → β) (hv : ∀ l, view { s2 with fences := l } = view s2) : view (s2.noteFlip f readers) = view s2 :=
    State.noteFlip_keeps view s2 hv f readers
  have hshown := (s2.noteFlip f readers).surfView_showFence f.num
  have hphase3 := ((s2.noteFlip f readers).phase_showFence f.num).trans ((h3 State.phase fun _ => rfl).trans hphase)
  have hlast := (s2.noteFlip f readers).fenceLast_showFence f.num
  generalize (s2.noteFlip f readers).showFence f.num = u at hshown hphase3 hlast ⊢
  have hboot3 : u.boot = s.boot := (congrArg (fun v => v.engine.boot) hshown).trans ((h3 State.boot fun _ => rfl).trans hboot)
  refine ⟨(congrArg SurfView.plate hshown).trans ((h3 State.plate fun _ => rfl).trans hplate),
    (congrArg (fun v => v.engine.cw) hshown).trans ((h3 State.cw fun _ => rfl).trans hcw), ?_,
    (congrArg (fun v => v.engine.regions) hshown).trans (h3 State.regions fun _ => rfl), hlast⟩
  unfold State.runtimeDead State.runtime
  rw [hphase3, hboot3]

/-- The reply of the executing command changes the Command Window alone. -/
theorem State.finishRunning_eq (s : State) (status : Nat) (payload : List Word) :
    s.finishRunning status payload = { s with cw := (s.finishRunning status payload).cw } := by
  unfold State.finishRunning
  split
  · rfl
  · split <;> rfl

theorem State.flipFence_keeps {β : Type} (view : State → β) (hv : ∀ (u : State) (c : CwState), view { u with cw := c } = view u)
    (s : State) (f : FenceRun) : view (s.flipFence f) = view (s.flipped f) := by
  rw [State.flipFence_eq]
  generalize s.flipped f = u
  split
  · rw [State.finishRunning_eq]
    exact hv u _
  · rfl

/-- R471, R472: the flip answers the FENCE that executes. -/
theorem State.cw_flipFence {s : State} {f : FenceRun} {c : Running} (hc : s.cw.running = some c) (hw : c.wait = .fence f.num)
    (hlive : s.runtimeDead = false) : (s.flipFence f).cw = { s.cw with running := none, replyQ := s.cw.replyQ ++
      [⟨c.cmd.tag, BitVec.ofNat 8 (if f.cancelled then stCancelled else stOk), [BitVec.ofNat 32 f.num], none⟩] } := by
  obtain ⟨_, hcw, hdead, _, _⟩ := s.flipped_parts f
  have hwaits : (s.flipped f).waitsFor (.fence f.num) = true := by simp [State.waitsFor, hcw, hc, hw]
  rw [State.flipFence_eq, if_pos hwaits]
  simp [State.finishRunning, hcw, hc, hdead, hlive, State.post]

/-! ### Where the steps of a commit stand -/

section
variable {s : State} {f : FenceRun} (hs : s.off = false)
include hs

theorem exec_fenceCommitCopy (hf : s.fences.find? (fun f => f.step == 0) = some f) : exec .fenceCommitCopy s = .next
    (if f.copy.isSome then s.copyResume f
     else if !s.pbaRunning || s.fences.any (fun g => decide (g.num < f.num) && g.surfs.any (fun n => f.surfs.contains n)) then s
     else (s.each f.surfs (fun s n => s.startBuf n (s.backBuf n))).copyFrom f []
       (f.regs.flatMap (s.each f.surfs (fun s n => s.startBuf n (s.backBuf n))).copyOps)) := by
  change Host.Outcome.next (s.ifLive _) = _
  rw [State.ifLive_of_on hs]
  simp only [hf]

theorem exec_fenceCatchupCopy (hf : s.fences.find? s.catchUpDue = some f) : exec .fenceCatchupCopy s = .next
    (if f.copy.isSome then s.copyResume f else if !s.pbaRunning then s else s.copyFrom f [] (f.regs.flatMap s.copyOps)) := by
  change Host.Outcome.next (s.ifLive _) = _
  rw [State.ifLive_of_on hs]
  simp only [hf]

theorem exec_fenceFlip (hf : s.fences.find? (fun f => f.step == 1) = some f) :
    exec .fenceFlip s = .next (if s.flipDue f then s.flipFence f else s) := by
  change Host.Outcome.next (s.ifLive _) = _
  rw [State.ifLive_of_on hs]
  simp only [hf]

end

theorem State.earlierFence_iff (s : State) (f : FenceRun) :
    s.fences.any (fun g => decide (g.num < f.num) && g.surfs.any (fun n => f.surfs.contains n)) = true ↔
      ∃ g ∈ s.fences, g.num < f.num ∧ ∃ n ∈ g.surfs, n ∈ f.surfs := by
  simp

theorem State.backBufs_engineView (s : State) (l : List Nat) :
    (s.each l (fun s n => s.startBuf n (s.backBuf n))).engineView = s.engineView :=
  State.engineView_of_surfView (State.surfView_each (fun u n => u.surfView_startBuf n _) l s)

/-- Settles O44: what a fence covers, how its copies run and wait, and its flip. -/
theorem fences : Obligations.Fences := by
  unfold Obligations.Fences
  refine ⟨fun s r h => State.closed_of_covered h, ?starts, ?copy, ?waits, ?resumes, ?flip, ?catchup, ?catchupResumes⟩
  case starts =>
    intro s e hs hr hlen hpush
    obtain ⟨hcw, hcount, hcancelled, hregion, hnew⟩ := s.popCmd.startFence_parts
    simp only [State.popCmd_cw, State.popCmd_fenceCount, State.coveredBy_popCmd, State.region_popCmd, State.popCmd_fences,
      State.popCmd_cancelled, State.popCmd_boot] at hcw hcount hregion hnew
    refine ⟨_, (exec_fence hs hr hlen hpush).trans (congrArg _ (finish_wait e _ _)), rfl, ?_, hcount, hcancelled, hregion, hnew⟩
    have hreplies := congrArg CwState.replyQ hcw
    exact hreplies
  case copy =>
    intro s f hs hf hcopy hpba hearlier u x
    have hexec := exec_fenceCommitCopy hs hf
    have hstep : f.step = 0 := by simpa using List.find?_some hf
    have hnone : ¬ (!s.pbaRunning ||
        s.fences.any (fun g => decide (g.num < f.num) && g.surfs.any (fun n => f.surfs.contains n))) = true := by
      rw [hpba, Bool.not_true, Bool.false_or, State.earlierFence_iff]
      rintro ⟨g, hg, hlt, n, hn, hnf⟩
      exact hearlier g hg hlt n hn hnf
    rw [if_neg (by simp [hcopy]), if_neg hnone] at hexec
    have hu := s.backBufs_engineView f.surfs
    have hloop : x.1.engineView = s.engineView := (engineView_copyLoop (f.regs.flatMap u.copyOps) u []).trans hu
    have hfences : x.1.fences = s.fences := congrArg EngineView.fences hloop
    have hboot : x.1.boot = s.boot := congrArg EngineView.boot hloop
    obtain ⟨hcw, hregions, hetch, htile, hmem⟩ := u.copyFrom_parts f [] (f.regs.flatMap u.copyOps)
    refine ⟨_, hexec, hcw.trans (congrArg EngineView.cw hu), hregions.trans (congrArg EngineView.regions hu),
      hetch.trans (congrArg EngineView.etch hu), htile.trans (congrArg EngineView.tile hu), hmem, fun hend => ?_, fun hwait => ?_⟩
    · have hended : u.copyFrom f [] (f.regs.flatMap u.copyOps) = x.1.endCopy f := State.copyFrom_ends hend
      rw [hended, State.fences_endCopy_of_copied hstep, hfences, hboot]
    · have hwaits := State.copyFrom_waiting_parts (f := f) hwait
      have hsame : u.fences = s.fences := congrArg EngineView.fences hu
      rwa [hsame] at hwaits
  case waits =>
    intro s f hs hf hcopy h
    have hany : (!s.pbaRunning ||
        s.fences.any (fun g => decide (g.num < f.num) && g.surfs.any (fun n => f.surfs.contains n))) = true := by
      rw [Bool.or_eq_true, State.earlierFence_iff, Bool.not_eq_true']
      exact h
    rw [exec_fenceCommitCopy hs hf, if_neg (by simp [hcopy]), if_pos hany]
  case resumes =>
    intro s f k l q hs hf hfind hcopy hq
    have hexec := exec_fenceCommitCopy hs hf
    rw [if_pos (by simp [hcopy]), State.copyResume_eq hfind hcopy hq] at hexec
    exact ⟨fun h => hexec.trans (congrArg _ (if_pos (by simpa using h))),
      fun hon haff => hexec.trans (congrArg _ (if_neg (by simp [hon, haff])))⟩
  case flip =>
    intro s f hs hf
    have hexec := exec_fenceFlip hs hf
    obtain ⟨hplate, _, _, hregions, hlast⟩ := s.flipped_parts f
    have hregion (r : Nat) : (s.flipFence f).region r = (s.flipFronts f).region r :=
      State.region_of_regions ((State.flipFence_keeps State.regions (fun _ _ => rfl) s f).trans hregions) r
    refine ⟨fun hdue => by rw [hexec, hdue, if_neg Bool.false_ne_true],
      fun hdue => ⟨s.flipFence f, by rw [hexec, if_pos hdue], ?_, ?_, ?_, ?_, ?_⟩⟩
    · exact (State.flipFence_keeps (State.fld · F.REGION_FENCE_LAST) (fun _ _ => rfl) s f).trans hlast
    · exact (State.flipFence_keeps State.plate (fun _ _ => rfl) s f).trans hplate
    · exact fun r hr hst hnum => (hregion r).trans ((s.region_flipFronts f hr).trans (if_pos ⟨hst, hnum⟩))
    · exact fun r hr hother => (hregion r).trans ((s.region_flipFronts f hr).trans (if_neg (by tauto)))
    · exact fun c hc hw hlive => State.cw_flipFence (Option.mem_def.1 hc) hw hlive
  case catchup =>
    intro s f hs hf hcopy hpba x
    have hexec := exec_fenceCatchupCopy hs hf
    rw [if_neg (by simp [hcopy]), if_neg (by simp [hpba])] at hexec
    have hstep : f.step ≠ 0 := by
      have hdue := List.find?_some hf
      simp only [State.catchUpDue, Bool.and_eq_true, beq_iff_eq] at hdue
      omega
    have hx : x.1.fences = s.fences := congrArg EngineView.fences (engineView_copyLoop _ s [])
    obtain ⟨hcw, hregions, hetch, htile, hmem⟩ := s.copyFrom_parts f [] (f.regs.flatMap s.copyOps)
    refine ⟨_, hexec, hcw, hregions, hetch, htile, hmem, fun hend => ?_, State.copyFrom_waiting_parts⟩
    rw [State.copyFrom_ends hend, State.fences_endCopy_of_flipped hstep]
    exact congrArg _ hx
  case catchupResumes =>
    intro s f k l q hs hf hfind hcopy hq h
    have hexec := exec_fenceCatchupCopy hs hf
    rw [if_pos (by simp [hcopy]), State.copyResume_eq hfind hcopy hq] at hexec
    exact hexec.trans (congrArg _ (if_pos (by simpa using h)))

end Sys2Proof.Machine
end

section
/-! PROOFS. What the first part of SOFT_RESET leaves: inputs stop, chains go DARK, and the work in progress ends. -/

namespace Sys2Proof.Machine

/-! ### Registers and parts that an operation leaves -/

/-- `t` has the registers `l` and the parts `view` of `s`. -/
structure State.Leaves {β : Type} (l : List Nat) (view : State → β) (s t : State) : Prop where
  rd : ∀ a ∈ l, t.rd a = s.rd a
  parts : view t = view s

namespace State.Leaves
variable {β : Type} {l : List Nat} {view : State → β} {s t u : State}

theorem refl (s : State) : State.Leaves l view s s := ⟨fun _ _ => rfl, rfl⟩

theorem trans (k : State.Leaves l view s t) (m : State.Leaves l view t u) : State.Leaves l view s u :=
  ⟨fun a ha => (m.rd a ha).trans (k.rd a ha), m.parts.trans k.parts⟩

theorem ite {c : Prop} [Decidable c] (k : State.Leaves l view s t) (m : State.Leaves l view s u) :
    State.Leaves l view s (if c then t else u) := by
  split
  · exact k
  · exact m

/-- An update that touches no register. -/
theorem of_eq (k : State.Leaves l view s t) (hregs : u.regs = t.regs) (hparts : view u = view t) : State.Leaves l view s u :=
  k.trans ⟨fun a _ => State.rd_of_regs hregs a, hparts⟩

/-- A view that shows no register. -/
theorem wr (hview : ∀ (u : State) (r : List (Nat × Word)), view { u with regs := r } = view u) (k : State.Leaves l view s t) {a : Nat}
    (w : Word) (ha : a ∉ l) : State.Leaves l view s (t.wr a w) :=
  k.trans ⟨fun b hb => t.rd_wr_ne a b w fun hab => ha (hab ▸ hb), hview t _⟩

/-- A fold whose step leaves them for the elements of its list. -/
theorem foldlMem {α : Type} {f : State → α → State} (r : List α) (hf : ∀ (u : State), ∀ a ∈ r, State.Leaves l view u (f u a)) :
    ∀ t : State, State.Leaves l view t (r.foldl f t) := by
  induction r with
  | nil => exact refl
  | cons a r ih =>
    exact fun t => (hf t a (List.mem_cons_self ..)).trans (ih (fun u b hb => hf u b (List.mem_cons_of_mem _ hb)) (f t a))

theorem foldl {α : Type} {f : State → α → State} (hf : ∀ (u : State) (a : α), State.Leaves l view u (f u a)) (r : List α) (t : State) :
    State.Leaves l view t (r.foldl f t) := foldlMem r (fun u a _ => hf u a) t

theorem fld (k : State.Leaves l view s t) {f : Field} (hf : f.addr ∈ l) : t.fld f = s.fld f := by
  unfold State.fld
  rw [k.rd _ hf]

end State.Leaves

/-! ### What SOFT_RESET leaves throughout -/

/-- Presence and the bytes of the Etch store. -/
def State.keptParts (s : State) : PresState × List Host.Cell := (s.pres, s.etch.mem)

/-- BOOT_STATUS, CW_MODE, CW_ERR_COUNT, presence and the bytes of the Etch store are left. -/
abbrev State.KeepsPort (s t : State) : Prop := State.Leaves portRegs State.keptParts s t

namespace State.Leaves
variable {s t : State}

theorem wrOff (k : s.KeepsPort t) {a : Nat} (w : Word) (ha : a ∉ portRegs) : s.KeepsPort (t.wr a w) := k.wr (fun _ _ => rfl) w ha

theorem setHigh (k : s.KeepsPort t) {f : Field} (v : Nat) (ha : 0x3000C < f.addr) : s.KeepsPort (t.setFld f v) :=
  k.wrOff _ (not_mem_portRegs ha)

/-- A register of an array above CW_ERR_COUNT. -/
theorem setReg (k : s.KeepsPort t) {base o lo w : Nat} (v : Nat) (hb : 0x3000C < base) :
    s.KeepsPort (t.setFld ⟨base + o, lo, w⟩ v) := k.setHigh v (Nat.lt_add_right o hb)

theorem raise (k : s.KeepsPort t) (c : Nat) : s.KeepsPort (t.raise c) :=
  k.trans (ite (refl t) ((refl t).wrOff _ (by decide : 0x30004 ∉ portRegs)))

end State.Leaves

namespace State.KeepsPort
variable {s t : State}

theorem of_engineView (h : t.engineView = s.engineView) : s.KeepsPort t :=
  ⟨List.map_inj_left.1 (congrArg EngineView.port h),
    congrArg₂ Prod.mk (congrArg EngineView.pres h) (congrArg (fun v => v.etch.mem) h)⟩

theorem of_onlyChains (k : s.OnlyChains t) : s.KeepsPort t := by
  obtain ⟨⟨r, c, rfl⟩, hr⟩ := k
  have hlow : ∀ a ∈ portRegs, a < 0x100000 := by decide
  exact ⟨fun a ha => hr a (hlow a ha), rfl⟩

end State.KeepsPort

open State (KeepsPort Leaves)

/-! ### Inputs (R434) -/

theorem State.setVid_keepsPort {s t : State} (k : s.KeepsPort t) (i : Nat) (vc1 : Bool) (v : VidIn) : s.KeepsPort (t.setVid i vc1 v) :=
  k.of_eq rfl rfl

theorem State.tear_keepsPort (s : State) (i : Nat) (vc1 : Bool) : s.KeepsPort (s.tear i vc1) := by
  unfold State.tear
  extract_lets v t
  have kvid : s.KeepsPort (s.setVid i vc1 { v with torn := true }) := State.setVid_keepsPort (Leaves.refl s) i vc1 _
  have kt : s.KeepsPort t := ((kvid.setReg _ (by decide)).setReg 1 (by decide)).raise _
  exact Leaves.ite (Leaves.refl s) (Leaves.ite (kt.wrOff _ (by decide)) kt)

theorem State.cutFrame_keepsPort (s : State) (i : Nat) (vc1 : Bool) : s.KeepsPort (s.cutFrame i vc1) :=
  State.setVid_keepsPort (Leaves.ite (s.tear_keepsPort i vc1) (Leaves.refl s)) i vc1 _

theorem State.stopInput_keepsPort (s : State) (i : Nat) : s.KeepsPort (s.stopInput i) := by
  have kcut : s.KeepsPort (s.cutFrames i) := (s.cutFrame_keepsPort i false).trans (State.cutFrame_keepsPort _ i true)
  have krelease (t : State) : t.KeepsPort (t.releaseTargets i) :=
    (Leaves.foldl (fun u n => (Leaves.refl u).setReg (o := 0x20 * n) 0 (by decide)) _ t).of_eq rfl rfl
  exact (Leaves.ite kcut (Leaves.refl s)).trans (krelease _)

/-! ### Chains (R268) -/

theorem State.setChain_keepsPort {s t : State} (k : s.KeepsPort t) (c : Nat) (x : ChainState) : s.KeepsPort (t.setChain c x) :=
  k.of_eq rfl rfl

theorem State.capture_keepsPort (s : State) (c a : Nat) (d : List Byte) : s.KeepsPort (s.capture c a d) :=
  Leaves.ite (KeepsPort.of_engineView s.engineView_countOff)
    (Leaves.ite (KeepsPort.of_engineView (s.engineView_serve 20 _))
      ((KeepsPort.of_engineView (s.engineView_countRefuse 20)).setReg 1 (by decide)))

theorem State.endRun_keepsPort (s : State) (c st : Nat) : s.KeepsPort (s.endRun c st) := by
  have kflush (d : DiagRun) (n : Nat) : s.KeepsPort (s.flushRecs c d n) :=
    Leaves.ite (Leaves.refl s) (State.setChain_keepsPort (s.capture_keepsPort c _ _) c _)
  unfold State.endRun
  refine Leaves.setReg ?_ st (by decide)
  split
  · exact Leaves.refl s
  · exact Leaves.ite (Leaves.refl s) (kflush _ _)

theorem State.loseRun_keepsPort (s : State) (c : Nat) : s.KeepsPort (s.loseRun c) := Leaves.ite (s.endRun_keepsPort c _) (Leaves.refl s)

theorem State.finishRunning_keepsPort (s : State) (status : Nat) (payload : List Word) : s.KeepsPort (s.finishRunning status payload) := by
  rw [State.finishRunning_eq]
  exact (Leaves.refl s).of_eq rfl rfl

theorem State.settleBroadcast_keepsPort (s : State) : s.KeepsPort s.settleBroadcast := by
  unfold State.settleBroadcast
  split
  · exact Leaves.ite (s.finishRunning_keepsPort _ _) (Leaves.refl s)
  · exact Leaves.refl s

theorem State.settleFurl_keepsPort (s : State) : s.KeepsPort s.settleFurl := by
  unfold State.settleFurl
  split
  · exact Leaves.ite (s.finishRunning_keepsPort _ _) (Leaves.refl s)
  · exact Leaves.refl s

theorem State.setChainState_keepsPort (s : State) (c st : Nat) : s.KeepsPort (s.setChainState c st) := by
  unfold State.setChainState
  extract_lets old x s1 s2 y s3 s4
  have k1 : s.KeepsPort s1 := State.setChain_keepsPort (Leaves.refl s) c _
  have k2 : s.KeepsPort s2 := ((k1.setReg st (by decide)).setReg _ (by decide)).raise _
  have k3 : s.KeepsPort s3 := Leaves.ite ((State.setChain_keepsPort k2 c _).setReg 0 (by decide)) k2
  have k4 : s.KeepsPort s4 := Leaves.ite (k3.trans (s3.loseRun_keepsPort c)) k3
  have kgoal : s.KeepsPort (s4.towardGoal c) := k4.trans (KeepsPort.of_onlyChains (s4.towardGoal_onlyChains c))
  exact Leaves.ite k1 (Leaves.ite (k4.trans s4.settleBroadcast_keepsPort)
    (Leaves.ite (kgoal.trans (State.settleFurl_keepsPort _)) k4))

theorem State.darken_keepsPort (s : State) (c : Nat) : s.KeepsPort (s.darken c) :=
  State.setChain_keepsPort ((s.setChainState_keepsPort c chDark).trans (State.loseRun_keepsPort _ c)) c _

theorem State.resetChains_keepsPort (s : State) : s.KeepsPort s.resetChains :=
  (KeepsPort.of_onlyChains (s.unfurlFor_onlyChains 0)).trans (Leaves.foldl State.darken_keepsPort _ _)

/-! ### The work that ends -/

theorem State.wbStop_keepsPort (s : State) : s.KeepsPort s.wbStop := by
  have koff : s.KeepsPort ((s.setFld F.WB_CTRL_EN 0).setFld F.WB_STATUS_ACTIVE 0) :=
    (Leaves.setHigh (Leaves.refl s) 0 (by decide)).setHigh 0 (by decide)
  exact koff.of_eq rfl rfl

theorem State.settleUse_keepsPort (s : State) (n : Nat) : s.KeepsPort (s.settleUse n) :=
  KeepsPort.of_engineView (State.engineView_of_surfView (s.surfView_settleUse n))

theorem State.showRegions_keepsPort (s : State) : s.KeepsPort s.showRegions :=
  KeepsPort.of_engineView (State.engineView_of_surfView s.surfView_showRegions)

theorem State.regionsSoftReset_keepsPort (s : State) : s.KeepsPort s.regionsSoftReset := by
  unfold State.regionsSoftReset
  extract_lets used s0 s1
  have k1 : s.KeepsPort s1 := (Leaves.refl s).of_eq rfl rfl
  have kpool := (k1.trans (Leaves.foldl State.settleUse_keepsPort used s1)).setHigh (f := F.REGION_POOL_SIZE_SIZE) 0 (by decide)
  exact kpool.trans (State.showRegions_keepsPort _)

theorem State.calEnd_keepsPort (s : State) (st cause : Nat) : s.KeepsPort (s.calEnd st cause) := by
  have kstale (t : State) : t.KeepsPort (t.setStale 0) :=
    Leaves.foldl (fun u n => Leaves.setReg (o := 0x10 * n) (Leaves.refl u) 0 (by decide)) _ t
  have kdiag (t : State) : t.KeepsPort (t.setDiagStale false) :=
    Leaves.foldl (fun u n => Leaves.setReg (o := 0x1000 * n) (Leaves.refl u) _ (by decide)) _ t
  have kpauses (t : State) : t.KeepsPort (t.calPauses false) := by
    refine Leaves.foldl (fun u n => ?_) _ t
    have kstate (v : Nat) : u.KeepsPort (u.setFld (F.LINK_DIAG_STATUS_RUN_STATE n) v) :=
      Leaves.setReg (Leaves.refl u) v (by decide)
    exact Leaves.ite (Leaves.refl u) (Leaves.ite (kstate 2) (Leaves.ite (kstate 1) (Leaves.refl u)))
  have kmeasuring : s.KeepsPort { s with cal := { s.cal with measuring := none } } := (Leaves.refl s).of_eq rfl rfl
  have kstatus := (kmeasuring.setHigh (f := F.CAL_STATUS_RUN_STATE) st (by decide)).setHigh (f := F.CAL_STATUS_ABORT_CAUSE) cause
    (by decide)
  exact (((kstatus.trans (kstale _)).trans (kdiag _)).trans (kpauses _)).raise _

theorem State.calSoftReset_keepsPort (s : State) : s.KeepsPort s.calSoftReset := by
  unfold State.calSoftReset
  extract_lets irq t
  have kt : s.KeepsPort t := Leaves.ite ((s.calEnd_keepsPort 0 0).wrOff irq (by decide)) (Leaves.refl s)
  have krun : s.KeepsPort { t with cal := { t.cal with run := none } } := kt.of_eq rfl rfl
  exact (((krun.setHigh 0 (by decide)).setHigh 0 (by decide)).setHigh 0 (by decide)).setHigh 0 (by decide)

theorem State.diagSoftReset_keepsPort (s : State) : s.KeepsPort s.diagSoftReset :=
  Leaves.foldl (fun u c => Leaves.setReg (State.setChain_keepsPort (Leaves.refl u) c _) runNone (by decide)) _ s

theorem State.touchSoftReset_keepsPort (s : State) : s.KeepsPort s.touchSoftReset := by
  refine Leaves.foldl (fun u h => ?_) _ s
  have ktouch (x : TouchState) : u.KeepsPort (u.setTouch h x) := (Leaves.refl u).of_eq rfl rfl
  exact (((ktouch _).setReg toOff (by decide)).setReg 0 (by decide)).setReg 0 (by decide)

/-- What the ends of the work in progress leave, before its records go. -/
def State.workEnded (s : State) : State := s.wbStop.regionsSoftReset.calSoftReset.diagSoftReset.touchSoftReset

/-- The records of write-back, stages, layers and staging go. -/
def State.recordsDropped (s : State) : State :=
  { s with wb := WriteBack.reset, stages := [], layerHead := Vector.replicate 8 none, etch := { s.etch with staging := none } }

theorem State.endWork_eq (s : State) : s.endWork = s.workEnded.recordsDropped := rfl

theorem State.recordsDropped_keepsPort (s : State) : s.KeepsPort s.recordsDropped := (Leaves.refl s).of_eq rfl rfl

theorem State.workEnded_keepsPort (s : State) : s.KeepsPort s.workEnded :=
  (((s.wbStop_keepsPort.trans (State.regionsSoftReset_keepsPort _)).trans (State.calSoftReset_keepsPort _)).trans
    (State.diagSoftReset_keepsPort _)).trans (State.touchSoftReset_keepsPort _)

theorem State.endWork_keepsPort (s : State) : s.KeepsPort s.endWork := by
  rw [State.endWork_eq]
  exact s.workEnded_keepsPort.trans (State.recordsDropped_keepsPort _)

/-- The state of the device once SOFT_RESET has ended what was in progress. -/
def State.worklessState (s : State) : State := (s.each s.changedInputs State.stopInput).resetChains.endWork

theorem State.worklessState_keepsPort (s : State) : s.KeepsPort s.worklessState :=
  ((Leaves.foldl State.stopInput_keepsPort _ s).trans (State.resetChains_keepsPort _)).trans (State.endWork_keepsPort _)

end Sys2Proof.Machine
end

section
/-! PROOFS. What the rest of SOFT_RESET leaves once the work in progress has ended. -/

namespace Sys2Proof.Machine
open State (Leaves)

/-! ### What is left from then on -/

/-- The registers that show what has ended, and those that SOFT_RESET leaves throughout: PWR_STATE, BOOT_STATUS, CW_MODE, CW_ERR_COUNT,
WB_CTRL and the four TOUCH_STATUS. -/
def endedRegs : List Nat := [0x10000, 0x20000, 0x30000, 0x3000C, 0x60504, 0x140040, 0x140140, 0x140240, 0x140340]

/-- The parts of the device that show what has ended, and those that SOFT_RESET leaves throughout. -/
structure EndedParts where
  pres : PresState
  etch : EtchState
  cal : CalState
  wb : WriteBack
  stages : List Stage
  regions : Vector Region 32
  fences : List FenceRun

def State.endedParts (s : State) : EndedParts :=
  { pres := s.pres, etch := s.etch, cal := s.cal, wb := s.wb, stages := s.stages, regions := s.regions, fences := s.fences }

abbrev State.KeepsEnded (s t : State) : Prop := Leaves endedRegs State.endedParts s t

theorem not_mem_endedRegs_of_between {a : Nat} (hlo : 0x60504 < a) (hhi : a < 0x140040) : a ∉ endedRegs := by
  simp only [endedRegs, List.mem_cons, List.not_mem_nil, or_false]
  omega

theorem not_mem_endedRegs_of_mod {a : Nat} (h0 : a % 0x20 ≠ 0) (h4 : a % 0x20 ≠ 4) (hC : a % 0x20 ≠ 0xC) : a ∉ endedRegs := by
  simp only [endedRegs, List.mem_cons, List.not_mem_nil, or_false]
  omega

namespace State.Leaves
variable {s t : State}

theorem wrEnded (k : s.KeepsEnded t) {a : Nat} (w : Word) (ha : a ∉ endedRegs) : s.KeepsEnded (t.wr a w) := k.wr (fun _ _ => rfl) w ha

theorem setEnded (k : s.KeepsEnded t) {f : Field} (v : Nat) (ha : f.addr ∉ endedRegs) : s.KeepsEnded (t.setFld f v) := k.wrEnded _ ha

/-- SURFn_STATE lies at 0x14 modulo 0x20. -/
theorem setSurf (k : s.KeepsEnded t) (n lo w v : Nat) : s.KeepsEnded (t.setFld ⟨0x51014 + 0x20 * n, lo, w⟩ v) :=
  k.setEnded v (not_mem_endedRegs_of_mod (by dsimp only; omega) (by dsimp only; omega) (by dsimp only; omega))

/-- IN_STATUS lies at 8 modulo 0x40. -/
theorem setInStatus (k : s.KeepsEnded t) (i lo w v : Nat) : s.KeepsEnded (t.setFld ⟨0x50008 + 0x40 * i, lo, w⟩ v) :=
  k.setEnded v (not_mem_endedRegs_of_mod (by dsimp only; omega) (by dsimp only; omega) (by dsimp only; omega))

/-- The registers of the heads lie between those of write-back and of touch. -/
theorem setHeadReg (k : s.KeepsEnded t) {h : Nat} (hh : h < 4) {o lo w : Nat} (v : Nat) (hlo : 0x80000 ≤ o) (hhi : o < 0x90000) :
    s.KeepsEnded (t.setFld ⟨o + 0x10000 * h, lo, w⟩ v) :=
  k.setEnded v (not_mem_endedRegs_of_between (by dsimp only; omega) (by dsimp only; omega))

/-- The registers of the chains lie between those of write-back and of touch. -/
theorem setLinkReg (k : s.KeepsEnded t) {c : Nat} (hc : c < 8) {o lo w : Nat} (v : Nat) (hlo : 0x100000 ≤ o) (hhi : o < 0x101000) :
    s.KeepsEnded (t.setFld ⟨o + 0x1000 * c, lo, w⟩ v) :=
  k.setEnded v (not_mem_endedRegs_of_between (by dsimp only; omega) (by dsimp only; omega))

end State.Leaves

/-! ### Surfaces and inputs -/

theorem State.judgeSurf_keepsEnded (s : State) (n : Nat) : s.KeepsEnded (s.judgeSurf n) := Leaves.setSurf (Leaves.refl s) n 26 1 _

theorem State.headEvent_keepsEnded (s : State) (h : Nat) : s.KeepsEnded (s.headEvent h) := (Leaves.refl s).of_eq rfl rfl

theorem State.refront_keepsEnded (s : State) (n : Nat) : s.KeepsEnded (s.refront n) := by
  unfold State.refront
  split
  · exact Leaves.refl s
  · split
    · exact Leaves.setSurf (Leaves.refl s) n 25 1 0
    · next k _ =>
      have kfront : s.KeepsEnded ((s.setFld (F.SURF_STATUS_FRONT n) k).setFld (F.SURF_STATUS_FRONT_VALID n) 1) :=
        ((Leaves.refl s).setSurf n 30 2 k).setSurf n 25 1 1
      exact Leaves.ite kfront (kfront.trans (Leaves.foldl (fun u h => Leaves.ite (u.headEvent_keepsEnded h) (Leaves.refl u)) _ _))

theorem State.claim_keepsEnded (s : State) (i n use : Nat) : s.KeepsEnded (s.claim i n use) :=
  ((Leaves.refl s).setSurf n 28 2 use).of_eq rfl rfl

theorem State.startInput_keepsEnded (s : State) (i : Nat) : s.KeepsEnded (s.startInput i) := by
  unfold State.startInput
  extract_lets s1 a s2 s3
  have k1 : s.KeepsEnded s1 := (Leaves.refl s).of_eq rfl rfl
  have ka : s.KeepsEnded a := (k1.trans (s1.claim_keepsEnded i _ 2)).trans (State.refront_keepsEnded _ _)
  have kcmd := ((k1.trans (s1.claim_keepsEnded i (s1.inSurf i false) 3)).setSurf (s1.inSurf i false) 30 2 0).setSurf
    (s1.inSurf i false) 25 1 1
  have k2 : s.KeepsEnded s2 := Leaves.ite kcmd
    (Leaves.ite ((ka.trans (a.claim_keepsEnded i _ 2)).trans (State.refront_keepsEnded _ _)) ka)
  have k3 : s.KeepsEnded s3 := by
    unfold s3
    split
    · next hdsi =>
      have hi : i < 2 := by simpa [isDsi] using hdsi
      refine k2.setEnded 0 ?_
      simp only [F.IN_DSI_TE_SLEEP_OUT, endedRegs, List.mem_cons, List.not_mem_nil, or_false]
      omega
    · exact k2
  exact k3.setInStatus i 29 3 _

theorem State.judgeInput_keepsEnded (s : State) (i : Nat) : s.KeepsEnded (s.judgeInput i) :=
  Leaves.ite (((Leaves.refl s).setInStatus i 29 3 _).setInStatus i 28 1 0)
    (Leaves.ite ((s.startInput_keepsEnded i).setInStatus i 28 1 0) (((Leaves.refl s).setInStatus i 29 3 _).setInStatus i 28 1 1))

theorem State.saSlots_keepsEnded (s : State) : s.KeepsEnded s.saSlots := by
  refine Leaves.foldlMem _ (fun u i hi => ?_) s
  have hi128 := List.mem_range.1 hi
  have hreg (o : Nat) (ho : o ≤ 8) : 0xC0000 + 0x400 * (i / 32) + 0x10 * (i % 32) + o ∉ endedRegs :=
    not_mem_endedRegs_of_between (by omega) (by omega)
  have kwrite (x y z : Word) : u.KeepsEnded (((u.wr (0xC0000 + 0x400 * (i / 32) + 0x10 * (i % 32)) x).wr
      (0xC0000 + 0x400 * (i / 32) + 0x10 * (i % 32) + 4) y).wr (0xC0000 + 0x400 * (i / 32) + 0x10 * (i % 32) + 8) z) :=
    (((Leaves.refl u).wrEnded x (hreg 0 (by decide))).wrEnded y (hreg 4 (by decide))).wrEnded z (hreg 8 (by decide))
  dsimp only
  split
  · exact kwrite _ _ _
  · exact kwrite 0 0 0

theorem State.showStages_keepsEnded (s : State) : s.KeepsEnded s.showStages :=
  ((Leaves.refl s).setEnded _ (by decide)).setEnded _ (by decide)

/-! ### Heads -/

theorem State.setHead_keepsEnded {s t : State} (k : s.KeepsEnded t) (h : Nat) (x : HeadState) : s.KeepsEnded (t.setHead h x) :=
  k.of_eq rfl rfl

theorem State.setMode_keepsEnded (s : State) {h : Nat} (hh : h < 4) (m : Nat) : s.KeepsEnded (s.setMode h m) :=
  Leaves.ite (Leaves.refl s) ((State.setHead_keepsEnded (Leaves.refl s) h _).setHeadReg hh m (by decide) (by decide))

theorem State.backlightFromProfile_keepsEnded (s : State) {h : Nat} (hh : h < 4) : s.KeepsEnded (s.backlightFromProfile h) :=
  (((Leaves.refl s).setHeadReg hh 0 (by decide) (by decide)).setHeadReg hh 0 (by decide) (by decide)).setHeadReg hh _ (by decide)
    (by decide)

theorem State.headsSoftReset_keepsEnded (s : State) : s.KeepsEnded s.headsSoftReset := by
  unfold State.headsSoftReset
  extract_lets s1 x fr s2
  have k1 : s.KeepsEnded s1 := by
    refine Leaves.foldlMem _ (fun u h hh => ?_) s
    have hh4 : h < 4 := by fin_cases hh <;> decide
    extract_lets x y fr t t1
    have kt : u.KeepsEnded t := State.setHead_keepsEnded (Leaves.refl u) h _
    have k1 : u.KeepsEnded t1 := ((kt.setHeadReg hh4 0 (by decide) (by decide)).setHeadReg hh4 0 (by decide) (by decide)).setHeadReg hh4 0
      (by decide) (by decide)
    exact ((k1.setHeadReg hh4 0 (by decide) (by decide)).setHeadReg hh4 0 (by decide) (by decide)).setHeadReg hh4 0 (by decide) (by decide)
  have k2 : s.KeepsEnded s2 := State.setHead_keepsEnded k1 0 _
  exact ((((k2.setEnded 0 (by decide)).setEnded 0 (by decide)).setEnded 0 (by decide)).setEnded 0 (by decide)).trans
    (State.backlightFromProfile_keepsEnded _ (by decide))

theorem State.endHold_keepsEnded (s : State) (h : Nat) : s.KeepsEnded (s.endHold h) :=
  Leaves.ite ((Leaves.refl s).of_eq rfl rfl) (Leaves.refl s)

theorem State.blackHead_keepsEnded (s : State) : s.KeepsEnded s.blackHead := by
  unfold State.blackHead
  extract_lets s1 x comp fr s2
  have k1 : s.KeepsEnded s1 := Leaves.ite (Leaves.refl s) ((s.headEvent_keepsEnded 0).trans (State.setMode_keepsEnded _ (by decide) _))
  have k2 : s.KeepsEnded s2 := State.setHead_keepsEnded k1 0 _
  exact ((k2.trans (s2.endHold_keepsEnded 0)).setEnded 0 (by decide)).setEnded 0 (by decide)

/-! ### Head A runs or stops as was committed -/

theorem State.setChain_keepsEnded {s t : State} (k : s.KeepsEnded t) (c : Nat) (x : ChainState) : s.KeepsEnded (t.setChain c x) :=
  k.of_eq rfl rfl

section
variable {c : Nat} (hc : c < 8)
include hc

theorem State.pauseRun_keepsEnded (s : State) : s.KeepsEnded (s.pauseRun c) := by
  have kstate (v : Nat) (d : DiagRun) : s.KeepsEnded ((s.setFld (F.LINK_DIAG_STATUS_RUN_STATE c) v).setDiag c d) :=
    State.setChain_keepsEnded ((Leaves.refl s).setLinkReg hc v (by decide) (by decide)) c _
  unfold State.pauseRun
  split
  · exact Leaves.refl s
  · exact Leaves.ite (kstate _ _) (Leaves.ite (kstate _ _) (Leaves.refl s))

theorem State.leaveSlack_keepsEnded (s : State) : s.KeepsEnded (s.leaveSlack c) := by
  have klane : s.KeepsEnded (s.setFld (F.LINK_STATUS_LANE c) laneUnfurled) := (Leaves.refl s).setLinkReg hc _ (by decide) (by decide)
  exact (State.setChain_keepsEnded klane c _).trans (State.pauseRun_keepsEnded hc _)

theorem State.towardGoal_keepsEnded (s : State) : s.KeepsEnded (s.towardGoal c) := by
  have kunfurl : s.KeepsEnded (s.startUnfurl c) :=
    (State.setChain_keepsEnded (Leaves.refl s) c _).setLinkReg hc 0 (by decide) (by decide)
  have kfurl (g : Nat) : s.KeepsEnded (s.startFurl c g false) := State.setChain_keepsEnded (State.setChain_keepsEnded (Leaves.refl s) c _) c _
  unfold State.towardGoal
  extract_lets x
  split
  · exact Leaves.refl s
  · exact Leaves.ite (Leaves.refl s) (Leaves.ite (State.setChain_keepsEnded (Leaves.refl s) c _) (Leaves.ite kunfurl
      (Leaves.ite (State.setChain_keepsEnded (State.leaveSlack_keepsEnded hc s) c _) (kfurl _))))

theorem State.aim_keepsEnded (s : State) (g : Nat) : s.KeepsEnded (s.aim c g) :=
  (State.setChain_keepsEnded (Leaves.refl s) c _).trans (State.towardGoal_keepsEnded hc _)

end

theorem State.unfurlFor_keepsEnded (s : State) (h : Nat) : s.KeepsEnded (s.unfurlFor h) := by
  refine Leaves.foldlMem _ (fun u c hc => ?_) s
  have hc8 : c < 8 := List.mem_range.1 (List.mem_filter.1 hc).1
  have kreq : u.KeepsEnded (u.setFld (F.LINK_PWR_REQ c) laneUnfurled) := (Leaves.refl u).setLinkReg hc8 _ (by decide) (by decide)
  exact Leaves.ite (Leaves.ite (kreq.trans (State.aim_keepsEnded hc8 _ _)) kreq) (Leaves.refl u)

theorem State.startHead_keepsEnded (s : State) {h : Nat} (hh : h < 4) : s.KeepsEnded (s.startHead h) := by
  have kstate : s.KeepsEnded (s.setFld (F.HEAD_STATUS_STATE h) 1) := (Leaves.refl s).setHeadReg hh 1 (by decide) (by decide)
  have kfresh (u : State) : u.KeepsEnded (u.odFresh h) :=
    (State.setHead_keepsEnded (Leaves.refl u) h _).setHeadReg hh 0 (by decide) (by decide)
  exact (State.setHead_keepsEnded (kstate.trans (kfresh _)) h _).trans (State.unfurlFor_keepsEnded _ h)

theorem State.runWritten_keepsEnded (s : State) {h : Nat} (hh : h < 4) : s.KeepsEnded (s.runWritten h) := by
  have krun : s.KeepsEnded (s.setFld (F.HEAD_CTRL_RUN h) 0) := (Leaves.refl s).setHeadReg hh 0 (by decide) (by decide)
  have khalt (u : State) : u.KeepsEnded (u.haltHead h) :=
    Leaves.ite ((Leaves.refl u).setHeadReg hh 3 (by decide) (by decide)) (Leaves.refl u)
  exact Leaves.ite (Leaves.ite (Leaves.ite (s.startHead_keepsEnded hh) krun) (Leaves.refl s)) ((s.endHold_keepsEnded h).trans (khalt _))

/-! ### Pins, levels and telltales -/

theorem State.showPins_keepsEnded (s : State) : s.KeepsEnded s.showPins := (Leaves.refl s).setEnded _ (by decide)

theorem State.showFurled_keepsEnded (s : State) : s.KeepsEnded s.showFurled := by
  refine Leaves.foldlMem _ (fun u h hh => ?_) s
  have hh4 : h < 4 := by fin_cases hh <;> decide
  exact (Leaves.refl u).setHeadReg hh4 _ (by decide) (by decide)

theorem telltaleChange_keepsEnded (s t : State) : t.KeepsEnded (telltaleChange s t) :=
  Leaves.foldl (fun u h => Leaves.ite (Leaves.ite (State.setHead_keepsEnded (Leaves.refl u) h _) (Leaves.refl u)) (Leaves.refl u)) _ t

/-! ### Regions -/

/-- Every handle is free, no fence is under way, and no copy waits. -/
def State.regionsCleared (s : State) : State :=
  { s.setWaiting 17 ((s.waitingOf 17).filter notCopy) with
    regions := Vector.replicate 32 Region.free, fences := [], cancelled := false }

theorem State.regionsSoftReset_keepsEnded (s : State) : s.regionsCleared.KeepsEnded s.regionsSoftReset := by
  have ksettle (u : State) (n : Nat) : u.KeepsEnded (u.settleUse n) := Leaves.ite ((Leaves.refl u).setSurf n 28 2 0) (Leaves.refl u)
  have kshow (u : State) : u.KeepsEnded u.showRegions := ((Leaves.refl u).setEnded _ (by decide)).setEnded _ (by decide)
  have kpool := (Leaves.foldl ksettle ((s.regions.toList.map (fun g => g.surf)) ++ s.fences.flatMap FenceRun.surfs)
    s.regionsCleared).setEnded (f := F.REGION_POOL_SIZE_SIZE) 0 (by decide)
  exact kpool.trans (kshow _)

end Sys2Proof.Machine
end

section
/-! PROOFS. SOFT_RESET (O23): the registers that keep or take their values, and what the whole command leaves and clears. -/

namespace Sys2Proof.Machine
open State (KeepsPort KeepsEnded Leaves)

/-! ### The registers after SOFT_RESET (R266, R267) -/

/-- A field whose bits are all kept is as it was. -/
theorem getBits_kept (x y keep : Word) {lo n : Nat} (h : ∀ i, i < n → keep.getLsbD (lo + i) = true) :
    getBits ((x &&& keep) ||| (~~~ keep &&& y)) lo n = getBits x lo n := by
  refine Nat.eq_of_testBit_eq fun i => ?_
  rw [testBit_getBits, testBit_getBits]
  by_cases hi : i < n
  · simp [h i hi]
  · simp [hi]

theorem State.rd_foldl_wr_fst (g : Nat → Word) (l : List (Nat × Word)) (a : Nat) : ∀ s : State,
    (l.foldl (fun (t : State) e => t.wr e.1 (g e.1)) s).rd a = if a ∈ l.map Prod.fst then g a else s.rd a := by
  induction l with
  | nil => intro s; simp
  | cons e l ih =>
    intro s
    rw [List.foldl_cons, ih, State.rd_wr, List.map_cons]
    by_cases hl : a ∈ l.map Prod.fst
    · rw [if_pos hl, if_pos (List.mem_cons_of_mem _ hl)]
    · by_cases he : e.1 = a
      · simp [he]
      · simp [hl, he, Ne.symm he]

theorem State.rd_softRegs (s : State) (a : Nat) :
    s.softRegs.rd a = s.softWord a ∨ s.softRegs.rd a = s.rd a := by
  unfold State.softRegs
  rw [State.rd_foldl_wr_fst s.softWord]
  split
  · exact .inl rfl
  · exact .inr rfl

/-- A field that SOFT_RESET keeps. -/
theorem State.fld_softRegs (s : State) {f : Field} (h : ∀ i, i < f.width → (BitVec.ofNat 32 (softKeep f.addr)).getLsbD (f.lo + i) = true)
    (hw : f.lo + f.width ≤ 32) : s.softRegs.fld f = s.fld f := by
  unfold State.fld
  rcases s.rd_softRegs f.addr with hsoft | hsame
  · rw [hsoft]
    refine getBits_kept _ _ _ fun i hi => ?_
    split
    · have hall : BitVec.ofNat 32 0xFFFFFFFF = BitVec.allOnes 32 := rfl
      rw [hall, BitVec.getLsbD_allOnes]
      exact decide_eq_true (by omega)
    · exact h i hi
  · rw [hsame]

/-- A register that SOFT_RESET keeps whole. -/
theorem State.rd_softRegs_kept (s : State) {a : Nat} (h : softKeep a = 0xFFFFFFFF) : s.softRegs.rd a = s.rd a := by
  have hall : BitVec.ofNat 32 0xFFFFFFFF = BitVec.allOnes 32 := rfl
  rcases s.rd_softRegs a with hsoft | hsame
  · rw [hsoft]
    simp only [State.softWord, h, ite_self]
    rw [hall, BitVec.and_allOnes, BitVec.not_allOnes, BitVec.zero_and, BitVec.or_zero]
  · exact hsame

theorem softKeep_portRegs : ∀ a ∈ portRegs, softKeep a = 0xFFFFFFFF := by decide

theorem softKeep_touchStatus {h : Nat} (hh : h < 4) : softKeep (0x140040 + 0x100 * h) = 0xFE800000 := by
  interval_cases h <;> decide

theorem State.touchState_softRegs (s : State) {h : Nat} (hh : h < 4) : s.softRegs.touchState h = s.touchState h := by
  refine s.fld_softRegs (fun i hi => ?_) (by simp [F.TOUCH_STATUS_STATE])
  simp only [F.TOUCH_STATUS_STATE] at hi ⊢
  rw [softKeep_touchStatus hh]
  interval_cases i <;> decide

/-! ### The steps of SOFT_RESET -/

/-- The registers take their values, the enables are clear, and the device is in RUN. -/
def State.registersReset (s : State) : State := s.softRegs.clearEnables.setFld F.PWR_STATE_STATE 0

/-- Surfaces and the inputs `l` are judged anew, stages, slots and heads reset, and head A runs or stops as was committed. -/
def State.outputsReset (s : State) (l : List Nat) : State :=
  ((((s.each (List.range 64) State.judgeSurf).each l State.judgeInput).saSlots.showStages).headsSoftReset.blackHead).runWritten 0

theorem State.softReset_eq (s : State) : s.softReset = telltaleChange s
    (((s.worklessState.registersReset).outputsReset s.changedInputs).regionsSoftReset.showPins.showFurled.touchJudgeAll) := rfl

theorem State.outputsReset_keepsEnded (s : State) (l : List Nat) : s.KeepsEnded (s.outputsReset l) := by
  have kjudged : s.KeepsEnded ((s.each (List.range 64) State.judgeSurf).each l State.judgeInput) :=
    (Leaves.foldl State.judgeSurf_keepsEnded _ s).trans (Leaves.foldl State.judgeInput_keepsEnded l _)
  have kheads := ((kjudged.trans (State.saSlots_keepsEnded _)).trans (State.showStages_keepsEnded _)).trans
    (State.headsSoftReset_keepsEnded _)
  exact (kheads.trans (State.blackHead_keepsEnded _)).trans (State.runWritten_keepsEnded _ (by decide))

/-- R783: an engine that is OFF is not judged. -/
theorem State.touchJudge_of_off {s : State} {h : Nat} (hoff : s.touchState h = toOff) : s.touchJudge h = s := by
  unfold State.touchJudge
  dsimp only
  rw [hoff]
  exact if_neg (by decide)

theorem State.touchJudgeAll_of_off {s : State} (hoff : ∀ h, h < 4 → s.touchState h = toOff) : s.touchJudgeAll = s := by
  have hall (l : List Nat) (hl : ∀ h ∈ l, h < 4) : l.foldl State.touchJudge s = s := by
    induction l with
    | nil => rfl
    | cons h l ih =>
      rw [List.foldl_cons, State.touchJudge_of_off (hoff h (hl h (List.mem_cons_self ..)))]
      exact ih fun q hq => hl q (List.mem_cons_of_mem _ hq)
  exact hall [0, 1, 2, 3] (by decide)

/-! ### What has ended -/

/-- The engine of head `h` is OFF, and keeps the number of its reports. -/
def State.touchCleared (s : State) (h : Nat) : State :=
  (((s.setTouch h { TouchState.reset with seq := (s.touchOf h).seq }).setFld (F.TOUCH_STATUS_STATE h) toOff).setFld
    (F.TOUCH_STATUS_HOLD_CAUSE h) 0).setFld (F.TOUCH_STATUS_PROVISIONAL_ANY h) 0

theorem State.touchSoftReset_eq (s : State) : s.touchSoftReset = s.each [0, 1, 2, 3] State.touchCleared := rfl

theorem State.touchState_touchCleared (s : State) (h q : Nat) :
    (s.touchCleared h).touchState q = if h = q then toOff else s.touchState q := by
  have hcause : (F.TOUCH_STATUS_HOLD_CAUSE h).apart (F.TOUCH_STATUS_STATE q) :=
    .inr (.inl (by simp [F.TOUCH_STATUS_HOLD_CAUSE, F.TOUCH_STATUS_STATE]))
  have hany : (F.TOUCH_STATUS_PROVISIONAL_ANY h).apart (F.TOUCH_STATUS_STATE q) :=
    .inr (.inl (by simp [F.TOUCH_STATUS_PROVISIONAL_ANY, F.TOUCH_STATUS_STATE]))
  unfold State.touchCleared State.touchState
  rw [State.fld_setFld_apart _ _ _ _ hany, State.fld_setFld_apart _ _ _ _ hcause]
  split
  · next hq =>
    subst hq
    exact State.fld_setFld _ _ _ (by simp [F.TOUCH_STATUS_STATE])
  · next hq => exact State.fld_setFld_apart _ _ _ _ (.inl (by simp only [F.TOUCH_STATUS_STATE]; omega))

theorem State.touchState_touchSoftReset (s : State) {q : Nat} (hq : q < 4) : s.touchSoftReset.touchState q = toOff := by
  rw [State.touchSoftReset_eq]
  simp only [State.each, List.foldl_cons, List.foldl_nil, State.touchState_touchCleared]
  interval_cases q <;> simp

theorem State.cal_diagSoftReset (s : State) : s.diagSoftReset.cal = s.cal := by
  refine foldl_keeps State.cal (fun u c => ?_) _ s
  rfl

theorem State.cal_touchSoftReset (s : State) : s.touchSoftReset.cal = s.cal := by
  refine foldl_keeps State.cal (fun u h => ?_) _ s
  rfl

theorem State.run_calSoftReset (s : State) : s.calSoftReset.cal.run = none := by
  unfold State.calSoftReset
  extract_lets irq t
  rfl

theorem State.run_workEnded (s : State) : s.workEnded.cal.run = none := by
  unfold State.workEnded
  rw [State.cal_touchSoftReset, State.cal_diagSoftReset, State.run_calSoftReset]

theorem State.recordsDropped_parts (s : State) : s.recordsDropped.wb = WriteBack.reset ∧ s.recordsDropped.stages = [] ∧
    s.recordsDropped.etch.staging = none ∧ s.recordsDropped.cal = s.cal ∧ ∀ h, s.recordsDropped.touchState h = s.touchState h :=
  ⟨rfl, rfl, rfl, rfl, fun _ => rfl⟩

theorem State.endWork_parts (s : State) : s.endWork.wb = WriteBack.reset ∧ s.endWork.stages = [] ∧ s.endWork.etch.staging = none ∧
    s.endWork.cal.run = none ∧ ∀ h, h < 4 → s.endWork.touchState h = toOff := by
  obtain ⟨hwb, hstages, hstaging, hcal, htouch⟩ := s.workEnded.recordsDropped_parts
  rw [State.endWork_eq, hcal]
  refine ⟨hwb, hstages, hstaging, s.run_workEnded, fun h hh => ?_⟩
  rw [htouch, State.workEnded, State.touchState_touchSoftReset _ hh]

/-- What the end of the work in progress leaves to see. -/
theorem State.workless_parts (s : State) : s.worklessState.wb = WriteBack.reset ∧ s.worklessState.stages = [] ∧
    s.worklessState.etch.staging = none ∧ s.worklessState.cal.run = none ∧ ∀ h, h < 4 → s.worklessState.touchState h = toOff :=
  State.endWork_parts _

theorem State.rd_clearEnables_ne (s : State) {a : Nat} (hwb : a ≠ 0x60504) (ht : ∀ h, h < 4 → a ≠ 0x140000 + 0x100 * h) :
    s.clearEnables.rd a = s.rd a := by
  have htouch : Leaves [a] (fun _ => ()) (s.setFld F.WB_CTRL_EN 0) s.clearEnables := by
    refine Leaves.foldlMem _ (fun u h hh => ?_) _
    have hh4 : h < 4 := by fin_cases hh <;> decide
    exact (Leaves.refl u).wr (fun _ _ => rfl) _ fun hmem => ht h hh4 (List.mem_singleton.1 hmem).symm
  exact (htouch.rd a (List.mem_singleton.2 rfl)).trans (s.rd_setFld_ne _ _ a hwb.symm)

theorem State.bit_clearEnables (s : State) : s.clearEnables.bit F.WB_CTRL_EN = false := by
  have htouch : Leaves [0x60504] (fun _ => ()) (s.setFld F.WB_CTRL_EN 0) s.clearEnables := by
    refine Leaves.foldlMem _ (fun u h hh => (Leaves.refl u).wr (fun _ _ => rfl) _ ?_) _
    simp only [F.TOUCH_CFG0_EN, List.mem_singleton]
    omega
  have hoff : s.clearEnables.fld F.WB_CTRL_EN = 0 := (htouch.fld (by decide)).trans (State.fld_setFld _ _ _ (by decide))
  simp [State.bit, hoff]

theorem State.endedParts_softRegs (s : State) : s.softRegs.endedParts = s.endedParts := by
  refine foldl_keeps State.endedParts (fun u e => ?_) _ s
  rfl

theorem State.endedParts_clearEnables (s : State) : s.clearEnables.endedParts = s.endedParts := by
  refine (foldl_keeps State.endedParts (fun u h => ?_) _ _).trans (rfl : (s.setFld F.WB_CTRL_EN 0).endedParts = s.endedParts)
  rfl

theorem State.rd_registersReset (s : State) {a : Nat} (hpwr : a ≠ 0x10000) (hwb : a ≠ 0x60504)
    (ht : ∀ h, h < 4 → a ≠ 0x140000 + 0x100 * h) : s.registersReset.rd a = s.softRegs.rd a :=
  (State.rd_setFld_ne _ _ _ a hpwr.symm).trans (State.rd_clearEnables_ne _ hwb ht)

/-- What the registers show once they have taken their values. -/
theorem State.registersReset_parts (s : State) : s.registersReset.endedParts = s.endedParts ∧
    (∀ a ∈ portRegs, s.registersReset.rd a = s.rd a) ∧ s.registersReset.fld F.PWR_STATE_STATE = 0 ∧
    s.registersReset.bit F.WB_CTRL_EN = false ∧ ∀ h, h < 4 → s.registersReset.touchState h = s.touchState h := by
  refine ⟨?_, fun a ha => ?_, State.fld_setFld _ _ _ (by decide), ?_, fun h hh => ?_⟩
  · have hregs := s.softRegs.endedParts_clearEnables.trans s.endedParts_softRegs
    exact hregs
  · have hne : ∀ a ∈ portRegs, a ≠ 0x10000 ∧ a < 0x60504 := by decide
    obtain ⟨hpwr, hlow⟩ := hne a ha
    exact (s.rd_registersReset hpwr (by omega) (by omega)).trans (s.rd_softRegs_kept (softKeep_portRegs a ha))
  · have hpwr : F.PWR_STATE_STATE.apart F.WB_CTRL_EN := .inl (by decide)
    have hen := s.softRegs.bit_clearEnables
    unfold State.bit at hen ⊢
    unfold State.registersReset
    rwa [State.fld_setFld_apart _ _ _ _ hpwr]
  · have hrd : s.registersReset.rd (0x140040 + 0x100 * h) = s.softRegs.rd (0x140040 + 0x100 * h) :=
      s.rd_registersReset (by omega) (by omega) (by omega)
    refine Eq.trans ?_ (s.touchState_softRegs hh)
    exact congrArg (getBits · 28 4) hrd

end Sys2Proof.Machine
end

section
/-! PROOFS. SOFT_RESET (O23). -/

namespace Sys2Proof.Machine
open State (KeepsEnded Leaves)

/-! ### The whole command -/

theorem State.regionsCleared_parts (s : State) : s.regionsCleared.endedParts =
    { s.endedParts with regions := Vector.replicate 32 Region.free, fences := [] } := rfl

theorem State.rd_regionsCleared (s : State) (a : Nat) : s.regionsCleared.rd a = s.rd a := rfl

/-- From the registers' values to the end, the regions and fences alone change of what has ended. -/
theorem State.resetShown_parts (s u : State) (l : List Nat) (hoff : ∀ h, h < 4 → u.touchState h = toOff) :
    let t := telltaleChange s (u.outputsReset l).regionsSoftReset.showPins.showFurled.touchJudgeAll
    (∀ a ∈ endedRegs, t.rd a = u.rd a) ∧
      t.endedParts = { u.endedParts with regions := Vector.replicate 32 Region.free, fences := [] } := by
  intro t
  have kout := u.outputsReset_keepsEnded l
  generalize hv : u.outputsReset l = v at kout
  have kshown : v.regionsCleared.KeepsEnded v.regionsSoftReset.showPins.showFurled :=
    (v.regionsSoftReset_keepsEnded.trans (State.showPins_keepsEnded _)).trans (State.showFurled_keepsEnded _)
  have hrd (a : Nat) (ha : a ∈ endedRegs) : v.regionsSoftReset.showPins.showFurled.rd a = u.rd a :=
    (kshown.rd a ha).trans ((v.rd_regionsCleared a).trans (kout.rd a ha))
  have htouch (h : Nat) (hh : h < 4) : v.regionsSoftReset.showPins.showFurled.touchState h = toOff := by
    have hmem : 0x140040 + 0x100 * h ∈ endedRegs := by interval_cases h <;> decide
    exact (congrArg (getBits · 28 4) (hrd _ hmem)).trans (hoff h hh)
  have ht : t = telltaleChange s v.regionsSoftReset.showPins.showFurled := by
    rw [← State.touchJudgeAll_of_off htouch, ← hv]
  have klast := telltaleChange_keepsEnded s v.regionsSoftReset.showPins.showFurled
  rw [ht]
  refine ⟨fun a ha => (klast.rd a ha).trans (hrd a ha), klast.parts.trans (kshown.parts.trans ?_)⟩
  rw [State.regionsCleared_parts, kout.parts]

/-- What SOFT_RESET leaves, and what it clears. -/
theorem State.softReset_parts (s : State) :
    (∀ a ∈ portRegs, s.softReset.rd a = s.rd a) ∧ s.softReset.pres = s.pres ∧ s.softReset.etch.mem = s.etch.mem ∧
      s.softReset.fld F.PWR_STATE_STATE = 0 ∧ s.softReset.bit F.WB_CTRL_EN = false ∧
      s.softReset.regions = Vector.replicate 32 Region.free ∧ s.softReset.fences = [] ∧ s.softReset.wb = WriteBack.reset ∧
      s.softReset.stages = [] ∧ s.softReset.etch.staging = none ∧ s.softReset.cal.run = none ∧
      ∀ h, h < 4 → s.softReset.touchState h = 0 := by
  have kwork := s.worklessState_keepsPort
  obtain ⟨hwb, hstages, hstaging, hcal, htouch⟩ := s.workless_parts
  obtain ⟨hparts, hport, hpwr, hen, htouch'⟩ := s.worklessState.registersReset_parts
  have hoff (h : Nat) (hh : h < 4) : s.worklessState.registersReset.touchState h = toOff := (htouch' h hh).trans (htouch h hh)
  obtain ⟨hrd, hended⟩ := State.resetShown_parts s s.worklessState.registersReset s.changedInputs hoff
  rw [← State.softReset_eq, hparts] at hended
  rw [← State.softReset_eq] at hrd
  have hfld {f : Field} (hf : f.addr ∈ endedRegs) : s.softReset.fld f = s.worklessState.registersReset.fld f :=
    congrArg (getBits · f.lo f.width) (hrd _ hf)
  generalize s.softReset = t at hrd hended hfld ⊢
  generalize s.worklessState.registersReset = v at hport hpwr hen hoff hrd hfld
  generalize s.worklessState = u at kwork hwb hstages hstaging hcal hport hended
  have hetch : t.etch = u.etch := congrArg EndedParts.etch hended
  have hsub : ∀ a ∈ portRegs, a ∈ endedRegs := by decide
  refine ⟨fun a ha => (hrd a (hsub a ha)).trans ((hport a ha).trans (kwork.rd a ha)),
    (congrArg EndedParts.pres hended).trans (congrArg Prod.fst kwork.parts),
    (congrArg EtchState.mem hetch).trans (congrArg Prod.snd kwork.parts), (hfld (by decide)).trans hpwr, ?_,
    congrArg EndedParts.regions hended, congrArg EndedParts.fences hended, (congrArg EndedParts.wb hended).trans hwb,
    (congrArg EndedParts.stages hended).trans hstages, (congrArg EtchState.staging hetch).trans hstaging,
    (congrArg (fun p => p.cal.run) hended).trans hcal, fun h hh => ?_⟩
  · unfold State.bit at hen ⊢
    rwa [hfld (by decide)]
  · exact (hfld (by simp only [F.TOUCH_STATUS_STATE]; interval_cases h <;> decide)).trans (hoff h hh)

/-- R266: SOFT_RESET with its key resets, and answers OK. -/
theorem exec_softReset {s : State} {e : CmdEntry} (hs : s.starts 0x03 e) (hr : s.runtime = true) (hp : e.params = [0xA55A]) :
    exec .softReset s = .next (s.popCmd.softReset.post e stOk []) := by
  change Host.Outcome.next (startCmd s _ _) = _
  rw [startCmd_isOp hs]
  have hlen : (e.params.length == 1) = true := by rw [hp]; rfl
  have hkey : (par e.params 0 != 0xA55A) = false := by rw [hp]; decide
  dsimp only
  rw [hlen, hkey, failAt_false, runtimeCmd_permitted (s.runtime_popCmd.trans hr)]
  rfl

/-- Settles O23: the Command Window by what every operation spares, the rest by what each part of the command leaves. -/
theorem softResetKeepsAndClears : Obligations.SoftResetKeepsAndClears := by
  unfold Obligations.SoftResetKeepsAndClears
  refine ⟨fun s e hs hr hp => exec_softReset hs hr hp, fun s t e hs hr hp ht => ?_⟩
  obtain rfl : s.popCmd.softReset.post e stOk [] = t := Host.Outcome.next.inj ((exec_softReset hs hr hp).symm.trans ht)
  obtain ⟨hport, hpres, hmem, hpwr, hen, hregions, hfences, hwb, hstages, hstaging, hcal, htouch⟩ := s.popCmd.softReset_parts
  obtain ⟨-, hnone, -⟩ := s.canStart_iff.1 hs.2.2.2
  have hrunning : s.popCmd.cw.running = none := (congrArg CwState.running s.popCmd_cw).trans hnone
  obtain ⟨hfuses, hcw⟩ := s.popCmd.softReset_spares
  have hrd (a : Nat) (ha : a ∈ portRegs) (hne : a ≠ 0x30004) : s.popCmd.softReset.rd a = s.rd a :=
    (hport a ha).trans (s.rd_popCmd_ne a hne)
  refine ⟨?_, congrArg (getBits · 0 1) (hrd 0x30000 (by decide) (by decide)), hrd 0x3000C (by decide) (by decide),
    hpres.trans s.popCmd_pres, hfuses.trans s.popCmd_fuses, hmem.trans (congrArg EtchState.mem s.popCmd_etch), ?_, hpwr, hen,
    hregions, hfences, hwb, hstages, hstaging, hcal, htouch⟩
  · have hsame : s.popCmd.softReset.cw = { s.cw with cmdQ := s.cw.cmdQ.tail } := (hcw hrunning).trans s.popCmd_cw
    simp only [State.post, hsame]
    rfl
  · have hphase : s.popCmd.softReset.phase = s.phase := congrArg (getBits · 28 4) (hrd 0x20000 (by decide) (by decide))
    exact hphase.trans (by simpa [State.runtime] using hr)

end Sys2Proof.Machine
end

section
/-! PROOFS. What a command answers before its parameters are looked into: CRC_ERROR and UNKNOWN_OPCODE (O15), and BAD_PARAM for a wrong
LENGTH (O19). -/

namespace Sys2Proof.Machine

/-! ### Entries that no row of the catalogue starts (R216, R247) -/

section
variable {s : State} {e : CmdEntry} (hq : s.cw.cmdQ.head? = some e) (hcan : s.canStart = true)
include hq hcan

theorem exec_crcError_answers (hcrc : e.crcOk = false) : exec .crcError s = .next (s.popCmd.post e stCrcError []) :=
  congrArg _ (startCmd_starts s e _ _ hq hcan (by simp [hcrc]))

theorem exec_unknownOpcode_answers (hcrc : e.crcOk = true) (hop : knownOpcode e.opcode.toNat = false) :
    exec .unknownOpcode s = .next (s.popCmd.post e stUnknownOpcode []) :=
  congrArg _ (startCmd_starts s e _ _ hq hcan (by simp [hcrc, hop]))

end

/-- R247: 0x51 and every opcode from 0xD4 on stand in no table. -/
theorem knownOpcode_unlisted {op : Nat} (h : op = 0x51 ∨ 0xD4 ≤ op) : knownOpcode op = false := by
  simp only [knownOpcode, Bool.or_eq_false_iff, Bool.and_eq_false_iff, decide_eq_false_iff_not, beq_eq_false_iff_ne]
  omega

/-- Settles O15: the two rows that answer what no row of the catalogue starts, and the opcodes that stand in no table. -/
theorem unknownCommands : Obligations.UnknownCommands := by
  unfold Obligations.UnknownCommands
  refine ⟨fun s e hq hcrc hcan => exec_crcError_answers hq hcan hcrc,
    fun s e hq hcrc hop hcan => exec_unknownOpcode_answers hq hcan hcrc hop, fun s e hs hop => ?_⟩
  obtain ⟨hq, hcrc, -, hcan⟩ := hs
  exact exec_unknownOpcode_answers hq hcan hcrc (knownOpcode_unlisted hop)

/-! ### LENGTH (R248, R249) -/

/-- `t` is `s` once the command `e` at its head has answered BAD_PARAM. -/
def State.AnswersBad (s : State) (e : CmdEntry) (t : State) : Prop :=
  ∃ r, t.cw.replyQ = s.cw.replyQ ++ [r] ∧ r.tag = e.tag ∧ r.status = 0x04 ∧ t.cw.running = none

theorem State.answersBad_post {s : State} (hcan : s.canStart = true) (e : CmdEntry) (p : List Word) :
    s.AnswersBad e (s.popCmd.post e stBadParam p) := by
  refine ⟨⟨e.tag, 0x04, p, none⟩, ?_, rfl, rfl, ?_⟩
  · simp [State.post, stBadParam]
  · simp [State.post, s.canStart_room hcan]

/-- Row `c` starts the command at the head of the queue, and what it runs first judges LENGTH. -/
def JudgesLength (c : Instr) (op : Nat) : Prop :=
  ∀ s : State, ∃ (sel : CmdEntry → Bool) (run : State → CmdEntry → Res), exec c s = .next (startCmd s sel run) ∧
    (∀ e, s.starts op e → picksEntry s c e = true → sel e = true) ∧
    ∀ (u : State) (e : CmdEntry), picksEntry s c e = true → lengthFits op e.params = false → run u e = Res.bad u 0xFFFF

theorem startCmd_badLength {s : State} {e : CmdEntry} {sel : CmdEntry → Bool} {run : State → CmdEntry → Res}
    (hq : s.cw.cmdQ.head? = some e) (hcan : s.canStart = true) (hsel : sel e = true) (hrun : run s.popCmd e = Res.bad s.popCmd 0xFFFF) :
    startCmd s sel run = s.popCmd.post e stBadParam [0xFFFF0000] := by
  rw [startCmd_starts s e sel run hq hcan hsel, hrun]
  rfl

theorem JudgesLength.answersBad {c : Instr} {op : Nat} (h : JudgesLength c op) {s : State} {e : CmdEntry} (hs : s.starts op e)
    (hp : picksEntry s c e = true) (hlen : lengthFits op e.params = false) : ∃ t, exec c s = .next t ∧ s.AnswersBad e t := by
  obtain ⟨sel, run, hexec, hsel, hrun⟩ := h s
  refine ⟨_, hexec, ?_⟩
  rw [startCmd_badLength hs.1 hs.2.2.2 (hsel e hs hp) (hrun _ e hp hlen)]
  exact s.answersBad_post hs.2.2.2 e _

/-! A command that only the runtime executes. -/

theorem runtimeCmd_badLength (s : State) (unitFails fails : List Nat) (ride : Bool) (run : Res) :
    runtimeCmd s false unitFails fails ride run = Res.bad s 0xFFFF := by
  unfold runtimeCmd
  split <;> rfl

theorem JudgedEarly.judgesLength {c : Instr} {op : Nat} (h : JudgedEarly c op) : JudgesLength c op := by
  intro s
  obtain ⟨sel, run, hexec, hsel, hrun⟩ := h s
  refine ⟨sel, run, hexec, hsel, fun u e _ hlen => ?_⟩
  obtain ⟨fails, ride, r, hjudged⟩ := hrun u e
  rw [hjudged, hlen, runtimeCmd_badLength]

/-! A command that Burin and the runtime judge alike. -/

section
variable {c : Instr} {op : Nat} {sel : CmdEntry → Bool} {lenOk : CmdEntry → Bool} {fails : State → CmdEntry → List Nat}
  {run : State → CmdEntry → Res}

theorem JudgesLength.of_sel (h : ∀ s, exec c s = .next (startCmd s sel (fun u e => judged u (lenOk e) (fails u e) (run u e))))
    (hsel : ∀ s e, s.starts op e → picksEntry s c e = true → sel e = true)
    (hlen : ∀ s e, picksEntry s c e = true → lenOk e = lengthFits op e.params) : JudgesLength c op :=
  fun s => ⟨sel, _, h s, hsel s, fun u e hp hbad => by rw [hlen s e hp, hbad]; rfl⟩

theorem JudgesLength.of_isOp (h : ∀ s, exec c s = .next (startCmd s (isOp op) (fun u e => judged u (lenOk e) (fails u e) (run u e))))
    (hlen : ∀ e, lenOk e = lengthFits op e.params) : JudgesLength c op :=
  JudgesLength.of_sel h (fun _ _ hs _ => isOp_of_starts hs) (fun _ e _ => hlen e)

/-- A row of REG_WRITE. -/
theorem JudgesLength.of_isWrite {row : Nat} {hw : List Word}
    (h : ∀ s, exec c s = .next (startCmd s (isWrite row) (fun u e => u.regWrite e hw)))
    (hrow : ∀ s e, picksEntry s c e = true → (writeRow e == row) = true) : JudgesLength c 0x0B :=
  JudgesLength.of_sel h (fun s e hs hp => by rw [isWrite, isOp_of_starts hs, hrow s e hp, Bool.and_self]) (fun _ _ _ => rfl)

/-- A sub-operation of ENROL. -/
theorem JudgesLength.of_enrol {k : Nat}
    (h : ∀ s, exec c s = .next (startCmd s (isSubOp 0x15 24 8 k) (fun u e => judged u (lenOk e) (fails u e) (run u e))))
    (hsub : ∀ s e, picksEntry s c e = true → parUnit e.params = k)
    (hlen : ∀ e, parUnit e.params = k → lenOk e = lengthFits 0x15 e.params) : JudgesLength c 0x15 :=
  JudgesLength.of_sel h
    (fun s e hs hp => by rw [isSubOp, isOp_of_starts hs, Bool.true_and]; exact beq_iff_eq.2 (hsub s e hp))
    (fun s e hp => hlen e (hsub s e hp))

end

theorem judgesLength_regRead : JudgesLength .regRead 0x0A :=
  fun s => ⟨isOp 0x0A, _, exec_regRead s, fun _ hs _ => isOp_of_starts hs, fun u e _ hlen => by
    have hlen' : (e.params.length == 2) = false := hlen
    simp only [hlen', badIndex, Bool.false_eq_true, if_false]⟩

theorem judgesLength_enrolBegin : JudgesLength .enrolBegin 0x15 :=
  JudgesLength.of_sel (fun _ => rfl) (fun s e hs hp => by simpa [isOp_of_starts hs, picksEntry] using hp) fun s e hp => by
    have hunit : parUnit e.params = 0 ∨ 3 < parUnit e.params := by simpa [picksEntry] using hp
    simp [lengthFits, hunit]

/-- Every row of the catalogue but those that have a lemma of their own. -/
theorem judgesLength_of_opcodeOf {c : Instr} {op : Nat} (h : opcodeOf c = some op) (hetch : ∀ w m, c ≠ .etchRead w m)
    (hmode : c ≠ .cwModeWrite) (hfuse : ∀ v vpp pwr, c ≠ .fuseProgram v vpp pwr) : JudgesLength c op := by
  by_cases hr : runtimeOnly op = true
  · exact (judgedEarly_of_opcodeOf h hr).judgesLength
  cases c with
  | etchRead w m => exact absurd rfl (hetch w m)
  | cwModeWrite => exact absurd rfl hmode
  | fuseProgram v vpp pwr => exact absurd rfl (hfuse v vpp pwr)
  | nop | getInfo | startEarly | bootStatus | presenceStatus | debugUnlock | sealStatus =>
    exact Option.some.inj h ▸ JudgesLength.of_isOp (fun _ => rfl) (fun e => isEmpty_eq_length e.params)
  | getDetail | loadBegin | loadSegment | presentTag | etchList =>
    exact Option.some.inj h ▸ JudgesLength.of_isOp (fun _ => rfl) (fun _ => rfl)
  | regRead => exact Option.some.inj h ▸ judgesLength_regRead
  | regWrite | etchWindowWrite | minReset | inCtrlWrite | w1cClear =>
    exact Option.some.inj h ▸ JudgesLength.of_isWrite (fun _ => rfl) (fun _ _ hp => hp)
  | enrolBegin => exact Option.some.inj h ▸ judgesLength_enrolBegin
  | enrolData | enrolEnd | enrolAbort =>
    exact Option.some.inj h ▸ JudgesLength.of_enrol (fun _ => rfl) (fun _ _ hp => beq_iff_eq.1 hp)
      (fun e hunit => by simp [lengthFits, hunit])
  | softReset | powerState | domainCtrl | wakeConfig | supplyConfig | headConfig | panelProfile | refreshMode | layerConfig | layerEnable
  | lutLoad | scalerCoeff | tonemapConfig | writeback | regionOpen | regionClose | fence | regionCancel | calRun | calRead | calStore
  | calSelect | etchWriteRecord | chainConfig | chainTrain | stationRead | stationWrite | chainFurl | touchConfig | touchRead
  | touchRebase | telltaleConfig | iconLoad | telltaleForce | eyeScanStart | eyeScanResult | eyeScanAbort | loopbackStart
  | loopbackResult | loopbackAbort | counters | budgetSet | budgetRead =>
    obtain rfl := Option.some.inj h
    exact absurd rfl hr
  | _ => cases h

/-! The rows of their own. -/

/-- R333: the cells fail, and the command answers. -/
theorem etchRead_badLength {s : State} {e : CmdEntry} (hs : s.starts 0x70 e) (hlen : lengthFits 0x70 e.params = false) (word mask : Nat) :
    ∃ t, exec (.etchRead word mask) s = .next t ∧ s.AnswersBad e t := by
  have hoff : s.off = false := (s.canStart_iff.1 hs.2.2.2).1
  have hlen' : (e.params.length == 2) = false := hlen
  refine ⟨_, congrArg Host.Outcome.next (State.ifLive_live (startCmd (s.etchFlip word mask) (isOp 0x70) _) hoff), ?_⟩
  rw [startCmd_badLength (s := s.etchFlip word mask) hs.1 hs.2.2.2 (isOp_of_starts hs)
    (by simp only [hlen', badIndex, Bool.false_eq_true, if_false])]
  exact (s.etchFlip word mask).answersBad_post hs.2.2.2 e _

/-- R207: a refused write of CW_MODE asks for no width. -/
theorem cwModeWrite_badLength {s : State} {e : CmdEntry} (hs : s.starts 0x0B e) (hp : picksEntry s .cwModeWrite e = true)
    (hlen : lengthFits 0x0B e.params = false) : ∃ t, exec .cwModeWrite s = .next t ∧ s.AnswersBad e t := by
  have hsel : isWrite 2 e = true := by
    rw [isWrite, isOp_of_starts hs, Bool.true_and]
    exact hp
  have hlen' : (decide (2 ≤ e.params.length) && decide (e.params.length ≤ 1025)) = false := hlen
  have hstart : startCmd s (isWrite 2) (fun s e => s.regWrite e []) = s.popCmd.post e stBadParam [0xFFFF0000] :=
    startCmd_badLength hs.1 hs.2.2.2 hsel (by simp only [State.regWrite, hlen']; rfl)
  obtain ⟨l, hq⟩ := List.head?_eq_some_iff.1 hs.1
  refine ⟨s.popCmd.post e stBadParam [0xFFFF0000], ?_, s.answersBad_post hs.2.2.2 e _⟩
  rw [exec_cwModeWrite, execCwModeWrite]
  simp [hstart, hq, State.post, stBadParam, stOk]

theorem fuseProgram_badLength {s : State} {e : CmdEntry} (hs : s.starts 0xD1 e) (hlen : lengthFits 0xD1 e.params = false) (v : List Bool)
    (vpp pwr : Option Nat) : ∃ t, exec (.fuseProgram v vpp pwr) s = .next t ∧ s.AnswersBad e t := by
  have hne : e.params.length ≠ 1 := beq_eq_false_iff_ne.1 hlen
  exact ⟨_, fuseProgram_bad hs v vpp pwr (.inl hne), s.answersBad_post hs.2.2.2 e _⟩

/-- Settles O19: every row of the catalogue judges LENGTH before anything else. -/
theorem wrongLengthIsBadParam : Obligations.WrongLengthIsBadParam := by
  unfold Obligations.WrongLengthIsBadParam
  intro c op s e hop hs hp hlen
  have hbad : ∃ t, exec c s = .next t ∧ s.AnswersBad e t := by
    by_cases hetch : ∃ w m, c = .etchRead w m
    · obtain ⟨w, m, rfl⟩ := hetch
      obtain rfl := Option.some.inj hop
      exact etchRead_badLength hs hlen w m
    by_cases hmode : c = .cwModeWrite
    · subst hmode
      obtain rfl := Option.some.inj hop
      exact cwModeWrite_badLength hs hp hlen
    by_cases hfuse : ∃ v vpp pwr, c = .fuseProgram v vpp pwr
    · obtain ⟨v, vpp, pwr, rfl⟩ := hfuse
      obtain rfl := Option.some.inj hop
      exact fuseProgram_badLength hs hlen v vpp pwr
    push Not at hetch hfuse
    exact (judgesLength_of_opcodeOf hop hetch hmode hfuse).answersBad hs hp hlen
  obtain ⟨t, ht, r, hr⟩ := hbad
  exact ⟨t, r, ht, hr⟩

end Sys2Proof.Machine
end

section
/-! PROOFS. Configuration words, layers and stages: what the commands of the compositor write, and what they leave. -/

namespace Sys2Proof.Machine

/-! ### The data words of a configuration command (R254) -/

section
variable (s : State) (p : List Word) (first base : Nat) (mask : Nat → Word)

/-- Word `k` under its mask, after the first `n` data words. -/
theorem State.rd_writeFirst (n k : Nat) :
    (s.each (List.range n) (fun s i =>
      s.wr (base + 4 * (first + i)) ((s.rd (base + 4 * (first + i)) &&& ~~~ mask (first + i)) ||| (par p (i + 1) &&& mask (first + i))))).rd
        (base + 4 * k) =
      if first ≤ k ∧ k < first + n then (s.rd (base + 4 * k) &&& ~~~ mask k) ||| (par p (k - first + 1) &&& mask k)
      else s.rd (base + 4 * k) := by
  induction n with
  | zero => exact (if_neg (by omega)).symm
  | succ n ih =>
    rw [State.each] at ih ⊢
    rw [List.range_succ, List.foldl_append, List.foldl_cons, List.foldl_nil, State.rd_wr]
    rcases Nat.lt_trichotomy k (first + n) with hlt | rfl | hgt
    · rw [if_neg (by omega), ih]
      exact if_congr (by omega) rfl rfl
    · have hold : ¬ (first ≤ first + n ∧ first + n < first + n) := by omega
      rw [ih, if_pos rfl, if_neg hold, if_pos (by omega), Nat.add_sub_cancel_left]
    · rw [if_neg (by omega), ih]
      exact if_congr (by omega) rfl rfl

theorem State.rd_writeWords (k : Nat) : (s.writeWords p first base mask).rd (base + 4 * k) =
    if first ≤ k ∧ k < first + (p.length - 1) then (s.rd (base + 4 * k) &&& ~~~ mask k) ||| (par p (k - first + 1) &&& mask k)
    else s.rd (base + 4 * k) := s.rd_writeFirst p first base mask _ k

/-- A register that is none of the words, or a word of which the command writes no field. -/
theorem State.rd_writeWords_ne {a : Nat} (h : ∀ k, mask k ≠ 0 → a ≠ base + 4 * k) :
    (s.writeWords p first base mask).rd a = s.rd a := by
  by_cases hk : ∃ k, a = base + 4 * k
  · obtain ⟨k, rfl⟩ := hk
    have hmask : mask k = 0 := by
      by_contra hne
      exact h k hne rfl
    rw [State.rd_writeWords, hmask]
    have hnone (x y : Word) : (x &&& ~~~ 0) ||| (y &&& 0) = x := by
      change (x &&& BitVec.allOnes 32) ||| (y &&& 0#32) = x
      rw [BitVec.and_allOnes, BitVec.and_zero, BitVec.or_zero]
    rw [hnone, ite_self]
  · push Not at hk
    exact foldl_keeps (fun u => u.rd a) (fun u i => u.rd_wr_ne _ a _ (hk (first + i)).symm) _ s

end

theorem layerMask_eq_zero {k : Nat} (h : 8 ≤ k) : layerMask k = 0 := by
  unfold layerMask
  rw [if_neg (by omega), if_neg (by omega), if_neg (by omega), if_neg (by omega)]

theorem compMask_eq_zero {k : Nat} (h : 6 ≤ k) : compMask k = 0 := by
  unfold compMask
  rw [if_neg (by omega), if_neg (by omega), if_neg (by omega), if_neg (by omega), if_neg (by omega), if_neg (by omega)]

/-! ### What a command of the compositor leaves -/

/-- `t` differs from `s` in registers and in the changes recorded for heads. -/
def State.OnlyConfig (s t : State) : Prop := t = { s with regs := t.regs, heads := t.heads, stampCount := t.stampCount }

/-- The same and in stages and the banks that they apply to. -/
def State.OnlyComposition (s t : State) : Prop :=
  t = { s with regs := t.regs, heads := t.heads, stampCount := t.stampCount, tile := t.tile, stages := t.stages }

theorem State.OnlyConfig.trans {s t u : State} (k : s.OnlyConfig t) (l : t.OnlyConfig u) : s.OnlyConfig u := by
  have k' : t = { s with regs := t.regs, heads := t.heads, stampCount := t.stampCount } := k
  exact Eq.trans l (by rw [k'])

theorem State.OnlyComposition.trans {s t u : State} (k : s.OnlyComposition t) (l : t.OnlyComposition u) : s.OnlyComposition u := by
  have k' : t = { s with regs := t.regs, heads := t.heads, stampCount := t.stampCount, tile := t.tile, stages := t.stages } := k
  exact Eq.trans l (by rw [k'])

theorem State.OnlyConfig.composition {s t : State} (k : s.OnlyConfig t) : s.OnlyComposition t := by
  have k' : t = { s with regs := t.regs, heads := t.heads, stampCount := t.stampCount } := k
  exact Eq.trans k' (by rw [k'])

theorem State.wr_onlyConfig (s : State) (a : Nat) (w : Word) : s.OnlyConfig (s.wr a w) := rfl

theorem State.recorded_onlyConfig (s : State) (h : Nat) : s.OnlyConfig (s.recorded h) := rfl

theorem State.foldl_onlyConfig {α : Type} {f : State → α → State} (hf : ∀ (u : State) (a : α), u.OnlyConfig (f u a)) (l : List α)
    (s : State) : s.OnlyConfig (l.foldl f s) := foldl_leaves (R := State.OnlyConfig) (fun _ => rfl) State.OnlyConfig.trans hf l s

theorem State.writeWords_onlyConfig (s : State) (p : List Word) (first base : Nat) (mask : Nat → Word) :
    s.OnlyConfig (s.writeWords p first base mask) := State.foldl_onlyConfig (fun u _ => u.wr_onlyConfig _ _) _ s

theorem State.regs_recorded (s : State) (h : Nat) : (s.recorded h).regs = s.regs := rfl

/-! ### Stages (R504 to R506) -/

theorem State.showStages_onlyConfig (s : State) : s.OnlyConfig s.showStages := rfl

theorem State.rd_showStages (s : State) {a : Nat} (h : a ≠ 0x60500) : s.showStages.rd a = s.rd a :=
  (State.rd_setFld_ne _ F.STAGE_PENDING_LUT _ a h.symm).trans (State.rd_setFld_ne _ F.STAGE_PENDING_COEFF _ a h.symm)

/-- Stages apply one after the other: registers and heads stay. -/
theorem State.applyStages_frame (l : List Stage) (s : State) :
    l.foldl State.applyStage s = { s with tile := (l.foldl State.applyStage s).tile, stages := (l.foldl State.applyStage s).stages } :=
  foldl_leaves (R := fun s t => t = { s with tile := t.tile, stages := t.stages }) (fun _ => rfl)
    (fun {s t u} h k => Eq.trans k (by rw [h])) (fun _ _ => rfl) l s

/-- What is left of the stages once those of `l` have applied. -/
theorem State.mem_stages_applied (g : Stage) (l : List Stage) : ∀ s : State, g ∈ (l.foldl State.applyStage s).stages →
    g ∈ s.stages ∧ g ∉ l := by
  induction l with
  | nil => exact fun s hg => ⟨hg, List.not_mem_nil⟩
  | cons a l ih =>
    intro s hg
    obtain ⟨hrest, hl⟩ := ih _ hg
    obtain ⟨hs, hne⟩ := List.mem_filter.1 hrest
    refine ⟨hs, fun hmem => (List.mem_cons.1 hmem).elim (fun hga => ?_) hl⟩
    subst hga
    simp at hne

theorem State.applyIdle_onlyComposition (s : State) : s.OnlyComposition s.applyIdle := by
  have hstages (l : List Stage) : s.OnlyComposition (l.foldl State.applyStage s) := by
    have h := State.applyStages_frame l s
    exact Eq.trans h (by rw [h])
  unfold State.applyIdle
  dsimp only
  split_ifs
  · rfl
  · exact (hstages _).trans (State.showStages_onlyConfig _).composition

theorem State.applyIdle_of_none {s : State} (h : s.stages = []) : s.applyIdle = s := by
  unfold State.applyIdle
  rw [h]
  rfl

theorem State.rd_applyIdle (s : State) {a : Nat} (h : a ≠ 0x60500) : s.applyIdle.rd a = s.rd a := by
  have hregs (l : List Stage) : (l.foldl State.applyStage s).regs = s.regs :=
    foldl_keeps (f := State.applyStage) State.regs (fun _ _ => rfl) l s
  unfold State.applyIdle
  dsimp only
  split_ifs
  · rfl
  · exact (State.rd_showStages _ h).trans (State.rd_of_regs (hregs _) a)

end Sys2Proof.Machine
end

section
/-! PROOFS. LAYER_CONFIG, LAYER_ENABLE and TONEMAP_CONFIG (R254, R484, R489, R491, R514, R607). -/

namespace Sys2Proof.Machine

/-! ### What a command of the compositor needs (R49) -/

theorem State.needing_met (s : State) {n : Nat} {needed : Bool} (h : s.pdOn n = true ∨ needed = false) (run : Res) :
    s.needing n needed run = run := by
  rcases h with h | h <;> simp [State.needing, h]

theorem State.needing_unmet (s : State) {n : Nat} {needed : Bool} (hoff : s.pdOn n = false) (h : needed = true) (run : Res) :
    s.needing n needed run = Res.domainOff s n := by
  simp [State.needing, h, hoff]

theorem lengthBetween {n lo hi : Nat} (h1 : lo ≤ n) (h2 : n ≤ hi) : (decide (lo ≤ n) && decide (n ≤ hi)) = true := by
  simp [h1, h2]

section
variable {s : State} {e : CmdEntry}

/-! ### LAYER_CONFIG -/

/-- R489, R506, R607: layer `l` has the words that `t` has, and had those of `s`; a change of head is recorded for both heads. -/
def State.layerChanged (s t : State) (l : Nat) : State :=
  if s.fld (F.LAYER_W0_HEAD l) = t.fld (F.LAYER_W0_HEAD l) then t.recorded (t.fld (F.LAYER_W0_HEAD l))
  else ((t.recorded (t.fld (F.LAYER_W0_HEAD l))).recorded (s.fld (F.LAYER_W0_HEAD l))).applyIdle

/-- The words that LAYER_CONFIG with parameters `p` leaves. -/
def State.layerWritten (s : State) (p : List Word) : State :=
  s.writeWords p (parBits p 0 0 4) (0x60000 + 0x40 * parUnit p) layerMask

theorem exec_layerConfig (hs : s.starts 0x40 e) (hr : s.runtime = true) (h1 : 1 ≤ e.params.length) (h16 : e.params.length ≤ 16)
    (hunit : parUnit e.params ≤ 7) (hfails : s.popCmd.layerFails e.params = []) :
    exec .layerConfig s = .next (finish e (s.popCmd.needing 13 ((s.popCmd.layerWritten e.params).needsScaler [parUnit e.params])
      (Res.ok (s.popCmd.layerChanged (s.popCmd.layerWritten e.params) (parUnit e.params))))) := by
  change Host.Outcome.next (startCmd s _ _) = _
  rw [startCmd_isOp hs]
  dsimp only
  rw [lengthBetween h1 h16, hfails, decide_eq_false (Nat.not_lt.2 hunit), failAt_false, runtimeCmd_permitted (s.runtime_popCmd.trans hr)]
  rfl

theorem State.stageParts_recorded (s : State) (h : Nat) :
    (s.recorded h).tile = s.tile ∧ (s.recorded h).stages = s.stages := ⟨rfl, rfl⟩

theorem State.layerChanged_onlyComposition (s t : State) (l : Nat) : t.OnlyComposition (s.layerChanged t l) := by
  have hrec (u : State) (h : Nat) : u.OnlyComposition (u.recorded h) := (u.recorded_onlyConfig h).composition
  unfold State.layerChanged
  split_ifs
  · exact hrec t _
  · exact ((hrec t _).trans (hrec _ _)).trans (State.applyIdle_onlyComposition _)

theorem State.rd_layerChanged (s t : State) (l : Nat) {a : Nat} (h : a ≠ 0x60500) : (s.layerChanged t l).rd a = t.rd a := by
  unfold State.layerChanged
  split_ifs
  · exact State.rd_of_regs (t.regs_recorded _) a
  · exact ((State.rd_applyIdle _ h).trans (State.rd_of_regs (State.regs_recorded _ _) a)).trans (State.rd_of_regs (t.regs_recorded _) a)

theorem State.stages_layerChanged {s t : State} {l : Nat}
    (h : t.stages = [] ∨ t.fld (F.LAYER_W0_HEAD l) = s.fld (F.LAYER_W0_HEAD l)) :
    (s.layerChanged t l).tile = t.tile ∧ (s.layerChanged t l).stages = t.stages := by
  have htwice (g k : Nat) : ((t.recorded g).recorded k).tile = t.tile ∧ ((t.recorded g).recorded k).stages = t.stages :=
    ⟨((t.recorded g).stageParts_recorded k).1.trans (t.stageParts_recorded g).1,
      ((t.recorded g).stageParts_recorded k).2.trans (t.stageParts_recorded g).2⟩
  unfold State.layerChanged
  split_ifs with hhead
  · exact t.stageParts_recorded _
  · obtain hnone | hsame := h
    · rw [State.applyIdle_of_none ((htwice _ _).2.trans hnone)]
      exact htwice _ _
    · exact absurd hsame.symm hhead

theorem State.rd_layerWritten (s : State) (p : List Word) (k : Nat) : (s.layerWritten p).rd (0x60000 + 0x40 * parUnit p + 4 * k) =
    if parBits p 0 0 4 ≤ k ∧ k < parBits p 0 0 4 + (p.length - 1) then
      (s.rd (0x60000 + 0x40 * parUnit p + 4 * k) &&& ~~~ layerMask k) ||| (par p (k - parBits p 0 0 4 + 1) &&& layerMask k)
    else s.rd (0x60000 + 0x40 * parUnit p + 4 * k) := s.rd_writeWords p _ _ layerMask k

theorem State.rd_layerWritten_ne (s : State) (p : List Word) {a : Nat} (h : ∀ k, k < 8 → a ≠ 0x60000 + 0x40 * parUnit p + 4 * k) :
    (s.layerWritten p).rd a = s.rd a :=
  s.rd_writeWords_ne p _ _ layerMask fun k hk => h k (not_le.1 fun h8 => hk (layerMask_eq_zero h8))

/-- R254: what LAYER_CONFIG changes of the state that it finds. -/
theorem State.layerConfigured_parts (s : State) {p : List Word} (hunit : parUnit p ≤ 7) :
    let u := s.popCmd.layerWritten p
    let t := s.popCmd.layerChanged u (parUnit p)
    t = { s.popCmd with regs := t.regs, heads := t.heads, stampCount := t.stampCount, tile := t.tile, stages := t.stages } ∧
      (s.stages = [] ∨ u.fld (F.LAYER_W0_HEAD (parUnit p)) = s.fld (F.LAYER_W0_HEAD (parUnit p)) →
        t.tile = s.tile ∧ t.stages = s.stages) ∧
      (∀ k, k < 8 → t.rd (0x60000 + 0x40 * parUnit p + 4 * k) =
        if parBits p 0 0 4 ≤ k ∧ k < parBits p 0 0 4 + (p.length - 1) then
          (s.rd (0x60000 + 0x40 * parUnit p + 4 * k) &&& ~~~ layerMask k) ||| (par p (k - parBits p 0 0 4 + 1) &&& layerMask k)
        else s.rd (0x60000 + 0x40 * parUnit p + 4 * k)) ∧
      (∀ a, (∀ k, k < 8 → a ≠ 0x60000 + 0x40 * parUnit p + 4 * k) → a ≠ 0x60500 → t.rd a = s.popCmd.rd a) := by
  intro u t
  have ku : s.popCmd.OnlyConfig u := s.popCmd.writeWords_onlyConfig p _ _ layerMask
  have htile : u.tile = s.tile := (congrArg State.tile ku).trans s.popCmd_tile
  have hstages : u.stages = s.stages := (congrArg State.stages ku).trans s.popCmd_stages
  refine ⟨ku.composition.trans (s.popCmd.layerChanged_onlyComposition u _), fun h => ?_, fun k hk => ?_, fun a ha hne => ?_⟩
  · have hhead : s.popCmd.fld (F.LAYER_W0_HEAD (parUnit p)) = s.fld (F.LAYER_W0_HEAD (parUnit p)) :=
      s.fld_popCmd _ (by simp only [F.LAYER_W0_HEAD]; omega)
    obtain ⟨h1, h2⟩ := State.stages_layerChanged (s := s.popCmd) (t := u) (by rw [hstages, hhead]; exact h)
    exact ⟨h1.trans htile, h2.trans hstages⟩
  · rw [s.popCmd.rd_layerChanged u _ (by omega), s.popCmd.rd_layerWritten p k, s.rd_popCmd_ne _ (by omega)]
  · exact (s.popCmd.rd_layerChanged u _ hne).trans (s.popCmd.rd_layerWritten_ne p ha)

/-! ### LAYER_ENABLE -/

/-- Layer `l` takes the enable that word 0 gives it. -/
def State.enableLayer (p : List Word) (s : State) (l : Nat) : State :=
  if parBits p 0 (24 + l) 1 = 1 then s.setFld (F.LAYER_W0_EN l) (parBits p 0 (16 + l) 1) else s

/-- The layers that word 0 names. -/
def namedLayers (p : List Word) : List Nat := (List.range 8).filter (fun l => parBits p 0 (24 + l) 1 == 1)

/-- R607: head `h` is told when a named layer of `s` is its own. -/
def State.recordNamed (p : List Word) (s : State) (h : Nat) : State :=
  if (List.range 8).any (fun l => parBits p 0 (24 + l) 1 == 1 && s.fld (F.LAYER_W0_HEAD l) == h) then s.recorded h else s

theorem exec_layerEnable (hs : s.starts 0x41 e) (hr : s.runtime = true) (hlen : e.params.length = 1)
    (hstray : strayBits e.params 0 0xFFFF0000 = false) :
    let u := s.popCmd.each (List.range 8) (State.enableLayer e.params)
    exec .layerEnable s = .next (finish e (s.popCmd.needing 13 (u.needsScaler (namedLayers e.params))
      (Res.ok (u.each [0, 1, 2, 3] (State.recordNamed e.params))))) := by
  intro u
  change Host.Outcome.next (startCmd s _ _) = _
  rw [startCmd_isOp hs]
  dsimp only
  rw [hlen, hstray, failAt_false]
  exact congrArg (fun r => Host.Outcome.next (finish e r)) (runtimeCmd_permitted (s.runtime_popCmd.trans hr) _)

theorem State.enableLayer_onlyConfig (p : List Word) (s : State) (l : Nat) : s.OnlyConfig (State.enableLayer p s l) := by
  unfold State.enableLayer
  split_ifs
  · exact s.wr_onlyConfig _ _
  · rfl

theorem State.recordNamed_onlyConfig (p : List Word) (s : State) (h : Nat) : s.OnlyConfig (State.recordNamed p s h) := by
  unfold State.recordNamed
  split_ifs
  · exact s.recorded_onlyConfig h
  · rfl

theorem State.regs_recordNamed (p : List Word) (s : State) (h : Nat) : (State.recordNamed p s h).regs = s.regs := by
  unfold State.recordNamed
  split_ifs <;> rfl

theorem State.rd_enableLayer_ne (p : List Word) (s : State) {l a : Nat} (h : a ≠ 0x60000 + 0x40 * l) :
    (State.enableLayer p s l).rd a = s.rd a := by
  unfold State.enableLayer
  split_ifs
  · exact s.rd_setFld_ne _ _ a h.symm
  · rfl

theorem State.fld_enableLayer_apart (p : List Word) (s : State) {l : Nat} {f : Field} (h : (F.LAYER_W0_EN l).apart f) :
    (State.enableLayer p s l).fld f = s.fld f := by
  unfold State.enableLayer
  split_ifs
  · exact s.fld_setFld_apart _ f _ h
  · rfl

theorem State.enable_enableLayer (p : List Word) (s : State) (l : Nat) : (State.enableLayer p s l).fld (F.LAYER_W0_EN l) =
    if parBits p 0 (24 + l) 1 = 1 then parBits p 0 (16 + l) 1 else s.fld (F.LAYER_W0_EN l) := by
  unfold State.enableLayer
  split_ifs
  · rw [s.fld_setFld _ _ (by decide : 31 + 1 ≤ 32)]
    exact Nat.mod_mod _ 2
  · rfl

/-- Enables of different layers are different registers. -/
theorem enables_apart {l k : Nat} (h : l ≠ k) : (F.LAYER_W0_EN l).apart (F.LAYER_W0_EN k) :=
  .inl (by simp only [F.LAYER_W0_EN]; omega)

section
variable (p : List Word) (s : State)

theorem State.fld_enabled_apart {f : Field} (h : ∀ l, (F.LAYER_W0_EN l).apart f) (n : Nat) :
    (s.each (List.range n) (State.enableLayer p)).fld f = s.fld f :=
  foldl_keeps (fun u => u.fld f) (fun u l => State.fld_enableLayer_apart p u (h l)) _ s

theorem State.rd_enabled_ne {a n : Nat} (h : ∀ l, l < n → a ≠ 0x60000 + 0x40 * l) :
    (s.each (List.range n) (State.enableLayer p)).rd a = s.rd a := by
  induction n with
  | zero => rfl
  | succ n ih =>
    rw [State.each, List.range_succ, List.foldl_append, List.foldl_cons, List.foldl_nil, State.rd_enableLayer_ne p _ (h n (by omega))]
    exact ih fun l hl => h l (by omega)

/-- R254: a named layer takes its enable, another one keeps its own. -/
theorem State.enable_enabled {l n : Nat} (h : l < n) : (s.each (List.range n) (State.enableLayer p)).fld (F.LAYER_W0_EN l) =
    if parBits p 0 (24 + l) 1 = 1 then parBits p 0 (16 + l) 1 else s.fld (F.LAYER_W0_EN l) := by
  induction n with
  | zero => exact absurd h (Nat.not_lt_zero l)
  | succ n ih =>
    rw [State.each, List.range_succ, List.foldl_append, List.foldl_cons, List.foldl_nil]
    rcases Nat.lt_succ_iff_lt_or_eq.1 h with hlt | rfl
    · rw [State.fld_enableLayer_apart p _ (enables_apart (Nat.ne_of_gt hlt))]
      exact ih hlt
    · have hkept : (s.each (List.range l) (State.enableLayer p)).fld (F.LAYER_W0_EN l) = s.fld (F.LAYER_W0_EN l) :=
        congrArg (getBits · 31 1) (s.rd_enabled_ne p fun k hk => by simp only [F.LAYER_W0_EN]; omega)
      rw [State.enable_enableLayer]
      exact if_congr Iff.rfl rfl hkept

end

end

end Sys2Proof.Machine
end

section
/-! PROOFS. LAYER_CONFIG, LAYER_ENABLE and TONEMAP_CONFIG: what each leaves (R254, R484, R489, R491, R514, R607). -/

namespace Sys2Proof.Machine

section
variable {s : State} {e : CmdEntry}

theorem State.scalerDomain_popCmd (s : State) (n : Nat) (h : n < 32) : s.popCmd.pdOn n = s.pdOn n :=
  s.pdOn_popCmd n (by simp only [F.PWR_PD_STATE]; omega)

/-- R49, R254: LAYER_CONFIG with PD13 on, or with no layer to scale. -/
theorem exec_layerConfig_done (hs : s.starts 0x40 e) (hr : s.runtime = true) (h1 : 1 ≤ e.params.length) (h16 : e.params.length ≤ 16)
    (hunit : parUnit e.params ≤ 7) (hfails : s.popCmd.layerFails e.params = [])
    (hneed : s.pdOn 13 = true ∨ (s.popCmd.layerWritten e.params).needsScaler [parUnit e.params] = false) :
    exec .layerConfig s = .next ((s.popCmd.layerChanged (s.popCmd.layerWritten e.params) (parUnit e.params)).post e stOk []) := by
  rw [exec_layerConfig hs hr h1 h16 hunit hfails, State.needing_met _ (by rwa [s.scalerDomain_popCmd 13 (by decide)])]
  rfl

theorem exec_layerConfig_refused (hs : s.starts 0x40 e) (hr : s.runtime = true) (h1 : 1 ≤ e.params.length)
    (h16 : e.params.length ≤ 16) (hunit : parUnit e.params ≤ 7) (hfails : s.popCmd.layerFails e.params = [])
    (hoff : s.pdOn 13 = false) (hneed : (s.popCmd.layerWritten e.params).needsScaler [parUnit e.params] = true) :
    exec .layerConfig s = .next (s.popCmd.post e stStateRefused [s.popCmd.stateWord 0x04 13 (s.popCmd.pdState 13)]) := by
  rw [exec_layerConfig hs hr h1 h16 hunit hfails, State.needing_unmet _ ((s.scalerDomain_popCmd 13 (by decide)).trans hoff) hneed]
  rfl

/-! ### LAYER_ENABLE -/

/-- R49: no layer that word 0 enables is scaled. -/
theorem State.unscaled_enabled {p : List Word} (h : ∀ l, l < 4 → parBits p 0 (24 + l) 1 = 1 → parBits p 0 (16 + l) 1 = 1 →
      s.fld (F.LAYER_W4_DST_W l) = s.fld (F.LAYER_W2_SRC_W l) ∧ s.fld (F.LAYER_W4_DST_H l) = s.fld (F.LAYER_W2_SRC_H l)) :
    (s.popCmd.each (List.range 8) (State.enableLayer p)).needsScaler (namedLayers p) = false := by
  have hsize (f : Nat → Field) (hf : ∀ l k, (F.LAYER_W0_EN l).apart (f k)) (hne : ∀ k, (f k).addr ≠ 0x30004) (k : Nat) :
      (s.popCmd.each (List.range 8) (State.enableLayer p)).fld (f k) = s.fld (f k) :=
    (State.fld_enabled_apart p _ (hf · k) 8).trans (s.fld_popCmd _ (hne k))
  unfold State.needsScaler
  rw [List.any_eq_false]
  intro l hl
  obtain ⟨hl8, hnamed⟩ := List.mem_filter.1 hl
  rw [beq_iff_eq] at hnamed
  by_cases hl4 : l < 4 ∧ parBits p 0 (16 + l) 1 = 1
  · obtain ⟨hw, hh⟩ := h l hl4.1 hnamed hl4.2
    rw [hsize F.LAYER_W4_DST_W (fun _ _ => .inl (by simp only [F.LAYER_W0_EN, F.LAYER_W4_DST_W]; omega))
        (fun _ => by simp only [F.LAYER_W4_DST_W]; omega),
      hsize F.LAYER_W4_DST_H (fun _ _ => .inl (by simp only [F.LAYER_W0_EN, F.LAYER_W4_DST_H]; omega))
        (fun _ => by simp only [F.LAYER_W4_DST_H]; omega),
      hsize F.LAYER_W2_SRC_W (fun _ _ => .inl (by simp only [F.LAYER_W0_EN, F.LAYER_W2_SRC_W]; omega))
        (fun _ => by simp only [F.LAYER_W2_SRC_W]; omega),
      hsize F.LAYER_W2_SRC_H (fun _ _ => .inl (by simp only [F.LAYER_W0_EN, F.LAYER_W2_SRC_H]; omega))
        (fun _ => by simp only [F.LAYER_W2_SRC_H]; omega), hw, hh]
    simp
  · rw [not_and_or] at hl4
    rcases hl4 with hbig | hoff
    · simp [hbig]
    · have hen := State.enable_enabled p s.popCmd (List.mem_range.1 hl8)
      have hclear : parBits p 0 (16 + l) 1 = 0 := by
        rcases Nat.mod_two_eq_zero_or_one ((par p 0).toNat / 2 ^ (16 + l)) with hzero | hone
        · exact hzero
        · exact absurd hone hoff
      rw [if_pos hnamed, hclear] at hen
      simp [State.bit, hen]

theorem exec_layerEnable_done (hs : s.starts 0x41 e) (hr : s.runtime = true) (hlen : e.params.length = 1)
    (hstray : strayBits e.params 0 0xFFFF0000 = false)
    (hneed : s.pdOn 13 = true ∨ (∀ l, l < 4 → parBits e.params 0 (24 + l) 1 = 1 → parBits e.params 0 (16 + l) 1 = 1 →
      s.fld (F.LAYER_W4_DST_W l) = s.fld (F.LAYER_W2_SRC_W l) ∧ s.fld (F.LAYER_W4_DST_H l) = s.fld (F.LAYER_W2_SRC_H l))) :
    exec .layerEnable s = .next (((s.popCmd.each (List.range 8) (State.enableLayer e.params)).each [0, 1, 2, 3]
      (State.recordNamed e.params)).post e stOk []) := by
  rw [exec_layerEnable hs hr hlen hstray, State.needing_met]
  · rfl
  · exact hneed.imp (s.scalerDomain_popCmd 13 (by decide)).trans State.unscaled_enabled

/-- R254: what LAYER_ENABLE changes of the state that it finds. -/
theorem State.layerEnabled_parts (s : State) (p : List Word) :
    let t := (s.popCmd.each (List.range 8) (State.enableLayer p)).each [0, 1, 2, 3] (State.recordNamed p)
    t = { s.popCmd with regs := t.regs, heads := t.heads, stampCount := t.stampCount } ∧
      (∀ l, l < 8 → t.fld (F.LAYER_W0_EN l) =
        if parBits p 0 (24 + l) 1 = 1 then parBits p 0 (16 + l) 1 else s.fld (F.LAYER_W0_EN l)) ∧
      (∀ l, l < 8 → t.fld (F.LAYER_W0_HEAD l) = s.fld (F.LAYER_W0_HEAD l) ∧
        t.fld (F.LAYER_W0_SURF l) = s.fld (F.LAYER_W0_SURF l)) ∧
      (∀ a, (∀ l, l < 8 → a ≠ 0x60000 + 0x40 * l) → t.rd a = s.popCmd.rd a) := by
  intro t
  have hregs : t.regs = (s.popCmd.each (List.range 8) (State.enableLayer p)).regs :=
    foldl_keeps (f := State.recordNamed p) State.regs (fun u h => State.regs_recordNamed p u h) _ _
  have hfld (f : Field) (hf : ∀ l, (F.LAYER_W0_EN l).apart f) (hne : f.addr ≠ 0x30004) : t.fld f = s.fld f :=
    ((State.fld_of_regs hregs f).trans (State.fld_enabled_apart p _ hf 8)).trans (s.fld_popCmd f hne)
  refine ⟨(State.foldl_onlyConfig (State.enableLayer_onlyConfig p) _ _).trans
      (State.foldl_onlyConfig (State.recordNamed_onlyConfig p) _ _), fun l hl => ?_, fun l _ => ⟨?_, ?_⟩, fun a ha => ?_⟩
  · rw [State.fld_of_regs hregs, State.enable_enabled p s.popCmd hl, s.fld_popCmd _ (by simp only [F.LAYER_W0_EN]; omega)]
  · exact hfld _ (fun _ => .inr (.inr (by simp only [F.LAYER_W0_EN, F.LAYER_W0_HEAD]; omega))) (by simp only [F.LAYER_W0_HEAD]; omega)
  · exact hfld _ (fun _ => .inr (.inr (by simp only [F.LAYER_W0_EN, F.LAYER_W0_SURF]; omega))) (by simp only [F.LAYER_W0_SURF]; omega)
  · exact (State.rd_of_regs hregs a).trans (State.rd_enabled_ne p _ ha)

/-! ### TONEMAP_CONFIG -/

/-- The composition words of head `h` after TONEMAP_CONFIG with parameters `p`. -/
def State.toneWritten (s : State) (p : List Word) : State :=
  s.writeWords p (parBits p 0 0 4) (0x60400 + 0x20 * parUnit p) compMask

theorem State.wordAfter_popCmd (s : State) (p : List Word) (first base k : Nat) (h : 0x30004 < base) :
    s.popCmd.wordAfter p first base k = s.wordAfter p first base k := by
  unfold State.wordAfter
  rw [s.rd_popCmd_ne _ (by omega)]

theorem headDomain_lt (h : Nat) : headDomain h < 32 := by
  unfold headDomain
  split_ifs <;> decide

theorem exec_tonemapConfig_done (hs : s.starts 0x44 e) (hr : s.runtime = true) (h1 : 1 ≤ e.params.length) (h8 : e.params.length ≤ 8)
    (hunit : parUnit e.params ≤ 3) (hstray : strayBits e.params 0 0xFF00000F = false)
    (hbad : badWords e.params (parBits e.params 0 0 4) compWordBad = []) (hhead : s.pdOn (headDomain (parUnit e.params)) = true)
    (htone : getBits (s.wordAfter e.params (parBits e.params 0 0 4) (0x60400 + 0x20 * parUnit e.params) 2) 31 1 = 0 ∨
      s.pdOn 14 = true) :
    exec .tonemapConfig s = .next (((s.popCmd.toneWritten e.params).recorded (parUnit e.params)).post e stOk []) := by
  change Host.Outcome.next (startCmd s _ _) = _
  rw [startCmd_isOp hs]
  dsimp only
  rw [lengthBetween h1 h8, hstray, hbad, decide_eq_false (Nat.not_lt.2 hunit), failAt_false, List.nil_append,
    runtimeCmd_permitted (s.runtime_popCmd.trans hr),
    State.needing_met _ (.inl ((s.scalerDomain_popCmd _ (headDomain_lt _)).trans hhead)),
    State.needing_met]
  · rfl
  · rw [s.scalerDomain_popCmd 14 (by decide), s.wordAfter_popCmd _ _ _ _ (by omega)]
    exact htone.symm.imp_right fun h => by rw [h]; rfl

/-- R254, R514: what TONEMAP_CONFIG changes of the state that it finds. -/
theorem State.toneWritten_parts (s : State) (p : List Word) :
    let t := (s.popCmd.toneWritten p).recorded (parUnit p)
    t = { s.popCmd with regs := t.regs, heads := t.heads, stampCount := t.stampCount } ∧
      (∀ k, k < 6 → t.rd (0x60400 + 0x20 * parUnit p + 4 * k) =
        if parBits p 0 0 4 ≤ k ∧ k < parBits p 0 0 4 + (p.length - 1) then
          (s.rd (0x60400 + 0x20 * parUnit p + 4 * k) &&& ~~~ compMask k) ||| (par p (k - parBits p 0 0 4 + 1) &&& compMask k)
        else s.rd (0x60400 + 0x20 * parUnit p + 4 * k)) ∧
      (∀ a, (∀ k, k < 6 → a ≠ 0x60400 + 0x20 * parUnit p + 4 * k) → t.rd a = s.popCmd.rd a) := by
  intro t
  have hrd (a : Nat) : t.rd a = (s.popCmd.toneWritten p).rd a := State.rd_of_regs (State.regs_recorded _ _) a
  refine ⟨(s.popCmd.writeWords_onlyConfig p _ _ compMask).trans (State.recorded_onlyConfig _ _), fun k _ => ?_, fun a ha => ?_⟩
  · rw [hrd, State.toneWritten, s.popCmd.rd_writeWords p _ _ compMask k, s.rd_popCmd_ne _ (by omega)]
  · rw [hrd]
    exact s.popCmd.rd_writeWords_ne p _ _ compMask fun k hk => ha k (not_le.1 fun h6 => hk (compMask_eq_zero h6))

end

end Sys2Proof.Machine
end

section
/-! PROOFS. Stages and write-back: LUT_LOAD, SCALER_COEFF, STAGE_APPLY and WRITEBACK (R497 to R507, R514 to R516). -/

namespace Sys2Proof.Machine

/-! ### The live banks and the stages, seen by a command that starts -/

theorem State.tileBytes_popCmd (s : State) {t : Nat} (ht : t < 16) (a n : Nat) : s.popCmd.tileBytes t a n = s.tileBytes t a n := by
  unfold State.tileBytes State.tileByte State.columnFailed
  simp only [s.fld_popCmd ⟨0x20003C + 4 * t, _, 2⟩ (by dsimp only; omega), State.popCmd_tile, State.popCmd_free]

theorem State.stageOf_popCmd (s : State) (coeff : Bool) (bank : Nat) : s.popCmd.stageOf coeff bank = s.stageOf coeff bank := by
  unfold State.stageOf State.liveBank
  rw [s.tileBytes_popCmd (by decide), s.tileBytes_popCmd (by decide), s.popCmd_stages]

section
variable {s : State} {e : CmdEntry}

/-- LUT_LOAD (R500, R504). -/
theorem exec_lutLoad_done {b : Nat} (hs : s.starts 0x42 e) (hr : s.runtime = true) (h2 : 2 ≤ e.params.length)
    (hmax : e.params.length ≤ 1026) (hbank : lutBank (parUnit e.params) = some b) (hstray : strayBits e.params 0 0xFF1303FF = false)
    (hbad : badWords e.params 0 (fun i w => decide (1023 < parBits e.params 0 0 10 + 2 * i + 1) ||
      (w &&& (if parBits e.params 0 16 2 = 3 then 0xFF00FF00 else 0xF000F000)) != 0) = []) :
    exec .lutLoad s = .next ((s.popCmd.putStage { s.stageOf false b with
      data := putEntries (parBits e.params 0 16 2) (parBits e.params 0 0 10) e.params.tail (s.stageOf false b).data }
        (parBits e.params 0 20 1 == 1)).post e stOk []) := by
  change Host.Outcome.next (startCmd s _ _) = _
  rw [startCmd_isOp hs]
  dsimp only
  rw [lengthBetween h2 hmax, hstray, hbank, hbad, Option.isNone_some, failAt_false, List.nil_append,
    runtimeCmd_permitted (s.runtime_popCmd.trans hr)]
  dsimp only
  rw [s.stageOf_popCmd]
  rfl

/-- SCALER_COEFF (R498, R504). -/
theorem exec_scalerCoeff_done (hs : s.starts 0x43 e) (hr : s.runtime = true) (h2 : 2 ≤ e.params.length)
    (hmax : e.params.length ≤ 1026) (hunit : parUnit e.params ≤ 3) (hstray : strayBits e.params 0 0xFF11003F = false)
    (hon : s.pdOn 13 = true) (hsets : (e.params.length - 1) % (if parBits e.params 0 16 1 = 0 then 4 else 2) = 0)
    (hbad : badWords e.params 0 (fun i w =>
      decide (63 < parBits e.params 0 0 6 + i / (if parBits e.params 0 16 1 = 0 then 4 else 2)) || (w &&& 0xF000F000) != 0) = []) :
    exec .scalerCoeff s = .next ((s.popCmd.putStage { s.stageOf true (parUnit e.params) with
      data := putCoeffs (if parBits e.params 0 16 1 = 0 then 8 * parBits e.params 0 0 6 else 512 + 4 * parBits e.params 0 0 6)
        e.params.tail (s.stageOf true (parUnit e.params)).data } (parBits e.params 0 20 1 == 1)).post e stOk []) := by
  change Host.Outcome.next (startCmd s _ _) = _
  rw [startCmd_isOp hs]
  dsimp only
  rw [lengthBetween h2 hmax, hstray, hbad, hsets, decide_eq_false (Nat.not_lt.2 hunit), failAt_false, List.nil_append,
    s.scalerDomain_popCmd 13 (by decide), hon]
  exact (congrArg (fun r => Host.Outcome.next (finish e r)) (runtimeCmd_permitted (s.runtime_popCmd.trans hr) _)).trans
    (by rw [s.stageOf_popCmd]; rfl)

end

/-! ### STAGE_APPLY (R505 to R507) -/

theorem State.exec_stageApply (s : State) (h : Fin 4) (hlive : s.off = false) : exec (.stageApply h) s = .next (
    if (s.head h.val).blank && s.stages.any (fun t => t.pending && s.stageHead t == h.val) then (s.applyStages h.val).headEvent h.val
    else s) := congrArg Host.Outcome.next (s.ifLive_live _ hlive)

theorem State.exec_stageApply_idle (s : State) (h : Fin 4) (hlive : s.off = false)
    (hidle : (s.head h.val).blank = false ∨ (∀ g ∈ s.stages, g.pending = false ∨ s.stageHead g ≠ h.val)) :
    exec (.stageApply h) s = .next s := by
  rw [s.exec_stageApply h hlive, if_neg]
  rw [Bool.and_eq_true, List.any_eq_true]
  rintro ⟨hblank, g, hg, hdue⟩
  rw [Bool.and_eq_true, beq_iff_eq] at hdue
  rcases hidle with hno | hno
  · exact absurd hblank (by simp [hno])
  · rcases hno g hg with hp | hh
    · exact absurd hdue.1 (by simp [hp])
    · exact hh hdue.2

/-- R505: every stage that is left is of another head, or not pending. -/
theorem State.stages_applyStages (s : State) (h : Nat) (g : Stage) (hg : g ∈ (s.applyStages h).stages) :
    g.pending = false ∨ s.stageHead g ≠ h := by
  by_contra hdue
  push Not at hdue
  have hmem (hs : g ∈ s.stages) : g ∈ s.stages.filter (fun t => t.pending && s.stageHead t == h) :=
    List.mem_filter.2 ⟨hs, by simp [hdue.1, hdue.2]⟩
  unfold State.applyStages at hg
  dsimp only at hg
  split_ifs at hg with hnone
  · exact absurd (hmem hg) (by simp [List.isEmpty_iff.1 hnone])
  · obtain ⟨hs, hl⟩ := State.mem_stages_applied g _ s hg
    exact hl (hmem hs)

theorem State.applyStages_onlyComposition (s : State) (h : Nat) : s.OnlyComposition (s.applyStages h) := by
  have hstages (l : List Stage) : s.OnlyComposition (l.foldl State.applyStage s) := by
    have hl := State.applyStages_frame l s
    exact Eq.trans hl (by rw [hl])
  unfold State.applyStages
  dsimp only
  split_ifs
  · rfl
  · exact (hstages _).trans (State.showStages_onlyConfig _).composition

theorem State.OnlyComposition.cw {s t : State} (k : s.OnlyComposition t) : t.cw = s.cw := by
  have k' : t = { s with regs := t.regs, heads := t.heads, stampCount := t.stampCount, tile := t.tile, stages := t.stages } := k
  rw [k']

theorem State.OnlyComposition.plate {s t : State} (k : s.OnlyComposition t) : t.plate = s.plate := by
  have k' : t = { s with regs := t.regs, heads := t.heads, stampCount := t.stampCount, tile := t.tile, stages := t.stages } := k
  rw [k']

theorem State.headEvent_onlyConfig (s : State) (h : Nat) : s.OnlyConfig (s.headEvent h) := rfl

theorem State.event_headEvent (s : State) (h : Fin 4) : ((s.headEvent h).head h).event = true :=
  congrArg HeadState.event (s.head_setHead_same h _)

theorem State.exec_stageApply_due (s : State) (h : Fin 4) (hlive : s.off = false) (hblank : (s.head h.val).blank = true)
    (hdue : ∃ g ∈ s.stages, g.pending = true ∧ s.stageHead g = h.val) :
    ∃ t, exec (.stageApply h) s = .next t ∧ (∀ g ∈ t.stages, g.pending = false ∨ s.stageHead g ≠ h.val) ∧
      (t.head h.val).event = true ∧ t.cw = s.cw ∧ t.plate = s.plate := by
  have hleaves : s.OnlyComposition ((s.applyStages h.val).headEvent h.val) :=
    (s.applyStages_onlyComposition h).trans (State.headEvent_onlyConfig _ h).composition
  obtain ⟨g, hg, hp, hh⟩ := hdue
  refine ⟨_, (s.exec_stageApply h hlive).trans (congrArg _ (if_pos ?_)), fun g hg => s.stages_applyStages h g hg,
    State.event_headEvent _ h, hleaves.cw, hleaves.plate⟩
  rw [hblank, Bool.true_and, List.any_eq_true]
  exact ⟨g, hg, by simp [hp, hh]⟩

/-! ### WRITEBACK (R515, R516) -/

theorem State.prof_popCmd (s : State) (h k lo w : Nat) : s.popCmd.prof h k lo w = s.prof h k lo w := by
  unfold State.prof
  rw [s.fld_popCmd _ (by simp only [F.HEAD_PROFILE_ENTRY]; omega)]

theorem State.wbSurfOk_popCmd (s : State) (h n : Nat) : s.popCmd.wbSurfOk h n = s.wbSurfOk h n := by
  unfold State.wbSurfOk
  rw [s.regDesc_popCmd, s.prof_popCmd, s.prof_popCmd]

/-- R516: the registers of an enable of the engine. -/
def State.wbConfigured (s : State) (h n : Nat) (single : Bool) : State :=
  (((s.setFld F.WB_CTRL_EN 1).setFld F.WB_CTRL_HEAD h).setFld F.WB_CTRL_SURF n).setBit F.WB_CTRL_SINGLE single

theorem State.wbConfigured_frame (s : State) (h n : Nat) (single : Bool) :
    s.wbConfigured h n single = { s with regs := (s.wbConfigured h n single).regs } := by
  have hset (u v : State) (f : Field) (x : Nat) (k : v = { u with regs := v.regs }) :
      v.setFld f x = { u with regs := (v.setFld f x).regs } := by
    rw [k]
    rfl
  exact hset s _ _ _ (hset s _ _ _ (hset s _ _ _ (hset s s _ _ rfl)))

theorem State.wbEnable_eq (s : State) (h n : Nat) (single : Bool) : s.wbEnable h n single =
    { s.wbConfigured h n single with wb := { (s.wbConfigured h n single).wb with last := (n, single), deferred := none } } := rfl

/-- The registers that an enable of the engine changes are one. -/
theorem State.rd_wbConfigured (s : State) (h n : Nat) (single : Bool) {a : Nat} (ha : a ≠ F.WB_CTRL_EN.addr) :
    (s.wbConfigured h n single).rd a = s.rd a := by
  unfold State.wbConfigured State.setBit
  rw [State.rd_setFld_ne _ F.WB_CTRL_SINGLE _ _ ha.symm, State.rd_setFld_ne _ F.WB_CTRL_SURF _ _ ha.symm,
    State.rd_setFld_ne _ F.WB_CTRL_HEAD _ _ ha.symm, State.rd_setFld_ne _ F.WB_CTRL_EN _ _ ha.symm]

section
variable (s : State) (h n : Nat) (single : Bool)

theorem State.wbConfigured_en : (s.wbConfigured h n single).fld F.WB_CTRL_EN = 1 := by
  unfold State.wbConfigured State.setBit
  rw [State.fld_setFld_apart _ F.WB_CTRL_SINGLE _ _ (.inr (.inl (by decide))),
    State.fld_setFld_apart _ F.WB_CTRL_SURF _ _ (.inr (.inl (by decide))),
    State.fld_setFld_apart _ F.WB_CTRL_HEAD _ _ (.inr (.inl (by decide))), State.fld_setFld _ F.WB_CTRL_EN _ (by decide)]
  rfl

theorem State.wbConfigured_head (hh : h < 4) : (s.wbConfigured h n single).fld F.WB_CTRL_HEAD = h := by
  unfold State.wbConfigured State.setBit
  rw [State.fld_setFld_apart _ F.WB_CTRL_SINGLE _ _ (.inr (.inr (by decide))),
    State.fld_setFld_apart _ F.WB_CTRL_SURF _ _ (.inr (.inl (by decide))), State.fld_setFld _ F.WB_CTRL_HEAD _ (by decide)]
  exact Nat.mod_eq_of_lt hh

theorem State.wbConfigured_surf (hn : n < 64) : (s.wbConfigured h n single).fld F.WB_CTRL_SURF = n := by
  unfold State.wbConfigured State.setBit
  rw [State.fld_setFld_apart _ F.WB_CTRL_SINGLE _ _ (.inr (.inr (by decide))), State.fld_setFld _ F.WB_CTRL_SURF _ (by decide)]
  exact Nat.mod_eq_of_lt hn

theorem State.wbConfigured_single : (s.wbConfigured h n single).fld F.WB_CTRL_SINGLE = if single then 1 else 0 := by
  unfold State.wbConfigured State.setBit
  rw [State.fld_setFld _ F.WB_CTRL_SINGLE _ (by decide)]
  cases single <;> rfl

end

theorem bit_popCmd_wbEn (s : State) : s.popCmd.bit F.WB_CTRL_EN = s.bit F.WB_CTRL_EN := s.bit_popCmd _ (by decide)

section
variable {s : State} {e : CmdEntry}

/-- No parameter word beyond the two of an enable. -/
theorem strayBits_beyond {p : List Word} {i : Nat} (h : p.length ≤ i) (mask : Nat) : strayBits p i mask = false := by
  unfold strayBits par
  rw [List.getD_eq_default _ _ h]
  exact congrArg (· != 0) (Nat.zero_and _)

/-- R515, R516: WRITEBACK enables the engine for its head. -/
theorem exec_writeback_enable (hs : s.starts 0x45 e) (hr : s.runtime = true) (hlen : e.params.length = 2)
    (hunit : parUnit e.params ≤ 3) (hstray : strayBits e.params 0 0xFF000001 = false) (hen : parBits e.params 0 0 1 = 1)
    (hstray1 : strayBits e.params 1 0x13F = false) (hoff : s.bit F.WB_CTRL_EN = false) (hstop : s.wb.stopping = none)
    (hhead : s.pdOn (headDomain (parUnit e.params)) = true)
    (hsurf : s.wbSurfOk (parUnit e.params) (parBits e.params 1 0 6) = true)
    (huse : s.fld (F.SURF_STATUS_USE (parBits e.params 1 0 6)) = 0) :
    exec .writeback s = .next ((s.popCmd.wbEnable (parUnit e.params) (parBits e.params 1 0 6)
      (parBits e.params 1 8 1 == 1)).post e stOk []) := by
  have huse' : s.popCmd.fld (F.SURF_STATUS_USE (parBits e.params 1 0 6)) = 0 :=
    (s.fld_popCmd _ (by simp only [F.SURF_STATUS_USE]; omega)).trans huse
  change Host.Outcome.next (startCmd s _ _) = _
  rw [startCmd_isOp hs]
  dsimp only
  rw [hlen, hstray, hstray1, hen, strayBits_beyond (by omega), strayBits_beyond (by omega), decide_eq_false (Nat.not_lt.2 hunit),
    State.needing_met _ (.inl ((s.scalerDomain_popCmd _ (headDomain_lt _)).trans hhead)), bit_popCmd_wbEn, hoff, s.popCmd_wb, hstop,
    if_neg (by decide : ¬ (2 = 1)), if_neg (by decide : ¬ (2 = 1)), if_neg (by decide : ¬ (2 = 1)), s.wbSurfOk_popCmd, hsurf, huse']
  exact congrArg (fun r => Host.Outcome.next (finish e r)) (runtimeCmd_permitted (s.runtime_popCmd.trans hr) _)

/-- R516: a disable, judged against the head of the engine. -/
theorem exec_writeback_disable (hs : s.starts 0x45 e) (hr : s.runtime = true) (hlen : e.params.length = 1)
    (hunit : parUnit e.params ≤ 3) (hstray : strayBits e.params 0 0xFF000001 = false) (hen : parBits e.params 0 0 1 = 0) :
    exec .writeback s = .next (finish e (if s.bit F.WB_CTRL_EN && s.fld F.WB_CTRL_HEAD != parUnit e.params then
      Res.stat s.popCmd stBusy else Res.ok s.popCmd.wbDisable)) := by
  have hhead : s.popCmd.fld F.WB_CTRL_HEAD = s.fld F.WB_CTRL_HEAD := s.fld_popCmd _ (by decide)
  change Host.Outcome.next (startCmd s _ _) = _
  rw [startCmd_isOp hs]
  dsimp only
  rw [hlen, hstray, hen, strayBits_beyond (by omega), strayBits_beyond (by omega), strayBits_beyond (by omega),
    decide_eq_false (Nat.not_lt.2 hunit), (by decide : ((0 : Nat) == 1) = false), State.needing_met _ (.inr rfl), bit_popCmd_wbEn,
    hhead]
  exact congrArg (fun r => Host.Outcome.next (finish e r)) (runtimeCmd_permitted (s.runtime_popCmd.trans hr) _)

end

end Sys2Proof.Machine
end

section
/-! PROOFS. The layers, their stages and write-back, assembled (O45). -/

namespace Sys2Proof.Machine

theorem State.regs_wbEnable (s : State) (h n : Nat) (single : Bool) :
    (s.wbEnable h n single).regs = (s.wbConfigured h n single).regs := by rw [State.wbEnable_eq]

theorem State.wbEnable_frame (s : State) (h n : Nat) (single : Bool) : s.wbEnable h n single =
    { s with regs := (s.wbEnable h n single).regs, wb := { s.wb with last := (n, single), deferred := none } } := by
  rw [s.regs_wbEnable, s.wbEnable_eq, s.wbConfigured_frame]

theorem State.wbEnabled_parts (s : State) {h n x : Nat} (hh : h < 4) (hn : n < 64) (hx : x < 2) :
    let t := s.popCmd.wbEnable h n (x == 1)
    t.fld F.WB_CTRL_EN = 1 ∧ t.fld F.WB_CTRL_HEAD = h ∧ t.fld F.WB_CTRL_SURF = n ∧ t.fld F.WB_CTRL_SINGLE = x ∧
      t = { s.popCmd with regs := t.regs, wb := { s.wb with last := (n, x == 1), deferred := none } } ∧
      (∀ a, a ≠ F.WB_CTRL_EN.addr → t.rd a = s.popCmd.rd a) := by
  intro t
  have hregs : t.regs = (s.popCmd.wbConfigured h n (x == 1)).regs := s.popCmd.regs_wbEnable h n _
  have hsingle : (if (x == 1) = true then 1 else 0) = x := by
    obtain rfl | rfl : x = 0 ∨ x = 1 := by omega
    · rfl
    · rfl
  refine ⟨(State.fld_of_regs hregs _).trans (State.wbConfigured_en _ h n _),
    (State.fld_of_regs hregs _).trans (State.wbConfigured_head _ h n _ hh),
    (State.fld_of_regs hregs _).trans (State.wbConfigured_surf _ h n _ hn),
    ((State.fld_of_regs hregs _).trans (State.wbConfigured_single _ h n _)).trans hsingle, ?_,
    fun a ha => (State.rd_of_regs hregs a).trans (State.rd_wbConfigured _ h n _ ha)⟩
  exact (s.popCmd.wbEnable_frame h n _).trans (by rw [s.popCmd_wb])

/-- Settles O45: one lemma says how each command runs, another what it leaves of the state that it found. -/
theorem layerWords : Obligations.LayerWords := by
  unfold Obligations.LayerWords
  refine ⟨fun s e hs hr h1 h16 hunit hfails => ?_, fun s e hs hr hlen hstray hneed => ?_,
    fun s e hs hr h1 h8 hunit hstray => ?_, fun s e b hs hr h2 hmax hbank hstray => ?_,
    fun s e hs hr h2 hmax hunit hstray hon => ?_, fun s h hlive => ?_,
    fun s e hs hr hlen hunit hstray hen hstray1 hoff hstop hhead hsurf huse => ?_,
    fun s e hs hr hlen hunit hstray hen hown => ?_, fun s e hs hr hlen hunit hstray hen hon hother => ?_⟩
  · exact ⟨fun hneed => ⟨_, exec_layerConfig_done hs hr h1 h16 hunit hfails hneed, s.layerConfigured_parts hunit⟩,
      exec_layerConfig_refused hs hr h1 h16 hunit hfails⟩
  · exact ⟨_, exec_layerEnable_done hs hr hlen hstray hneed, s.layerEnabled_parts e.params⟩
  · exact fun hbad hhead htone => ⟨_, exec_tonemapConfig_done hs hr h1 h8 hunit hstray hbad hhead htone,
      s.toneWritten_parts e.params⟩
  · exact exec_lutLoad_done hs hr h2 hmax hbank hstray
  · exact exec_scalerCoeff_done hs hr h2 hmax hunit hstray hon
  · exact ⟨s.exec_stageApply_due h hlive, s.exec_stageApply_idle h hlive⟩
  · have hn : parBits e.params 1 0 6 < 64 := Nat.mod_lt _ (by decide)
    have hx : parBits e.params 1 8 1 < 2 := Nat.mod_lt _ (by decide)
    exact ⟨_, exec_writeback_enable hs hr hlen hunit hstray hen hstray1 hoff hstop hhead hsurf huse,
      s.wbEnabled_parts (Nat.lt_succ_of_le hunit) hn hx⟩
  · rw [exec_writeback_disable hs hr hlen hunit hstray hen, if_neg]
    · rfl
    · rcases hown with hoff | hown
      · simp [hoff]
      · simp [hown]
  · rw [exec_writeback_disable hs hr hlen hunit hstray hen, if_pos (by simp [hon, hother])]
    rfl

end Sys2Proof.Machine
end

section
/-! PROOFS. What a Plate request of a chain's run leaves: everything but the Plate, the bandwidth allocator and six registers. -/

namespace Sys2Proof.Machine

/-- Table 7-1, R286 to R293, R395: the registers that a request served for client 20 may change: CW_IRQ_STATUS, that client's counters,
PLATE_ECC, PLATE_ECC_ADDR and PLATE_OFF_HIT. -/
def requestRegs : List Nat := [0x30004, 0x40248, 0x4024C, 0x200004, 0x200008, 0x20000C]

/-- `t` differs from `s` in the Plate, the bandwidth allocator and `requestRegs` only. -/
def State.OnlyPlate (s t : State) : Prop :=
  (∃ r p b, t = { s with regs := r, plate := p, pba := b }) ∧ ∀ a ∉ requestRegs, t.rd a = s.rd a

namespace State.OnlyPlate
variable {s t u : State}

theorem refl (s : State) : s.OnlyPlate s := ⟨⟨s.regs, s.plate, s.pba, rfl⟩, fun _ _ => rfl⟩

theorem trans (k : s.OnlyPlate t) (l : t.OnlyPlate u) : s.OnlyPlate u := by
  obtain ⟨⟨r, p, b, rfl⟩, hr⟩ := k
  obtain ⟨⟨r', p', b', rfl⟩, hr'⟩ := l
  exact ⟨⟨r', p', b', rfl⟩, fun a ha => (hr' a ha).trans (hr a ha)⟩

theorem ite {c : Prop} [Decidable c] (k : s.OnlyPlate t) (l : s.OnlyPlate u) : s.OnlyPlate (if c then t else u) := by
  split
  · exact k
  · exact l

theorem setFld (k : s.OnlyPlate t) {f : Field} (v : Nat) (hf : f.addr ∈ requestRegs) : s.OnlyPlate (t.setFld f v) :=
  k.trans ⟨⟨_, t.plate, t.pba, rfl⟩, fun _ ha => State.rd_setFld_ne t f v _ fun heq => ha (heq ▸ hf)⟩

theorem raise (k : s.OnlyPlate t) (c : Nat) : s.OnlyPlate (t.raise c) := by
  unfold State.raise
  exact ite k (k.setFld 1 (List.mem_cons_self ..))

/-- An update of the Plate and the allocator. -/
theorem of_eq (k : s.OnlyPlate t) (h : u = { t with plate := u.plate, pba := u.pba }) : s.OnlyPlate u :=
  k.trans ⟨⟨t.regs, u.plate, u.pba, h⟩, fun a _ => State.rd_of_regs (by rw [h]) a⟩

theorem foldl {α : Type} {f : State → α → State} (hf : ∀ (u : State) (a : α), u.OnlyPlate (f u a)) (l : List α) (t : State) :
    t.OnlyPlate (l.foldl f t) := foldl_leaves refl trans hf l t

theorem fld (k : s.OnlyPlate t) {f : Field} (hf : f.addr ∉ requestRegs) : t.fld f = s.fld f := by
  unfold State.fld
  rw [k.2 _ hf]

theorem chains (k : s.OnlyPlate t) : t.chains = s.chains := by
  obtain ⟨⟨r, p, b, rfl⟩, -⟩ := k
  rfl

end State.OnlyPlate

open State (OnlyPlate)

theorem State.countOff_onlyPlate (s : State) : s.OnlyPlate s.countOff :=
  ((OnlyPlate.refl s).setFld (f := F.PLATE_OFF_HIT_COUNT) _ (by decide)).setFld (f := F.PLATE_OFF_HIT_STICKY) 1 (by decide)

theorem State.countRefuse_onlyPlate (s : State) : s.OnlyPlate (s.countRefuse 20) := by
  have kcount : s.OnlyPlate (s.satAdd (F.PBA_REFUSE_REFUSE_CNT 20) 1) := (OnlyPlate.refl s).setFld _ (by decide)
  unfold State.countRefuse State.setBudgetFlag
  exact OnlyPlate.ite kcount ((kcount.setFld (f := F.PBA_FLAGS_REFUSED 20) 1 (by decide)).raise _)

theorem State.setPresented_onlyPlate (s : State) (c : Nat) (l : List ReqBody) : s.OnlyPlate (s.setPresented c l) :=
  (OnlyPlate.refl s).of_eq rfl

theorem State.setCredit_onlyPlate (s : State) (c n : Nat) : s.OnlyPlate (s.setCredit c n) := (OnlyPlate.refl s).of_eq rfl

theorem State.plateWrite_onlyPlate (s : State) (a : Nat) (d : List Byte) : s.OnlyPlate (s.plateWrite a d) :=
  (OnlyPlate.refl s).of_eq rfl

theorem State.deliver_onlyPlate (s : State) (c w : Nat) (d : List Byte) : s.OnlyPlate (s.deliver c w d) := (OnlyPlate.refl s).of_eq rfl

/-- A write that client 20 presents, and its judgement (R385 to R388). -/
theorem State.judgeWrite_onlyPlate (s : State) (a : Nat) (d : List Byte) : s.OnlyPlate (s.judgeReq 20 (.write a d)) := by
  have kwait (l : List ReqBody) : s.OnlyPlate (s.setWaiting 20 l) := (OnlyPlate.refl s).of_eq rfl
  have kpresent : s.OnlyPlate (s.present 20 (.write a d) (.write a d)) :=
    (OnlyPlate.ite (OnlyPlate.refl s) (s.setCredit_onlyPlate 20 _)).trans (State.setPresented_onlyPlate _ 20 _)
  have koff : s.OnlyPlate (s.offHit 20 (.write a d) (.write a d)) := s.countOff_onlyPlate
  have krefuse : s.OnlyPlate (s.refuseReq 20 (.write a d) (.write a d)) := s.countRefuse_onlyPlate.of_eq rfl
  unfold State.judgeReq
  exact OnlyPlate.ite (OnlyPlate.refl s) (OnlyPlate.ite (OnlyPlate.ite (kwait _) koff) (OnlyPlate.ite (OnlyPlate.refl s)
    (OnlyPlate.ite kpresent (OnlyPlate.ite (OnlyPlate.ite kpresent (kwait _)) (OnlyPlate.ite kpresent krefuse)))))

theorem State.plateRead_onlyPlate (s : State) (c a : Nat) : s.OnlyPlate (s.plateRead c a).2 := by
  have kce : s.OnlyPlate (s.satAdd F.PLATE_ECC_CE_CNT 1) := (OnlyPlate.refl s).setFld _ (by decide)
  have kue : s.OnlyPlate (s.satAdd F.PLATE_ECC_UE_CNT 1) := (OnlyPlate.refl s).setFld _ (by decide)
  unfold State.plateRead
  extract_lets w m d s1 s2 s1' s2'
  have k2 : s.OnlyPlate s2 := OnlyPlate.ite kce ((kce.setFld (f := F.PLATE_ECC_CE_STICKY) 1 (by decide)).raise _)
  have k2' : s.OnlyPlate s2' := OnlyPlate.ite kue (((kue.setFld (f := F.PLATE_ECC_ADDR_OFFSET) _ (by decide)).setFld
    (f := F.PLATE_ECC_ADDR_CLIENT) _ (by decide)).setFld (f := F.PLATE_ECC_UE_STICKY) 1 (by decide))
  split_ifs
  · exact OnlyPlate.refl s
  · exact k2.trans (s2.judgeWrite_onlyPlate w d)
  · exact k2
  · exact k2'.raise causePlate

theorem State.carryOut_onlyPlate (s : State) (c : Nat) (r : ReqBody) : s.OnlyPlate (s.carryOut c r) := by
  cases r with
  | write a d =>
    exact OnlyPlate.ite (s.plateWrite_onlyPlate a d) ((s.plateRead_onlyPlate c a).trans (State.plateWrite_onlyPlate _ _ _))
  | read a => exact (s.plateRead_onlyPlate c a).trans (State.deliver_onlyPlate _ c _ _)
  | drain => exact OnlyPlate.refl s
  | window => exact OnlyPlate.refl s
  | copy n => exact OnlyPlate.refl s

theorem State.flush_onlyPlate (s : State) (c : Nat) : s.OnlyPlate (s.flush c) := by
  unfold State.flush
  extract_lets p q s1
  have kwrite (u : State) (m : Merge) : u.OnlyPlate (u.plateWrite m.addr m.data) := u.plateWrite_onlyPlate m.addr m.data
  have k0 : s.OnlyPlate { s with plate := { p with delivered := [] }, pba := { q with merging := q.merging.filter (·.client != c) } } :=
    (OnlyPlate.refl s).of_eq rfl
  have k1 : s.OnlyPlate s1 := k0.trans (OnlyPlate.foldl kwrite _ _)
  exact (k1.trans (s1.setPresented_onlyPlate c [])).trans (OnlyPlate.foldl (fun u r => u.carryOut_onlyPlate c r) _ _)

theorem State.serve_onlyPlate (s : State) (c : Nat) (a : ReqBody) : s.OnlyPlate (s.serve c a) :=
  ((s.flush_onlyPlate c).trans (State.setCredit_onlyPlate _ c _)).trans (State.carryOut_onlyPlate _ c a)

/-- R703, R719: a record that a run writes: into the Plate, or lost, when OVERRUN is set. -/
theorem State.capture_onlyPlate (s : State) (c a : Nat) (d : List Byte) :
    ∃ t, s.OnlyPlate t ∧ (s.capture c a d = t ∨ s.capture c a d = t.setFld (F.LINK_DIAG_STATUS_OVERRUN c) 1) := by
  unfold State.capture
  split_ifs
  · exact ⟨_, s.countOff_onlyPlate, .inl rfl⟩
  · exact ⟨_, s.serve_onlyPlate 20 _, .inl rfl⟩
  · exact ⟨_, s.countRefuse_onlyPlate, .inr rfl⟩

end Sys2Proof.Machine
end

section
/-! PROOFS. A chain's diagnostic run: its status register, its records and how it starts, pauses and ends (R691 to R703). -/

namespace Sys2Proof.Machine
open State (OnlyPlate OnlyChains)

/-! ### The record of a chain -/

theorem State.chain_setChain_same (s : State) {c : Nat} (hc : c < 8) (x : ChainState) : (s.setChain c x).chain c = x := by
  simp [State.chain, State.setChain, List.getD_eq_getElem?_getD, hc]

theorem State.chain_of_chains {s t : State} (h : t.chains = s.chains) (c : Nat) : t.chain c = s.chain c := by
  unfold State.chain
  rw [h]

theorem State.setChain_setChain (s : State) (c : Nat) (x y : ChainState) : (s.setChain c x).setChain c y = s.setChain c y := by
  simp [State.setChain]

theorem State.setChain_chain (s : State) (c : Nat) : s.setChain c (s.chain c) = s := by
  have hsame : s.chains.setIfInBounds c (s.chain c) = s.chains := by
    apply Vector.ext
    intro i hi
    by_cases hci : c = i
    · subst hci
      simp [State.chain, List.getD_eq_getElem?_getD, hi]
    · rw [Vector.getElem_setIfInBounds_ne hi hci]
  exact congrArg (fun l => { s with chains := l }) hsame

theorem State.diag_setDiag (s : State) {c : Nat} (hc : c < 8) (d : DiagRun) : ((s.setDiag c d).chain c).diag = some d :=
  congrArg ChainState.diag (s.chain_setChain_same hc _)

theorem State.setDiag_setDiag (s : State) {c : Nat} (hc : c < 8) (d e : DiagRun) : (s.setDiag c d).setDiag c e = s.setDiag c e := by
  have hchain : (s.setDiag c d).chain c = { s.chain c with diag := some d } := s.chain_setChain_same hc _
  unfold State.setDiag at hchain ⊢
  rw [hchain, s.setChain_setChain]

/-- The run that a chain holds, stored again. -/
theorem State.setDiag_self {s : State} {c : Nat} {d : DiagRun} (h : (s.chain c).diag = some d) : s.setDiag c d = s := by
  have hsame : { s.chain c with diag := some d } = s.chain c := by rw [← h]
  unfold State.setDiag
  rw [hsame, s.setChain_chain]

theorem State.fld_setDiag (s : State) (c : Nat) (d : DiagRun) (f : Field) : (s.setDiag c d).fld f = s.fld f := rfl

theorem State.runState_setDiag (s : State) (c : Nat) (d : DiagRun) (k : Nat) : (s.setDiag c d).runState k = s.runState k := rfl

/-! ### LINK_DIAG_STATUS -/

/-- The status register of a chain is none that a request changes. -/
theorem diagStatus_notRequest {c : Nat} (hc : c < 8) : 0x100050 + 0x1000 * c ∉ requestRegs := by
  revert c
  decide

section
variable (s : State) (c v : Nat)

theorem State.runState_setRunState : (s.setFld (F.LINK_DIAG_STATUS_RUN_STATE c) v).runState c = v % 16 :=
  s.fld_setFld (F.LINK_DIAG_STATUS_RUN_STATE c) v (by simp only [F.LINK_DIAG_STATUS_RUN_STATE]; omega)

theorem State.doneCnt_setDoneCnt : (s.setFld (F.LINK_DIAG_STATUS_DONE_CNT c) v).fld (F.LINK_DIAG_STATUS_DONE_CNT c) = v % 65536 :=
  s.fld_setFld (F.LINK_DIAG_STATUS_DONE_CNT c) v (by simp only [F.LINK_DIAG_STATUS_DONE_CNT]; omega)

theorem State.runState_setDoneCnt : (s.setFld (F.LINK_DIAG_STATUS_DONE_CNT c) v).runState c = s.runState c :=
  s.fld_setFld_apart (F.LINK_DIAG_STATUS_DONE_CNT c) (F.LINK_DIAG_STATUS_RUN_STATE c) v
    (.inr (.inl (by simp only [F.LINK_DIAG_STATUS_DONE_CNT, F.LINK_DIAG_STATUS_RUN_STATE]; omega)))

theorem State.doneCnt_setRunState :
    (s.setFld (F.LINK_DIAG_STATUS_RUN_STATE c) v).fld (F.LINK_DIAG_STATUS_DONE_CNT c) = s.fld (F.LINK_DIAG_STATUS_DONE_CNT c) :=
  s.fld_setFld_apart (F.LINK_DIAG_STATUS_RUN_STATE c) (F.LINK_DIAG_STATUS_DONE_CNT c) v
    (.inr (.inr (by simp only [F.LINK_DIAG_STATUS_DONE_CNT, F.LINK_DIAG_STATUS_RUN_STATE]; omega)))

end

/-! ### Records (R703, R719) -/

/-- A record that a run writes leaves the chains, and every field of the run's status but OVERRUN. -/
theorem State.capture_parts (s : State) {c : Nat} (hc : c < 8) (a : Nat) (d : List Byte) :
    (s.capture c a d).chains = s.chains ∧ (s.capture c a d).runState c = s.runState c ∧
      (s.capture c a d).fld (F.LINK_DIAG_STATUS_DONE_CNT c) = s.fld (F.LINK_DIAG_STATUS_DONE_CNT c) := by
  obtain ⟨t, ht, hcap⟩ := s.capture_onlyPlate c a d
  have hstate : t.runState c = s.runState c := ht.fld (diagStatus_notRequest hc)
  have hdone : t.fld (F.LINK_DIAG_STATUS_DONE_CNT c) = s.fld (F.LINK_DIAG_STATUS_DONE_CNT c) := ht.fld (diagStatus_notRequest hc)
  rcases hcap with hcap | hcap <;> rw [hcap]
  · exact ⟨ht.chains, hstate, hdone⟩
  · refine ⟨ht.chains, Eq.trans (State.fld_setFld_apart _ _ _ _ (.inr (.inl ?_))) hstate,
      (State.fld_setFld_apart _ _ _ _ (.inr (.inr ?_))).trans hdone⟩
    · simp only [F.LINK_DIAG_STATUS_OVERRUN, F.LINK_DIAG_STATUS_RUN_STATE]
      omega
    · simp only [F.LINK_DIAG_STATUS_OVERRUN, F.LINK_DIAG_STATUS_DONE_CNT]
      omega

theorem State.flushRecs_parts {s : State} {c : Nat} (hc : c < 8) {d : DiagRun} (hd : (s.chain c).diag = some d) (n : Nat) :
    (∃ f, ((s.flushRecs c d n).chain c).diag = some f) ∧ (s.flushRecs c d n).runState c = s.runState c ∧
      (s.flushRecs c d n).fld (F.LINK_DIAG_STATUS_DONE_CNT c) = s.fld (F.LINK_DIAG_STATUS_DONE_CNT c) := by
  unfold State.flushRecs
  split_ifs
  · exact ⟨⟨d, hd⟩, rfl, rfl⟩
  · obtain ⟨-, hstate, hdone⟩ := s.capture_parts hc (s.fld (F.LINK_DIAG_BASE c) + 4 * (n - d.recs.length))
      (d.recs.flatMap fun w => leBytes 4 w.toNat)
    exact ⟨⟨_, State.diag_setDiag _ hc _⟩, hstate, hdone⟩

/-- The state of a run with one more record, not yet flushed. -/
def State.recordTaken (s : State) (c : Nat) (d : DiagRun) (r : Word) : State :=
  (s.setFld (F.LINK_DIAG_STATUS_DONE_CNT c) (s.fld (F.LINK_DIAG_STATUS_DONE_CNT c) + 1)).setDiag c { d with recs := d.recs ++ [r] }

theorem State.pushRec_eq {s : State} {c : Nat} {d : DiagRun} (hd : (s.chain c).diag = some d) (r : Word) : s.pushRec c r =
    if (s.fld (F.LINK_DIAG_STATUS_DONE_CNT c) + 1) % 8 = 0 then
      (s.recordTaken c d r).flushRecs c { d with recs := d.recs ++ [r] } (s.fld (F.LINK_DIAG_STATUS_DONE_CNT c) + 1)
    else s.recordTaken c d r := by
  unfold State.pushRec
  rw [hd]
  rfl

/-- R703: a record counts, and the run goes on. -/
theorem State.pushRec_parts {s : State} {c : Nat} (hc : c < 8) {d : DiagRun} (hd : (s.chain c).diag = some d) (r : Word) :
    (∃ f, ((s.pushRec c r).chain c).diag = some f) ∧ (s.pushRec c r).runState c = s.runState c ∧
      (s.pushRec c r).fld (F.LINK_DIAG_STATUS_DONE_CNT c) = (s.fld (F.LINK_DIAG_STATUS_DONE_CNT c) + 1) % 65536 := by
  have hdiag : ((s.recordTaken c d r).chain c).diag = some { d with recs := d.recs ++ [r] } := State.diag_setDiag _ hc _
  have hstate : (s.recordTaken c d r).runState c = s.runState c := s.runState_setDoneCnt c _
  have hdone : (s.recordTaken c d r).fld (F.LINK_DIAG_STATUS_DONE_CNT c) = (s.fld (F.LINK_DIAG_STATUS_DONE_CNT c) + 1) % 65536 :=
    s.doneCnt_setDoneCnt c _
  rw [State.pushRec_eq hd]
  split_ifs
  · obtain ⟨hsome, hst, hcnt⟩ := State.flushRecs_parts hc hdiag (s.fld (F.LINK_DIAG_STATUS_DONE_CNT c) + 1)
    exact ⟨hsome, hst.trans hstate, hcnt.trans hdone⟩
  · exact ⟨⟨_, hdiag⟩, hstate, hdone⟩

/-- R703: as many records count as a packet brings. -/
theorem State.pushRecs_parts {c : Nat} (hc : c < 8) (l : List Word) : ∀ {s : State} {d : DiagRun}, (s.chain c).diag = some d →
    s.fld (F.LINK_DIAG_STATUS_DONE_CNT c) + l.length < 65536 →
      (l.foldl (fun (s : State) r => s.pushRec c r) s).runState c = s.runState c ∧
        (l.foldl (fun (s : State) r => s.pushRec c r) s).fld (F.LINK_DIAG_STATUS_DONE_CNT c) =
          s.fld (F.LINK_DIAG_STATUS_DONE_CNT c) + l.length := by
  induction l with
  | nil => exact fun _ _ => ⟨rfl, rfl⟩
  | cons r l ih =>
    intro s d hd hmax
    obtain ⟨⟨f, hf⟩, hstate, hdone⟩ := State.pushRec_parts hc hd r
    rw [List.length_cons] at hmax ⊢
    rw [Nat.mod_eq_of_lt (by omega)] at hdone
    obtain ⟨hst, hcnt⟩ := ih hf (by omega)
    exact ⟨hst.trans hstate, by rw [List.foldl_cons, hcnt]; omega⟩

/-! ### A run ends, starts and pauses -/

theorem State.runState_endRun (s : State) (c st : Nat) : (s.endRun c st).runState c = st % 16 := State.runState_setRunState _ c st

theorem State.doneCnt_endRun (s : State) {c : Nat} (hc : c < 8) (st : Nat) :
    (s.endRun c st).fld (F.LINK_DIAG_STATUS_DONE_CNT c) = s.fld (F.LINK_DIAG_STATUS_DONE_CNT c) := by
  unfold State.endRun
  rw [State.doneCnt_setRunState]
  split
  · rfl
  · next d hd =>
    split_ifs
    · rfl
    · exact (State.flushRecs_parts hc hd _).2.2

/-- R692: a new run, before what pauses it is looked at. -/
def State.runStarted (s : State) (c : Nat) (d : DiagRun) : State :=
  (((((s.setFld (F.LINK_DIAG_STATUS_KIND c) (if d.loop then 1 else 0)).setFld (F.LINK_DIAG_STATUS_STALE c) 0).setFld
    (F.LINK_DIAG_STATUS_OVERRUN c) 0).setFld (F.LINK_DIAG_STATUS_DONE_CNT c) 0).setFld (F.LINK_DIAG_STATUS_RUN_STATE c)
    runRunning).setDiag c d

theorem State.fld_runStarted_ne (s : State) (c : Nat) (d : DiagRun) {f : Field} (h : 0x100050 + 0x1000 * c ≠ f.addr) :
    (s.runStarted c d).fld f = s.fld f := by
  have hset (lo w : Nat) (u : State) (v : Nat) : (u.setFld ⟨0x100050 + 0x1000 * c, lo, w⟩ v).fld f = u.fld f :=
    u.fld_setFld_apart _ f v (.inl h)
  unfold State.runStarted F.LINK_DIAG_STATUS_KIND F.LINK_DIAG_STATUS_STALE F.LINK_DIAG_STATUS_OVERRUN F.LINK_DIAG_STATUS_DONE_CNT
    F.LINK_DIAG_STATUS_RUN_STATE
  rw [State.fld_setDiag, hset, hset, hset, hset, hset]

/-- R692: the status of a new run. -/
theorem State.status_runStarted (s : State) (c : Nat) (d : DiagRun) :
    (s.runStarted c d).fld (F.LINK_DIAG_STATUS_KIND c) = (if d.loop then 1 else 0) ∧
      (s.runStarted c d).fld (F.LINK_DIAG_STATUS_DONE_CNT c) = 0 ∧ (s.runStarted c d).fld (F.LINK_DIAG_STATUS_OVERRUN c) = 0 ∧
      (s.runStarted c d).runState c = 1 := by
  have hover (lo w lo' w' : Nat) (h : lo + w ≤ lo' ∨ lo' + w' ≤ lo) (u : State) (v : Nat) :
      (u.setFld ⟨0x100050 + 0x1000 * c, lo, w⟩ v).fld ⟨0x100050 + 0x1000 * c, lo', w'⟩ =
        u.fld ⟨0x100050 + 0x1000 * c, lo', w'⟩ :=
    u.fld_setFld_apart _ _ v (.inr h)
  have hset (lo w : Nat) (h : lo + w ≤ 32) (u : State) (v : Nat) :
      (u.setFld ⟨0x100050 + 0x1000 * c, lo, w⟩ v).fld ⟨0x100050 + 0x1000 * c, lo, w⟩ = v % 2 ^ w := u.fld_setFld _ v h
  unfold State.runStarted State.runState F.LINK_DIAG_STATUS_KIND F.LINK_DIAG_STATUS_STALE F.LINK_DIAG_STATUS_OVERRUN
    F.LINK_DIAG_STATUS_DONE_CNT F.LINK_DIAG_STATUS_RUN_STATE
  rw [State.fld_setDiag, State.fld_setDiag, State.fld_setDiag, State.fld_setDiag]
  refine ⟨?kind, ?done, ?overrun, ?state⟩
  case kind =>
    rw [hover 28 4 26 2 (by decide), hover 0 16 26 2 (by decide), hover 24 1 26 2 (by decide), hover 25 1 26 2 (by decide),
      hset 26 2 (by decide)]
    split_ifs <;> rfl
  case done => rw [hover 28 4 0 16 (by decide), hset 0 16 (by decide), Nat.zero_mod]
  case overrun => rw [hover 28 4 24 1 (by decide), hover 0 16 24 1 (by decide), hset 24 1 (by decide), Nat.zero_mod]
  case state =>
    rw [hset 28 4 (by decide)]
    rfl

theorem State.OnlyChains.cal {s t : State} (k : s.OnlyChains t) : t.cal = s.cal := by
  obtain ⟨⟨r, l, rfl⟩, -⟩ := k
  rfl

theorem State.OnlyChains.nearHeld {s t : State} (k : s.OnlyChains t) : t.nearHeld = s.nearHeld := by
  have hpwr : t.pwr = s.pwr := by
    obtain ⟨⟨r, l, rfl⟩, -⟩ := k
    rfl
  unfold State.nearHeld State.fld
  rw [hpwr, k.2 F.PWR_STATE_STATE.addr (by decide)]

theorem State.runStarted_onlyChains (s : State) (c : Nat) (d : DiagRun) : s.OnlyChains (s.runStarted c d) := by
  have kset (t : State) (k : s.OnlyChains t) (lo w v : Nat) : s.OnlyChains (t.setFld ⟨0x100050 + 0x1000 * c, lo, w⟩ v) :=
    k.setReg v (by decide)
  exact OnlyChains.setChain (kset _ (kset _ (kset _ (kset _ (kset _ (OnlyChains.refl s) 26 2 _) 25 1 _) 24 1 _) 0 16 _) 28 4 _) c _

/-- R691: what pauses a run is no part of it. -/
theorem State.runHeld_runStarted (s : State) (c : Nat) (d e : DiagRun) :
    (s.runStarted c d).runHeld c e = s.runHeld c e := by
  have hlane : (s.runStarted c d).lane c = s.lane c :=
    s.fld_runStarted_ne c d (f := F.LINK_STATUS_LANE c) (by simp only [F.LINK_STATUS_LANE]; omega)
  unfold State.runHeld
  rw [hlane, (s.runStarted_onlyChains c d).nearHeld, (s.runStarted_onlyChains c d).cal]

theorem State.newRun_eq (s : State) {c : Nat} (hc : c < 8) (d : DiagRun) (hm : d.moved = false) : s.newRun c d =
    if s.runHeld c d then ((s.runStarted c d).setFld (F.LINK_DIAG_STATUS_RUN_STATE c) runPaused).setDiag c d else s.runStarted c d := by
  have hdiag : ((s.runStarted c d).chain c).diag = some d := State.diag_setDiag _ hc d
  have hmoved : { d with moved := false } = d := by rw [← hm]
  have hrunning : (1 == runRunning) = true := rfl
  have hpaused : (1 == runPaused) = false := rfl
  have hpause : s.newRun c d = (s.runStarted c d).pauseRun c := by unfold State.newRun State.runStarted; rfl
  rw [hpause, State.pauseRun, hdiag]
  dsimp only
  rw [(s.status_runStarted c d).2.2.2, s.runHeld_runStarted, hmoved, hrunning, hpaused, Bool.true_and, Bool.false_and,
    if_neg Bool.false_ne_true]

/-- R691, R692: what START leaves of a run that has measured nothing. -/
theorem State.newRun_parts (s : State) {c : Nat} (hc : c < 8) (d : DiagRun) (hm : d.moved = false) :
    (s.newRun c d).fld (F.LINK_DIAG_STATUS_KIND c) = (if d.loop then 1 else 0) ∧
      (s.newRun c d).fld (F.LINK_DIAG_STATUS_DONE_CNT c) = 0 ∧ (s.newRun c d).fld (F.LINK_DIAG_STATUS_OVERRUN c) = 0 ∧
      (s.newRun c d).runState c = (if s.runHeld c d then 2 else 1) ∧ ((s.newRun c d).chain c).diag = some d := by
  obtain ⟨hkind, hdone, hover, hstate⟩ := s.status_runStarted c d
  have hapart (f : Field) (hf : f.lo + f.width ≤ 28) : (((s.runStarted c d).setFld (F.LINK_DIAG_STATUS_RUN_STATE c) runPaused).setDiag
      c d).fld f = (s.runStarted c d).fld f :=
    (State.fld_setDiag _ c d f).trans (State.fld_setFld_apart _ (F.LINK_DIAG_STATUS_RUN_STATE c) f _ (.inr (.inr hf)))
  rw [s.newRun_eq hc d hm]
  cases s.runHeld c d
  · rw [if_neg Bool.false_ne_true, if_neg Bool.false_ne_true]
    exact ⟨hkind, hdone, hover, hstate, State.diag_setDiag _ hc d⟩
  · rw [if_pos rfl, if_pos rfl, State.runState_setDiag, State.runState_setRunState]
    exact ⟨(hapart _ (by simp [F.LINK_DIAG_STATUS_KIND])).trans hkind, (hapart _ (by simp [F.LINK_DIAG_STATUS_DONE_CNT])).trans hdone,
      (hapart _ (by simp [F.LINK_DIAG_STATUS_OVERRUN])).trans hover, rfl, State.diag_setDiag _ hc d⟩

theorem State.diag_setChain (s : State) {c : Nat} (hc : c < 8) {x : ChainState} (hx : x.diag = (s.chain c).diag) :
    (s.setChain c x).regs = s.regs ∧ ((s.setChain c x).chain c).diag = (s.chain c).diag :=
  ⟨rfl, (congrArg ChainState.diag (s.chain_setChain_same hc x)).trans hx⟩

/-- A station's write leaves registers and the run. -/
theorem State.sendTo_parts (s : State) {c : Nat} (hc : c < 8) (b : List Block) :
    (s.sendTo c b).regs = s.regs ∧ ((s.sendTo c b).chain c).diag = (s.chain c).diag := by
  unfold State.sendTo
  split_ifs
  · exact s.diag_setChain hc rfl
  · exact s.diag_setChain hc rfl

end Sys2Proof.Machine
end

section
/-! PROOFS. Eye scans: START, RESULT, ABORT, a measured point, a station's packet and its time limit (R700 to R711). -/

namespace Sys2Proof.Machine

/-! ### The chains, as a command that starts sees them -/

section
variable (s : State) (c : Nat)

theorem State.chain_popCmd : s.popCmd.chain c = s.chain c := State.chain_of_chains s.popCmd_chains c

theorem State.chainState_popCmd : s.popCmd.chainState c = s.chainState c :=
  s.fld_popCmd (F.LINK_STATUS_STATE c) (by simp only [F.LINK_STATUS_STATE]; omega)

theorem State.stations_popCmd : s.popCmd.fld (F.LINK_STATUS_STATIONS c) = s.fld (F.LINK_STATUS_STATIONS c) :=
  s.fld_popCmd _ (by simp only [F.LINK_STATUS_STATIONS]; omega)

theorem State.lane_popCmd : s.popCmd.lane c = s.lane c :=
  s.fld_popCmd (F.LINK_STATUS_LANE c) (by simp only [F.LINK_STATUS_LANE]; omega)

theorem State.runState_popCmd : s.popCmd.runState c = s.runState c :=
  s.fld_popCmd (F.LINK_DIAG_STATUS_RUN_STATE c) (by simp only [F.LINK_DIAG_STATUS_RUN_STATE]; omega)

theorem State.doneCnt_popCmd : s.popCmd.fld (F.LINK_DIAG_STATUS_DONE_CNT c) = s.fld (F.LINK_DIAG_STATUS_DONE_CNT c) :=
  s.fld_popCmd _ (by simp only [F.LINK_DIAG_STATUS_DONE_CNT]; omega)

theorem State.overrun_popCmd : s.popCmd.bit (F.LINK_DIAG_STATUS_OVERRUN c) = s.bit (F.LINK_DIAG_STATUS_OVERRUN c) :=
  s.bit_popCmd _ (by simp only [F.LINK_DIAG_STATUS_OVERRUN]; omega)

theorem State.diagBase_popCmd : s.popCmd.fld (F.LINK_DIAG_BASE c) = s.fld (F.LINK_DIAG_BASE c) :=
  s.fld_popCmd _ (by simp only [F.LINK_DIAG_BASE]; omega)

theorem State.runBusy_popCmd : s.popCmd.runBusy c = s.runBusy c := by
  unfold State.runBusy
  rw [s.runState_popCmd]

theorem State.nearHeld_popCmd : s.popCmd.nearHeld = s.nearHeld := by
  unfold State.nearHeld
  rw [s.fld_popCmd F.PWR_STATE_STATE (by decide), s.popCmd_pwr]

theorem State.runHeld_popCmd (d : DiagRun) : s.popCmd.runHeld c d = s.runHeld c d := by
  unfold State.runHeld
  rw [s.lane_popCmd, s.nearHeld_popCmd, s.popCmd_cal]

theorem State.eyeSelectorOk_popCmd (sel : Nat) : s.popCmd.eyeSelectorOk c sel = s.eyeSelectorOk c sel := by
  unfold State.eyeSelectorOk
  rw [s.stations_popCmd, s.chain_popCmd]

theorem State.plateBytes_popCmd (a n : Nat) : s.popCmd.plateBytes a n = s.plateBytes a n := by
  have hwrong (w : Nat) : s.popCmd.wrongBits w = s.wrongBits w := by
    unfold State.wrongBits State.halfOn State.bankFailed
    rw [s.popCmd_plate, s.popCmd_free, s.bit_popCmd F.PLATE_CTRL_LO_READY (by decide), s.bit_popCmd F.PLATE_CTRL_HI_READY (by decide),
      s.fld_popCmd _ (by dsimp only; omega)]
  unfold State.plateBytes State.plateByte State.storedByte
  simp only [hwrong, s.popCmd_plate]

end

/-- The reply to a command that the chain's state refuses. -/
theorem finish_chainRefused (s : State) (e : CmdEntry) (c : Nat) : finish e (Res.chainRefused s.popCmd c) =
    s.popCmd.post e stStateRefused [s.popCmd.stateWord 0x03 c (s.chainState c + 16 * s.lane c)] := by
  unfold Res.chainRefused Res.refuse State.chainCode
  rw [s.chainState_popCmd, s.lane_popCmd, finish_done]

theorem startCmd_selected {s : State} {op : Nat} {e : CmdEntry} {sel : CmdEntry → Bool} (h : s.starts op e) (hsel : sel e = true)
    (run : State → CmdEntry → Res) : startCmd s sel run = finish e (run s.popCmd e) := startCmd_starts s e sel run h.1 h.2.2.2 hsel

section
variable {s : State} {e : CmdEntry}

/-! ### START (R704, R708) -/

/-- The run that EYE_SCAN_START with parameters `p` begins. -/
def State.eyeRun (s : State) (p : List Word) : DiagRun :=
  { DiagRun.fresh s with
    station := bitsOf (parBits p 0 0 16) 7 1 == 1, pos := bitsOf (parBits p 0 0 16) 8 4, sel := parBits p 0 0 16, e := (par p 1).toNat
    sp := max 1 (s.fld (F.LINK_EYE_CFG_PHASE_STEP (parUnit p))), sv := max 1 (s.fld (F.LINK_EYE_CFG_OFFSET_STEP (parUnit p)))
    n := eyePoints (max 1 (s.fld (F.LINK_EYE_CFG_PHASE_STEP (parUnit p)))) (max 1 (s.fld (F.LINK_EYE_CFG_OFFSET_STEP (parUnit p))))
    asked := bitsOf (parBits p 0 0 16) 7 1 == 1 }

/-- The scan has begun, and a station that scans has been told. -/
def State.eyeStarted (s : State) (p : List Word) : State :=
  let d := s.eyeRun p
  if d.station then (s.newRun (parUnit p) d).sendTo (parUnit p) (Machine.regWrite (16 * parUnit p + d.pos) eyeTag 0x0020
    [BitVec.ofNat 32 (0x80000000 + bitsOf d.sel 14 2 * 2 ^ 28 + bitsOf d.sel 12 2 * 2 ^ 26 + d.e * 2 ^ 20 + d.sp * 256 + d.sv)])
  else s.newRun (parUnit p) d

theorem exec_eyeScanStart (hs : s.starts 0xB0 e) (hr : s.runtime = true) (hlen : e.params.length = 2) (hunit : parUnit e.params ≤ 7)
    (hsub : parBits e.params 0 16 8 = 0) (h6 : 6 ≤ (par e.params 1).toNat) (h10 : (par e.params 1).toNat ≤ 10)
    (hsel : s.eyeSelectorOk (parUnit e.params) (parBits e.params 0 0 16) = true) :
    exec .eyeScanStart s = .next (finish e (
      if s.chainState (parUnit e.params) != chUnfurled then Res.chainRefused s.popCmd (parUnit e.params)
      else if s.runBusy (parUnit e.params) then Res.stat s.popCmd stBusy
      else .done (s.popCmd.eyeStarted e.params) stAccepted [])) := by
  change Host.Outcome.next (startCmd s _ _) = _
  rw [startCmd_selected hs (diagStart_of_starts hs (by rw [hsub]; rfl))]
  dsimp only
  rw [hlen, hsub, s.eyeSelectorOk_popCmd, hsel, decide_eq_false (Nat.not_lt.2 hunit), decide_eq_false (Nat.not_lt.2 h6),
    decide_eq_false (Nat.not_lt.2 h10), s.chainState_popCmd, s.runBusy_popCmd]
  exact congrArg (fun r => Host.Outcome.next (finish e r)) (runtimeCmd_permitted (s.runtime_popCmd.trans hr) _)

/-- R691, R704: what START leaves. -/
theorem State.eyeStarted_parts (s : State) {p : List Word} (hunit : parUnit p < 8) :
    let t := s.popCmd.eyeStarted p
    t.fld (F.LINK_DIAG_STATUS_KIND (parUnit p)) = 0 ∧ t.fld (F.LINK_DIAG_STATUS_DONE_CNT (parUnit p)) = 0 ∧
      t.fld (F.LINK_DIAG_STATUS_OVERRUN (parUnit p)) = 0 ∧
      t.runState (parUnit p) = (if s.lane (parUnit p) = 4 ∨ s.cal.measuring.isSome = true then 2 else 1) ∧
      (t.chain (parUnit p)).diag = some (s.popCmd.eyeRun p) := by
  obtain ⟨hkind, hdone, hover, hstate, hdiag⟩ := s.popCmd.newRun_parts hunit (s.popCmd.eyeRun p) rfl
  have hheld : (if s.popCmd.runHeld (parUnit p) (s.popCmd.eyeRun p) then 2 else 1) =
      if s.lane (parUnit p) = 4 ∨ s.cal.measuring.isSome = true then 2 else 1 := by
    rw [s.runHeld_popCmd]
    exact if_congr (by simp [State.runHeld, State.eyeRun, DiagRun.fresh, laneFurled]) rfl rfl
  rw [hheld] at hstate
  intro t
  have hparts : t.regs = (s.popCmd.newRun (parUnit p) (s.popCmd.eyeRun p)).regs ∧
      (t.chain (parUnit p)).diag = ((s.popCmd.newRun (parUnit p) (s.popCmd.eyeRun p)).chain (parUnit p)).diag := by
    unfold t State.eyeStarted
    dsimp only
    split_ifs
    · exact State.sendTo_parts _ hunit _
    · exact ⟨rfl, rfl⟩
  obtain ⟨hregs, hsame⟩ := hparts
  exact ⟨(State.fld_of_regs hregs _).trans hkind, (State.fld_of_regs hregs _).trans hdone, (State.fld_of_regs hregs _).trans hover,
    (State.fld_of_regs hregs _).trans hstate, hsame.trans hdiag⟩

end

end Sys2Proof.Machine
end

section
/-! PROOFS. Eye scans: RESULT, ABORT, a measured point, a station's packet and its time limit (R698 to R711, R741). -/

namespace Sys2Proof.Machine

section
variable {s : State} {e : CmdEntry}

/-! ### RESULT (R705 to R707) -/

/-- R706, R707: the payload of EYE_SCAN_RESULT on chain `c`, from record `first` on. -/
def State.eyePayload (s : State) (c first : Nat) (d : DiagRun) : List Word :=
  BitVec.ofNat 32 (s.runState c * 2 ^ 28 + s.fld (F.LINK_DIAG_STATUS_STALE c) * 2 ^ 27 + d.e * 2 ^ 16 + d.n) ::
    BitVec.ofNat 32 (d.sp * 2 ^ 24 + d.sv * 2 ^ 16 + first) ::
    (List.range (min d.n (first + 1022) - first)).map (fun i => s.eyeResult c (first + i))

theorem State.eyeResult_popCmd (s : State) (c i : Nat) : s.popCmd.eyeResult c i = s.eyeResult c i := by
  unfold State.eyeResult
  rw [s.doneCnt_popCmd, s.diagBase_popCmd, s.plateBytes_popCmd]

theorem State.eyePayload_popCmd (s : State) (c first : Nat) (d : DiagRun) : s.popCmd.eyePayload c first d = s.eyePayload c first d := by
  unfold State.eyePayload
  rw [s.runState_popCmd, s.fld_popCmd (F.LINK_DIAG_STATUS_STALE c) (by simp only [F.LINK_DIAG_STATUS_STALE]; omega)]
  simp only [s.eyeResult_popCmd]

/-- R698: RESULT of an eye scan, and what holds it back. -/
theorem exec_eyeScanResult {d : DiagRun} (hs : s.starts 0xB0 e) (hr : s.runtime = true) (hlen : e.params.length = 2)
    (hunit : parUnit e.params ≤ 7) (hsub : parBits e.params 0 16 8 = 1) (hresv : parBits e.params 0 0 7 = 0)
    (hstray : strayBits e.params 1 0x1FFF000F = false) (hd : (s.chain (parUnit e.params)).diag = some d) (hloop : d.loop = false)
    (hfirst : parBits e.params 1 16 13 < d.n) :
    exec .eyeScanResult s = .next (finish e (
      if s.runBusy (parUnit e.params) then Res.stat s.popCmd stBusy
      else if s.bit (F.LINK_DIAG_STATUS_OVERRUN (parUnit e.params)) then Res.stat s.popCmd stOverrun
      else .done (s.popCmd.readLong 18 (s.fld (F.LINK_DIAG_BASE (parUnit e.params)) + 4 * parBits e.params 1 16 13)
        (4 * (min d.n (parBits e.params 1 16 13 + 1022) - parBits e.params 1 16 13))) stOk
        (s.eyePayload (parUnit e.params) (parBits e.params 1 16 13) d))) := by
  change Host.Outcome.next (startCmd s _ _) = _
  rw [startCmd_selected hs (diagSub_of_starts hs (by rw [hsub]; rfl))]
  dsimp only
  rw [s.chain_popCmd, hd]
  simp only [hloop, Bool.false_eq_true, if_false]
  rw [hlen, hresv, hstray, decide_eq_false (Nat.not_lt.2 hunit), s.runBusy_popCmd, s.overrun_popCmd, s.diagBase_popCmd,
    decide_eq_false (Nat.not_le.2 hfirst), ← s.eyePayload_popCmd]
  exact congrArg (fun r => Host.Outcome.next (finish e r)) (runtimeCmd_permitted (s.runtime_popCmd.trans hr) _)

/-- R285: RESULT where the chain's latest run is no eye scan. -/
theorem exec_eyeScanResult_other (hs : s.starts 0xB0 e) (hr : s.runtime = true) (hlen : e.params.length = 2)
    (hunit : parUnit e.params ≤ 7) (hsub : parBits e.params 0 16 8 = 1) (hresv : parBits e.params 0 0 7 = 0)
    (hstray : strayBits e.params 1 0x1FFF000F = false)
    (hd : (s.chain (parUnit e.params)).diag = none ∨ (∃ d, (s.chain (parUnit e.params)).diag = some d ∧ d.loop = true)) :
    exec .eyeScanResult s = .next (finish e (Res.chainRefused s.popCmd (parUnit e.params))) := by
  have hfirst : parBits e.params 1 16 13 < 8192 := Nat.mod_lt _ (by decide)
  change Host.Outcome.next (startCmd s _ _) = _
  rw [startCmd_selected hs (diagSub_of_starts hs (by rw [hsub]; rfl))]
  dsimp only
  rcases hd with hd | ⟨d, hd, hloop⟩
  · rw [s.chain_popCmd, hd, hlen, hresv, hstray, decide_eq_false (Nat.not_lt.2 hunit), decide_eq_false (Nat.not_le.2 hfirst)]
    exact congrArg (fun r => Host.Outcome.next (finish e r)) (runtimeCmd_permitted (s.runtime_popCmd.trans hr) _)
  · rw [s.chain_popCmd, hd]
    simp only [hloop, if_true]
    rw [hlen, hresv, hstray, decide_eq_false (Nat.not_lt.2 hunit), decide_eq_false (Nat.not_le.2 hfirst)]
    exact congrArg (fun r => Host.Outcome.next (finish e r)) (runtimeCmd_permitted (s.runtime_popCmd.trans hr) _)

/-! ### ABORT (R694, R708) -/

theorem State.runState_abortRun (s : State) {c : Nat} (h : s.runBusy c = true) : (s.abortRun c).runState c = 4 := by
  unfold State.abortRun
  rw [if_pos h]
  exact State.runState_endRun _ c runAborted

theorem State.abortRun_idle {s : State} {c : Nat} (h : s.runBusy c = false) : s.abortRun c = s := by
  unfold State.abortRun
  rw [if_neg (by simp [h])]

/-- ABORT with no run in progress, and with one. -/
theorem abort_parts (s : State) (e : CmdEntry) (c : Nat) (out : Host.Outcome State Fault Refusal)
    (h : out = .next ((s.popCmd.abortRun c).post e stOk [])) :
    (s.runBusy c = false → out = .next (s.popCmd.post e stOk [])) ∧
      (s.runBusy c = true → ∃ t : State, out = .next (t.post e stOk []) ∧ t.runState c = 4) := by
  refine ⟨fun hidle => ?_, fun hbusy => ⟨_, h, State.runState_abortRun _ ((s.runBusy_popCmd c).trans hbusy)⟩⟩
  rw [h, State.abortRun_idle ((s.runBusy_popCmd c).trans hidle)]

theorem exec_eyeScanAbort (hs : s.starts 0xB0 e) (hr : s.runtime = true) (hlen : e.params.length = 2) (hunit : parUnit e.params ≤ 7)
    (hsub : parBits e.params 0 16 8 = 2) (hresv : parBits e.params 0 0 7 = 0) (hstray : strayBits e.params 1 0x0000000F = false) :
    exec .eyeScanAbort s = .next ((s.popCmd.abortRun (parUnit e.params)).post e stOk []) := by
  change Host.Outcome.next (startCmd s _ _) = _
  rw [startCmd_selected hs (diagSub_of_starts hs (by rw [hsub]; rfl))]
  dsimp only
  rw [hlen, hresv, hstray, decide_eq_false (Nat.not_lt.2 hunit)]
  exact congrArg (fun r => Host.Outcome.next (finish e r)) (runtimeCmd_permitted (s.runtime_popCmd.trans hr) _)

end

/-! ### A point of the host's scan (R701 to R703, R741) -/

section
variable {s : State} {c : Fin 8} {d : DiagRun}

/-- The point's record joins the run, which measures the next one. -/
def State.pointMeasured (s : State) (c n : Nat) (d : DiagRun) : State :=
  (s.setDiag c { d with moved := false }).pushRec c (eyeRecord n d.moved)

theorem exec_eyePointDone (n : Nat) (hlive : s.off = false) (hd : (s.chain c.val).diag = some d) (hloop : d.loop = false)
    (hstation : d.station = false) (hrun : s.runState c.val = 1) : exec (.eyePointDone c n) s = .next (
      if d.n ≤ (s.pointMeasured c n d).fld (F.LINK_DIAG_STATUS_DONE_CNT c) then (s.pointMeasured c n d).endRun c runDone
      else s.pointMeasured c n d) := by
  have hrunning : (s.runState c.val != runRunning) = false := by rw [hrun]; rfl
  change Host.Outcome.next (s.ifLive _) = _
  rw [s.ifLive_live _ hlive, hd]
  exact congrArg Host.Outcome.next (if_neg (by simp [hloop, hstation, hrunning]))

theorem State.pointMeasured_parts (n : Nat) (hdone : s.fld (F.LINK_DIAG_STATUS_DONE_CNT c) + 1 < 8192) :
    (s.pointMeasured c n d).runState c = s.runState c ∧
      (s.pointMeasured c n d).fld (F.LINK_DIAG_STATUS_DONE_CNT c) = s.fld (F.LINK_DIAG_STATUS_DONE_CNT c) + 1 ∧
      ((s.fld (F.LINK_DIAG_STATUS_DONE_CNT c) + 1) % 8 ≠ 0 →
        (∃ f, ((s.pointMeasured c n d).chain c).diag = some f ∧ f.recs = d.recs ++ [eyeRecord n d.moved]) ∧
          (s.pointMeasured c n d).plate = s.plate) := by
  have hd : ((s.setDiag c { d with moved := false }).chain c).diag = some { d with moved := false } := s.diag_setDiag c.isLt _
  obtain ⟨-, hstate, hcnt⟩ := State.pushRec_parts c.isLt hd (eyeRecord n d.moved)
  rw [State.fld_setDiag] at hcnt
  refine ⟨hstate, hcnt.trans (Nat.mod_eq_of_lt (by omega)), fun hmod => ?_⟩
  have heq : s.pointMeasured c n d =
      (s.setDiag c { d with moved := false }).recordTaken c { d with moved := false } (eyeRecord n d.moved) :=
    (State.pushRec_eq hd _).trans (if_neg hmod)
  rw [heq]
  exact ⟨⟨_, State.diag_setDiag _ c.isLt _, rfl⟩, rfl⟩

/-- R703, R704: a point counts; the last one ends the scan. -/
theorem State.eyePointDone_parts (n : Nat) (hlive : s.off = false) (hd : (s.chain c.val).diag = some d) (hloop : d.loop = false)
    (hstation : d.station = false) (hrun : s.runState c.val = 1) (hmax : s.fld (F.LINK_DIAG_STATUS_DONE_CNT c.val) + 1 < 8192) :
    let k := s.fld (F.LINK_DIAG_STATUS_DONE_CNT c.val) + 1
    ∃ t, exec (.eyePointDone c n) s = .next t ∧ t.fld (F.LINK_DIAG_STATUS_DONE_CNT c.val) = k ∧
      t.runState c.val = (if d.n ≤ k then 3 else 1) ∧
      (k < d.n → k % 8 ≠ 0 → ∃ f, (t.chain c.val).diag = some f ∧ f.recs = d.recs ++ [eyeRecord n d.moved] ∧
        t.plate = s.plate) := by
  intro k
  obtain ⟨hstate, hcnt, hrest⟩ := State.pointMeasured_parts (s := s) (c := c) (d := d) n hmax
  have hexec := exec_eyePointDone n hlive hd hloop hstation hrun
  rw [hcnt] at hexec
  by_cases hend : d.n ≤ k
  · refine ⟨_, hexec.trans (congrArg _ (if_pos hend)), (State.doneCnt_endRun _ c.isLt _).trans hcnt,
      (State.runState_endRun _ c _).trans (if_pos hend).symm, fun hlt => absurd hend (Nat.not_le.2 hlt)⟩
  · refine ⟨_, hexec.trans (congrArg _ (if_neg hend)), hcnt, (hstate.trans hrun).trans (if_neg hend).symm, fun _ hmod => ?_⟩
    obtain ⟨⟨f, hf, hrecs⟩, hplate⟩ := hrest hmod
    exact ⟨f, hf, hrecs, hplate⟩

/-! ### A station's packet (R709, R711) -/

theorem exec_eyePacket (pkt : List Byte) (hlive : s.off = false) (hup : s.chainState c.val = 7) :
    exec (.eyePacket c pkt) s = .next (s.packetIn c 0x06 pkt (s.eyeIn c)) := by
  have hunfurled : (s.chainState c.val != chUnfurled) = false := by rw [hup]; rfl
  change Host.Outcome.next (s.ifLive _) = _
  rw [s.ifLive_live _ hlive, hunfurled]
  rfl

/-- R709: a packet that goes on where the last one ended brings its records. -/
theorem State.eyeIn_next {p : RetPacket} (hd : (s.chain c.val).diag = some d) (hloop : d.loop = false) (hstation : d.station = true)
    (hbusy : s.runBusy c.val = true) (hsrc : d.pos = p.src % 16) (hfirst : p.bytes 0 2 = s.fld (F.LINK_DIAG_STATUS_DONE_CNT c.val))
    (hlast : p.bytes 0 2 + p.byte 2 ≤ d.n) :
    s.eyeIn c.val p =
      let t := (p.words 4 (p.byte 2)).foldl (fun (s : State) r => s.pushRec c r) (s.setDiag c { d with asked := false, last := s.ticks })
      if p.byte 3 % 2 = 1 then t.endRun c runDone else t := by
  have hlen : (p.words 4 (p.byte 2)).length = p.byte 2 := by simp [RetPacket.words]
  unfold State.eyeIn
  rw [hd]
  dsimp only
  rw [hloop, hstation, hbusy, hsrc, hfirst, bne_self_eq_false, max_self, Nat.sub_self, List.drop_zero,
    Nat.sub_eq_zero_of_le (Nat.min_le_right _ _), List.take_of_length_le (by omega)]
  rfl

theorem State.eyePacket_parts {pkt : List Byte} {p : RetPacket} (hlive : s.off = false) (hup : s.chainState c.val = 7)
    (hd : (s.chain c.val).diag = some d) (hloop : d.loop = false) (hstation : d.station = true) (hbusy : s.runBusy c.val = true)
    (hp : returnPacket pkt = some p) (htype : p.type = 6) (hsrc : p.src = 16 * c.val + d.pos) (hpos : d.pos < 16)
    (hfirst : p.bytes 0 2 = s.fld (F.LINK_DIAG_STATUS_DONE_CNT c.val)) (hlast : p.bytes 0 2 + p.byte 2 ≤ d.n) (hn : d.n ≤ 8191) :
    ∃ t, exec (.eyePacket c pkt) s = .next t ∧ t.fld (F.LINK_DIAG_STATUS_DONE_CNT c.val) = p.bytes 0 2 + p.byte 2 ∧
      t.runState c.val = (if bitsOf (p.byte 3) 0 1 = 1 then 3 else s.runState c.val) := by
  have hlen : (p.words 4 (p.byte 2)).length = p.byte 2 := by simp [RetPacket.words]
  have hdiag := s.diag_setDiag c.isLt { d with asked := false, last := s.ticks }
  obtain ⟨hstate, hcnt⟩ := State.pushRecs_parts c.isLt (p.words 4 (p.byte 2)) hdiag (by rw [State.fld_setDiag, hlen]; omega)
  rw [State.fld_setDiag, hlen, ← hfirst] at hcnt
  rw [State.runState_setDiag] at hstate
  have hin : s.packetIn c 0x06 pkt (s.eyeIn c) = s.eyeIn c p := by
    unfold State.packetIn
    rw [hp]
    exact if_pos ⟨htype, by omega⟩
  have hexec := exec_eyePacket pkt hlive hup
  rw [hin, State.eyeIn_next hd hloop hstation hbusy (by omega) hfirst hlast] at hexec
  have hbit : bitsOf (p.byte 3) 0 1 = p.byte 3 % 2 := by simp [bitsOf]
  rw [hbit]
  by_cases hend : p.byte 3 % 2 = 1
  · exact ⟨_, hexec.trans (congrArg _ (if_pos hend)), (State.doneCnt_endRun _ c.isLt _).trans hcnt,
      (State.runState_endRun _ c _).trans (if_pos hend).symm⟩
  · exact ⟨_, hexec.trans (congrArg _ (if_neg hend)), hcnt, hstate.trans (if_neg hend).symm⟩

theorem State.eyePacket_malformed {pkt : List Byte} (hlive : s.off = false) (hup : s.chainState c.val = 7)
    (hp : returnPacket pkt = none) : exec (.eyePacket c pkt) s = .next (s.setFld (F.LINK_ERR_RET_CRC c.val)
      (min (2 ^ (F.LINK_ERR_RET_CRC c.val).width - 1) (s.fld (F.LINK_ERR_RET_CRC c.val) + 1))) := by
  rw [exec_eyePacket pkt hlive hup, State.packetIn, hp]
  rfl

/-- R711: a scanning station is lost after two seconds without a packet. -/
theorem State.eyePacketTimeout_parts (hlive : s.off = false) (hd : (s.chain c.val).diag = some d) (hloop : d.loop = false)
    (hstation : d.station = true) (hrun : s.runState c.val = 1) :
    (d.last + 2000 ≤ s.ticks → ∃ t, exec (.eyePacketTimeout c) s = .next t ∧ t.runState c.val = 5) ∧
      (s.ticks < d.last + 2000 → exec (.eyePacketTimeout c) s = .next s) := by
  have hrunning : (s.runState c.val == runRunning) = true := by rw [hrun]; rfl
  have hexec : exec (.eyePacketTimeout c) s = .next (if decide (d.last + 2000 ≤ s.ticks) then s.endRun c runLost else s) := by
    change Host.Outcome.next (s.ifLive _) = _
    rw [s.ifLive_live _ hlive, hd]
    dsimp only
    rw [hloop, hstation, hrunning]
    rfl
  refine ⟨fun hdue => ⟨_, hexec.trans (congrArg _ (if_pos (decide_eq_true hdue))), State.runState_endRun _ c _⟩,
    fun hearly => hexec.trans (congrArg _ (if_neg ?_))⟩
  simpa using hearly

end

end Sys2Proof.Machine
end

section
/-! PROOFS. Loopbacks: START, RESULT, ABORT, the intervals, the bit target and the checker (R712 to R720). -/

namespace Sys2Proof.Machine

section
variable {s : State} {e : CmdEntry}

/-! ### START (R713 to R715, R718) -/

/-- The run that LOOPBACK_START with parameters `p` begins. -/
def State.loopRun (s : State) (p : List Word) : DiagRun :=
  { DiagRun.fresh s with
    loop := true, station := parBits p 0 12 4 == 2, pos := parBits p 0 8 4, sel := parBits p 0 12 4, pattern := parBits p 1 0 4
    target := parBits p 1 12 4 * 10 ^ parBits p 1 8 4 }

/-- The loopback has begun: its station has been told, or the host's own transmitter sends. -/
def State.loopStarted (s : State) (p : List Word) : State :=
  let t := s.newRun (parUnit p) (s.loopRun p)
  if parBits p 0 12 4 = 2 then t.sendTo (parUnit p)
    (Machine.regWrite (16 * parUnit p + parBits p 0 8 4) 1 0x0022 [BitVec.ofNat 32 (0x80000000 + parBits p 1 0 4)])
  else t.setChain (parUnit p) { t.chain (parUnit p) with window := false }

/-- The chain is in no state for a loopback of the kind. -/
def State.loopUnfit (s : State) (p : List Word) : Prop :=
  (parBits p 0 12 4 = 2 ∧ ¬(s.chainState (parUnit p) = chUnfurled ∧
      parBits p 0 8 4 < s.fld (F.LINK_STATUS_STATIONS (parUnit p)))) ∨
    (parBits p 0 12 4 ≠ 2 ∧ ¬(s.chainState (parUnit p) = chDark ∨ s.chainState (parUnit p) = chAbsent))

theorem exec_loopbackStart (hs : s.starts 0xB1 e) (hr : s.runtime = true) (hlen : e.params.length = 2) (hunit : parUnit e.params ≤ 7)
    (hsub : parBits e.params 0 16 8 = 0) (hfails : loopFails e.params = []) (hon : s.pdOn (laneDomain (parUnit e.params)) = true)
    (hidle : s.runBusy (parUnit e.params) = false) :
    (s.loopUnfit e.params → exec .loopbackStart s = .next (finish e (Res.chainRefused s.popCmd (parUnit e.params)))) ∧
      (¬ s.loopUnfit e.params → exec .loopbackStart s = .next ((s.popCmd.loopStarted e.params).post e stAccepted [])) := by
  have hexec : exec .loopbackStart s = .next (finish e
      (if parBits e.params 0 12 4 = 2 ∧ !(s.chainState (parUnit e.params) = chUnfurled ∧
          parBits e.params 0 8 4 < s.fld (F.LINK_STATUS_STATIONS (parUnit e.params))) then Res.chainRefused s.popCmd (parUnit e.params)
        else if parBits e.params 0 12 4 ≠ 2 ∧ !(s.chainState (parUnit e.params) = chDark ∨
          s.chainState (parUnit e.params) = chAbsent) then Res.chainRefused s.popCmd (parUnit e.params)
        else .done (s.popCmd.loopStarted e.params) stAccepted [])) := by
    change Host.Outcome.next (startCmd s _ _) = _
    rw [startCmd_selected hs (diagStart_of_starts hs (by rw [hsub]; rfl))]
    dsimp only
    rw [hlen, hfails, decide_eq_false (Nat.not_lt.2 hunit), s.chainState_popCmd, s.runBusy_popCmd, hidle, s.stations_popCmd,
      s.pdOn_popCmd _ (by simp only [F.PWR_PD_STATE, laneDomain]; omega), hon]
    exact congrArg (fun r => Host.Outcome.next (finish e r)) (runtimeCmd_permitted (s.runtime_popCmd.trans hr) _)
  unfold State.loopUnfit
  refine ⟨fun hunfit => hexec.trans ?_, fun hfit => hexec.trans ?_⟩
  · rcases hunfit with h | h
    · rw [if_pos (by rwa [Bool.not_eq_true', decide_eq_false_iff_not])]
    · rw [if_neg (fun h2 => h.1 h2.1), if_pos (by rwa [Bool.not_eq_true', decide_eq_false_iff_not])]
  · rw [not_or] at hfit
    rw [if_neg (by rw [Bool.not_eq_true', decide_eq_false_iff_not]; exact hfit.1),
      if_neg (by rw [Bool.not_eq_true', decide_eq_false_iff_not]; exact hfit.2)]
    rfl

/-- R691: whether the run of START is held from its beginning. -/
theorem State.runHeld_loopRun (s : State) (p : List Word) : s.popCmd.runHeld (parUnit p) (s.popCmd.loopRun p) =
    if parBits p 0 12 4 = 2 then s.lane (parUnit p) == laneFurled || s.lane (parUnit p) == laneSlack else s.nearHeld := by
  rw [s.runHeld_popCmd]
  simp [State.runHeld, State.loopRun, beq_iff_eq]

/-- R691, R713: what START leaves of a run that nothing holds. -/
theorem State.loopStarted_parts (s : State) {p : List Word} (hunit : parUnit p < 8)
    (hheld : s.popCmd.runHeld (parUnit p) (s.popCmd.loopRun p) = false) :
    let t := s.popCmd.loopStarted p
    t.runState (parUnit p) = 1 ∧ t.fld (F.LINK_DIAG_STATUS_KIND (parUnit p)) = 1 ∧
      (parBits p 0 12 4 ≠ 2 → (t.chain (parUnit p)).window = false) ∧ (t.chain (parUnit p)).diag = some (s.popCmd.loopRun p) := by
  obtain ⟨hkind, -, -, hstate, hdiag⟩ := s.popCmd.newRun_parts hunit (s.popCmd.loopRun p) rfl
  rw [if_neg (by simp [hheld])] at hstate
  intro t
  unfold t State.loopStarted
  dsimp only
  split_ifs with hst
  · obtain ⟨hregs, hsame⟩ := (s.popCmd.newRun (parUnit p) (s.popCmd.loopRun p)).sendTo_parts hunit
      (Machine.regWrite (16 * parUnit p + parBits p 0 8 4) 1 0x0022 [BitVec.ofNat 32 (0x80000000 + parBits p 1 0 4)])
    exact ⟨(State.fld_of_regs hregs _).trans hstate, (State.fld_of_regs hregs _).trans hkind, fun h => absurd hst h,
      hsame.trans hdiag⟩
  · have hchain (t : State) : (t.setChain (parUnit p) { t.chain (parUnit p) with window := false }).chain (parUnit p) =
        { t.chain (parUnit p) with window := false } := t.chain_setChain_same hunit _
    have hregs (t : State) (x : ChainState) : (t.setChain (parUnit p) x).regs = t.regs := rfl
    exact ⟨(State.fld_of_regs (hregs _ _) _).trans hstate, (State.fld_of_regs (hregs _ _) _).trans hkind, fun _ => by rw [hchain],
      by rw [hchain]; exact hdiag⟩

/-! ### RESULT and ABORT (R694, R720) -/

theorem exec_loopbackResult {d : DiagRun} (hs : s.starts 0xB1 e) (hr : s.runtime = true) (hlen : e.params.length = 2)
    (hunit : parUnit e.params ≤ 7) (hsub : parBits e.params 0 16 8 = 1) (hresv : parBits e.params 0 0 8 = 0)
    (hstray : strayBits e.params 1 0x0000FF0F = false) (hd : (s.chain (parUnit e.params)).diag = some d) (hloop : d.loop = true)
    (hidle : s.runBusy (parUnit e.params) = false) (hover : s.bit (F.LINK_DIAG_STATUS_OVERRUN (parUnit e.params)) = false) :
    exec .loopbackResult s = .next (s.popCmd.post e stOk
      ([s.runState (parUnit e.params) * 2 ^ 28 + s.fld (F.LINK_DIAG_STATUS_DONE_CNT (parUnit e.params)), min 0xFFFFFFFF d.errors,
        d.bits / 2 ^ 32, d.bits, min 0xFFFFFFFF d.sync].map (BitVec.ofNat 32))) := by
  change Host.Outcome.next (startCmd s _ _) = _
  rw [startCmd_selected hs (diagSub_of_starts hs (by rw [hsub]; rfl))]
  dsimp only
  rw [s.chain_popCmd, hd]
  dsimp only
  rw [hloop, hlen, hresv, hstray, decide_eq_false (Nat.not_lt.2 hunit), s.runBusy_popCmd, hidle, s.overrun_popCmd, hover,
    s.runState_popCmd, s.doneCnt_popCmd]
  exact congrArg (fun r => Host.Outcome.next (finish e r)) (runtimeCmd_permitted (s.runtime_popCmd.trans hr) _)

theorem exec_loopbackAbort (hs : s.starts 0xB1 e) (hr : s.runtime = true) (hlen : e.params.length = 2) (hunit : parUnit e.params ≤ 7)
    (hsub : parBits e.params 0 16 8 = 2) (hresv : parBits e.params 0 0 8 = 0) (hstray : strayBits e.params 1 0x0000FF0F = false) :
    exec .loopbackAbort s = .next ((s.popCmd.abortRun (parUnit e.params)).post e stOk []) := by
  change Host.Outcome.next (startCmd s _ _) = _
  rw [startCmd_selected hs (diagSub_of_starts hs (by rw [hsub]; rfl))]
  dsimp only
  rw [hlen, hresv, hstray, decide_eq_false (Nat.not_lt.2 hunit)]
  exact congrArg (fun r => Host.Outcome.next (finish e r)) (runtimeCmd_permitted (s.runtime_popCmd.trans hr) _)

end

/-! ### The host's checker (R716, R720) -/

/-- R720: one block that the checker receives. -/
def DiagRun.checked (d : DiagRun) (w : BitVec 64) : DiagRun :=
  let k := checkPattern d.pattern d.check w
  { d with errors := d.errors + k.1, bits := d.bits + 64, sync := d.sync + k.2.1, check := k.2.2 }

theorem State.checkBlocks_eq {c : Nat} (hc : c < 8) (rx : List (BitVec 64)) : ∀ {s : State} {d : DiagRun},
    (s.chain c).diag = some d → s.checkBlocks c rx = s.setDiag c (rx.foldl DiagRun.checked d) := by
  induction rx with
  | nil => exact fun hd => (State.setDiag_self hd).symm
  | cons w rx ih =>
    intro s d hd
    have hstep : s.checkBlocks c (w :: rx) = (s.setDiag c (d.checked w)).checkBlocks c rx := by
      unfold State.checkBlocks
      rw [List.foldl_cons, hd]
      rfl
    rw [hstep, ih (s.diag_setDiag hc _), s.setDiag_setDiag hc]
    rfl

/-- R719: an interval without errors leaves no record; one with errors leaves one. -/
theorem State.logInterval_none (s : State) (c i : Nat) : s.logInterval c i 0 = s := by
  unfold State.logInterval
  exact if_pos (.inl rfl)

theorem State.logInterval_parts {s : State} {c n : Nat} (hc : c < 8) (i : Nat) (hn : n ≠ 0)
    (hk : s.fld (F.LINK_DIAG_STATUS_DONE_CNT c) < 8191) :
    (s.logInterval c i n).chains = s.chains ∧
      (s.logInterval c i n).fld (F.LINK_DIAG_STATUS_DONE_CNT c) = s.fld (F.LINK_DIAG_STATUS_DONE_CNT c) + 1 := by
  unfold State.logInterval
  dsimp only
  rw [if_neg (by omega), State.doneCnt_setDoneCnt]
  exact ⟨(s.capture_parts hc _ _).1, Nat.mod_eq_of_lt (by omega)⟩

theorem State.logInterval_chains (s : State) {c : Nat} (hc : c < 8) (i n : Nat) : (s.logInterval c i n).chains = s.chains := by
  unfold State.logInterval
  dsimp only
  split_ifs
  · rfl
  · exact (s.capture_parts hc _ _).1

theorem State.loopErrors_setDiag (s : State) {c : Nat} (hc : c < 8) (d : DiagRun) : (s.setDiag c d).loopErrors c = d.errors := by
  unfold State.loopErrors
  rw [s.diag_setDiag hc]

section
variable {s : State} {c : Fin 8} {d : DiagRun} (rx : List (BitVec 64)) (err : Word)

/-- R719: the interval of a loopback whose checker is the host's. -/
theorem exec_loopbackLogInterval_host (hlive : s.off = false) (hd : (s.chain c.val).diag = some d) (hloop : d.loop = true)
    (hstation : d.station = false) (hrun : s.runState c.val = 1) :
    exec (.loopbackLogInterval c rx err) s = .next
      ((s.setDiag c { rx.foldl DiagRun.checked d with interval := d.interval + 1 }).logInterval c d.interval
        ((rx.foldl DiagRun.checked d).errors - d.errors)) := by
  have hgo : ¬ ((!d.loop || s.runState c.val != runRunning) = true) := by simp [hloop, hrun, runRunning]
  change Host.Outcome.next (s.ifLive _) = _
  rw [s.ifLive_live _ hlive, hd]
  dsimp only
  rw [if_neg hgo, if_neg (by simp [hstation]), State.checkBlocks_eq c.isLt rx hd, s.diag_setDiag c.isLt, Option.getD_some,
    s.setDiag_setDiag c.isLt, s.loopErrors_setDiag c.isLt]

/-- R719: the interval of a loopback whose checker is its station's. -/
theorem exec_loopbackLogInterval_station (hlive : s.off = false) (hd : (s.chain c.val).diag = some d) (hloop : d.loop = true)
    (hstation : d.station = true) (hrun : s.runState c.val = 1) :
    ∃ t, exec (.loopbackLogInterval c rx err) s = .next t ∧
      (t.chain c.val).diag = some { d with errors := err.toNat, interval := d.interval + 1 } := by
  have hgo : ¬ ((!d.loop || s.runState c.val != runRunning) = true) := by simp [hloop, hrun, runRunning]
  have hexec : exec (.loopbackLogInterval c rx err) s = .next
      (((s.sendTo c [regBlock (16 * c.val + d.pos) false 1 0x0023 1]).setDiag c { d with
        errors := err.toNat, interval := d.interval + 1 }).logInterval c d.interval (err.toNat - d.errors)) := by
    change Host.Outcome.next (s.ifLive _) = _
    rw [s.ifLive_live _ hlive, hd]
    dsimp only
    rw [if_neg hgo, if_pos hstation, State.diag_setDiag _ c.isLt, Option.getD_some, State.setDiag_setDiag _ c.isLt,
      State.loopErrors_setDiag _ c.isLt]
  refine ⟨_, hexec, ?_⟩
  rw [State.chain_of_chains (State.logInterval_chains _ c.isLt _ _)]
  exact State.diag_setDiag _ c.isLt _

variable (hi lo sync : Word)

/-- R718: the bit target, judged on what the host's checker has received. -/
theorem exec_loopbackTargetReached_host (hlive : s.off = false) (hd : (s.chain c.val).diag = some d) (hloop : d.loop = true)
    (hstation : d.station = false) (hrun : s.runState c.val = 1) :
    exec (.loopbackTargetReached c rx err hi lo sync) s = .next (if d.bits + 64 * rx.length < d.target then s
      else (s.setDiag c (rx.foldl DiagRun.checked d)).setFld (F.LINK_DIAG_STATUS_RUN_STATE c.val) 3) := by
  change Host.Outcome.next (s.ifLive _) = _
  rw [s.ifLive_live _ hlive, hd]
  dsimp only
  by_cases hmore : d.bits + 64 * rx.length < d.target
  · rw [if_pos hmore, if_pos (by simp [hmore, hstation])]
  · rw [if_neg hmore, if_neg (by simp [hloop, hstation, hrun, runRunning, hmore]), if_neg (by simp [hstation]),
      State.checkBlocks_eq c.isLt rx hd]
    rfl

theorem exec_loopbackTargetReached_station (hlive : s.off = false) (hd : (s.chain c.val).diag = some d) (hloop : d.loop = true)
    (hstation : d.station = true) (hrun : s.runState c.val = 1) :
    ∃ t, exec (.loopbackTargetReached c rx err hi lo sync) s = .next t ∧ t.runState c.val = 3 ∧
      (t.chain c.val).diag = some { d with
        errors := err.toNat, bits := hi.toNat * 2 ^ 32 + lo.toNat, sync := sync.toNat % 65536 } := by
  have hgo : ¬ ((!d.loop || s.runState c.val != runRunning || (!d.station && decide (d.bits + 64 * rx.length < d.target))) = true) := by
    simp [hloop, hrun, runRunning, hstation]
  have hexec : exec (.loopbackTargetReached c rx err hi lo sync) s = .next
      (((s.sendTo c (regBlock (16 * c.val + d.pos) false 1 0x0023 4 ::
        Machine.regWrite (16 * c.val + d.pos) 1 0x0022 [0])).setDiag c { d with
        errors := err.toNat, bits := hi.toNat * 2 ^ 32 + lo.toNat, sync := sync.toNat % 2 ^ 16 }).setFld
          (F.LINK_DIAG_STATUS_RUN_STATE c.val) runDone) := by
    change Host.Outcome.next (s.ifLive _) = _
    rw [s.ifLive_live _ hlive, hd]
    dsimp only
    rw [if_neg hgo, if_pos hstation]
  exact ⟨_, hexec, State.runState_setRunState _ c _, State.diag_setDiag _ c.isLt _⟩

end

/-! ### The checker's rule (R716) -/

/-- R716: a block either counts its errors, at most 16, or loses synchronisation. -/
theorem checkPattern_running (p : Nat) (g : List Bool) (w : BitVec 64) :
    checkPattern p (some g) w = (64, 1, none) ∨ ∃ n h, n ≤ 16 ∧ checkPattern p (some g) w = (n, 0, some h) := by
  unfold checkPattern
  dsimp only
  split_ifs with hlost
  · exact .inl rfl
  · exact .inr ⟨_, _, Nat.not_lt.1 hlost, rfl⟩

end Sys2Proof.Machine
end

section
/-! PROOFS. Eye scans and loopbacks, assembled (O53). -/

namespace Sys2Proof.Machine

/-- R718: the kinds of loopback are 0, 1 and 2, and what each asks of the chain. -/
theorem loopUnfit_farEnd {s : State} {p : List Word} (hkind : parBits p 0 12 4 = 2) (hup : s.chainState (parUnit p) = 7)
    (hpos : parBits p 0 8 4 < s.fld (F.LINK_STATUS_STATIONS (parUnit p))) : ¬ s.loopUnfit p := by
  rintro (⟨-, hno⟩ | ⟨hne, -⟩)
  · exact hno ⟨hup, hpos⟩
  · exact hne hkind

theorem loopUnfit_nearEnd {s : State} {p : List Word} (hkind : parBits p 0 12 4 ≠ 2)
    (hdown : s.chainState (parUnit p) = 0 ∨ s.chainState (parUnit p) = 8) : ¬ s.loopUnfit p := by
  rintro (⟨hfar, -⟩ | ⟨-, hno⟩)
  · exact hkind hfar
  · exact hno hdown

/-- Settles O53: each command runs as `exec_…` says, and a `…_parts` lemma says what its state shows of the run. -/
theorem diagnosticRuns : Obligations.DiagnosticRuns := by
  unfold Obligations.DiagnosticRuns
  refine ⟨?eyeStart, ?eyeResult, ?eyeAbort, ?point, ?packet, ?timeout, ?loopStart, ?loopResult, ?loopAbort, ?host, ?station, ?checker⟩
  case eyeStart =>
    intro s e hs hr hlen hunit hsub h6 h10 c sel hsel
    have hexec := exec_eyeScanStart hs hr hlen hunit hsub h6 h10 hsel
    refine ⟨fun hdown => ?_, fun hbusy hup => ?_, fun hidle hup => ?_⟩
    · rw [hexec, if_pos (by simpa [chUnfurled] using hdown), finish_chainRefused]
    · rw [hexec, if_neg (by simpa [chUnfurled] using hup), if_pos hbusy]
      rfl
    · rw [if_neg (by simpa [chUnfurled] using hup), if_neg (by rw [hidle]; exact Bool.false_ne_true), finish_done] at hexec
      obtain ⟨hkind, hdone, hover, hstate, hdiag⟩ := s.eyeStarted_parts (Nat.lt_succ_of_le hunit)
      exact ⟨_, hexec, hkind, hdone, hover, hstate, _, hdiag, rfl, rfl, rfl, rfl⟩
  case eyeResult =>
    intro s e hs hr hlen hunit hsub hresv hstray c first
    refine ⟨fun d hd hloop hfirst => ?_, fun hd => ?_⟩
    · have hexec := exec_eyeScanResult hs hr hlen hunit hsub hresv hstray hd hloop hfirst
      refine ⟨fun hbusy => ?_, fun hidle hover => ?_, fun hidle hover => ?_⟩
      · rw [hexec, if_pos hbusy]
        rfl
      · rw [hexec, if_neg (by rw [hidle]; exact Bool.false_ne_true), if_pos hover]
        rfl
      · rw [hexec, if_neg (by rw [hidle]; exact Bool.false_ne_true), if_neg (by rw [hover]; exact Bool.false_ne_true)]
        rfl
    · rw [exec_eyeScanResult_other hs hr hlen hunit hsub hresv hstray hd, finish_chainRefused]
  case eyeAbort =>
    intro s e hs hr hlen hunit hsub hresv hstray
    exact abort_parts s e _ _ (exec_eyeScanAbort hs hr hlen hunit hsub hresv hstray)
  case point => exact fun s c n d hlive hd hloop hstation hrun hmax => State.eyePointDone_parts n hlive hd hloop hstation hrun hmax
  case packet =>
    intro s c pkt hlive hup
    exact ⟨State.eyePacket_malformed hlive hup, fun d p hd hloop hstation hbusy hp htype hsrc hpos hfirst hlast hn =>
      State.eyePacket_parts hlive hup hd hloop hstation hbusy hp htype hsrc hpos hfirst hlast hn⟩
  case timeout => exact fun s c d hlive hd hloop hstation hrun => State.eyePacketTimeout_parts hlive hd hloop hstation hrun
  case loopStart =>
    intro s e hs hr hlen hunit hsub hfails c kind hidle hon
    obtain ⟨hrefused, hstarted⟩ := exec_loopbackStart hs hr hlen hunit hsub hfails hon hidle
    have hheld := s.runHeld_loopRun e.params
    refine ⟨fun hkind hup hpos hlane => ?_, fun hkind hdown hnear => ?_, fun hkind hdark habsent => ?_⟩
    · have hfree : (s.lane (parUnit e.params) == laneFurled || s.lane (parUnit e.params) == laneSlack) = false := by
        rw [show s.lane (parUnit e.params) = 2 from hlane]
        rfl
      obtain ⟨hstate, hk, -, -⟩ := s.loopStarted_parts (Nat.lt_succ_of_le hunit) ((hheld.trans (if_pos hkind)).trans hfree)
      exact ⟨_, hstarted (loopUnfit_farEnd hkind hup hpos), hstate, hk⟩
    · obtain ⟨hstate, hk, hwindow, hdiag⟩ := s.loopStarted_parts (Nat.lt_succ_of_le hunit) ((hheld.trans (if_neg hkind)).trans hnear)
      exact ⟨_, hstarted (loopUnfit_nearEnd hkind hdown), hstate, hk, hwindow hkind, _, hdiag, rfl, rfl, rfl, rfl, rfl⟩
    · rw [hrefused (.inr ⟨hkind, not_or.2 ⟨hdark, habsent⟩⟩), finish_chainRefused]
  case loopResult =>
    exact fun s e hs hr hlen hunit hsub hresv hstray d hd hloop hidle hover =>
      exec_loopbackResult hs hr hlen hunit hsub hresv hstray hd hloop hidle hover
  case loopAbort =>
    intro s e hs hr hlen hunit hsub hresv hstray
    exact abort_parts s e _ _ (exec_loopbackAbort hs hr hlen hunit hsub hresv hstray)
  case host =>
    intro s c d rx err hi lo sync hlive hd hloop hstation hrun f
    have hf : f = rx.foldl DiagRun.checked d := rfl
    clear_value f
    subst hf
    have hexec := exec_loopbackLogInterval_host rx err hlive hd hloop hstation hrun
    have htarget := exec_loopbackTargetReached_host rx err hi lo sync hlive hd hloop hstation hrun
    refine ⟨fun hsame => ?_, fun hmore hk => ?_, fun hend => htarget.trans (congrArg _ (if_neg (Nat.not_lt.2 hend))),
      fun hmore => htarget.trans (congrArg _ (if_pos hmore))⟩
    · have hnone : (rx.foldl DiagRun.checked d).errors - d.errors = 0 := Nat.sub_eq_zero_of_le (le_of_eq hsame)
      rw [hnone, State.logInterval_none] at hexec
      exact hexec
    · obtain ⟨hchains, hcnt⟩ := State.logInterval_parts
        (s := s.setDiag c { rx.foldl DiagRun.checked d with interval := d.interval + 1 }) c.isLt d.interval
        (Nat.sub_ne_zero_of_lt hmore) hk
      refine ⟨_, hexec, hcnt, ?_⟩
      rw [State.chain_of_chains hchains]
      exact State.diag_setDiag _ c.isLt _
  case station =>
    intro s c d rx err hi lo sync hlive hd hloop hstation hrun
    exact ⟨exec_loopbackLogInterval_station rx err hlive hd hloop hstation hrun,
      exec_loopbackTargetReached_station rx err hi lo sync hlive hd hloop hstation hrun⟩
  case checker =>
    intro p gen w k
    cases gen with
    | none => exact ⟨fun _ => ⟨rfl, rfl, rfl⟩, fun h => absurd rfl h, fun _ => ⟨Nat.zero_le _, rfl⟩⟩
    | some g =>
      have hk : k = (64, 1, none) ∨ ∃ n h, n ≤ 16 ∧ k = (n, 0, some h) := checkPattern_running p g w
      clear_value k
      rcases hk with rfl | ⟨n, h, hn, rfl⟩
      · exact ⟨fun hno => (nomatch hno), fun _ _ => ⟨rfl, rfl⟩, fun hno => absurd rfl hno⟩
      · exact ⟨fun hno => (nomatch hno), fun _ hno => (nomatch hno), fun _ => ⟨hn, rfl⟩⟩

end Sys2Proof.Machine
end

section
/-! PROOFS. What the work that goes with a domain leaves: the registers of PWR and BOOT_STATUS, the power state, the Etch store's bytes
and, unless a command waits for chains, the Command Window. The frame, the Etch store's reads, the inputs and the icons. -/

namespace Sys2Proof.Machine

/-! ### The frame -/

/-- The executing command waits for chains: for a furl, or for stations to take its blocks. -/
def Running.onChains (r : Running) : Bool :=
  match r.wait with
  | .furl _ => true
  | .station _ _ _ => true
  | _ => false

/-- A halted runtime, the bytes of the Etch store and the power state. -/
def State.powerParts (s : State) : Bool × List Host.Cell × PowerState := (s.boot.halted, s.etch.mem, s.pwr)

/-- `t` has the registers up to BOOT_STATUS and the parts of `s` and, unless a command waits for chains, its Command Window. -/
structure State.KeepsPower (s t : State) : Prop where
  rd : ∀ a ≤ 0x20000, t.rd a = s.rd a
  parts : t.powerParts = s.powerParts
  cw : (∀ r ∈ s.cw.running, r.onChains = false) → t.cw = s.cw

namespace State.KeepsPower
variable {s t u : State}

theorem refl (s : State) : s.KeepsPower s := ⟨fun _ _ => rfl, rfl, fun _ => rfl⟩

theorem trans (k : s.KeepsPower t) (l : t.KeepsPower u) : s.KeepsPower u where
  rd a ha := (l.rd a ha).trans (k.rd a ha)
  parts := l.parts.trans k.parts
  cw hs := (l.cw (by rwa [k.cw hs])).trans (k.cw hs)

theorem ite {c : Prop} [Decidable c] (k : s.KeepsPower t) (l : s.KeepsPower u) : s.KeepsPower (if c then t else u) := by
  split
  · exact k
  · exact l

/-- An update that touches no register. -/
theorem of_eq (k : s.KeepsPower t) (hregs : u.regs = t.regs) (hparts : u.powerParts = t.powerParts) (hcw : u.cw = t.cw) :
    s.KeepsPower u := k.trans ⟨fun a _ => State.rd_of_regs hregs a, hparts, fun _ => hcw⟩

theorem wr (k : s.KeepsPower t) {a : Nat} (w : Word) (ha : 0x20000 < a) : s.KeepsPower (t.wr a w) :=
  k.trans ⟨fun b hb => t.rd_wr_ne a b w (by omega), rfl, fun _ => rfl⟩

theorem setFld (k : s.KeepsPower t) {f : Field} (v : Nat) (hf : 0x20000 < f.addr) : s.KeepsPower (t.setFld f v) := k.wr _ hf

/-- A register of an array above BOOT_STATUS. -/
theorem setReg (k : s.KeepsPower t) {base o lo w : Nat} (v : Nat) (hb : 0x20000 < base) :
    s.KeepsPower (t.setFld ⟨base + o, lo, w⟩ v) := k.setFld v (Nat.lt_add_right o hb)

theorem raise (k : s.KeepsPower t) (c : Nat) : s.KeepsPower (t.raise c) :=
  k.trans (ite (refl t) ((refl t).setFld 1 (by decide : 0x20000 < 0x30004)))

theorem setInput (k : s.KeepsPower t) (i : Nat) (x : InputState) : s.KeepsPower (t.setInput i x) := k.of_eq rfl rfl rfl

theorem setHead (k : s.KeepsPower t) (h : Nat) (x : HeadState) : s.KeepsPower (t.setHead h x) := k.of_eq rfl rfl rfl

theorem setChain (k : s.KeepsPower t) (c : Nat) (x : ChainState) : s.KeepsPower (t.setChain c x) := k.of_eq rfl rfl rfl

theorem setEtch (k : s.KeepsPower t) {e : EtchState} (hmem : e.mem = t.etch.mem) : s.KeepsPower { t with etch := e } :=
  k.of_eq rfl (by simp only [State.powerParts, hmem]) rfl

theorem foldl {α : Type} {f : State → α → State} (hf : ∀ (u : State) (a : α), u.KeepsPower (f u a)) (l : List α) (t : State) :
    t.KeepsPower (l.foldl f t) := foldl_leaves refl trans hf l t

theorem fld (k : s.KeepsPower t) {f : Field} (hf : f.addr ≤ 0x20000) : t.fld f = s.fld f := by
  unfold State.fld
  rw [k.rd _ hf]

theorem pwr (k : s.KeepsPower t) : t.pwr = s.pwr := congrArg (fun p => p.2.2) k.parts

theorem mem (k : s.KeepsPower t) : t.etch.mem = s.etch.mem := congrArg (fun p => p.2.1) k.parts

theorem runtimeDead (k : s.KeepsPower t) : t.runtimeDead = s.runtimeDead := by
  have hhalted : t.boot.halted = s.boot.halted := congrArg (fun p => p.1) k.parts
  unfold State.runtimeDead State.runtime State.phase
  rw [k.fld (by decide), hhalted]

theorem of_onlyChains (k : s.OnlyChains t) : s.KeepsPower t := by
  obtain ⟨⟨r, l, rfl⟩, hr⟩ := k
  exact ⟨fun a ha => hr a (by omega), rfl, fun _ => rfl⟩

theorem of_onlyPlate (k : s.OnlyPlate t) : s.KeepsPower t := by
  obtain ⟨⟨r, p, b, rfl⟩, hr⟩ := k
  have hhigh : ∀ b ∈ requestRegs, 0x20000 < b := by decide
  exact ⟨fun a ha => hr a fun hmem => by have := hhigh a hmem; omega, rfl, fun _ => rfl⟩

end State.KeepsPower

open State (KeepsPower)

/-! ### The Etch store's reads -/

theorem State.etchTouch_keepsPower (s : State) (a n : Nat) : s.KeepsPower (s.etchTouch a n) := by
  refine KeepsPower.foldl (fun u f => ?_) _ s
  have hue : u.KeepsPower (u.satAdd F.ETCH_ECC_UE_CNT 1) := (KeepsPower.refl u).setFld _ (by decide)
  dsimp only
  split_ifs
  · exact ((KeepsPower.refl u).setFld (f := F.ETCH_ECC_CE_CNT) _ (by decide)).setFld (f := F.ETCH_STATUS_CE_STICKY) _ (by decide)
  · exact hue
  · exact ((hue.setFld (f := F.ETCH_UE_ADDR_ADDR) _ (by decide)).setFld (f := F.ETCH_STATUS_UE_STICKY) _ (by decide)).raise _

theorem State.touchSlot_keepsPower (s : State) (type k : Nat) : s.KeepsPower (s.touchSlot type k) :=
  ((State.etchTouch_keepsPower _ _ _).trans (State.etchTouch_keepsPower _ _ _)).trans (State.etchTouch_keepsPower _ _ _)

theorem State.winner_keepsPower (s : State) (type : Nat) : s.KeepsPower (s.winner type).2 := by
  unfold State.winner
  split
  · exact KeepsPower.refl s
  · exact (s.touchSlot_keepsPower type 0).trans (State.touchSlot_keepsPower _ type 1)

theorem State.noteMissing_keepsPower (s : State) (type : Nat) : s.KeepsPower (s.noteMissing type) := by
  unfold State.noteMissing
  split
  · exact KeepsPower.refl s
  · exact (((KeepsPower.refl s).setFld 1 (by decide : 0x20000 < 0x1C0010)).raise _).setEtch rfl

theorem State.chooseRecord_keepsPower (s : State) (type : Nat) : s.KeepsPower (s.chooseRecord type).2 := by
  have hw := s.winner_keepsPower type
  unfold State.chooseRecord
  generalize s.winner type = x at hw
  have kchosen (l : List (Nat × Nat)) : s.KeepsPower { x.2 with etch := { x.2.etch with chosen := l } } := hw.setEtch rfl
  dsimp only
  split_ifs
  · exact hw
  · exact (kchosen _).trans (State.noteMissing_keepsPower _ type)
  · exact kchosen _

theorem State.record_keepsPower (s : State) (type : Nat) : s.KeepsPower (s.record type).2 := by
  have hc := s.chooseRecord_keepsPower type
  unfold State.record
  split
  · next h =>
    rw [h] at hc
    exact hc
  · next h =>
    rw [h] at hc
    exact KeepsPower.ite (hc.trans (State.etchTouch_keepsPower _ _ _)) hc

/-! ### Inputs -/

theorem State.refront_keepsPower (s : State) (n : Nat) : s.KeepsPower (s.refront n) := by
  have kfront (k : Nat) : s.KeepsPower ((s.setFld (F.SURF_STATUS_FRONT n) k).setFld (F.SURF_STATUS_FRONT_VALID n) 1) :=
    ((KeepsPower.refl s).setReg k (by decide)).setReg 1 (by decide)
  have kevent (u : State) (h : Nat) : u.KeepsPower (u.headEvent h) := (KeepsPower.refl u).of_eq rfl rfl rfl
  unfold State.refront
  split
  · exact KeepsPower.refl s
  · split
    · exact (KeepsPower.refl s).setReg 0 (by decide)
    · exact KeepsPower.ite (kfront _)
        ((kfront _).trans (KeepsPower.foldl (fun u h => KeepsPower.ite (kevent u h) (KeepsPower.refl u)) _ _))

theorem State.setVid_keepsPower (s : State) (i : Nat) (vc1 : Bool) (v : VidIn) : s.KeepsPower (s.setVid i vc1 v) :=
  (KeepsPower.refl s).setInput i _

theorem State.tear_keepsPower (s : State) (i : Nat) (vc1 : Bool) : s.KeepsPower (s.tear i vc1) := by
  unfold State.tear
  extract_lets v t
  have kt : s.KeepsPower t := (((s.setVid_keepsPower i vc1 _).setReg _ (by decide)).setReg 1 (by decide)).raise _
  exact KeepsPower.ite (KeepsPower.refl s) (KeepsPower.ite (kt.setFld (f := F.BOOT_SA_STATUS_TORN_SEEN) 1 (by decide)) kt)

theorem State.cutFrame_keepsPower (s : State) (i : Nat) (vc1 : Bool) : s.KeepsPower (s.cutFrame i vc1) :=
  (KeepsPower.ite (c := ((s.input i).vid vc1).cap.isSome) (s.tear_keepsPower i vc1) (KeepsPower.refl s)).trans
    (State.setVid_keepsPower _ i vc1 _)

theorem State.cutFrames_keepsPower (s : State) (i : Nat) : s.KeepsPower (s.cutFrames i) :=
  (s.cutFrame_keepsPower i false).trans (State.cutFrame_keepsPower _ i true)

theorem State.inputDown_keepsPower (s : State) (i : Nat) : s.KeepsPower (s.inputDown i) :=
  ((s.cutFrames_keepsPower i).setInput i _).setReg _ (by decide)

theorem State.releaseTargets_keepsPower (s : State) (i : Nat) : s.KeepsPower (s.releaseTargets i) :=
  (KeepsPower.foldl (fun u _ => (KeepsPower.refl u).setReg 0 (by decide)) _ s).setInput i _

theorem State.claim_keepsPower (s : State) (i n use : Nat) : s.KeepsPower (s.claim i n use) :=
  ((KeepsPower.refl s).setReg use (by decide)).setInput i _

theorem State.startInput_keepsPower (s : State) (i : Nat) : s.KeepsPower (s.startInput i) := by
  unfold State.startInput
  extract_lets s1 a s2 s3
  have k1 : s.KeepsPower s1 := (KeepsPower.refl s).setInput i _
  have ka : s.KeepsPower a := (k1.trans (s1.claim_keepsPower i _ 2)).trans (State.refront_keepsPower _ _)
  have k2 : s.KeepsPower s2 := KeepsPower.ite
    (((k1.trans (s1.claim_keepsPower i _ 3)).setReg 0 (by decide)).setReg 1 (by decide))
    (KeepsPower.ite ((ka.trans (a.claim_keepsPower i _ 2)).trans (State.refront_keepsPower _ _)) ka)
  have k3 : s.KeepsPower s3 := KeepsPower.ite (k2.setReg 0 (by decide)) k2
  exact k3.setReg _ (by decide)

theorem State.inputUp_keepsPower (s : State) (i : Nat) : s.KeepsPower (s.inputUp i) := by
  have kr := s.releaseTargets_keepsPower i
  exact KeepsPower.ite (KeepsPower.refl s) (KeepsPower.ite (kr.trans (State.startInput_keepsPower _ i)) kr)

/-! ### Icons, tables and trims -/

theorem State.showLoaded_keepsPower (s : State) : s.KeepsPower s.showLoaded := (KeepsPower.refl s).setFld _ (by decide)

theorem State.setIcons_keepsPower (s : State) (l : Vector Icon 32) : s.KeepsPower { s with icons := l } :=
  (KeepsPower.refl s).of_eq rfl rfl rfl

theorem State.iconsRestore_keepsPower (s : State) : s.KeepsPower s.iconsRestore :=
  KeepsPower.ite (KeepsPower.refl s) ((s.setIcons_keepsPower _).trans (State.showLoaded_keepsPower _))

theorem State.iconsLost_keepsPower (s : State) : s.KeepsPower s.iconsLost :=
  (s.setIcons_keepsPower _).trans (State.showLoaded_keepsPower _)

theorem State.tablesDue_keepsPower (s : State) (h : Nat) : s.KeepsPower (s.tablesDue h) := (KeepsPower.refl s).setHead h _

theorem State.loadTrims_keepsPower (s : State) (l : List Nat) : s.KeepsPower (s.loadTrims l) :=
  KeepsPower.foldl (fun u e => (KeepsPower.refl u).of_eq (u := u.setApplied e _) rfl rfl rfl) l s

/-! ### Memories -/

theorem State.ramSelfTest_keepsPower (s : State) (n : Nat) (repair : Word) : s.KeepsPower (s.ramSelfTest n repair) := by
  unfold State.ramSelfTest
  split
  · exact KeepsPower.refl s
  · next r _ =>
    extract_lets t t' s1 s2
    have k1 : s.KeepsPower s1 := (KeepsPower.refl s).of_eq rfl rfl rfl
    have k2 : s.KeepsPower s2 := KeepsPower.ite (k1.setFld 1 (f := ⟨0x200030, 16 + r, 1⟩) (by decide : 0x20000 < 0x200030)) k1
    have k3 (c : Prop) [Decidable c] : s.KeepsPower (if c then s2.setFld ⟨0x200030, r, 1⟩ 1 else s2) :=
      KeepsPower.ite (k2.setFld 1 (by decide : 0x20000 < 0x200030)) k2
    exact KeepsPower.ite (KeepsPower.refl s) ((k3 _).setReg _ (by decide))

theorem State.clearHalf_keepsPower (s : State) (u : Bool) : s.KeepsPower { s with plate := s.plate.clearHalf u } :=
  (KeepsPower.refl s).of_eq rfl rfl rfl

theorem State.histHit_keepsPower (s : State) (u : Bool) : s.KeepsPower (s.histHit u) := (KeepsPower.refl s).of_eq rfl rfl rfl

theorem State.plateHalfFill_keepsPower (s : State) (n : Nat) : s.KeepsPower (s.plateHalfFill n) := by
  unfold State.plateHalfFill
  refine KeepsPower.ite ?_ (KeepsPower.ite ?_ (KeepsPower.refl s))
  · exact ((s.clearHalf_keepsPower false).setFld (f := F.PLATE_CTRL_LO_READY) 1 (by decide)).trans (State.histHit_keepsPower _ _)
  · exact ((s.clearHalf_keepsPower true).setFld (f := F.PLATE_CTRL_HI_READY) 1 (by decide)).trans (State.histHit_keepsPower _ _)

theorem State.loseMemory_keepsPower (s : State) (n : Nat) : s.KeepsPower (s.loseMemory n) := by
  have ktile (t : TileState) (k : Nat) : s.KeepsPower { s with tile := t, free := k } := (KeepsPower.refl s).of_eq rfl rfl rfl
  unfold State.loseMemory
  refine KeepsPower.ite ?_ (KeepsPower.ite ?_ (KeepsPower.ite (ktile _ _) (KeepsPower.ite (ktile _ _) (ktile _ _))))
  · exact ((s.clearHalf_keepsPower false).setFld (f := F.PLATE_CTRL_LO_READY) 0 (by decide)).trans (State.histHit_keepsPower _ _)
  · exact ((s.clearHalf_keepsPower true).setFld (f := F.PLATE_CTRL_HI_READY) 0 (by decide)).trans (State.histHit_keepsPower _ _)

theorem State.pbaStart_keepsPower (s : State) : s.KeepsPower s.pbaStart := by
  have kcount : s.KeepsPower ((s.setFld F.PBA_STATUS_RUNNING 1).wrapAdd F.PBA_PERIOD_COUNT 1) :=
    ((KeepsPower.refl s).setFld (f := F.PBA_STATUS_RUNNING) 1 (by decide)).setFld (f := F.PBA_PERIOD_COUNT) _ (by decide)
  exact kcount.of_eq rfl rfl rfl

end Sys2Proof.Machine
end

section
/-! PROOFS. What the work that goes with a domain leaves: chains, touch engines, copies of fences, and the Etch store's updates. -/

namespace Sys2Proof.Machine
open State (KeepsPower)

/-! ### Chains that go dark -/

theorem State.capture_keepsPower (s : State) (c a : Nat) (d : List Byte) : s.KeepsPower (s.capture c a d) := by
  obtain ⟨t, ht, hcap | hcap⟩ := s.capture_onlyPlate c a d <;> rw [hcap]
  · exact KeepsPower.of_onlyPlate ht
  · exact (KeepsPower.of_onlyPlate ht).setReg 1 (by decide)

theorem State.endRun_keepsPower (s : State) (c st : Nat) : s.KeepsPower (s.endRun c st) := by
  have kflush (d : DiagRun) (n : Nat) : s.KeepsPower (s.flushRecs c d n) :=
    KeepsPower.ite (KeepsPower.refl s) ((s.capture_keepsPower c _ _).setChain c _)
  unfold State.endRun
  refine KeepsPower.setReg ?_ st (by decide)
  split
  · exact KeepsPower.refl s
  · exact KeepsPower.ite (KeepsPower.refl s) (kflush _ _)

theorem State.loseRun_keepsPower (s : State) (c : Nat) : s.KeepsPower (s.loseRun c) :=
  KeepsPower.ite (s.endRun_keepsPower c _) (KeepsPower.refl s)

/-- A command that waits for chains is answered. -/
theorem State.finishOnChains_keepsPower {s : State} {r : Running} (hr : s.cw.running = some r) (hchains : r.onChains = true) :
    s.KeepsPower (s.finishRunning stOk []) := by
  have hregs : (s.finishRunning stOk []).regs = s.regs := by rw [State.finishRunning_eq]
  have hparts : (s.finishRunning stOk []).powerParts = s.powerParts := by
    rw [State.finishRunning_eq]
    rfl
  refine ⟨fun a _ => State.rd_of_regs hregs a, hparts, fun hoff => ?_⟩
  have hno := hoff r (Option.mem_def.2 hr)
  rw [hchains] at hno
  cases hno

theorem State.settleFurl_keepsPower (s : State) : s.KeepsPower s.settleFurl := by
  unfold State.settleFurl
  split
  · next hr => exact KeepsPower.ite (State.finishOnChains_keepsPower hr rfl) (KeepsPower.refl s)
  · exact KeepsPower.refl s

theorem State.settleBroadcast_keepsPower (s : State) : s.KeepsPower s.settleBroadcast := by
  unfold State.settleBroadcast
  split
  · next hr => exact KeepsPower.ite (State.finishOnChains_keepsPower hr rfl) (KeepsPower.refl s)
  · exact KeepsPower.refl s

theorem State.setChainState_keepsPower (s : State) (c st : Nat) : s.KeepsPower (s.setChainState c st) := by
  unfold State.setChainState
  extract_lets old x s1 s2 y s3 s4
  have k1 : s.KeepsPower s1 := (KeepsPower.refl s).setChain c _
  have k2 : s.KeepsPower s2 := ((k1.setReg st (by decide)).setReg _ (by decide)).raise _
  have k3 : s.KeepsPower s3 := KeepsPower.ite ((k2.setChain c _).setReg 0 (by decide)) k2
  have k4 : s.KeepsPower s4 := KeepsPower.ite (k3.trans (s3.loseRun_keepsPower c)) k3
  exact KeepsPower.ite k1 (KeepsPower.ite (k4.trans s4.settleBroadcast_keepsPower)
    (KeepsPower.ite ((k4.trans (KeepsPower.of_onlyChains (s4.towardGoal_onlyChains c))).trans (State.settleFurl_keepsPower _)) k4))

theorem State.darken_keepsPower (s : State) (c : Nat) : s.KeepsPower (s.darken c) :=
  ((s.setChainState_keepsPower c chDark).trans (State.loseRun_keepsPower _ c)).setChain c _

theorem State.showFurled_keepsPower (s : State) : s.KeepsPower s.showFurled :=
  KeepsPower.foldl (fun u _ => (KeepsPower.refl u).setReg _ (by decide)) _ s

/-! ### Touch engines -/

theorem State.setTouch_keepsPower (s : State) (h : Nat) (x : TouchState) : s.KeepsPower (s.setTouch h x) :=
  (KeepsPower.refl s).of_eq rfl rfl rfl

theorem State.sendTo_keepsPower (s : State) (c : Nat) (b : List Block) : s.KeepsPower (s.sendTo c b) :=
  KeepsPower.ite ((KeepsPower.refl s).setChain c _) ((KeepsPower.refl s).setChain c _)

theorem State.writeTafes_keepsPower (s : State) (h : Nat) (cfg : List Word) : s.KeepsPower (s.writeTafes h cfg) :=
  (s.setTouch_keepsPower h _).trans (KeepsPower.foldl (fun u _ => u.sendTo_keepsPower _ _) _ _)

theorem State.baseline_keepsPower (s : State) (h : Nat) (cfg : List Word) : s.KeepsPower (s.baseline h cfg).2 :=
  (s.record_keepsPower (0x5000 + h)).setReg _ (by decide)

/-- A touch engine that enters a state shows the state, its cause and its provisional nodes. -/
theorem State.touchEntry_keepsPower (s : State) (h st cause : Nat) (x : TouchState) :
    s.KeepsPower ((((s.setTouch h x).setFld (F.TOUCH_STATUS_STATE h) st).setFld (F.TOUCH_STATUS_HOLD_CAUSE h) cause).showProv h) :=
  (((s.setTouch_keepsPower h x).setReg st (by decide)).setReg cause (by decide)).setReg _ (by decide)

theorem State.enterStarting_keepsPower (s : State) (h : Nat) : s.KeepsPower (s.enterStarting h) :=
  ((s.touchEntry_keepsPower h _ _ _).trans (State.baseline_keepsPower _ _ _)).trans (State.writeTafes_keepsPower _ _ _)

theorem State.touchJudge_keepsPower (s : State) (h : Nat) : s.KeepsPower (s.touchJudge h) :=
  KeepsPower.ite
    (KeepsPower.ite
      (KeepsPower.ite (s.enterStarting_keepsPower h) (KeepsPower.ite (s.writeTafes_keepsPower h _) (KeepsPower.refl s)))
      (KeepsPower.ite ((KeepsPower.refl s).setReg _ (by decide)) (s.touchEntry_keepsPower h _ _ _)))
    (KeepsPower.refl s)

theorem State.touchJudgeAll_keepsPower (s : State) : s.KeepsPower s.touchJudgeAll :=
  KeepsPower.foldl State.touchJudge_keepsPower _ s

/-! ### Copies of fences and waiting requests -/

theorem State.setWaiting_keepsPower (s : State) (c : Nat) (l : List ReqBody) : s.KeepsPower (s.setWaiting c l) :=
  (KeepsPower.refl s).of_eq rfl rfl rfl

theorem State.dropWindow_keepsPower (s : State) : s.KeepsPower s.dropWindow := s.setWaiting_keepsPower 17 _

theorem State.settleUse_keepsPower (s : State) (n : Nat) : s.KeepsPower (s.settleUse n) :=
  KeepsPower.ite ((KeepsPower.refl s).setReg 0 (by decide)) (KeepsPower.refl s)

theorem State.endCopy_keepsPower (s : State) (f : FenceRun) : s.KeepsPower (s.endCopy f) := by
  have kfences (l : List FenceRun) : s.KeepsPower { s with fences := l } := (KeepsPower.refl s).of_eq rfl rfl rfl
  have kshow (u : State) : u.KeepsPower u.showRegions :=
    ((KeepsPower.refl u).setFld (f := F.REGION_STATUS_IN_USE) _ (by decide)).setFld (f := F.REGION_STATUS_FREE_MAX) _ (by decide)
  exact KeepsPower.ite (kfences _) (((kfences _).trans (KeepsPower.foldl State.settleUse_keepsPower _ _)).trans (kshow _))

/-! ### An update of the Etch store that ends -/

theorem State.refreshBusy_keepsPower (s : State) : s.KeepsPower s.refreshBusy := (KeepsPower.refl s).setFld _ (by decide)

theorem State.wordEnds_idle {s : State} (h : s.cw.running = none) : s.wordEnds = { s with etch := { s.etch with attempt := none } } := by
  unfold State.wordEnds
  dsimp only
  rw [h]

theorem State.dropChoice_keepsPower (s : State) (type : Nat) : s.KeepsPower (s.dropChoice type) := (KeepsPower.refl s).setEtch rfl

theorem State.baselineDone_keepsPower (s : State) (type : Nat) (ok : Bool) : s.KeepsPower (s.baselineDone type ok).2 := by
  have kput (l : Vector TouchState 4) : s.KeepsPower { s with touch := l } := (KeepsPower.refl s).of_eq rfl rfl rfl
  unfold State.baselineDone
  split_ifs
  · exact KeepsPower.refl s
  · split
    · exact KeepsPower.refl s
    · dsimp only
      split
      · exact KeepsPower.refl s
      · exact kput _
      · exact kput _

/-- No command waits for the Etch store: an update that is dropped leaves the Command Window. -/
theorem State.dropUpdate_keepsPower {s : State} (h : s.cw.running = none) : s.KeepsPower s.dropUpdate := by
  have ketch (u : State) (e : EtchState) (he : e.mem = u.etch.mem) : u.KeepsPower { u with etch := e } :=
    (KeepsPower.refl u).setEtch he
  unfold State.dropUpdate
  split
  · exact KeepsPower.refl s
  · next j t _ =>
    extract_lets mine x s0 s1
    have k0 : s.KeepsPower s0 := ketch s _ rfl
    have hends : s0.KeepsPower s0.wordEnds := by
      rw [State.wordEnds_idle (show s0.cw.running = none from h)]
      exact ketch s0 _ rfl
    have k1 : s.KeepsPower s1 := (k0.trans (KeepsPower.ite hends (KeepsPower.refl s0))).trans (State.refreshBusy_keepsPower _)
    split
    · exact (k1.trans (s1.dropChoice_keepsPower _)).trans (State.baselineDone_keepsPower _ _ false)
    · exact k1

end Sys2Proof.Machine
end

section
/-! PROOFS. A domain's register and DOMAIN_CTRL (R842, R845 to R848). -/

namespace Sys2Proof.Machine
open State (KeepsPower)

/-! ### The register of a domain -/

section
variable (s : State) (n : Nat)

/-- Two fields of a domain's register that share no bit. -/
theorem State.pdFld_setPd {lo w lo' w' : Nat} (h : lo + w ≤ lo' ∨ lo' + w' ≤ lo) (v : Nat) :
    (s.setFld ⟨0x10100 + 4 * n, lo, w⟩ v).fld ⟨0x10100 + 4 * n, lo', w'⟩ = s.fld ⟨0x10100 + 4 * n, lo', w'⟩ :=
  s.fld_setFld_apart _ _ v (.inr h)

theorem State.pdFld_setPd_same {lo w : Nat} (h : lo + w ≤ 32) (v : Nat) :
    (s.setFld ⟨0x10100 + 4 * n, lo, w⟩ v).fld ⟨0x10100 + 4 * n, lo, w⟩ = v % 2 ^ w := s.fld_setFld _ v h

theorem State.pdState_setPdState (v : Nat) : (s.setFld (F.PWR_PD_STATE n) v).pdState n = v % 16 :=
  s.pdFld_setPd_same n (lo := 28) (w := 4) (by decide) v

/-- A field of the register other than STATE. -/
theorem State.pdState_setPd {lo w : Nat} (h : lo + w ≤ 28) (v : Nat) :
    (s.setFld ⟨0x10100 + 4 * n, lo, w⟩ v).pdState n = s.pdState n :=
  s.pdFld_setPd n (.inl h) v

theorem State.pdState_setPwr (p : PowerState) : (s.setPwr p).pdState n = s.pdState n := rfl

theorem State.fld_setPwr (p : PowerState) (f : Field) : (s.setPwr p).fld f = s.fld f := rfl

theorem State.pdState_popCmd (hn : n < 32) : s.popCmd.pdState n = s.pdState n :=
  s.fld_popCmd (F.PWR_PD_STATE n) (by simp only [F.PWR_PD_STATE]; omega)

theorem State.hostOn_setPdState (v : Nat) : (s.setFld (F.PWR_PD_STATE n) v).fld (F.PWR_PD_HOST_ON n) = s.fld (F.PWR_PD_HOST_ON n) :=
  s.pdFld_setPd n (lo := 28) (w := 4) (lo' := 22) (w' := 1) (.inr (by decide)) v

theorem State.hostOn_setHostOn (v : Nat) : (s.setFld (F.PWR_PD_HOST_ON n) v).fld (F.PWR_PD_HOST_ON n) = v % 2 :=
  s.pdFld_setPd_same n (lo := 22) (w := 1) (by decide) v

theorem State.pdState_setHostOn (v : Nat) : (s.setFld (F.PWR_PD_HOST_ON n) v).pdState n = s.pdState n :=
  s.pdState_setPd n (lo := 22) (w := 1) (by decide) v

theorem State.pdState_setPending (v : Nat) : (s.setFld (F.PWR_PD_PENDING n) v).pdState n = s.pdState n :=
  s.pdState_setPd n (lo := 23) (w := 1) (by decide) v

end

/-! ### A domain that is to come up, or to go off -/

section
variable {s : State} {n : Nat}

/-- R847: what asking for a domain that is ON, OFF, DRAINING or SHUTTING does. -/
theorem State.wakeDomain_on (h : s.pdState n = 2) :
    s.wakeDomain n = s.setPwr { s.pwr with offAfter := s.pwr.offAfter.filter (· != n) } := by
  unfold State.wakeDomain
  dsimp only
  rw [h, if_neg (by decide), if_neg (by decide)]

theorem State.wakeDomain_off (h : s.pdState n = 0) :
    s.wakeDomain n = (s.setPwr { s.pwr with offAfter := s.pwr.offAfter.filter (· != n) }).setFld (F.PWR_PD_STATE n) 1 := by
  unfold State.wakeDomain
  dsimp only
  rw [h, if_neg (by decide), if_pos (by decide)]

theorem State.wakeDomain_ending (h : s.pdState n = 3 ∨ s.pdState n = 4) :
    s.wakeDomain n = (s.setPwr { s.pwr with offAfter := s.pwr.offAfter.filter (· != n) }).setFld (F.PWR_PD_PENDING n) 1 := by
  unfold State.wakeDomain
  exact if_pos h

theorem State.shutDown_on (h : s.pdState n = 2) : s.shutDown n = s.setFld (F.PWR_PD_STATE n) 3 := by
  unfold State.shutDown
  exact if_pos h

end

/-! ### DOMAIN_CTRL -/

/-- The domains that DOMAIN_CTRL names are numbered 1 to 24. -/
theorem switchable_lt {n : Nat} (h : n ∈ switchable) : n ≠ 0 ∧ n ≤ 24 := by
  have hall : ∀ k ∈ switchable, k ≠ 0 ∧ k ≤ 24 := by decide
  exact hall n h

theorem State.domainInUse_popCmd (s : State) (n : Nat) : s.popCmd.domainInUse n = s.domainInUse n := by
  have hhead (h : Nat) : s.popCmd.headState h = s.headState h :=
    s.fld_popCmd (F.HEAD_STATUS_STATE h) (by simp only [F.HEAD_STATUS_STATE]; omega)
  have htouch (h : Nat) : s.popCmd.touchState h = s.touchState h :=
    s.fld_popCmd (F.TOUCH_STATUS_STATE h) (by simp only [F.TOUCH_STATUS_STATE]; omega)
  have hbound (c h : Nat) : s.popCmd.boundTo c h = s.boundTo c h := by
    unfold State.boundTo
    rw [s.bit_popCmd (F.LINK_PWR_BOUND_NOW c) (by simp only [F.LINK_PWR_BOUND_NOW]; omega),
      s.fld_popCmd (F.LINK_PWR_HEAD_NOW c) (by simp only [F.LINK_PWR_HEAD_NOW]; omega)]
  have hscaler (l : List Nat) : s.popCmd.needsScaler l = s.needsScaler l := by
    unfold State.needsScaler
    refine congrArg (fun p => l.any p) (funext fun k => ?_)
    rw [s.bit_popCmd (F.LAYER_W0_EN k) (by simp only [F.LAYER_W0_EN]; omega),
      s.fld_popCmd (F.LAYER_W4_DST_W k) (by simp only [F.LAYER_W4_DST_W]; omega),
      s.fld_popCmd (F.LAYER_W2_SRC_W k) (by simp only [F.LAYER_W2_SRC_W]; omega),
      s.fld_popCmd (F.LAYER_W4_DST_H k) (by simp only [F.LAYER_W4_DST_H]; omega),
      s.fld_popCmd (F.LAYER_W2_SRC_H k) (by simp only [F.LAYER_W2_SRC_H]; omega)]
  have htone (h : Nat) : s.popCmd.bit (F.COMP_W2_TM_EN h) = s.bit (F.COMP_W2_TM_EN h) :=
    s.bit_popCmd _ (by simp only [F.COMP_W2_TM_EN]; omega)
  unfold State.domainInUse
  simp only [hhead, htouch, hbound, hscaler, htone]

section
variable {s : State} {e : CmdEntry}

/-- Domain PDn is kept on for the host, and comes up. -/
def State.hostWakes (s : State) (n : Nat) : State := (s.setFld (F.PWR_PD_HOST_ON n) 1).wakeDomain n

theorem exec_domainCtrl (hs : s.starts 0x21 e) (hr : s.runtime = true) (hlen : e.params.length = 1)
    (hstray : strayBits e.params 0 0xFF000001 = false) (hn : parUnit e.params ∈ switchable) :
    exec .domainCtrl s = .next (finish e (
      if parBits e.params 0 0 1 = 1 then
        if s.pdState (parUnit e.params) = 2 then Res.ok (s.popCmd.hostWakes (parUnit e.params))
        else if s.pdState (parUnit e.params) = 3 ∨ s.pdState (parUnit e.params) = 4 then
          Res.stat (s.popCmd.hostWakes (parUnit e.params)) stDeferred
        else .wait (s.popCmd.hostWakes (parUnit e.params)) (.domainOn (parUnit e.params))
      else if s.pdState (parUnit e.params) = 0 then Res.ok (s.popCmd.setFld (F.PWR_PD_HOST_ON (parUnit e.params)) 0)
      else if s.domainInUse (parUnit e.params) then Res.refuse s.popCmd 0x04 (parUnit e.params) 2
      else .wait ((s.popCmd.setFld (F.PWR_PD_HOST_ON (parUnit e.params)) 0).shutDown (parUnit e.params))
        (.domainOff (parUnit e.params)))) := by
  obtain ⟨h0, h24⟩ := switchable_lt hn
  have hunit : (parUnit e.params == 0 || decide (24 < parUnit e.params)) = false := by simp [h0, h24]
  have hnamed : switchable.contains (parUnit e.params) = true := by simpa using hn
  change Host.Outcome.next (startCmd s _ _) = _
  rw [startCmd_isOp hs]
  dsimp only
  rw [hlen, hstray, hunit, hnamed, s.pdState_popCmd _ (by omega), s.domainInUse_popCmd]
  exact congrArg (fun r => Host.Outcome.next (finish e r)) (runtimeCmd_permitted (s.runtime_popCmd.trans hr) _)

/-- R845, R847: what the register of a domain shows once the host wants it on. -/
theorem State.hostWakes_on {n : Nat} (hn : n < 32) (h : s.pdState n = 2) :
    (s.popCmd.hostWakes n).fld (F.PWR_PD_HOST_ON n) = 1 ∧ (s.popCmd.hostWakes n).pdState n = 2 := by
  have hstate : (s.popCmd.setFld (F.PWR_PD_HOST_ON n) 1).pdState n = 2 :=
    (State.pdState_setHostOn _ n 1).trans ((s.pdState_popCmd n hn).trans h)
  unfold State.hostWakes
  rw [State.wakeDomain_on hstate, State.fld_setPwr, State.pdState_setPwr]
  exact ⟨State.hostOn_setHostOn _ n 1, hstate⟩

theorem State.hostWakes_off {n : Nat} (hn : n < 32) (h : s.pdState n = 0) :
    (s.popCmd.hostWakes n).fld (F.PWR_PD_HOST_ON n) = 1 ∧ (s.popCmd.hostWakes n).pdState n = 1 ∧
      (s.popCmd.hostWakes n).plate = s.plate := by
  have hstate : (s.popCmd.setFld (F.PWR_PD_HOST_ON n) 1).pdState n = 0 :=
    (State.pdState_setHostOn _ n 1).trans ((s.pdState_popCmd n hn).trans h)
  have hplate (u : State) (f : Field) (v : Nat) (p : PowerState) : ((u.setPwr p).setFld f v).plate = u.plate := rfl
  unfold State.hostWakes
  rw [State.wakeDomain_off hstate, State.hostOn_setPdState, State.fld_setPwr, State.pdState_setPdState, hplate]
  exact ⟨State.hostOn_setHostOn _ n 1, rfl, s.popCmd_plate⟩

theorem State.hostWakes_ending {n : Nat} (hn : n < 32) (h : s.pdState n = 3 ∨ s.pdState n = 4) :
    (s.popCmd.hostWakes n).fld (F.PWR_PD_PENDING n) = 1 ∧ (s.popCmd.hostWakes n).pdState n = s.pdState n := by
  have hstate : (s.popCmd.setFld (F.PWR_PD_HOST_ON n) 1).pdState n = s.pdState n :=
    (State.pdState_setHostOn _ n 1).trans (s.pdState_popCmd n hn)
  unfold State.hostWakes
  rw [State.wakeDomain_ending (by rwa [hstate]), State.pdState_setPending, State.pdState_setPwr]
  exact ⟨State.pdFld_setPd_same _ n (lo := 23) (w := 1) (by decide) 1, hstate⟩

/-- R846: a domain that the host lets go of drains. -/
theorem State.hostDrops {n : Nat} (hn : n < 32) (h : s.pdState n = 2) :
    ((s.popCmd.setFld (F.PWR_PD_HOST_ON n) 0).shutDown n).fld (F.PWR_PD_HOST_ON n) = 0 ∧
      ((s.popCmd.setFld (F.PWR_PD_HOST_ON n) 0).shutDown n).pdState n = 3 := by
  rw [State.shutDown_on ((State.pdState_setHostOn _ n 0).trans ((s.pdState_popCmd n hn).trans h)), State.hostOn_setPdState,
    State.pdState_setPdState]
  exact ⟨State.hostOn_setHostOn _ n 0, rfl⟩

end

end Sys2Proof.Machine
end

section
/-! PROOFS. A domain comes up, and a domain switches off (R842, R843, R847 to R849). -/

namespace Sys2Proof.Machine
open State (KeepsPower)

/-! ### What its register shows -/

/-- The four ready bits are no part of STATE. -/
theorem State.pdState_setReady (s : State) (n v : Nat) : ((((s.setFld (F.PWR_PD_REG_RDY n) v).setFld (F.PWR_PD_CLK_RDY n) v).setFld
    (F.PWR_PD_MEM_RDY n) v).setFld (F.PWR_PD_LOGIC_RDY n) v).pdState n = s.pdState n := by
  have hready (u : State) (lo : Nat) (h : lo + 1 ≤ 28) : (u.setFld ⟨0x10100 + 4 * n, lo, 1⟩ v).pdState n = u.pdState n :=
    u.pdState_setPd n h v
  exact (((hready _ 24 (by decide)).trans (hready _ 25 (by decide))).trans (hready _ 26 (by decide))).trans (hready s 27 (by decide))

/-- R842: STATE and LOGIC_RDY of a domain whose register has been written through. -/
theorem State.markOn_shows (s : State) (n : Nat) : (s.markOn n).pdState n = 2 ∧ (s.markOn n).fld (F.PWR_PD_LOGIC_RDY n) = 1 :=
  ⟨(State.pdState_setReady _ n 1).trans (s.pdState_setPdState n 2), State.pdFld_setPd_same _ n (lo := 24) (w := 1) (by decide) 1⟩

theorem State.markDown_shows (s : State) (n : Nat) :
    (s.markDown n 0).pdState n = 0 ∧ (s.markDown n 0).fld (F.PWR_PD_LOGIC_RDY n) = 0 :=
  ⟨(State.pdState_setReady _ n 0).trans (s.pdState_setPdState n 0), State.pdFld_setPd_same _ n (lo := 24) (w := 1) (by decide) 0⟩

/-- `t` differs from `s` in the register of domain PDn only. -/
def State.OnlyPd (n : Nat) (s t : State) : Prop := t = { s with regs := t.regs } ∧ ∀ a, a ≠ 0x10100 + 4 * n → t.rd a = s.rd a

namespace State.OnlyPd
variable {n : Nat} {s t u : State}

theorem refl (s : State) : State.OnlyPd n s s := ⟨rfl, fun _ _ => rfl⟩

theorem set (k : State.OnlyPd n s t) (lo w v : Nat) : State.OnlyPd n s (t.setFld ⟨0x10100 + 4 * n, lo, w⟩ v) := by
  obtain ⟨h, hr⟩ := k
  refine ⟨?_, fun a ha => (t.rd_setFld_ne _ v a (Ne.symm ha)).trans (hr a ha)⟩
  have hset : t.setFld ⟨0x10100 + 4 * n, lo, w⟩ v = { t with regs := (t.setFld ⟨0x10100 + 4 * n, lo, w⟩ v).regs } := rfl
  exact hset.trans (by rw [h])

theorem parts (k : State.OnlyPd n s t) : t.powerParts = s.powerParts ∧ t.cw = s.cw ∧ t.plate = s.plate := by
  obtain ⟨h, -⟩ := k
  rw [h]
  exact ⟨rfl, rfl, rfl⟩

end State.OnlyPd

open State (OnlyPd)

theorem State.markOn_onlyPd (s : State) (n : Nat) : OnlyPd n s (s.markOn n) :=
  (((((OnlyPd.refl s).set 28 4 2).set 27 1 1).set 26 1 1).set 25 1 1).set 24 1 1

theorem State.markDown_onlyPd (s : State) (n st : Nat) : OnlyPd n s (s.markDown n st) :=
  (((((OnlyPd.refl s).set 28 4 st).set 27 1 0).set 26 1 0).set 25 1 0).set 24 1 0

/-! ### Work before and after the change of the register -/

/-- The domain's register changes from `u` to `v`, and the work around it leaves the power state: from `s` to `u`, from `v` to `t`. -/
structure State.Powers (n : Nat) (s u v t : State) : Prop where
  before : s.KeepsPower u
  change : OnlyPd n u v
  after : v.KeepsPower t

namespace State.Powers
variable {n : Nat} {s u v t : State}

theorem parts (k : State.Powers n s u v t) : t.powerParts = s.powerParts :=
  (k.after.parts.trans k.change.parts.1).trans k.before.parts

theorem cw (k : State.Powers n s u v t) (h : ∀ r ∈ s.cw.running, r.onChains = false) : t.cw = s.cw := by
  have hu := k.before.cw h
  have hv : v.cw = s.cw := k.change.parts.2.1.trans hu
  exact (k.after.cw (by rwa [hv])).trans hv

theorem runtimeDead (k : State.Powers n s u v t) (hn : n < 25) : t.runtimeDead = s.runtimeDead := by
  have hphase : t.fld F.BOOT_STATUS_PHASE = s.fld F.BOOT_STATUS_PHASE := by
    refine ((k.after.fld (by decide)).trans ?_).trans (k.before.fld (by decide))
    unfold State.fld
    rw [k.change.2 F.BOOT_STATUS_PHASE.addr (by simp only [F.BOOT_STATUS_PHASE]; omega)]
  have hhalted : t.boot.halted = s.boot.halted := congrArg (fun p => p.1) k.parts
  unfold State.runtimeDead State.runtime State.phase
  rw [hphase, hhalted]

/-- What the register of the domain shows at the end. -/
theorem shows (k : State.Powers n s u v t) (hn : n < 25) (lo w : Nat) :
    t.fld ⟨0x10100 + 4 * n, lo, w⟩ = v.fld ⟨0x10100 + 4 * n, lo, w⟩ := k.after.fld (by dsimp only; omega)

end State.Powers

open State (Powers)

theorem State.domainUp_powers (s : State) (n : Nat) (repair : Word) (h : s.pdState n ≠ 2) :
    ∃ u, Powers n s u (u.markOn n) (s.domainUp n repair) := by
  refine ⟨(s.ramSelfTest n repair).plateHalfFill n, (s.ramSelfTest_keepsPower n repair).trans (State.plateHalfFill_keepsPower _ n),
    State.markOn_onlyPd _ n, ?_⟩
  have kpower : (((s.ramSelfTest n repair).plateHalfFill n).markOn n).KeepsPower (s.powerUp n repair) := by
    unfold State.powerUp
    rw [if_neg h]
    exact KeepsPower.ite (State.pbaStart_keepsPower _) (KeepsPower.refl _)
  unfold State.domainUp
  rw [if_neg h]
  have k1 := kpower.trans (State.loadTrims_keepsPower (s.powerUp n repair) (domainTrims n))
  refine KeepsPower.ite ?inputs01 (KeepsPower.ite ?inputs23 (KeepsPower.ite ?icons (KeepsPower.ite ?tables k1)))
  case inputs01 => exact (k1.trans (State.inputUp_keepsPower _ 0)).trans (State.inputUp_keepsPower _ 1)
  case inputs23 => exact (k1.trans (State.inputUp_keepsPower _ 2)).trans (State.inputUp_keepsPower _ 3)
  case icons => exact k1.trans (State.iconsRestore_keepsPower _)
  case tables =>
    exact k1.trans (KeepsPower.foldl (fun u h => KeepsPower.ite (u.tablesDue_keepsPower h) (KeepsPower.refl u)) _ _)

theorem State.domainDown_powers (s : State) (n : Nat) (h : s.pwr.target = none) :
    ∃ u, Powers n s u (u.markDown n 0) (s.domainDown n) := by
  refine ⟨s.loseMemory n, s.loseMemory_keepsPower n, State.markDown_onlyPd _ n 0, ?_⟩
  have hretain : ((n == 4 || n == 5) && s.pwr.target.isSome) = false := by simp [h]
  unfold State.domainDown
  dsimp only
  rw [hretain, if_neg Bool.false_ne_true]
  have k1 : ((s.loseMemory n).markDown n 0).KeepsPower (s.powerDown n) := KeepsPower.refl _
  refine KeepsPower.ite ?inputs01 (KeepsPower.ite ?inputs23 (KeepsPower.ite ?icons (KeepsPower.ite ?chains k1)))
  case inputs01 => exact (k1.trans (State.inputDown_keepsPower _ 0)).trans (State.inputDown_keepsPower _ 1)
  case inputs23 => exact (k1.trans (State.inputDown_keepsPower _ 2)).trans (State.inputDown_keepsPower _ 3)
  case icons => exact k1.trans (State.iconsLost_keepsPower _)
  case chains =>
    exact (((k1.trans (State.darken_keepsPower _ _)).trans (State.darken_keepsPower _ _)).trans (State.showFurled_keepsPower _)).trans
      (State.touchJudgeAll_keepsPower _)

/-! ### The upper half of the Plate (R294, R297) -/

theorem memGet_cleared (p : PlateState) {a : Nat} (h : 0x1000000 ≤ a) : memGet (p.clearHalf true).mem a = 0 := by
  refine assocGet_absent _ _ a fun e he => ?_
  have hlow := (List.mem_filter.1 he).2
  simp only [if_true, decide_eq_true_eq] at hlow
  omega

theorem State.plate_domainUp_eight (s : State) (repair : Word) (h : s.pdState 8 ≠ 2) :
    (s.domainUp 8 repair).plate = s.plate.clearHalf true := by
  have htrims (u : State) : u.loadTrims (domainTrims 8) = u := rfl
  have hram : s.ramSelfTest 8 repair = s := rfl
  have hfill : (s.plateHalfFill 8).plate = s.plate.clearHalf true := rfl
  unfold State.domainUp State.powerUp
  rw [if_neg h, if_neg h, htrims, hram]
  exact (State.markOn_onlyPd _ 8).parts.2.2.trans hfill

theorem State.plate_domainDown_eight (s : State) : (s.domainDown 8).plate = s.plate.clearHalf true := by
  have hlose : (s.loseMemory 8).plate = s.plate.clearHalf true := rfl
  have hdown : s.domainDown 8 = (s.loseMemory 8).markDown 8 0 := rfl
  rw [hdown]
  exact (State.markDown_onlyPd _ 8 0).parts.2.2.trans hlose

/-! ### The command that waits for the domain -/

/-- R847: the command that waits for `w` is answered. -/
def State.answered (s : State) (w : Waiting) : State := if s.waitsFor w then s.finishRunning stOk [] else s

theorem State.answered_frame (s : State) (w : Waiting) : s.answered w = { s with cw := (s.answered w).cw } := by
  unfold State.answered
  split_ifs
  · exact s.finishRunning_eq stOk []
  · rfl

theorem State.answered_replies {s : State} {w : Waiting} {c : Running} (hc : s.cw.running = some c) (hw : c.wait = w)
    (hlive : s.runtimeDead = false) :
    (s.answered w).cw.running = none ∧ (s.answered w).cw.replyQ = s.cw.replyQ ++ [⟨c.cmd.tag, 0, [], none⟩] := by
  have hwaits : s.waitsFor w = true := by
    unfold State.waitsFor
    rw [hc]
    exact beq_iff_eq.2 hw
  unfold State.answered State.finishRunning
  rw [if_pos hwaits, hc]
  dsimp only
  rw [hlive]
  exact ⟨rfl, rfl⟩

theorem State.entryProgress_none {s : State} (h : s.pwr.target = none) : s.entryProgress = s := by
  have hstep : s.entryStep = s := by
    unfold State.entryStep
    rw [h]
  unfold State.entryProgress
  rw [hstep, hstep, hstep]

end Sys2Proof.Machine
end

section
/-! PROOFS. DOMAIN_POWER_UP_DONE, DOMAIN_OFF and DRAIN_TIMEOUT (R256, R842 to R849). -/

namespace Sys2Proof.Machine
open State (KeepsPower Powers)

/-! ### A domain comes up -/

/-- A command that waits for a domain does not wait for chains. -/
theorem offChains_of_wait {s : State} {c : Running} (hc : c ∈ s.cw.running) (hw : c.onChains = false) :
    ∀ r ∈ s.cw.running, r.onChains = false := by
  intro r hr
  obtain rfl : c = r := Option.mem_unique hc hr
  exact hw

theorem State.answered_parts (s : State) (w : Waiting) (f : Field) :
    (s.answered w).fld f = s.fld f ∧ (s.answered w).powerParts = s.powerParts ∧ (s.answered w).plate = s.plate := by
  rw [s.answered_frame w]
  exact ⟨rfl, rfl, rfl⟩

theorem State.runtimeDead_setFld (s : State) {f : Field} (v : Nat) (hf : f.addr ≠ 0x20000) :
    (s.setFld f v).runtimeDead = s.runtimeDead := by
  have hphase : (s.setFld f v).fld F.BOOT_STATUS_PHASE = s.fld F.BOOT_STATUS_PHASE := s.fld_setFld_apart f _ v (.inl hf)
  have hhalted : (s.setFld f v).boot = s.boot := rfl
  unfold State.runtimeDead State.runtime State.phase
  rw [hphase, hhalted]

section
variable {s : State} {n : Fin 25}

theorem exec_domainPowerUpDone (repair : Word) (hlive : s.off = false) (hstate : s.pdState n.val = 1)
    (htarget : s.pwr.target = none) (hstay : n.val ∉ s.pwr.offAfter) :
    exec (.domainPowerUpDone n repair) s = .next ((s.domainUp n repair).answered (.domainOn n.val)) := by
  obtain ⟨u, k⟩ := s.domainUp_powers n repair (by rw [hstate]; decide)
  have hpwr : ((s.domainUp n repair).answered (.domainOn n.val)).pwr = s.pwr := by
    rw [State.answered_frame]
    exact congrArg (fun p => p.2.2) k.parts
  have hoff : ((s.domainUp n repair).answered (.domainOn n.val)).pwr.offAfter.contains n.val = false := by
    rw [hpwr]
    simpa using hstay
  have hgo : ¬ ((s.pdState n.val != 1) = true) := by simp [hstate]
  change Host.Outcome.next (s.ifLive _) = _
  rw [s.ifLive_live _ hlive, if_neg hgo]
  refine congrArg Host.Outcome.next (Eq.trans ?_ (State.entryProgress_none ((congrArg PowerState.target hpwr).trans htarget)))
  exact congrArg State.entryProgress (if_neg (by rw [← State.answered, hoff]; exact Bool.false_ne_true))

theorem State.domainUp_parts (repair : Word) (hlive : s.off = false) (hdead : s.runtimeDead = false) (hstate : s.pdState n.val = 1)
    (htarget : s.pwr.target = none) (hstay : n.val ∉ s.pwr.offAfter) :
    ∃ t, exec (.domainPowerUpDone n repair) s = .next t ∧ t.pdState n.val = 2 ∧ t.fld (F.PWR_PD_LOGIC_RDY n.val) = 1 ∧
      (∀ c ∈ s.cw.running, c.wait = .domainOn n.val → t.cw.running = none ∧
        t.cw.replyQ = s.cw.replyQ ++ [⟨c.cmd.tag, 0, [], none⟩]) ∧
      (n.val = 8 → ∀ a, 0x1000000 ≤ a → memGet t.plate.mem a = 0) ∧ t.etch.mem = s.etch.mem := by
  have hdown : s.pdState n.val ≠ 2 := by rw [hstate]; decide
  obtain ⟨u, k⟩ := s.domainUp_powers n repair hdown
  have hpart (f : Field) := (s.domainUp n repair).answered_parts (.domainOn n.val) f
  refine ⟨_, exec_domainPowerUpDone repair hlive hstate htarget hstay, ?state, ?ready, fun c hc hw => ?reply,
    fun h8 a ha => ?zeros, ?store⟩
  case state => exact ((hpart _).1.trans (k.shows n.isLt 28 4)).trans (u.markOn_shows n).1
  case ready => exact ((hpart _).1.trans (k.shows n.isLt 24 1)).trans (u.markOn_shows n).2
  case reply =>
    have hcw := k.cw (offChains_of_wait hc (by rw [Running.onChains, hw]))
    obtain ⟨hrun, hq⟩ := State.answered_replies (s := s.domainUp n repair) (by rw [hcw]; exact Option.mem_def.1 hc) hw
      ((k.runtimeDead n.isLt).trans hdead)
    exact ⟨hrun, by rw [hq, hcw]⟩
  case zeros =>
    rw [(hpart F.BOOT_STATUS_PHASE).2.2, h8, s.plate_domainUp_eight repair (h8 ▸ hdown)]
    exact memGet_cleared _ ha
  case store => exact congrArg (fun p => p.2.1) ((hpart F.BOOT_STATUS_PHASE).2.1.trans k.parts)

/-! ### A domain switches off -/

theorem exec_domainOff (hlive : s.off = false) (hstate : s.pdState n.val = 3 ∨ s.pdState n.val = 4) (htarget : s.pwr.target = none)
    (hpend : s.bit (F.PWR_PD_PENDING n.val) = false) :
    exec (.domainOff n) s = .next (((s.domainDown n).setFld (F.PWR_PD_PENDING n) 0).answered (.domainOff n.val)) := by
  obtain ⟨u, k⟩ := s.domainDown_powers n htarget
  have hpwr : (((s.domainDown n).setFld (F.PWR_PD_PENDING n) 0).answered (.domainOff n.val)).pwr = s.pwr := by
    rw [State.answered_frame]
    exact congrArg (fun p => p.2.2) k.parts
  have hgo : ¬ ((s.pdState n.val != 3 && s.pdState n.val != 4) = true) := by
    rcases hstate with h | h <;> simp [h]
  change Host.Outcome.next (s.ifLive _) = _
  rw [s.ifLive_live _ hlive, if_neg hgo]
  dsimp only
  rw [hpend, if_neg Bool.false_ne_true]
  exact congrArg Host.Outcome.next (State.entryProgress_none ((congrArg PowerState.target hpwr).trans htarget))

theorem State.domainDown_parts (hlive : s.off = false) (hdead : s.runtimeDead = false)
    (hstate : s.pdState n.val = 3 ∨ s.pdState n.val = 4) (htarget : s.pwr.target = none)
    (hpend : s.bit (F.PWR_PD_PENDING n.val) = false) :
    ∃ t, exec (.domainOff n) s = .next t ∧ t.pdState n.val = 0 ∧ t.fld (F.PWR_PD_LOGIC_RDY n.val) = 0 ∧
      (∀ c ∈ s.cw.running, c.wait = .domainOff n.val → t.cw.running = none ∧
        t.cw.replyQ = s.cw.replyQ ++ [⟨c.cmd.tag, 0, [], none⟩]) ∧
      (n.val = 8 → ∀ a, 0x1000000 ≤ a → memGet t.plate.mem a = 0) ∧ t.etch.mem = s.etch.mem := by
  obtain ⟨u, k⟩ := s.domainDown_powers n htarget
  have hset (v : State) : (v.setFld (F.PWR_PD_PENDING n) 0).cw = v.cw ∧ (v.setFld (F.PWR_PD_PENDING n) 0).plate = v.plate ∧
      (v.setFld (F.PWR_PD_PENDING n) 0).powerParts = v.powerParts := ⟨rfl, rfl, rfl⟩
  have hpart (f : Field) := ((s.domainDown n).setFld (F.PWR_PD_PENDING n) 0).answered_parts (.domainOff n.val) f
  refine ⟨_, exec_domainOff hlive hstate htarget hpend, ?state, ?ready, fun c hc hw => ?reply, fun h8 a ha => ?zeros, ?store⟩
  case state =>
    exact (((hpart _).1.trans (State.pdState_setPending _ n 0)).trans (k.shows n.isLt 28 4)).trans (u.markDown_shows n).1
  case ready =>
    have happart := (s.domainDown n).pdFld_setPd n (lo := 23) (w := 1) (lo' := 24) (w' := 1) (.inl (by decide)) 0
    exact (((hpart _).1.trans happart).trans (k.shows n.isLt 24 1)).trans (u.markDown_shows n).2
  case reply =>
    have hcw := (hset _).1.trans (k.cw (offChains_of_wait hc (by rw [Running.onChains, hw])))
    obtain ⟨hrun, hq⟩ := State.answered_replies (s := (s.domainDown n).setFld (F.PWR_PD_PENDING n) 0)
      (by rw [hcw]; exact Option.mem_def.1 hc) hw
      ((State.runtimeDead_setFld _ 0 (by simp only [F.PWR_PD_PENDING]; omega)).trans ((k.runtimeDead n.isLt).trans hdead))
    exact ⟨hrun, by rw [hq, hcw]⟩
  case zeros =>
    rw [(hpart F.BOOT_STATUS_PHASE).2.2, (hset _).2.1, h8, s.plate_domainDown_eight]
    exact memGet_cleared _ ha
  case store => exact congrArg (fun p => p.2.1) (((hpart F.BOOT_STATUS_PHASE).2.1.trans (hset _).2.2).trans k.parts)

end

end Sys2Proof.Machine
end

section
/-! PROOFS. DRAIN_TIMEOUT: what is cut, and the command that ends with it (R256, R843, R844). -/

namespace Sys2Proof.Machine
open State (KeepsPower)

/-! ### Copies of fences (R844) -/

theorem State.cutCopies_cases (s : State) (n : Nat) :
    s.cutCopies n = s ∨ ∃ u, s.KeepsPower u ∧ s.cutCopies n = u.satAdd F.PWR_DRAIN_LOST_CNT 1 := by
  unfold State.cutCopies
  split
  · split
    · split
      · exact .inr ⟨_, (s.setWaiting_keepsPower 17 _).trans (State.endCopy_keepsPower _ _), rfl⟩
      · exact .inl rfl
    · exact .inl rfl
  · exact .inl rfl

theorem State.cutCopies_none {s : State} {n : Nat} (h : ∀ num l, s.waitingOf 17 ≠ .copy num :: l) : s.cutCopies n = s := by
  unfold State.cutCopies
  split
  · next num l hw => exact absurd hw (h num l)
  · rfl

theorem State.cutCopies_copy {s : State} {n num : Nat} {l : List ReqBody} {f : FenceRun} {k : List CopyOp}
    (hw : s.waitingOf 17 = .copy num :: l) (hf : s.fences.find? (fun f => f.num == num) = some f) (hk : f.copy = some k)
    (hin : ∃ o ∈ k, plateDomain (reqAddr o.req) = n) :
    s.cutCopies n = ((s.setWaiting 17 l).endCopy f).satAdd F.PWR_DRAIN_LOST_CNT 1 := by
  have hany : (f.copy.getD []).any (fun k => plateDomain (reqAddr k.req) == n) = true := by
    rw [hk]
    simpa using hin
  unfold State.cutCopies
  rw [hw]
  dsimp only
  rw [hf]
  exact if_pos hany

/-- What a cut of copies leaves of the power state, the domain and the executing command. -/
theorem State.cutCopies_parts (s : State) {n : Nat} (hn : n < 25) :
    (s.cutCopies n).pdState n = s.pdState n ∧ (s.cutCopies n).runtimeDead = s.runtimeDead ∧
      ((∀ r ∈ s.cw.running, r.onChains = false) → (s.cutCopies n).cw = s.cw) := by
  rcases s.cutCopies_cases n with h | ⟨u, k, h⟩ <;> rw [h]
  · exact ⟨rfl, rfl, fun _ => rfl⟩
  · have hstate : (u.satAdd F.PWR_DRAIN_LOST_CNT 1).pdState n = u.pdState n :=
      u.fld_setFld_apart F.PWR_DRAIN_LOST_CNT (F.PWR_PD_STATE n) _ (.inl (by simp only [F.PWR_DRAIN_LOST_CNT, F.PWR_PD_STATE]; omega))
    exact ⟨hstate.trans (k.fld (by simp only [F.PWR_PD_STATE]; omega)),
      (u.runtimeDead_setFld _ (by decide)).trans k.runtimeDead, k.cw⟩

/-! ### The executing command (R256) -/

theorem State.cutCommand_regs (s : State) : s.cutCommand.regs = s.regs := by
  have hdrop (c : Prop) [Decidable c] (d : Prop) [Decidable d] (t u v : State) (ht : t.regs = s.regs) (hu : u.regs = s.regs)
      (hv : v.regs = s.regs) : (if c then t else if d then u else v).regs = s.regs := by
    split_ifs <;> assumption
  unfold State.cutCommand
  split
  · exact hdrop _ _ _ _ _ rfl rfl rfl
  · exact hdrop _ _ _ _ _ rfl rfl rfl
  · rfl

theorem State.cutCommand_cw {s : State} (h : s.etchRunning = true) : s.cutCommand.cw = { s.cw with running := none } := by
  have hdrop (c : Prop) [Decidable c] (d : Prop) [Decidable d] (t u v : State) (ht : t.cw = { s.cw with running := none })
      (hu : u.cw = { s.cw with running := none }) (hv : v.cw = { s.cw with running := none }) :
      (if c then t else if d then u else v).cw = { s.cw with running := none } := by
    split_ifs <;> assumption
  unfold State.cutCommand
  split
  · exact hdrop _ _ _ _ _ rfl rfl rfl
  · exact hdrop _ _ _ _ _ rfl rfl rfl
  · next hrecord hwindow =>
    unfold State.etchRunning at h
    split at h
    · next he => exact absurd he (hrecord _ _)
    · next he => exact absurd he (hwindow _)
    · cases h

/-- The state of the Etch store once its command has been cut. -/
def State.etchCut (s : State) : State :=
  if s.cutCommand.pwr.cut && !s.pwr.cut then (s.cutCommand.setPwr { s.cutCommand.pwr with cut := false }).dropUpdate else s.cutCommand

theorem State.etchCut_parts {s : State} (h : s.etchRunning = true) :
    (∀ a ≤ 0x20000, s.etchCut.rd a = s.rd a) ∧ s.etchCut.cw = { s.cw with running := none } := by
  have hcw := State.cutCommand_cw h
  have hidle : (s.cutCommand.setPwr { s.cutCommand.pwr with cut := false }).cw.running = none :=
    (congrArg CwState.running hcw : s.cutCommand.cw.running = none)
  have k := State.dropUpdate_keepsPower hidle
  unfold State.etchCut
  split_ifs
  · refine ⟨fun a ha => (k.rd a ha).trans (State.rd_of_regs s.cutCommand_regs a), (k.cw fun r hr => ?_).trans hcw⟩
    rw [hidle] at hr
    cases hr
  · exact ⟨fun a _ => State.rd_of_regs s.cutCommand_regs a, hcw⟩

theorem State.drainCut_none {s : State} {n : Nat} (hetch : n = 9 → s.etchRunning = false ∧ s.etchReading = false)
    (hwindow : s.windowIn n = false) : s.drainCut n = s := by
  have hfalse : (decide (n = 9) && s.etchRunning) = false ∧ (decide (n = 9) && s.etchReading) = false := by
    by_cases h9 : n = 9
    · obtain ⟨h1, h2⟩ := hetch h9
      simp [h1, h2]
    · simp [h9]
  unfold State.drainCut
  split
  · rfl
  · rw [hfalse.1, hwindow, hfalse.2]
    rfl

theorem State.drainCut_etch {s : State} {r : Running} (hr : s.cw.running = some r) (h : s.etchRunning = true) :
    s.drainCut 9 = s.etchCut.post r.cmd stDomainLost [] := by
  unfold State.drainCut
  rw [hr]
  dsimp only
  rw [h]
  rfl

/-- A command that waits for Plate words, or for a read of the Etch store, writes no Etch words and waits for no chains. -/
theorem Running.apart_of_drain {s : State} {n : Nat} {r : Running} (hr : s.cw.running = some r)
    (h : s.windowIn n = true ∨ (n = 9 ∧ s.etchReading = true)) : s.etchRunning = false ∧ r.onChains = false := by
  unfold State.windowIn State.etchReading at h
  unfold State.etchRunning Running.onChains
  rw [hr] at h ⊢
  obtain ⟨e, w⟩ := r
  cases w <;> simp at h ⊢

theorem State.drainCut_window {s : State} {n : Nat} {r : Running} (hr : s.cw.running = some r)
    (h : s.windowIn n = true ∨ (n = 9 ∧ s.etchReading = true)) : s.drainCut n = s.dropWindow.finishRunning stDomainLost [] := by
  have hyes : (s.windowIn n || (decide (n = 9) && s.etchReading)) = true := by
    rcases h with h | ⟨h9, h⟩ <;> simp [*]
  unfold State.drainCut
  rw [hr]
  dsimp only
  rw [(Running.apart_of_drain hr h).1, Bool.and_false, if_neg Bool.false_ne_true, if_pos hyes]

/-- Whatever the drain cuts, the registers up to BOOT_STATUS stay. -/
theorem State.rd_drainCut (s : State) (n : Nat) {a : Nat} (ha : a ≤ 0x20000) : (s.drainCut n).rd a = s.rd a := by
  by_cases hetch : n = 9 ∧ s.etchRunning = true
  · obtain ⟨rfl, h⟩ := hetch
    cases hr : s.cw.running with
    | none =>
      unfold State.drainCut
      rw [hr]
    | some r =>
      rw [State.drainCut_etch hr h]
      exact (State.etchCut_parts h).1 a ha
  · have hno : (decide (n = 9) && s.etchRunning) = false := by simpa using hetch
    have hfinish : (s.dropWindow.finishRunning stDomainLost []).rd a = s.rd a := by
      rw [State.finishRunning_eq]
      exact s.dropWindow_keepsPower.rd a ha
    unfold State.drainCut
    split
    · rfl
    · rw [hno, if_neg Bool.false_ne_true]
      split
      · exact hfinish
      · rfl

/-! ### The event -/

section
variable {s : State} {n : Fin 25} {lost : Nat}

/-- R843, R844: the domain is SHUTTING, and the device's own transfers are counted. -/
def State.drainCounted (s : State) (n lost : Nat) : State := (s.setFld (F.PWR_PD_STATE n) 4).satAdd F.PWR_DRAIN_LOST_CNT lost

theorem exec_drainTimeout (hlive : s.off = false) (h : s.pdState n.val = 3) :
    exec (.drainTimeout n lost) s = .next (((s.drainCounted n lost).cutCopies n).drainCut n) := by
  change Host.Outcome.next (s.ifLive _) = _
  rw [s.ifLive_live _ hlive, if_pos h]
  rfl

theorem exec_drainTimeout_late (hlive : s.off = false) (h : s.pdState n.val ≠ 3) : exec (.drainTimeout n lost) s = .next s := by
  change Host.Outcome.next (s.ifLive _) = _
  rw [s.ifLive_live _ hlive, if_neg h]

theorem State.drainCounted_frame (s : State) (n lost : Nat) :
    s.drainCounted n lost = { s with regs := (s.drainCounted n lost).regs } := rfl

theorem State.lost_setPdState (s : State) (v : Nat) :
    (s.setFld (F.PWR_PD_STATE n) v).fld F.PWR_DRAIN_LOST_CNT = s.fld F.PWR_DRAIN_LOST_CNT :=
  s.fld_setFld_apart (F.PWR_PD_STATE n) F.PWR_DRAIN_LOST_CNT v (.inl (by simp only [F.PWR_DRAIN_LOST_CNT, F.PWR_PD_STATE]; omega))

/-- A counter that adds stops at its greatest value. -/
theorem State.lost_satAdd (s : State) (k : Nat) :
    (s.satAdd F.PWR_DRAIN_LOST_CNT k).fld F.PWR_DRAIN_LOST_CNT = min 65535 (s.fld F.PWR_DRAIN_LOST_CNT + k) :=
  (s.fld_setFld F.PWR_DRAIN_LOST_CNT _ (by decide)).trans (Nat.mod_eq_of_lt (Nat.lt_succ_of_le (Nat.min_le_left _ _)))

theorem State.pdState_drainCounted (s : State) : (s.drainCounted n lost).pdState n = 4 := by
  unfold State.drainCounted State.satAdd
  have happart (u : State) (v : Nat) : (u.setFld F.PWR_DRAIN_LOST_CNT v).pdState n = u.pdState n :=
    u.fld_setFld_apart F.PWR_DRAIN_LOST_CNT (F.PWR_PD_STATE n) v (.inl (by simp only [F.PWR_DRAIN_LOST_CNT, F.PWR_PD_STATE]; omega))
  rw [happart, State.pdState_setPdState]

theorem State.lost_drainCounted (s : State) :
    (s.drainCounted n lost).fld F.PWR_DRAIN_LOST_CNT = min 65535 (s.fld F.PWR_DRAIN_LOST_CNT + lost) :=
  (State.lost_satAdd _ lost).trans (by rw [State.lost_setPdState])

/-- R843: a drain that cuts no transfer of the host. -/
theorem exec_drainTimeout_quiet (hlive : s.off = false) (h : s.pdState n.val = 3)
    (hetch : n.val = 9 → s.etchRunning = false ∧ s.etchReading = false) (hwindow : s.windowIn n.val = false)
    (hcopy : ∀ num l, s.waitingOf 17 ≠ .copy num :: l) :
    exec (.drainTimeout n lost) s = .next ((s.setFld (F.PWR_PD_STATE n.val) 4).setFld F.PWR_DRAIN_LOST_CNT
      (min (2 ^ F.PWR_DRAIN_LOST_CNT.width - 1) (s.fld F.PWR_DRAIN_LOST_CNT + lost))) := by
  have hcounted : s.drainCounted n lost = (s.setFld (F.PWR_PD_STATE n.val) 4).setFld F.PWR_DRAIN_LOST_CNT
      (min (2 ^ F.PWR_DRAIN_LOST_CNT.width - 1) (s.fld F.PWR_DRAIN_LOST_CNT + lost)) := by
    rw [State.drainCounted, State.satAdd, State.lost_setPdState]
  have hparts : (∀ num l, (s.drainCounted n lost).waitingOf 17 ≠ .copy num :: l) ∧
      (n.val = 9 → (s.drainCounted n lost).etchRunning = false ∧ (s.drainCounted n lost).etchReading = false) ∧
      (s.drainCounted n lost).windowIn n.val = false := by
    rw [s.drainCounted_frame n lost]
    exact ⟨hcopy, hetch, hwindow⟩
  obtain ⟨hc, he, hw⟩ := hparts
  rw [exec_drainTimeout hlive h, State.cutCopies_none hc, State.drainCut_none he hw, hcounted]

/-- R844: a region copy of the domain is cut and counted. -/
theorem State.drainTimeout_copy {num : Nat} {l : List ReqBody} {f : FenceRun} {k : List CopyOp} (hlive : s.off = false)
    (h : s.pdState n.val = 3) (hw : s.waitingOf 17 = .copy num :: l) (hf : s.fences.find? (fun f => f.num == num) = some f)
    (hk : f.copy = some k) (hin : ∃ o ∈ k, plateDomain (reqAddr o.req) = n.val) :
    ∃ t, exec (.drainTimeout n lost) s = .next t ∧ t.pdState n.val = 4 ∧ t.fld F.PWR_DRAIN_LOST_CNT =
      min (2 ^ F.PWR_DRAIN_LOST_CNT.width - 1) (s.fld F.PWR_DRAIN_LOST_CNT + lost + 1) := by
  have hcut : (s.drainCounted n lost).cutCopies n =
      (((s.drainCounted n lost).setWaiting 17 l).endCopy f).satAdd F.PWR_DRAIN_LOST_CNT 1 := by
    refine State.cutCopies_copy (num := num) ?_ ?_ hk hin
    · rw [s.drainCounted_frame n lost]
      exact hw
    · rw [s.drainCounted_frame n lost]
      exact hf
  have kcopy := ((s.drainCounted n lost).setWaiting_keepsPower 17 l).trans (State.endCopy_keepsPower _ f)
  have hfld (u : State) (g : Field) (hg : g.addr ≤ 0x20000) : (u.drainCut n).fld g = u.fld g :=
    congrArg (getBits · g.lo g.width) (u.rd_drainCut n hg)
  refine ⟨_, exec_drainTimeout hlive h, ?_, ?_⟩
  · exact (hfld _ (F.PWR_PD_STATE n) (by simp only [F.PWR_PD_STATE]; omega)).trans
      ((State.cutCopies_parts _ n.isLt).1.trans s.pdState_drainCounted)
  · rw [hfld _ _ (by decide), hcut, State.lost_satAdd, kcopy.fld (by decide), s.lost_drainCounted]
    change min 65535 (min 65535 (s.fld F.PWR_DRAIN_LOST_CNT + lost) + 1) = min 65535 (s.fld F.PWR_DRAIN_LOST_CNT + lost + 1)
    omega

/-- What the executing command sees of the drain before its own part is cut. -/
theorem State.drained_parts (s : State) {r : Running} (hr : s.cw.running = some r) (hoff : r.onChains = false) :
    ((s.drainCounted n lost).cutCopies n).cw = s.cw ∧ ((s.drainCounted n lost).cutCopies n).pdState n = 4 ∧
      ((s.drainCounted n lost).cutCopies n).runtimeDead = s.runtimeDead := by
  obtain ⟨hstate, hdead, hcw⟩ := (s.drainCounted n lost).cutCopies_parts n.isLt
  have hcounted : (s.drainCounted n lost).cw = s.cw := by rw [s.drainCounted_frame n lost]
  refine ⟨(hcw fun q hq => ?_).trans hcounted, hstate.trans s.pdState_drainCounted, hdead.trans ?_⟩
  · rw [hcounted] at hq
    exact offChains_of_wait (Option.mem_def.2 hr) hoff q hq
  · exact (State.runtimeDead_setFld _ _ (by decide)).trans
      (s.runtimeDead_setFld (f := F.PWR_PD_STATE n) 4 (by simp only [F.PWR_PD_STATE]; omega))

/-- R256, R278: a command that waits for the domain's Plate words, or for a read of the Etch store, is answered DOMAIN_LOST. -/
theorem State.drainTimeout_window {r : Running} (hlive : s.off = false) (hdead : s.runtimeDead = false) (h : s.pdState n.val = 3)
    (hr : s.cw.running = some r) (hin : s.windowIn n.val = true ∨ (n.val = 9 ∧ s.etchReading = true)) :
    ∃ t, exec (.drainTimeout n lost) s = .next t ∧ t.pdState n.val = 4 ∧ t.cw.running = none ∧
      t.cw.replyQ = s.cw.replyQ ++ [⟨r.cmd.tag, 0x0A, [], none⟩] := by
  obtain ⟨hcw, hstate, hruntime⟩ := s.drained_parts (n := n) (lost := lost) hr (Running.apart_of_drain hr hin).2
  have hexec := exec_drainTimeout (n := n) (lost := lost) hlive h
  generalize (s.drainCounted n lost).cutCopies n = u at hexec hcw hstate hruntime
  have hru : u.cw.running = some r := by rw [hcw, hr]
  have hinu : u.windowIn n.val = true ∨ (n.val = 9 ∧ u.etchReading = true) := by
    unfold State.windowIn State.etchReading at hin ⊢
    rwa [hcw]
  have hdrop : u.dropWindow.cw = u.cw := rfl
  have hlost : u.dropWindow.finishRunning stDomainLost [] =
      { u.dropWindow with cw := { u.dropWindow.cw with running := none } }.post r.cmd stDomainLost [] := by
    unfold State.finishRunning
    rw [hdrop, hru]
    dsimp only
    rw [u.dropWindow_keepsPower.runtimeDead, hruntime, hdead, if_neg Bool.false_ne_true]
  rw [State.drainCut_window hru hinu, hlost] at hexec
  exact ⟨_, hexec, hstate, rfl, by rw [← hcw]; rfl⟩

/-- R256: a command whose Etch words are under way is answered DOMAIN_LOST when PD09 has drained. -/
theorem State.drainTimeout_etch {r : Running} (hlive : s.off = false) (h : s.pdState 9 = 3) (hr : s.cw.running = some r)
    (hin : s.etchRunning = true) :
    ∃ t, exec (.drainTimeout 9 lost) s = .next t ∧ t.pdState 9 = 4 ∧ t.cw.running = none ∧
      t.cw.replyQ = s.cw.replyQ ++ [⟨r.cmd.tag, 0x0A, [], none⟩] := by
  have hoff : r.onChains = false := by
    unfold State.etchRunning at hin
    unfold Running.onChains
    rw [hr] at hin
    obtain ⟨e, w⟩ := r
    cases w <;> simp at hin ⊢
  obtain ⟨hcw, hstate, -⟩ := s.drained_parts (n := 9) (lost := lost) hr hoff
  have hexec := exec_drainTimeout (n := 9) (lost := lost) hlive h
  generalize (s.drainCounted (9 : Fin 25) lost).cutCopies (9 : Fin 25) = u at hexec hcw hstate
  have hinu : u.etchRunning = true := by
    unfold State.etchRunning at hin ⊢
    rwa [hcw]
  obtain ⟨hrd, hcut⟩ := State.etchCut_parts hinu
  have hdrain : u.drainCut (9 : Fin 25) = u.etchCut.post r.cmd stDomainLost [] := State.drainCut_etch (by rw [hcw, hr]) hinu
  rw [hdrain] at hexec
  refine ⟨_, hexec, (congrArg (getBits · 28 4) (hrd (F.PWR_PD_STATE 9).addr (by decide))).trans hstate, ?_, ?_⟩
  · exact congrArg CwState.running hcut
  · rw [← hcw]
    exact congrArg (fun c => c.replyQ ++ [⟨r.cmd.tag, 0x0A, [], none⟩]) hcut

end

end Sys2Proof.Machine
end

section
/-! PROOFS. Domains, assembled (O59). -/

namespace Sys2Proof.Machine

/-- Settles O59: `exec_…` says how each event runs; the frame `KeepsPower` says that what comes with it leaves the power state. -/
theorem domains : Obligations.Domains := by
  unfold Obligations.Domains
  refine ⟨fun s e hs hr hlen hstray hn => ?ctrl, ?up, fun s n lost hlive => ⟨?quiet, ?copy, ?late⟩, ?window, ?etch, ?off⟩
  case ctrl =>
    have hexec := exec_domainCtrl hs hr hlen hstray hn
    have h32 : parUnit e.params < 32 := by
      have := (switchable_lt hn).2
      omega
    refine ⟨fun hon h => ?_, fun hon h => ?_, fun hon h => ?_, fun hoff h => ?_, fun hoff h huse => ?_, fun hoff h huse => ?_⟩
    · rw [if_pos hon, if_pos h] at hexec
      exact ⟨_, hexec, State.hostWakes_on h32 h⟩
    · rw [if_pos hon, if_neg (by omega), if_neg (by omega)] at hexec
      obtain ⟨hhost, hstate, hplate⟩ := State.hostWakes_off h32 h
      exact ⟨_, hexec, rfl, hhost, hstate, congrArg PlateState.mem hplate⟩
    · rw [if_pos hon, if_neg (by omega), if_pos h] at hexec
      exact ⟨_, hexec, State.hostWakes_ending h32 h⟩
    · rw [hexec, if_neg (by omega), if_pos h]
      rfl
    · rw [hexec, if_neg (by omega), if_neg (by omega), if_pos huse]
      rfl
    · rw [if_neg (by omega), if_neg (by omega), if_neg (by rw [huse]; exact Bool.false_ne_true)] at hexec
      exact ⟨_, hexec, rfl, State.hostDrops h32 h⟩
  case up => exact fun s n repair hlive hdead hstate htarget hstay => State.domainUp_parts repair hlive hdead hstate htarget hstay
  case quiet => exact fun h hetch hwindow hcopy => exec_drainTimeout_quiet hlive h hetch hwindow hcopy
  case copy => exact fun num l f k h hw hf hk hin => State.drainTimeout_copy hlive h hw hf hk hin
  case late => exact exec_drainTimeout_late hlive
  case window => exact fun s n r lost hlive hdead h hr hin => State.drainTimeout_window hlive hdead h hr hin
  case etch => exact fun s r lost hlive h hr hin => State.drainTimeout_etch hlive h hr hin
  case off => exact fun s n hlive hdead hstate htarget hpend => State.domainDown_parts hlive hdead hstate htarget hpend

end Sys2Proof.Machine
end
